-- ==== Sys2Proof/Word.lean ====
section
/-! DEFINITION. The word types of the model. -/
namespace Sys2Proof

/-- A byte of requester memory, slot memory, a message or a table row. -/
abbrev Byte := BitVec 8

/-- A 32-bit register (R46). -/
abbrev W32 := BitVec 32

/-- A 64-bit register pair or word (R46). -/
abbrev W64 := BitVec 64

end Sys2Proof
end

