-- ==== Sys2Proof/Types.lean ====
section
/-! DEFINITION. The names shared by the commands and the state: modes, domains, functions, statuses. -/
namespace Sys2Proof

/-- Operating modes with the codes of the mode table (spec/01_architecture.md). -/
inductive Mode where
  | backup | reset | boot | maint | compat | active | idle | patrol | degraded | fenced | readonly | flush
deriving DecidableEq, Repr

/-- Domains of a register access (R57). -/
inductive Domain where
  | secure | host | vf | glaze | tenant
deriving DecidableEq, Repr

/-- Who makes a register access: the domain, its number (VF, port or core) and whether it comes through the I3C
management window (R57, R41). -/
structure Requester where
  dom : Domain
  num : Nat := 0
  i3c : Bool := false
deriving DecidableEq, Repr

/-- The space of a function that an access names: its register view (BAR0), its MSI-X table (BAR4) or configuration space (R77 to R81, R373). -/
inductive Space where
  | view | table | config
deriving DecidableEq, Repr

/-- Where an access goes: a space and an offset in it. -/
structure SpaceAddr where
  space : Space
  off : Nat
deriving DecidableEq, Repr

/-- A word that a page stands for: the page's instance, and the word's address (R56). -/
structure PageWord where
  inst : Nat
  addr : Nat
deriving DecidableEq, Repr

/-- Who asks for an L0p width (R96): the root port, naming it, or the device at a traffic in Mb/s averaged over 100 µs. -/
inductive L0pAsk where
  | root (width : Nat)
  | own (traffic : Nat)
deriving DecidableEq, Repr

/-- A trained link's Flit mode, and how many FLITs its PHY has corrected and replayed since the last training (R76, R97). -/
structure FlitLink where
  flit : Bool
  fec : Nat
  replays : Nat
deriving DecidableEq, Repr

/-- How the erase of a superblock ends (R167, R319): the members whose block failed, and the dies of the two header pages. -/
structure EraseEnd where
  bad : List Nat
  a : Nat
  b : Nat
deriving DecidableEq, Repr

/-- PCIe functions: the PF, VF n and the function of tenant port n (R74, R371). -/
inductive Fn where
  | pf
  | vf (n : Nat)
  | tp (n : Nat)
deriving DecidableEq, Repr

/-- Main rails with an internal monitor (R607). -/
inductive Rail where
  | core | nand | io18
deriving DecidableEq, Repr

/-- PGOOD inputs (R607). -/
inductive Pgood where
  | core | sram | sds | nand | io
deriving DecidableEq, Repr

/-- Wake sources with the causes of R598. -/
inductive WakeCause where
  | doorbell | tenant | filush | work | i3c | condition | patrolTimer | finding | power
deriving DecidableEq, Repr

/-- DMA read completion errors (R79, R137). -/
inductive DmaError where
  | unsupported | abort | poisoned | timeout
deriving DecidableEq, Repr

/-- A descriptor list entry as fetched (R117): ADDR, LEN and FLAGS. -/
structure Desc where
  addr : Nat
  len : Nat
  flags : Nat
deriving DecidableEq, Repr

/-- A cipher job (R449): requester (0 to 3 QE, 4 SEC), slot, mode (0 XTS, 1 CTR, 2 GCM), block encryptions, low word of
the initial counter block, whether it encrypts. -/
structure CipherJob where
  req : Nat
  slot : Nat
  mode : Nat
  blocks : Nat
  ctr : Nat
  enc : Bool
deriving DecidableEq, Repr

/-- A list entry (R211), field by field as its 16 bytes hold them: OP, FLAGS, DIE_PL, RETRY, ROW, CW_MASK, BUF, ARG. -/
structure Entry where
  op : Nat
  flags : Nat
  diePl : Nat
  retry : Nat
  row : Nat
  cwMask : Nat
  buf : Nat
  arg : Nat
deriving DecidableEq, Repr

/-- The Puevo record of a parameter page (R202); `valid` says that its signature and CHECK are right. -/
structure Puevo where
  valid : Bool
  ver : Nat
  maxRate : Nat
  flags : Nat
  suspMax : Nat
  trainRd : Nat
  trainWr : Nat
  trainRb : Nat
  extFeature : Nat
  pslcFeature : Nat
  tSus : Nat
  tR : Nat
  tProgSlc : Nat
  tProgQlc : Nat
  tBers : Nat
deriving DecidableEq, Repr

/-- What a chip enable answers in discovery (R201): its number, the signature that READ ID gives at the ONFI address, the ID of its dies, and
the copies of its parameter page. -/
structure CeFound where
  ce : Nat
  sig : List Byte
  ident : List Byte
  copies : List (List Byte)
deriving DecidableEq, Repr

/-- What discovery reads from a package, by chip enable. -/
abbrev PkgFound : Type := List CeFound

/-- How a training ends (R207, PHY_STS): the narrowest eye at each rate tried in turn, in taps, `none` where no tap of some bit passes; bit,
direction and die of the narrowest eye; read delays by die and write delays as TRAIN_RD and TRAIN_WR show them; reading of the channel's
thermal zone, in 1/8 °C. -/
structure Trained where
  eyes : List (Option Nat)
  bit : Nat
  write : Bool
  die : Nat
  rd : List (Nat × Nat)
  wr : Nat
  temp : Nat
deriving DecidableEq, Repr

/-- How one decode ends (R243, R675): accepted with corrected bits, CHECK wrong, identity wrong, no zero syndrome with its
unsatisfied checks, or the codeword reads as erased. -/
inductive Decoded where
  | ok (bits : Nat)
  | miscorrect
  | misdirect
  | fail (unsat : Nat)
  | erased
deriving DecidableEq, Repr

/-- How the parity of a log row ends (R271): programmed, a read-back unit undecodable, or the parity program of a member fails. -/
inductive Parity where
  | ok
  | undecodable
  | programFail (member : Nat)
deriving DecidableEq, Repr

/-- What clears digest contexts (R485): a bus error, or an uncorrectable read of context `n` or of cache entry `n`. -/
inductive DigClear where
  | bus
  | ctx (n : Nat)
  | cache (n : Nat)
deriving DecidableEq, Repr

/-- Header of a Filush message as it arrives (R415): link, SRC, FLAGS, HOPS, EPOCH, SEQ. -/
structure MsgHdr where
  link : Nat
  src : Nat
  flags : Nat
  hops : Nat
  epoch : Nat
  seq : Nat
deriving DecidableEq, Repr

/-- An AUTH_HELLO as it arrives (R409, R417): its header, and the Mordant version of its sender. -/
structure AuthAsk where
  hdr : MsgHdr
  ver : Nat
deriving DecidableEq, Repr

/-- Identity that HELLO carries (R407, R417). -/
structure HelloId where
  serial : Nat
  fabId : Nat
  x : Nat
  y : Nat
  z : Nat
  topo : Nat
  dimX : Nat
  dimY : Nat
  dimZ : Nat
  link : Nat
  head : Bool
  proto : Nat
  mordantVer : Nat
deriving DecidableEq, Repr

/-- A fabric stripe record as JNL_MIRROR carries it (R426). -/
structure StripeRec where
  ty : Nat
  flags : Nat
  volume : Nat
  stripe : Nat
  first : Nat
  countM1 : Nat
  owner : Nat
  buddy : Nat
  pending : Nat
  wseq : Nat
  jseq : Nat
deriving DecidableEq, Repr

/-- A word that a scrub pass finds not clean (R254): its SRAM address, the bits in error beside what the model knows of, and what an uncorrectable
word's action needs. -/
structure ScrubHit where
  addr : Nat
  upset : Nat
  unit : Nat
  idx : Nat
  again : Bool
deriving DecidableEq, Repr

/-- Content of one sector as it crosses the host or tenant port: 4,096 data bytes and its PI field. -/
structure SectorIn where
  data : List Byte
  guard : Nat := 0
  app : Nat := 0
  ref : Nat := 0
deriving DecidableEq, Repr

end Sys2Proof
end

