-- ==== Sys2Proof/Syntax.lean ====
section
/-! DEFINITION. The commands and events of spec/opcode_table.json: one constructor per row, with operands for what the
row leaves to the sender or to the outside world (an address, a value, what arrives, what a die or a check answers). -/
namespace Sys2Proof

/-- One command or event per row of spec/opcode_table.json (the rule each docstring names is the row's). -/
inductive Instr where
  /-- MAIN_RAILS_RISING (R27): Main rails rise and the device moves from BACKUP to RESET; a cold DEVICE reset is applied and PCC counts. -/
  | mainRailsRising
  /-- BOOT_ENTRY (R511): Once RST_N, every PGOOD, PFAIL_N and PLL lock all hold, the device leaves RESET, samples the straps, and the boot ROM begins
  secure boot. -/
  | bootEntry (headSel testN : Bool)
  /-- MORDANT_VERIFIED (R511): The boot ROM finishes checking a Mordant bank and runs it, or falls back to the other bank or to RECOVERY. -/
  | mordantVerified (resA resB : Nat)
  /-- GLAZE_RELEASE (R511): Mordant verifies a Glaze bank and releases SV0 to SV31. -/
  | glazeRelease (resA resB : Nat)
  /-- REPLAY_COMPLETE (R27): Replay ends and BOOT takes the first matching transition to MAINT, COMPAT, a condition mode or ACTIVE. -/
  | replayComplete (scanLost : List Nat)
  /-- PFAIL_FALL (R302): A PFAIL_N fall is taken by the three-sample filter and the device enters FLUSH. -/
  | pfailFall
  /-- PGOOD_FALL (R302): A PGOOD fall is taken and the device enters FLUSH with no hold-up guarantee. -/
  | pgoodFall (input : Pgood)
  /-- RST_N_ASSERT (R27): RST_N is taken low and the device enters FLUSH when data is pending, or RESET otherwise. -/
  | rstNAssert
  /-- PERST_N_ASSERT (R30): PERST_N is taken low and acts as a device reset on a standalone device or on the head; other members ignore it. -/
  | perstNAssert
  /-- PERST_N_RISE (R616): PERST_N rises, and the host port presents termination and then answers configuration requests. -/
  | perstNRise
  /-- RAIL_MONITOR_TRIP (R304): An internal rail monitor trips and the device goes to BACKUP, which cuts any flush short. -/
  | railMonitorTrip (rail : Rail)
  /-- VBAT_RISE (R586): The backup supply rises from below its minimum, which resets the CAL fields, clears VALID and sets VBAT_LOST. -/
  | vbatRise
  /-- OSC_STOP (R586): The calendar oscillator shows no edge for 2 ms, which clears VALID and sets OSC_STOP. -/
  | oscStop
  /-- PLL_UNLOCK (R613): The root PLL loses lock, the derived clocks stop, the PLL relocks and a C3 event is taken. -/
  | pllUnlock
  /-- REF_LOST (R613): REFCLK shows no edge for 1 µs, the PLL relocks to the internal oscillator, the links go down and a C3 event is taken. -/
  | refLost
  /-- PLL_RELOCKED (R613): The root PLL regains lock, and a pending flush then starts. -/
  | pllRelocked
  /-- FLUSH (R312): On FLUSH entry the PLP sequencer stops admission, drains the merge buffers, builds the plan and programs head, journal and cache
  pages to the flush dies. -/
  | flush
  /-- FLUSH_DIE_QUIET (R312): A flush die becomes quiet and the sequencer starts programming its planned pages. -/
  | flushDieQuiet (rank : Nat)
  /-- FLUSH_PROGRAM_DONE (R312): A flush page program ends, and the die's next planned page is programmed. -/
  | flushProgramDone (rank : Nat)
  /-- FLUSH_COMPLETE (R303): The last flush program ends, CE_N is held high and WP_N low, and the device enters RESET while the rails are present. -/
  | flushComplete
  /-- SHUTDOWN (R35): A write of DEV.MODE_CTL.SHUTDOWN stops fetching, completes the commands in flight and starts the destage toward a clean shutdown. -/
  | shutdown (req : Requester)
  /-- SHUTDOWN_COMPLETE (R35): The destage ends, the clean-shutdown marker generation is written and SHUT_DONE is set. -/
  | shutdownComplete
  /-- MAINT_REQ (R34): A write of MAINT_REQ requests MAINT, now or at the next restart. -/
  | maintReq (req : Requester)
  /-- MAINT_ENTRY (R27): After MAINT_REQ, once the work in flight completes and the cache is destaged, the device enters MAINT. -/
  | maintEntry
  /-- RESTART (R34): A write of RESTART after SHUT_DONE, or in MAINT, takes the device to RESET. -/
  | restart (req : Requester)
  /-- IDLE_TIMER_EXPIRY (R594): The idle timer reaches IDLE_US and the device asks Glaze to quiesce. -/
  | idleTimerExpiry
  /-- QUIESCE_ACK (R594): Glaze acknowledges the quiesce, the clocks are gated and the mode becomes IDLE. -/
  | quiesceAck
  /-- QUIESCE_LATE (R594): No quiesce acknowledgement comes within 100 µs, so the IDLE entry is abandoned and the timer restarts. -/
  | quiesceLate
  /-- WAKE (R598): A wake source in IDLE or PATROL returns the device to ACTIVE and records the cause. -/
  | wake (cause : WakeCause)
  /-- WORK_TIMER_EXPIRY (R597): The work timer armed at IDLE entry expires and wakes the device for due background work. -/
  | workTimerExpiry
  /-- PATROL_TIMER_EXPIRY (R599): ENTRY_S elapses in IDLE, the device wakes, tests the patrol entry conditions and runs the PATROL entry steps. -/
  | patrolTimerExpiry
  /-- PATROL_ENTRY_COMPLETE (R599): The last domain is down and DEV.MODE.CUR reads PATROL. -/
  | patrolEntryComplete
  /-- PATROL_WAKE (R602): Every PERIOD_MS the patrol sequencer brings up islands, reads PER_WAKE sentinels and takes the islands down. -/
  | patrolWake (results : List (Option Nat))
  /-- DOMAIN_STAGE_TIMEOUT (R593): A power-domain stage has not set its ready signal by four times its Max, so the domain is FAULTED under C2 or C3. -/
  | domainStageTimeout (dom : Nat)
  /-- DOMAIN_STAGE_READY (R593): A power-domain stage sets its ready signal and the next stage starts. -/
  | domainStageReady (dom : Nat)
  /-- EN_SET (R63): A write of PAGE_CTL.EN = 1 starts a page from a clean state, or records EN_PENDING when the page is draining or faulted. -/
  | enSet (req : Requester) (ty inst : Nat)
  /-- EN_CLEAR (R63): A write of PAGE_CTL.EN = 0 stops new work, stops DMA, discards the work in flight and drains the page. -/
  | enClear (req : Requester) (ty inst : Nat)
  /-- DRAIN (R63): A write of PAGE_CTL.DRAIN starts a graceful drain of a SERVING page. -/
  | drain (req : Requester) (ty inst : Nat)
  /-- SRST (R63): A soft reset of a page reloads its reset values, after a drain when the page has one, or at once when it has none (R672). -/
  | srst (req : Requester) (ty inst : Nat)
  /-- LOCK (R60): A write of PAGE_CTL.LOCK freezes offsets 0x040 and above against non-secure writes. -/
  | lock (req : Requester) (ty inst : Nat)
  /-- STARTUP_COMPLETE (R63): A STARTING page completes its start-up and enters SERVING. -/
  | startupComplete (ty inst : Nat)
  /-- DRAIN_COMPLETE (R63): A drain completes and the page goes to OFF, or to STARTING when EN_PENDING is set. -/
  | drainComplete (ty inst : Nat)
  /-- OWNER_WRITE (R58): A write to a page's OWNER register, accepted only from the secure domain. -/
  | ownerWrite (req : Requester) (ty inst : Nat) (value : W32)
  /-- INJ_ARM (R56): A write of INJ_CTL.ARM arms one check-bit inversion on the next write to TARGET. -/
  | injArm (req : Requester) (ty inst : Nat) (value : W32)
  /-- INJ_DONE (R56): The armed injection lands on the next write to its target, ARM clears and DONE sets. -/
  | injDone (ty : Nat) (word : PageWord)
  /-- REGISTER_WRITE (R61): A write to a register that has no row of its own stores its value, counts in PAGE_SEQ and takes effect within 40 ns. -/
  | registerWrite (req : Requester) (place : SpaceAddr) (size : Nat) (value : W64)
  /-- MEMBER_SEL_WRITE (R73): A write of a window header's MEMBER_SEL on the head selects the member whose window content is shown. -/
  | memberSelWrite (req : Requester) (ty : Nat) (value : W32)
  /-- BAR2_ACCESS (R49): A host BAR2 access is forwarded by the head to a member as a proxied read or write. -/
  | bar2Access (write : Bool) (addr size : Nat) (value : W64)
  /-- PROXY_TIMEOUT (R49): A proxied read gets no answer within 40 µs and completes with all ones, setting PROXY_TO. -/
  | proxyTimeout
  /-- FLR (R91): A configuration write initiates a function level reset, which discards the function's commands and takes its queues to OFF. -/
  | flr (fn : Fn)
  /-- FLR_COMPLETE (R91): A VF or PF FLR completes within its bound and the function returns to D0 with its reset values. -/
  | flrComplete (fn : Fn)
  /-- HOT_RESET (R92): A hot reset or link down on the host link acts as a PF FLR. -/
  | hotReset (down : Bool)
  /-- BME_CLEAR (R88): Bus Master Enable goes to 0, which stops the function's DMA, installs the arrived writes, discards the rest and freezes its queues. -/
  | bmeClear (fn : Fn)
  /-- BME_SET (R89): Bus Master Enable is set to 1 and no queue is unfrozen. -/
  | bmeSet (fn : Fn)
  /-- MSE_CLEAR (R90): Memory Space Enable is cleared: BAR reads return Unsupported Request and BAR writes are discarded. -/
  | mseClear (fn : Fn)
  /-- D3HOT_ENTRY (R94): A function entering D3hot drains its HQ pages. -/
  | d3hotEntry (fn : Fn)
  /-- D0_RETURN (R94): A function returning to D0 re-enables its drained pages from a clean state. -/
  | d0Return (fn : Fn)
  /-- ASPM_L1_ENTRY (R95): After 10 µs with no TLP, the host link enters L1, and L1.2 when allowed. -/
  | aspmL1Entry (port : Option Nat) (sub : Nat)
  /-- L0P_CHANGE (R96): An L0p width change is requested by the root port, or by the device under L0P_AUTO. -/
  | l0pChange (port : Option Nat) (ask : L0pAsk)
  /-- LINK_RETRAIN (R97): A write of EP.LINK_CTL.RETRAIN retrains the host link. -/
  | linkRetrain (req : Requester)
  /-- LINK_TRAINED (R76): The host or tenant link completes training; without Flit mode, FLIT_MISSING is set and memory requests are refused. -/
  | linkTrained (port : Option Nat) (speed width : Nat) (link : FlitLink)
  /-- VF_ENABLE_CLEAR (R85): Clearing VF Enable acts as EN = 0 on every VF at once. -/
  | vfEnableClear
  /-- VF_ENABLE_SET (R85): Setting VF Enable restarts every enabled and validly bound VF from a clean state after its drain. -/
  | vfEnableSet (numVfs : Nat)
  /-- VF_BIND_WRITE (R83): A write to BIND_n is accepted only for a VF in OFF, and is otherwise rejected with BIND_BUSY, BIND_OVERLAP or BIND_ALLOWANCE. -/
  | vfBindWrite (req : Requester) (vf : Nat) (value : W32)
  /-- DMA_READ_ERROR (R79): A DMA read completion fails or times out, so the command fails with DMA_FAULT and the queue freezes. -/
  | dmaReadError (q tag : Nat) (err : DmaError)
  /-- MALFORMED_COMPLETION (R137): A PCIe completion whose byte count disagrees with the request fails the command with DMA_FAULT, DETAIL 0x5. -/
  | malformedCompletion (q tag : Nat)
  /-- MSIX_UNMASK (R87): A vector mask clears with its PBA bit set and one message is sent. -/
  | msixUnmask (fn : Fn) (vector : Option Nat)
  /-- FORERUNNER_DOORBELL (R105): A write of C_DOORBELL submits forerunner slots, which are admitted while ring room allows. -/
  | forerunnerDoorbell (bits : W32)
  /-- FORERUNNER_READ (R103): Forerunner READ reads COUNT sectors. -/
  | forerunnerRead (tag : Nat)
  /-- FORERUNNER_WRITE (R104): Forerunner WRITE writes COUNT sectors, with PI checked or generated. -/
  | forerunnerWrite (tag : Nat)
  /-- FORERUNNER_FLUSH (R103): Forerunner FLUSH completes SUCCESS without media work. -/
  | forerunnerFlush (tag : Nat)
  /-- FORERUNNER_DEALLOCATE (R103): Forerunner DEALLOCATE unmaps the whole bands in its range. -/
  | forerunnerDeallocate (tag : Nat)
  /-- FORERUNNER_IDENTIFY (R105): Forerunner IDENTIFY writes 4,096 bytes of identity to DATA_ADDR. -/
  | forerunnerIdentify (tag : Nat)
  /-- FORERUNNER_SHUTDOWN (R101): A write of C_CTL.SHUTDOWN acts as DEV.MODE_CTL.SHUTDOWN. -/
  | forerunnerShutdown
  /-- DOORBELL (R113): A write of DOORBELL sets slot bits, or is ignored with DB_BUSY or DB_IGNORED. -/
  | doorbell (req : Requester) (q : Nat) (bits : W32)
  /-- SLOT_WRITE (R110): A write into slot memory is applied as one unit, or discarded with SLOT_BUSY while the slot's doorbell bit is set. -/
  | slotWrite (req : Requester) (q offset : Nat) (data : List Byte)
  /-- ADMIT (R112): A queue engine grants a doorbell bit by three-level round robin every 8 FCLK cycles and copies the slot. -/
  | admitNext (qe : Nat)
  /-- DESCRIPTOR_FETCH (R117): The descriptor list is fetched one 4 KiB block at a time and checked before any data moves. -/
  | descriptorFetch (q tag : Nat) (list : List Desc)
  /-- GATE_ADMIT (R24): A waiting command passes its admission gate, and its tint's ceiling bucket, once the level reaches 1, and the full charge is
  subtracted. -/
  | gateAdmit (gate : Nat)
  /-- CEILING_RECOMPUTE (R394): Every 100 µs the scale s and every tint's EFF_RATE are recomputed. -/
  | ceilingRecompute
  /-- DATA_ARRIVED (R15): All of a write's data has arrived and passed PI, and its sectors install in the write cache in one atomic step. -/
  | dataArrived (q tag : Nat) (sectors : List SectorIn)
  /-- INSTALL_WAIT_LINES (R311): A write waiting for free cache lines installs, in the order of waiting, once lines free. -/
  | installWaitLines (q tag : Nat)
  /-- READ_DATA_WRITTEN (R20): Every data byte of a read has been written to the requester, and the read's completion is posted. -/
  | readDataWritten (q tag : Nat)
  /-- NOP (R119): NOP completes with RESULT 0. -/
  | nop (q tag : Nat)
  /-- READ (R154): READ reads sectors of a volume through the cache, the band map, the log maps and the media. -/
  | read (q tag : Nat)
  /-- WRITE (R15): WRITE pulls data, checks PI, encrypts and installs the sectors in the protected write cache. -/
  | write (q tag : Nat)
  /-- FLUSH_CMD (R119): The FLUSH opcode completes without media work, because completed writes are durable. -/
  | flushCmd (q tag : Nat)
  /-- DEALLOCATE (R182): DEALLOCATE unmaps whole bands and returns their capacity at once. -/
  | deallocate (q tag : Nat)
  /-- WRITE_ZEROES (R157): WRITE_ZEROES zeroes sectors without a data transfer, unmapping whole bands. -/
  | writeZeroes (q tag : Nat)
  /-- VERIFY (R119): VERIFY decodes and checks PI without a transfer. -/
  | verify (q tag : Nat)
  /-- APPEND (R121): APPEND reserves sectors at the stream's reserve mark when the expected offset matches, and otherwise completes with CONFLICT. -/
  | append (q tag : Nat)
  /-- STREAM_READ (R119): STREAM_READ reads a stream at an offset below the committed length. -/
  | streamRead (q tag : Nat)
  /-- SEAL (R346): SEAL sets SEALED and merges the tail band. -/
  | seal (q tag dst : Nat) (lost : List Nat)
  /-- STREAM_INFO (R119): STREAM_INFO returns the committed length and the SEALED bit. -/
  | streamInfo (q tag : Nat)
  /-- PUT (R353): PUT checks the generation, reserves an extent and installs the object with its directory entry atomically. -/
  | put (q tag : Nat) (name : List Byte)
  /-- GET (R353): GET resolves the name once and reads the object's sectors. -/
  | get (q tag : Nat) (name : List Byte)
  /-- DELETE (R121): DELETE removes an object under the generation condition. -/
  | delete (q tag : Nat) (name : List Byte)
  /-- STAT (R356): STAT writes one sector of object metadata. -/
  | stat (q tag : Nat) (name : List Byte)
  /-- SNAP_CREATE (R358): SNAP_CREATE holds installation, destages and merges, marks the bands SNAP and records the snapshot. -/
  | snapCreate (q tag : Nat)
  /-- SNAP_DELETE (R363): SNAP_DELETE removes the snapshot ID and frees the delta entries no longer covered. -/
  | snapDelete (q tag : Nat)
  /-- SNAP_READ (R362): SNAP_READ resolves each sector through the delta table and then the band map. -/
  | snapRead (q tag : Nat)
  /-- ATTEST (R365): ATTEST digests the plaintext of an extent inside the engine and returns EQUAL or NOT_EQUAL. -/
  | attest (q tag : Nat) (expected : List Byte)
  /-- RELOCATE (R368): RELOCATE moves each mapped band of a range into newly taken QLC slots under G14. -/
  | relocate (q tag dst : Nat) (lost : List Nat)
  /-- ABORT (R133): ABORT catches a target tag of its own queue before its point of no return, or reports TOO_LATE or NOT_IN_FLIGHT. -/
  | abort (q tag : Nat)
  /-- IDENTIFY (R119): IDENTIFY writes the DDT header, queue, tint and engine in 4,096 bytes. -/
  | identify (q tag : Nat)
  /-- UPDATE_BLOCK (R535): UPDATE_BLOCK delivers one 64 KiB package block, which is checked, forwarded and staged. -/
  | updateBlock (q tag : Nat) (data : List Byte) (sigOk flashOk : Bool)
  /-- RAW_READ (R221): RAW_READ reads codewords or whole plane pages of one die directly. -/
  | rawRead (q tag : Nat) (outs : List Decoded) (soft : Bool) (given : List Byte) (status : Nat)
  /-- RAW_PROGRAM (R223): RAW_PROGRAM writes four plane pages unchanged to a permitted block. -/
  | rawProgram (q tag : Nat) (data : List Byte) (status : Nat)
  /-- RAW_ERASE (R223): RAW_ERASE erases a permitted block. -/
  | rawErase (q tag status : Nat)
  /-- DESTAGE (R157): Cache sectors are placed into a new slot, a direct fill or a log band by the placement table. -/
  | destage (b start count dst : Nat) (bad : Option Nat)
  /-- LOG_UNIT_HOLD_EXPIRY (R153): The oldest sector of a log unit has waited HOLD_US, and the unit is programmed with pads. -/
  | logUnitHoldExpiry (l : Nat) (bad : Option Nat)
  /-- MERGE (R159): A switch, partial or full merge ends a log band, with rows admitted at G12. -/
  | merge (l dst : Nat) (lost : List Nat)
  /-- FOLD (R162): A fast band is folded into QLC under G11. -/
  | fold (dst : Nat) (lost : List Nat)
  /-- PSLC_TARGET_RECOMPUTE (R164): Every 100 ms, and at each superblock release or allocation, TARGET_SB and the log limit are recomputed. -/
  | pslcTargetRecompute
  /-- GC_COLLECT (R170): Garbage collection relocates the valid bands of the victim with the fewest valid slots under G10. -/
  | gcCollect (dsts lost : List Nat)
  /-- SB_ALLOCATE (R169): A superblock is allocated round robin over the groups, its erase intent is written and its erase issued. -/
  | sbAllocate (pslc : Bool) (purpose : Nat) (forHost : Bool)
  /-- ERASE_DONE (R167): Every block of an allocated superblock is erased, and it becomes OPEN after its header page. -/
  | eraseDone (n : Nat) (out : EraseEnd)
  /-- PATROL_VISIT (R179): A CLOSED superblock is visited within PERIOD_H by reading two rows under G13. -/
  | patrolVisit (outs : List (Nat × Nat × Decoded)) (dsts lost : List Nat)
  /-- CHECKPOINT_PASS (R184): DELTA_MAX delta records since the last pass start a new rolling checkpoint pass of 192 chunks. -/
  | checkpointPass
  /-- CKPT_DONE (R184): A checkpoint pass completes and CKPT_DONE is set. -/
  | ckptDone
  /-- FORMAT (R186): A format request in MAINT lays out the stripe groups, flush dies and maps afresh. -/
  | format (req : Requester) (arg : Nat) (marks : List (Nat × List Nat))
  /-- CHANNEL_DISCOVERY (R201): At STARTING, the sequencer resets the dies, reads IDs and parameter pages, calibrates ZQ and reads the Puevo record. -/
  | channelDiscovery (ch : Nat) (found : PkgFound)
  /-- CHANNEL_TRAINING (R207): The sequencer trains the channel, stepping down through the rates until the eye passes. -/
  | channelTraining (ch : Nat)
  /-- TRAINING_DONE (R208): Training completes; a channel failing at DDR400 and above becomes raw-only with TRAIN_FAIL. -/
  | trainingDone (ch : Nat) (t : Trained)
  /-- RETRAIN (R209): RETRAIN_S elapses or the zone moves by RETRAIN_DT, and the channel is retrained one die at a time. -/
  | retrain (ch : Nat) (eye : Option Nat) (t : Trained)
  /-- LIST_SUBMIT (R210): A command list is placed on a submission lane of a channel. -/
  | listSubmit (ch lane lid : Nat) (entries : List Entry)
  /-- ENTRY_ISSUE (R213): The sequencer picks the next entry for an idle die by round robin over the lanes and issues it. -/
  | entryIssue (n : Nat)
  /-- ENTRY_COMPLETE (R224): A die reports status ready, the entry ends with its status and the die returns to IDLE. -/
  | entryComplete (n status value : Nat)
  /-- ENTRY_TIMEOUT (R226): A die stays busy past tTIMEOUT and is reset, or FAILED after a second timeout within 60 s. -/
  | entryTimeout (n : Nat)
  /-- DIE_RESET_DONE (R224): A die reset ends and the die returns to IDLE when its READ ID matches, or becomes FAILED otherwise. -/
  | dieResetDone (n : Nat) (ident : List Byte)
  /-- DIE_RESET_TIMEOUT (R224): A die reset is not done within 4 × tRST and the die becomes FAILED. -/
  | dieResetTimeout (n : Nat)
  /-- SUSPEND (R216): A program or erase is suspended so that reads to other blocks of the die can run. -/
  | suspend (n : Nat)
  /-- RESUME (R216): The suspended operation resumes after SUSP_READS reads, or when no read waits. -/
  | resume (n : Nat)
  /-- HARD_DECODE (R239): A hard decoder decodes a codeword and accepts it, or fails after HARD_ITER iterations. -/
  | hardDecode (q tag idx : Nat) (out : Decoded)
  /-- SOFT_DECODE (R240): A soft decoder in the pool decodes from three reads and accepts the codeword or fails. -/
  | softDecode (q tag idx : Nat) (out : Decoded)
  /-- READ_RETRY (R244): A codeword is reread at the next retry index and hard decoded. -/
  | readRetry (q tag idx : Nat) (out : Decoded)
  /-- DEGRADED_READ (R280): A codeword is rebuilt from the other members of its row by stripe parity. -/
  | degradedRead (q tag idx : Nat) (unav : List Nat) (mismatch : Bool)
  /-- SRAM_CORRECTED (R253): A SYM2 read corrects a symbol and writes the word back. -/
  | sramCorrected (region word symbol bits port : Nat)
  /-- SRAM_UNCORRECTABLE (R261): An uncorrectable SRAM read returns a bus error and takes the action of its region. -/
  | sramUncorrectable (region word upset port unit idx : Nat) (again : Bool)
  /-- SCRUB_PASS (R254): Every SCRUB_S seconds each SYM2 region is read through in ascending order. -/
  | scrubPass (hits : List ScrubHit)
  /-- MERGE_BUFFER_TIMEOUT (R258): A merge-buffer entry that has taken no write for 64 CCLK cycles is evicted. -/
  | mergeBufferTimeout (word upset : Nat)
  /-- REGION_CODE_WRITE (R256): A CODE write sets a region's code before INIT_DONE and is refused afterwards. -/
  | regionCodeWrite (req : Requester) (region code : Nat)
  /-- LOG_ROW_PARITY (R271): The 16th unit of a log row has programmed, so the earlier units are read back and the parity computed and programmed. -/
  | logRowParity (l row : Nat) (res : Parity)
  /-- ROW_CLOSE_TIMEOUT (R272): A log row still open after ROW_CLOSE_S is closed with pad units and parity. -/
  | rowCloseTimeout (l : Nat) (res : Parity)
  /-- JOURNAL_PAGE_WRITE (R276): A filled journal buffer page is written in two copies on different channels. -/
  | journalPageWrite (a b : Nat)
  /-- JOURNAL_COPY_RESTORE (R277): A journal page left with one copy by a die failure is written again within 1 s. -/
  | journalCopyRestore (n : Nat)
  /-- REBUILD_RELOCATE (R284): Each band of a RETIRING group is relocated to ACTIVE groups under G14. -/
  | rebuildRelocate (dst : Nat) (lost : List Nat)
  /-- RESHAPE_START (R294): A write of REB_CTL.START starts a reshape between P1 and P2, or is refused. -/
  | reshapeStart (req : Requester) (value : W32)
  /-- RESHAPE_STEP (R295): Groups of the new width are formed and the next old-width group begins retirement. -/
  | reshapeStep
  /-- RESHAPE_PAUSE (R297): A reshape pauses after the band in progress on PAUSE, low free space or a die failure, and resumes when the cause clears. -/
  | reshapePause
  /-- FLUSH_DIE_CHOICE (R306): The flush dies are chosen again within 1 s after a flush die fails or leaves service. -/
  | flushDieChoice
  /-- RESERVED_ROTATION (R309): Few erased flush slots, root pages or ring pages left start a rotation to the other reserved index. -/
  | reservedRotation (bad : List Nat)
  /-- CACHE_SIZE_WRITE (R311): A write of CACHE_MIB applies a larger cache at once, or holds installation until a smaller one is reached. -/
  | cacheSizeWrite (req : Requester) (value : W32)
  /-- CACHE_SHRINK_DONE (R311): Destage brings the cache content to the new size, which is applied and the HOLDUP entry republished. -/
  | cacheShrinkDone
  /-- FLUSH_RETIRED (R325): A replayed generation is retired once its sectors have landed and its deltas are on media. -/
  | flushRetired (seq : Nat)
  /-- FORCE_PFAIL (R328): A secure write of PLP.FORCE PFAIL acts as a taken fall of PFAIL_N and runs a real flush. -/
  | forcePfail (req : Requester)
  /-- FORCE_CUT (R328): A secure write of PLP.FORCE CUT arms a test cut of the next flush. -/
  | forceCut (req : Requester)
  /-- PROV_CREATE (R334): Provisioning CREATE makes the record for handle SEL from the image. -/
  | provCreate (req : Requester) (kind : Nat)
  /-- PROV_DELETE (R336): Provisioning DELETE refuses new commands on the handle, waits for those in flight, unmaps the range and frees it. -/
  | provDelete (req : Requester) (kind : Nat)
  /-- PROV_LOAD (R334): Provisioning LOAD copies the record into REC_0 to REC_7. -/
  | provLoad (req : Requester) (kind : Nat)
  /-- PROV_MODIFY (R338): Provisioning MODIFY applies the modifiable fields, such as BANDS, RO or FLOOR. -/
  | provModify (req : Requester) (kind : Nat)
  /-- COMPACTION (R354): A closed object data band at or below COMPACT_SECT live sectors is compacted into the fill band. -/
  | compaction (ns band : Nat) (lost : List Nat)
  /-- GRANT_SET (R391): GRANT_CMD SET gives a tint rights on a record. -/
  | grantSet (req : Requester) (tint : Nat)
  /-- GRANT_REMOVE (R391): GRANT_CMD REMOVE deletes a grant after the commands admitted under it have ended. -/
  | grantRemove (req : Requester) (tint : Nat)
  /-- GRANT_LOOKUP (R391): GRANT_CMD LOOKUP reports the rights a tint holds on a record. -/
  | grantLookup (req : Requester) (tint : Nat)
  /-- KEY_REF_WRITE (R387): A secure write of a tint's KEY_n is accepted only while the tint page is OFF. -/
  | keyRefWrite (req : Requester) (tint n : Nat) (value : W32)
  /-- PORT_RESET (R376): A tenant FLR, TPn_PERST_N fall, hot reset or link down resets the port: its DMA stops, arrived writes install and its queues
  go to OFF. -/
  | portReset (port cause : Nat)
  /-- TP_PERST_RISE (R376): TPn_PERST_N rises and the port presents termination within 20 ms. -/
  | tpPerstRise (port : Nat)
  /-- TP_BIND_WRITE (R381): An accepted TP_BIND change resets the port's TQ pages, log subwindow, push staging and MALFORMED count. -/
  | tpBindWrite (req : Requester) (port : Nat) (value : W32)
  /-- PUSH_FRAME (R385): A frame posted into a push window adds payload to its tag's command, or is malformed and freezes the queue. -/
  | pushFrame (port queue tag flags rsv len offset : Nat) (bad : Bool) (payload : List Byte)
  /-- FL_DETECT_TIMEOUT (R400): No partner termination is found within 100 µs and the link goes ABSENT. -/
  | flDetectTimeout (n : Nat)
  /-- FL_PROBE (R400): Every 10 ms an ABSENT link probes for partner termination. -/
  | flProbe (n : Nat) (found : Bool)
  /-- FL_TRAINED (R400): A Filush link trains at x8 or x4 and enters HELLO. -/
  | flTrained (n width : Nat)
  /-- FL_TRAIN_TIMEOUT (R400): A Filush link does not train within 2 ms and returns to DETECT. -/
  | flTrainTimeout (n : Nat)
  /-- FL_LINK_DOWN (R400): Excess replays, an acknowledgement stall or LINK_LOSS take an UP link DOWN, or FAILED on a third entry within 1 s. -/
  | flLinkDown (n : Nat)
  /-- FL_TERMINATION_LOST (R400): The partner withdraws termination and the link goes ABSENT. -/
  | flTerminationLost (n : Nat)
  /-- FL_RETRAIN (R446): A write of FL_CFG.RETRAIN takes an UP link DOWN for retraining. -/
  | flRetrain (req : Requester) (n : Nat)
  /-- FORCE_LINK_LOSS (R402): A secure write of FL.FORCE LINK_LOSS holds the link DOWN while set. -/
  | forceLinkLoss (req : Requester) (n : Nat) (on : Bool)
  /-- HELLO (R407): A HELLO identity message is compared with the wiring, and the link goes UP or FAILED. -/
  | hello (h : MsgHdr) (x : HelloId)
  /-- AUTH_HELLO (R409): A member asks the head to authenticate it. -/
  | authHello (ask : AuthAsk)
  /-- AUTH_CHALLENGE (R409): The head sends a nonce to the member. -/
  | authChallenge (h : MsgHdr)
  /-- AUTH_RESPONSE (R409): A signed response is checked, which adds the member as JOINING or fails it. -/
  | authResponse (h : MsgHdr) (serial proto : Nat) (ok : Bool)
  /-- MEMBER_UPDATE (R410): The member table of a new epoch is applied, and routes and fabric states follow. -/
  | memberUpdate (h : MsgHdr) (entries : List (Nat × Nat))
  /-- HEARTBEAT (R413): A HEARTBEAT is received and refreshes the sender's liveness. -/
  | heartbeat (h : MsgHdr) (time mode : Nat)
  /-- HEARTBEAT_TIMER (R413): Every HB_US a member sends a HEARTBEAT to the head, and the head broadcasts one. -/
  | heartbeatTimer
  /-- HEARTBEAT_LOSS (R411): No heartbeat arrives for LOSS_US, and the member or the head's entry for it becomes FENCED. -/
  | heartbeatLoss (n : Nat)
  /-- LINK_STATE (R417): A LINK_STATE message reports a member's links and peers. -/
  | linkState (h : MsgHdr) (mask : Nat)
  /-- MESSAGE_RETRY_TIMEOUT (R416): An ACK_REQ message unanswered for 20 µs is resent, and after four attempts its destination is treated as unreachable. -/
  | messageRetryTimeout (seq : Nat)
  /-- BARRIER (R447): FAB.OP_CMD BARRIER starts a fabric barrier at the head. -/
  | barrier (req : Requester)
  /-- BROADCAST (R447): FAB.OP_CMD BROADCAST starts a fabric broadcast at the head. -/
  | broadcast (req : Requester)
  /-- IMMEDIATE_TIME_SYNC (R431): FAB.OP_CMD TIME_SYNC starts an immediate time synchronisation. -/
  | immediateTimeSync (req : Requester)
  /-- BARRIER_ARRIVE (R429): Barrier arrivals gather up the tree with COUNT summed. -/
  | barrierArrive (h : MsgHdr) (id count : Nat)
  /-- BARRIER_RELEASE (R429): The barrier release travels down the tree. -/
  | barrierRelease (h : MsgHdr) (id : Nat)
  /-- BCAST (R429): A broadcast body is delivered and forwarded down the tree. -/
  | bcast (h : MsgHdr) (id kind : Nat) (words : List Nat)
  /-- BCAST_ACK (R429): Broadcast acknowledgements gather up the tree with COUNT summed. -/
  | bcastAck (h : MsgHdr) (id count result : Nat)
  /-- SNAP_PREPARE (R432): A member stops owner STRIPE_WRITE admission, completes its stripes and holds its shard range. -/
  | snapPrepare (h : MsgHdr) (vol id reqId tint q tag : Nat)
  /-- SNAP_HELD (R432): Members report held, and the head commits once all have answered. -/
  | snapHeld (h : MsgHdr) (id count result : Nat)
  /-- SNAP_COMMIT (R432): A member marks its shard bands and records the fabric snapshot. -/
  | snapCommit (h : MsgHdr) (vol id cal : Nat)
  /-- SNAP_DONE (R432): Members report done, and the head ends the holds and completes the command. -/
  | snapDone (h : MsgHdr) (id count result q tag : Nat)
  /-- SNAP_ABORT (R431): A fabric snapshot is aborted on an epoch change and retried once. -/
  | snapAbort (h : MsgHdr) (vol id : Nat)
  /-- TIME_SYNC_TIMER (R433): Every 1 ms the head broadcasts TIME_SYNC. -/
  | timeSyncTimer
  /-- TIME_SYNC (R433): A member sets or slews its fabric time to T_HEAD + CORR_NS. -/
  | timeSync (h : MsgHdr) (tHead corr seq : Nat)
  /-- TIME_ECHO (R433): A hop measures its link delay and adds it to the correction. -/
  | timeEcho (h : MsgHdr) (t1 t2 t3 : Nat)
  /-- FABRIC_RESET (R434): A write of FAB_CTL.FABRIC_RESET on the head broadcasts RESET_PREPARE. -/
  | fabricReset (req : Requester)
  /-- RESET_PREPARE (R434): A member stops admission, discards in-flight work and writes a flush generation with the rails present. -/
  | resetPrepare (h : MsgHdr) (id : Nat)
  /-- RESET_READY (R434): Members report ready, and the head then broadcasts RESET_AT. -/
  | resetReady (h : MsgHdr) (id count : Nat)
  /-- RESET_AT (R434): A member schedules RESET entry at fabric time T_RESET. -/
  | resetAt (h : MsgHdr) (id tReset : Nat)
  /-- FABRIC_RESET_TIME (R434): Fabric time reaches T_RESET and the member enters RESET. -/
  | fabricResetTime
  /-- RESET_READY_TIMEOUT (R434): A member that has not answered RESET_READY within the bound is left out of the fabric reset. -/
  | resetReadyTimeout
  /-- STRIPE_WRITE (R424): The owner installs the stripe's sectors, opens an FSTRIPE record and mirrors to the buddy. -/
  | stripeWrite (h : MsgHdr) (vol stripe first xid : Nat) (secs : List SectorIn)
  /-- STRIPE_ACK (R424): The ingress collects stripe acknowledgements and posts the completion once all have arrived. -/
  | stripeAck (h : MsgHdr) (xid status detail : Nat)
  /-- SHARD_WRITE (R424): A holder installs a shard and answers SHARD_ACK. -/
  | shardWrite (h : MsgHdr) (vol shard stripe first wseq : Nat) (secs : List SectorIn)
  /-- SHARD_ACK (R424): The owner clears the shard from PENDING and, when PENDING is empty, writes FSTRIPE_DONE. -/
  | shardAck (h : MsgHdr) (vol shard status stripe wseq : Nat)
  /-- SHARD_READ (R425): A holder reads shard sectors, live or at a snapshot, and answers the ingress. -/
  | shardRead (h : MsgHdr) (vol shard stripe first count replyTo xid snap : Nat)
  /-- SHARD_DATA (R425): The ingress receives shard data, rebuilds from k shards where needed, checks PI and decrypts. -/
  | shardData (h : MsgHdr) (xid status : Nat) (secs : List SectorIn)
  /-- JNL_MIRROR (R424): The buddy installs the mirrored record and sectors and answers JNL_ACK. -/
  | jnlMirror (h : MsgHdr) (x : StripeRec) (secs : List SectorIn)
  /-- JNL_ACK (R424): The owner receives the mirror acknowledgement and answers STRIPE_ACK. -/
  | jnlAck (h : MsgHdr) (jseq : Nat)
  /-- PROXY_RD (R418): A member applies a proxied read in the host domain and answers PROXY_RSP. -/
  | proxyRd (h : MsgHdr) (offset size xid : Nat)
  /-- PROXY_WR (R418): A member applies a proxied write in the host domain. -/
  | proxyWr (h : MsgHdr) (offset size : Nat) (data : W64)
  /-- PROXY_RSP (R418): The head completes the host's BAR2 read with the returned data. -/
  | proxyRsp (h : MsgHdr) (xid : Nat) (data : W64)
  /-- RESYNC (R439): The acting owners rebuild a rejoining member's shard bands from INTENT entries under G14 and G9. -/
  | resync (member key : Nat) (parts : List (Nat × Nat × List (Nat × SectorIn)))
  /-- REJOIN (R447): A write of FAB_CTL.REJOIN takes a FENCED member to SEEKING. -/
  | rejoin (req : Requester)
  /-- EVICT (R410): A write of FAB_CTL.EVICT marks EVICT_ID FAILED. -/
  | evict (req : Requester) (id : Nat)
  /-- FABRIC_RESHAPE_START (R443): A write of FAB.RSHP_CTL.START on the head starts a reshape of a fabric volume, or is refused. -/
  | fabricReshapeStart (req : Requester) (value : W32)
  /-- FABRIC_RESHAPE_COPY (R444): The reshape copies logical bands in order, and switches layouts in a new epoch at the end. -/
  | fabricReshapeCopy (quota : Bool) (secs : List (Nat × SectorIn))
  /-- FABRIC_RESHAPE_PAUSE (R445): A fabric reshape pauses on a member loss, a QUOTA or PAUSE, and resumes when the cause clears. -/
  | fabricReshapePause (space : Bool)
  /-- CIPHER_JOB_GRANT (R449): A lane group grants its lowest free lane to a requester's job. -/
  | cipherJobGrant (group : Nat) (job : Option CipherJob)
  /-- CIPHER_JOB_DONE (R450): A lane releases the last output byte of its job. -/
  | cipherJobDone (lane : Nat)
  /-- KEY_LOAD (R461): KEY_CMD LOAD loads A‖B with its attributes and derives C. -/
  | keyLoad (req : Requester)
  /-- DERIVE (R461): KEY_CMD DERIVE derives A‖B from the device unique secret and a label. -/
  | derive (req : Requester)
  /-- UNWRAP (R462): KEY_CMD UNWRAP opens a key blob by ECDH and GCM into a slot and sets the tint reference. -/
  | unwrap (req : Requester) (blob : List Byte)
  /-- ROLL (R461): KEY_CMD ROLL moves C to C_OLD, increments GEN, derives C and zeroes COUNTER. -/
  | roll (req : Requester)
  /-- KEY_ERASE (R461): KEY_CMD ERASE zeroises a slot and ends the messages keyed by it. -/
  | keyErase (req : Requester)
  /-- ERASE_ALL (R461): KEY_CMD ERASE_ALL zeroises every slot. -/
  | eraseAll (req : Requester)
  /-- RESEAL_DONE (R465): The last directory sector under GEN − 1 is re-sealed and the slot is rolled. -/
  | resealDone (slot : Nat)
  /-- DRBG_RESEED (R468): Every RESEED_MS, or after 2^20 requests, the DRBG reseeds. -/
  | drbgReseed
  /-- HEALTH_FAIL (R469): An entropy health test fails; a second failure within 1,024 samples raises an alarm. -/
  | healthFail (apt : Bool) (samples : Nat)
  /-- FORCE_ALARM (R470): A secure write of KEY.FORCE ALARM raises a cipher alarm. -/
  | forceAlarm (req : Requester)
  /-- LANE_FAULT (R470): An uncorrectable inside a lane fences the lane and its job is re-run on another. -/
  | laneFault (lane : Nat)
  /-- SEC_OPEN (R487): DIG.SEC_CMD OPEN takes a context for a secure message. -/
  | secOpen (req : Requester) (alg key out : Nat) (compose : Bool)
  /-- SEC_UPDATE (R487): DIG.SEC_CMD UPDATE hashes SEC_LEN bytes from SEC_ADDR. -/
  | secUpdate (req : Requester) (bytes : List Byte)
  /-- SEC_FINAL (R487): DIG.SEC_CMD FINAL compares with the expected digest or writes the digest to OUT, and frees the context. -/
  | secFinal (req : Requester) (expected : List Byte)
  /-- SEC_ABORT (R487): DIG.SEC_CMD ABORT zeroes and frees the context. -/
  | secAbort (req : Requester)
  /-- DIGEST_CONTEXT_GRANT (R480): A freed digest context goes to a waiting requester by round robin. -/
  | digestContextGrant
  /-- DIGEST_BLOCK (R479): At each block boundary the core compresses the next block chosen by round robin. -/
  | digestBlock
  /-- DIGEST_CLEARED (R485): A bus error or an uncorrectable clears the digest contexts and ends their messages. -/
  | digestCleared (what : DigClear)
  /-- LOOP_SAMPLE (R488): At each tick the due Madder loops latch their inputs and compute new outputs that take effect at the gates. -/
  | loopSample (power : Nat) (readLat : List Nat) (edge : Nat)
  /-- LOOP_COMMIT (R498): LOOP_CTL.COMMIT moves the shadow coefficients into use at the next tick. -/
  | loopCommit (req : Requester) (n : Nat)
  /-- DELAY_CLR (R503): LOOP_CTL.DELAY_CLR zeroes DELAY_MAX. -/
  | delayClr (req : Requester) (n : Nat)
  /-- LOOP_MEM_UNCORR (R500): An uncorrectable in loop memory contains the loop under C2. -/
  | loopMemUncorr (n : Nat)
  /-- TRACE_ARM (R502): TRC_CTL.ARM arms a trace buffer from index 0. -/
  | traceArm (req : Requester) (b : Nat)
  /-- TRACE_FIRE (R502): TRC_CTL.FIRE triggers a MANUAL trace. -/
  | traceFire (req : Requester) (b : Nat)
  /-- TRACE_STOP (R502): TRC_CTL.STOP ends a trace with STOPPED set. -/
  | traceStop (req : Requester) (b : Nat)
  /-- FLASH_PROGRAM (R516): Boot-flash command sequence PROGRAM programs one 32-byte array line. -/
  | flashProgram (req : Requester) (offset : Nat) (words : List W32)
  /-- FLASH_ERASE (R516): Boot-flash command sequence ERASE erases a 64 KiB sector or an option copy. -/
  | flashErase (req : Requester) (addr : Nat)
  /-- PROGRAM_OPTION (R516): Boot-flash command sequence PROGRAM_OPTION programs a line of the option window. -/
  | programOption (req : Requester) (offset : Nat) (words : List W32)
  /-- PROGRAM_OTP (R526): Boot-flash command sequence PROGRAM_OTP programs an OTP line, subject to the lock rules. -/
  | programOtp (req : Requester) (offset : Nat) (words : List W32)
  /-- FLASH_ID (R516): Boot-flash command sequence ID enters ID mode. -/
  | flashId (req : Requester)
  /-- FLASH_READ_MODE (R516): Boot-flash command READ leaves ID mode. -/
  | flashReadMode (req : Requester)
  /-- FLASH_OP_DONE (R518): A boot-flash program or erase ends and OP_DONE is set. -/
  | flashOpDone
  /-- FLASH_OP_TIMEOUT (R518): A boot-flash operation still running at four times its Max ends with OP_TIMEOUT. -/
  | flashOpTimeout
  /-- MAILBOX_REQUEST (R507): Glaze posts a secure mailbox request, which Mordant checks and serves or answers BUSY. -/
  | mailboxRequest (slot act : Nat) (ready : Bool)
  /-- REC_DATA (R637): I3C REC_DATA stores 64 recovery image bytes in secure RAM. -/
  | recData (offset : Nat) (data : List Byte)
  /-- REC_RUN (R637): I3C REC_RUN checks the staged Mordant image and runs it. -/
  | recRun (result : Nat)
  /-- REC_STATUS (R637): I3C REC_STATUS returns the recovery mailbox state. -/
  | recStatus
  /-- BLOCK (R536): A forwarded update block is passed on along the chain, staged and acknowledged. -/
  | block (h : MsgHdr) (data : List Byte) (sigOk flashOk : Bool)
  /-- BLOCK_ACK (R537): The head counts a member's staging acknowledgement of a block. -/
  | blockAck (h : MsgHdr) (status index pkg : Nat)
  /-- REPORT (R544): A member's trial report reaches the head, leading to TRIAL_OK or a rollback. -/
  | report (h : MsgHdr) (status pkg : Nat)
  /-- APPLY_COMPLETE (R540): The update parts are written and verified in the inactive banks and VERIFIED is reached. -/
  | applyComplete (flashBad : Option Nat) (mordant : Nat)
  /-- UPDATE_ABORT (R550): UPD.REQ ABORT ends the package everywhere. -/
  | updateAbort (req : Requester)
  /-- COMMIT (R541): UPD.REQ COMMIT on the head broadcasts UPD_PREPARE. -/
  | commit (req : Requester)
  /-- CONFIRM (R546): UPD.REQ CONFIRM in TRIAL_OK broadcasts UPD_CONFIRM. -/
  | confirm (req : Requester)
  /-- ROLLBACK (R545): UPD.REQ ROLLBACK starts a rollback into the retained banks. -/
  | rollback (req : Requester)
  /-- KEY_IMPORT (R550): UPD.REQ KEY_IMPORT unwraps the blob in MBOX into a slot. -/
  | keyImport (req : Requester) (slot : Nat)
  /-- IMPORT_PUB (R550): UPD.REQ IMPORT_PUB returns the import public key and its signature. -/
  | importPub (req : Requester)
  /-- OPTION_WRITE (R524): UPD.REQ OPTION_WRITE writes a new option copy into the older copy. -/
  | optionWrite (req : Requester) (flashOk : Bool)
  /-- OTP_OPERATOR (R526): UPD.REQ OTP_OPERATOR programs OPERATOR_HASH and then OPERATOR_LOCK in MAINT. -/
  | otpOperator (req : Requester) (flashOk : Bool)
  /-- DEBUG_FULL_OFF (R526): UPD.REQ DEBUG_FULL_OFF programs the OTP bit that refuses level FULL. -/
  | debugFullOff (req : Requester) (flashOk : Bool)
  /-- SETTINGS_SAVE (R547): UPD.REQ SETTINGS_SAVE writes the current settings into the older copy. -/
  | settingsSave (req : Requester) (flashOk : Bool)
  /-- SETTINGS_CLEAR (R550): UPD.REQ SETTINGS_CLEAR writes an empty copy of the running FORMAT. -/
  | settingsClear (req : Requester) (flashOk : Bool)
  /-- UPD_PREPARE (R543): A member writes the ungated boot control record, becomes PREPARED and acknowledges. -/
  | updPrepare (h : MsgHdr) (id pkg target : Nat)
  /-- UPD_GO (R542): A member flushes, gates its record and schedules RESET at fabric time T. -/
  | updGo (h : MsgHdr) (id pkg t : Nat)
  /-- UPD_ABORT (R539): A member abandons the package and returns to IDLE. -/
  | updAbort (h : MsgHdr) (id pkg : Nat)
  /-- UPD_CONFIRM (R546): A member writes a record without TRIAL, advances its SVNs and enters IDLE. -/
  | updConfirm (h : MsgHdr) (id pkg : Nat)
  /-- PREPARE_ACK_TIMEOUT (R542): BCAST_ACK does not count every member within 1 s, so the head aborts and COMMIT ends with TIMEOUT. -/
  | prepareAckTimeout
  /-- ACTIVATION_TIME (R542): Fabric time reaches T, and the member enters RESET and starts into the new banks. -/
  | activationTime
  /-- SETTLE_TIMEOUT (R545): A set member is absent past SETTLE_S and a rollback starts. -/
  | settleTimeout
  /-- FAULT_EVENT (R554): The fault collector takes an event, counts it, enters it in the history, records it and carries out its class reaction. -/
  | faultEvent (ty inst bit : Nat)
  /-- RAIL_FAULT (R553): An error input reads invalid at two samples and is taken as a rail fault of its source. -/
  | railFault (ty inst bit : Nat)
  /-- GLAZE_RESTARTED (R558): After a C3 event Glaze serves again and the queues accept restart. -/
  | glazeRestarted
  /-- SV_WATCHDOG_EXPIRY (R565): A service-core watchdog expires and a C3 event is taken. -/
  | svWatchdogExpiry (core : Nat)
  /-- SX_WATCHDOG_EXPIRY (R565): The SX watchdog expires and a C4 event is taken. -/
  | sxWatchdogExpiry
  /-- WDOG_KICK (R565): A write of WDOG_KICK restarts the watchdogs of the named cores. -/
  | wdogKick (req : Requester) (bits : W32)
  /-- SX_KICK (R565): A secure write of SX_KICK restarts the SX watchdog. -/
  | sxKick (req : Requester)
  /-- LOCKSTEP_MISMATCH (R566): The lockstep checker sees a difference and a C4 event is taken. -/
  | lockstepMismatch
  /-- FORCE_LOCKSTEP (R566): A secure write of SX.FORCE LOCKSTEP makes the checker report one difference. -/
  | forceLockstep (req : Requester)
  /-- THERMAL_SAMPLE (R567): Every 10 µs the thermal monitor samples the zones and acts on the highest. -/
  | thermalSample (t0 t1 t2 t3 : Int)
  /-- FORCE_TRIP (R570): A secure write of THM.FORCE TRIP acts as a zone at TRIP while set. -/
  | forceTrip (req : Requester) (on : Bool)
  /-- FORCE_CRIT (R570): A secure write of THM.FORCE CRIT causes a critical trip. -/
  | forceCrit (req : Requester)
  /-- FIRST_CLR (R563): FLT_CLR.FIRST_CLR clears FIRST_VALID so that the next event becomes the first error. -/
  | firstClr (req : Requester)
  /-- HIST_CLR (R571): FLT_CLR.HIST_CLR zeroes the history ring. -/
  | histClr (req : Requester)
  /-- CNT_CLR (R571): FLT_CLR.CNT_CLR zeroes the class counters, WORST and ANY. -/
  | cntClr (req : Requester)
  /-- OVR_WRITE (R559): A write of a class-override entry, refused with OVR_DENIED when it would lower a class. -/
  | ovrWrite (req : Requester) (value : W32)
  /-- RECORD (R574): A recorder record arrives and is filtered, folded into the newest pending record or entered with a new SEQ. -/
  | record (sev source code p0 p1 : Nat)
  /-- RING_PAGE_PROGRAM (R576): The open recorder page is programmed to both ring copies when full, on an urgent record, after HOLD_S, at shutdown or
  at MAINT entry. -/
  | ringPageProgram (okA okB : Bool)
  /-- URGENT_RECORD_TIMEOUT (R576): An ERROR or CRITICAL pending record has waited 10 ms and triggers a page program. -/
  | urgentRecordTimeout
  /-- RECORD_HOLD_TIMEOUT (R576): The oldest pending record has waited HOLD_S and triggers a page program. -/
  | recordHoldTimeout
  /-- RING_ROTATION (R578): The ring reaches page 32 and the 16 newest pages are copied to a new reserved index. -/
  | ringRotation (bad : List Nat)
  /-- POS_SECOND (R581): Each second with the main rails present advances POS. -/
  | posSecond
  /-- CURSOR_WRITE (R583): A write of CURSOR starts loading a fixed view of records. -/
  | cursorWrite (req : Requester) (value : W64)
  /-- VIEW_LOADED (R583): The view load ends within 20 ms and LOADING clears. -/
  | viewLoaded (v : Nat)
  /-- FREEZE (R583): A write of FREEZE_CTL.FREEZE holds rotations from discarding the viewed records. -/
  | freeze (req : Requester) (value : W32)
  /-- FREEZE_TIMEOUT (R583): A freeze outlasts MAX_S, and FREEZE clears with FREEZE_LOST set. -/
  | freezeTimeout (v : Nat)
  /-- HREC_CMD (R584): A write of HREC_CMD creates a host record. -/
  | hrecCmd (req : Requester) (value : W32)
  /-- REC_CNT_CLR (R585): REC_CLR.CNT_CLR zeroes LOST and DROPPED. -/
  | recCntClr (req : Requester)
  /-- RING_CLR (R584): A secure write of REC_CLR.RING_CLR rotates the ring empty and writes RING_CLEARED. -/
  | ringClr (req : Requester)
  /-- CAL_SET (R587): CAL_CTL.SET loads CAL_SET at the second crystal edge and sets VALID, or is ignored on a following member. -/
  | calSet (req : Requester)
  /-- CAL_ALARM (R588): SEC reaches ALARM_SEC, so ALARM is set and ALARM_EN cleared. -/
  | calAlarm
  /-- TRIM_INTERVAL (R589): Every 32 s TRIM counts are added to the sub-count. -/
  | trimInterval
  /-- CAL_SYNC_TIMER (R590): Every 1 s, and within 1 ms of a SET, the head broadcasts CAL_SYNC. -/
  | calSyncTimer
  /-- CAL_SYNC (R590): A following member steps its calendar to the head's when it differs by more than 1 ms. -/
  | calSync (h : MsgHdr) (id sec sub flags t : Nat)
  /-- TAP_RESET (R640): TRST_N low, or five TCK cycles with TMS high, resets the TAP and selects IDCODE. -/
  | tapReset
  /-- IDCODE (R641): TAP instruction IDCODE selects the identification register. -/
  | idcode
  /-- SAMPLE_PRELOAD (R654): TAP instruction SAMPLE/PRELOAD captures and preloads the boundary register. -/
  | samplePreload (cells : Nat)
  /-- EXTEST (R654): TAP instruction EXTEST drives the balls from the boundary register where allowed. -/
  | extest (cells : Option Nat)
  /-- HIGHZ (R654): TAP instruction HIGHZ places every covered ball at high impedance where allowed. -/
  | highz
  /-- BYPASS (R640): TAP instruction BYPASS selects the 1-bit bypass. -/
  | bypass (code : Nat)
  /-- CHALLENGE (R644): AUTH CHALLENGE draws a fresh nonce for debug authentication. -/
  | challenge
  /-- AUTH_READ (R644): AUTH READ returns the next word of SERIAL and the nonce. -/
  | authRead
  /-- AUTH_PUT (R644): AUTH PUT appends one word of the token. -/
  | authPut (word : W32)
  /-- SUBMIT (R644): AUTH SUBMIT hands the token to Mordant for checking. -/
  | submit
  /-- AUTH_STATUS (R644): AUTH STATUS returns BUSY, OK or FAIL. -/
  | authStatus
  /-- TOKEN_CHECKED (R644): Mordant finishes checking the token and grants the level or records a failure. -/
  | tokenChecked (ok : Bool)
  /-- LEVEL_EXPIRY (R645): POS reaches LEVEL_EXPIRY and the debug level falls to LOCKED. -/
  | levelExpiry
  /-- DBG_LOCK (R645): DBG_CTL.LOCK drops the debug level to LOCKED and resumes the halted units. -/
  | dbgLock (req : Requester)
  /-- DAP_READ (R646): DAP READ performs a debug read in a space allowed at the level. -/
  | dapRead (size64 autoinc : Bool) (space addr : Nat) (bad : Option (Nat × Nat × Bool))
  /-- DAP_WRITE (R646): DAP WRITE performs a debug write in a space allowed at the level. -/
  | dapWrite (size64 autoinc : Bool) (space addr : Nat) (data : W64)
  /-- DAP_NOP (R646): DAP NOP collects the previous access's status and data. -/
  | dapNop
  /-- CORE_HALT (R649): DCTL.HALT halts a core at the next instruction boundary, with its GROUP. -/
  | coreHalt (core : Nat)
  /-- CORE_RESUME (R648): DCTL.RESUME resumes a halted core. -/
  | coreResume (core : Nat)
  /-- CORE_STEP (R648): DCTL.STEP runs one instruction and halts again. -/
  | coreStep (core : Nat)
  /-- BREAKPOINT_HIT (R649): A core reaches an enabled breakpoint and halts before the instruction. -/
  | breakpointHit (core index : Nat)
  /-- WATCHPOINT_HIT (R649): A matching access completes and the core halts. -/
  | watchpointHit (core index : Nat)
  /-- X_HALT (R651): XCTL.HALT halts a sequencer or Madder. -/
  | xHalt (unit : Nat)
  /-- X_RESUME (R651): XCTL.RESUME resumes a sequencer or Madder. -/
  | xResume (unit : Nat)
  /-- X_STEP (R651): XCTL.STEP issues one entry or computes one tick. -/
  | xStep (unit : Nat)
  /-- X_BREAK (R651): A sequencer or Madder breakpoint halts the unit. -/
  | xBreak (unit n : Nat)
  /-- READ32 (R636): I3C READ32 reads a 32-bit register of the management window. -/
  | read32 (addr : Nat)
  /-- WRITE32 (R636): I3C WRITE32 writes a 32-bit register of the management window. -/
  | write32 (addr : Nat) (value : W32)
  /-- READ64 (R636): I3C READ64 reads a 64-bit register of the management window. -/
  | read64 (addr : Nat)
  /-- WRITE64 (R636): I3C WRITE64 writes a 64-bit register of the management window. -/
  | write64 (addr : Nat) (value : W64)
  /-- DYNAMIC_ADDRESS_ASSIGN (R634): SETDASA or ENTDAA assigns the sideband a dynamic address. -/
  | dynamicAddressAssign (addr : Nat)
  /-- IN_BAND_INTERRUPT (R638): An in-band interrupt is raised for a CRITICAL record, a throttle or a FATAL_N fall. -/
  | inBandInterrupt
  /-- IBI_ACCEPTED (R638): The controller accepts an in-band interrupt and the next pending cause is sent. -/
  | ibiAccepted
  /-- PARTNER_TERMINATION_FOUND (R400): A Filush link in DETECT finds the partner's receiver termination and moves to TRAINING. -/
  | partnerTerminationFound (n : Nat)
  /-- FLIT_CRC_FAIL (R398): A received Filush flit fails its CRC, is counted and replayed from the receiver's acknowledged sequence. -/
  | flitCrcFail (n : Nat)
  /-- MALFORMED_TLP (R396): A malformed TLP, unsupported request, unexpected completion or poisoned write from a tenant is dropped, reported by AER
  and counted in MALFORMED, possibly leading to containment. -/
  | malformedTlp (port kind : Nat) (frame : Option (Nat × Nat))
  /-- RESHAPE_CAP_UPDATE (R294): Every 100 ms the RH6400 recomputes REB.RESHAPE_CAP and RESHAPE_NEED. -/
  | reshapeCapUpdate
  /-- REPAIR_RELOCATION (R167): The bands of a REPAIR superblock, and bands queued from unprotected rows, are relocated under G14 until VALID reaches 0. -/
  | repairRelocation (n : Nat) (dsts lost : List Nat)
  /-- REF_RESTORED (R613): REFCLK edges reappear after a loss, REF_PRESENT and REF_RESTORED follow, and the return to REFCLK is armed for the next
  reset once it has been present for 1 ms. -/
  | refRestored
  /-- CCLK_SEL_WRITE (R612): A secure write of CLK_CTL.CCLK_SEL in MAINT switches CCLK glitch-free within 1 µs, and is refused otherwise. -/
  | cclkSelWrite (req : Requester) (sel : Nat)
  /-- I3C_PROTOCOL_ERROR (R639): An I3C write with an unknown CMD, wrong byte count or bad alignment, or a bus parity error, makes the next read
  return BAD_CMD and sets PROTOCOL. -/
  | i3cProtocolError
deriving DecidableEq, Repr

end Sys2Proof
end

