-- ==== Sys2Proof/Decode.lean ====
section
/-! DEFINITION. Commands that a word spells by the table's bits: the opcode table of this block gives no row any bits, so there are none.
Commands reach the block by name, with their operands. -/
namespace Sys2Proof

/-- The command that a word of `nbits` bits spells. -/
def decodeTableWord (_nbits _w : Nat) : Option Instr := none

end Sys2Proof
end

