-- ==== Sys2Proof/Config.lean ====
section
/-! DEFINITION. What the model leaves free: values the spec leaves open and the functions of published standards the
spec names without writing them out (AES modes, SHA-2, SHA-3, HMAC, KDF, ECDH, ECDSA). None has a body: a statement
holds for every choice of them. -/
namespace Sys2Proof

/-- A value the spec leaves open, by the model's counter `Dev.free`. -/
opaque Config.freeNat : Nat → Nat

/-- A byte the spec leaves open, by the model's counter. -/
opaque Config.freeByte : Nat → Byte

/-- The NV-DDR3 timing modes that a parameter page declares, by mode number and MT/s, as the ONFI standard codes them (R200). -/
opaque Config.nvModes : List Byte → List (Nat × Nat)

/-- The 464 parity bytes of the LDPC code over an information part; the parity-check matrix is fixed in hardware and exposed nowhere (R238). -/
opaque Config.ldpcParity : List Byte → List Byte

/-- AES-XTS encryption of one data unit (R451): key pair A‖B, key bits, tweak, plaintext. -/
opaque Config.xtsEncrypt : List Byte → Nat → Nat → List Byte → List Byte

/-- AES-XTS decryption (R451). -/
opaque Config.xtsDecrypt : List Byte → Nat → Nat → List Byte → List Byte

/-- Unkeyed digest of R474: algorithm code, message. -/
opaque Config.digest : Nat → List Byte → List Byte

/-- Keyed digest of R474: algorithm code, key, message. -/
opaque Config.keyedDigest : Nat → List Byte → List Byte → List Byte

/-- The counter-mode KDF of R460: key, label. -/
opaque Config.kdf : List Byte → List Byte → List Byte

/-- Opening of a key blob under R462, `none` on a tag mismatch: import secret, blob, A‖B. -/
opaque Config.openBlob : List Byte → List Byte → Option (List Byte)

/-- The seal key that each BOOT derives into slot 4,095 (R463). -/
opaque Config.sealKey : List Byte

/-- Byte of the import public key, which the device unique secret determines (R462). -/
opaque Config.importPub : Nat → Byte

/-- The device unique secret of the OTP row (R460). -/
opaque Config.uniqueSecret : List Byte

end Sys2Proof
end

