-- ==== Sys2Proof/Machine/Bits.lean ====
section
/-! DEFINITION. Bit fields of 32-bit registers, little-endian byte strings and the sorted key lists that hold sparse
state (guide: memory as a list in one canonical form). -/
namespace Sys2Proof.Machine

/-- The `n`-bit field of `w` whose lowest bit is `lo`. -/
def fld (w : W32) (lo n : Nat) : Nat := (w.toNat >>> lo) % 2 ^ n

/-- `w` with the `n`-bit field at `lo` replaced by the low `n` bits of `v`. -/
def setFld (w : W32) (lo n v : Nat) : W32 :=
  BitVec.ofNat 32 (w.toNat - ((w.toNat >>> lo) % 2 ^ n) * 2 ^ lo + (v % 2 ^ n) * 2 ^ lo)

/-- Bit `i` of a natural number. -/
def nbit (w i : Nat) : Bool := Nat.testBit w i

/-- A Bool as 0 or 1. -/
def b2n (b : Bool) : Nat := if b then 1 else 0

/-- `n` little-endian bytes of `v` (R10). -/
def leBytes : Nat → Nat → List Byte
  | 0, _ => []
  | n + 1, v => BitVec.ofNat 8 (v % 256) :: leBytes n (v / 256)

/-- The number a little-endian byte string spells (R10). -/
def leNat : List Byte → Nat
  | [] => 0
  | b :: bs => b.toNat + 256 * leNat bs

/-- `n` zero bytes. -/
def zeros (n : Nat) : List Byte := List.replicate n 0#8

/-- Value at key `k` of a sorted key list. -/
def mget {α : Type} : List (Nat × α) → Nat → Option α
  | [], _ => none
  | (j, v) :: m, k => if j = k then some v else mget m k

/-- The list with key `k` set to `v`, keys kept strictly rising. -/
def mput {α : Type} : List (Nat × α) → Nat → α → List (Nat × α)
  | [], k, v => [(k, v)]
  | (j, w) :: m, k, v =>
    if k < j then (k, v) :: (j, w) :: m
    else if k = j then (k, v) :: m
    else (j, w) :: mput m k v

/-- The list without key `k`. -/
def mdel {α : Type} : List (Nat × α) → Nat → List (Nat × α)
  | [], _ => []
  | (j, w) :: m, k => if j = k then mdel m k else (j, w) :: mdel m k

/-- Whether key `k` is present. -/
def mhas {α : Type} (m : List (Nat × α)) (k : Nat) : Bool := (mget m k).isSome

/-- The list with every value for which `f` answers `none` removed and the others replaced. -/
def mfilterMap {α : Type} (f : Nat → α → Option α) : List (Nat × α) → List (Nat × α)
  | [] => []
  | (k, v) :: m => match f k v with
    | none => mfilterMap f m
    | some w => (k, w) :: mfilterMap f m

/-- Canonical form: keys strictly rising. -/
def mwf {α : Type} : List (Nat × α) → Bool
  | [] => true
  | [_] => true
  | (j, _) :: (k, v) :: m => decide (j < k) && mwf ((k, v) :: m)

/-- Set of tags or bits as a number: set bit `i`. -/
def bitSet (m i : Nat) : Nat := m ||| (2 ^ i)

/-- Clear bit `i` of `m`. -/
def bitClr (m i : Nat) : Nat := if m.testBit i then m - 2 ^ i else m

/-- The indices below `n` of the one bits of `m`, ascending. -/
def bitList (m n : Nat) : List Nat := (List.range n).filter (fun i => m.testBit i)

/-- Replace the first element that satisfies `p` by its image. -/
def updFirst {α : Type} (p : α → Bool) (f : α → α) : List α → List α
  | [] => []
  | x :: xs => if p x then f x :: xs else x :: updFirst p f xs

/-- Round-robin choice of R39 over `n` requesters from search start `p`: the winner, if any requests. -/
def rrPick (n p : Nat) (req : Nat → Bool) : Option Nat :=
  ((List.range n).map (fun i => (p + i) % n)).find? req

end Sys2Proof.Machine
end

