-- ==== Sys2Proof/Machine/Pages.lean ====
section
/-! DEFINITION. The 52 page types of R51 with their codes, bases, instance counts and reset owners, and the
per-page capability bits of R53. Written from the tables of spec/02_register_pages.md and from the lists of
block-specific bits in the owning chapters. -/
namespace Sys2Proof.Machine

/-- The page types of R51. -/
inductive PT where
  | DEV | CLK | PWR | THM | PLP | FLT | REC | CAL | MEM | SVC | SX | BFL | OPT
  | UPD | DBG | SBD | EP | VF | QE | GATE | WC | MAP | LOG | GC | PSL | WEAR
  | STR | JNL | REB | LDP | CIP | KEY | RNG | DIG | MAD | VOL | STM | OBJ | SNP
  | ATT | FAB | CH | TP | FL | MLP | TNT | HQ | TQ | ERRW | RECW | TRCW | DDTX
deriving DecidableEq, Repr

/-- Type code (R51). -/
def PT.code : PT → Nat
  | .DEV => 0x1
  | .CLK => 0x2
  | .PWR => 0x3
  | .THM => 0x4
  | .PLP => 0x5
  | .FLT => 0x6
  | .REC => 0x7
  | .CAL => 0x8
  | .MEM => 0x9
  | .SVC => 0xa
  | .SX => 0xb
  | .BFL => 0xc
  | .OPT => 0xd
  | .UPD => 0xe
  | .DBG => 0xf
  | .SBD => 0x10
  | .EP => 0x11
  | .VF => 0x12
  | .QE => 0x13
  | .GATE => 0x14
  | .WC => 0x15
  | .MAP => 0x16
  | .LOG => 0x17
  | .GC => 0x18
  | .PSL => 0x19
  | .WEAR => 0x1a
  | .STR => 0x1b
  | .JNL => 0x1c
  | .REB => 0x1d
  | .LDP => 0x1e
  | .CIP => 0x1f
  | .KEY => 0x20
  | .RNG => 0x21
  | .DIG => 0x22
  | .MAD => 0x23
  | .VOL => 0x24
  | .STM => 0x25
  | .OBJ => 0x26
  | .SNP => 0x27
  | .ATT => 0x28
  | .FAB => 0x29
  | .CH => 0x2a
  | .TP => 0x2b
  | .FL => 0x2c
  | .MLP => 0x2d
  | .TNT => 0x2e
  | .HQ => 0x2f
  | .TQ => 0x30
  | .ERRW => 0x31
  | .RECW => 0x32
  | .TRCW => 0x33
  | .DDTX => 0x34

/-- Base offset in PF BAR0 (R51). TQ pages live in the tenant ports' own BAR0; the model gives them the
keys from 0x1_0000_0000 on, port × 64 + queue being the instance. -/
def PT.base : PT → Nat
  | .DEV => 0x10000
  | .CLK => 0x11000
  | .PWR => 0x12000
  | .THM => 0x13000
  | .PLP => 0x14000
  | .FLT => 0x15000
  | .REC => 0x16000
  | .CAL => 0x17000
  | .MEM => 0x18000
  | .SVC => 0x19000
  | .SX => 0x1a000
  | .BFL => 0x1b000
  | .OPT => 0x1c000
  | .UPD => 0x1d000
  | .DBG => 0x1e000
  | .SBD => 0x1f000
  | .EP => 0x20000
  | .VF => 0x21000
  | .QE => 0x22000
  | .GATE => 0x26000
  | .WC => 0x27000
  | .MAP => 0x28000
  | .LOG => 0x29000
  | .GC => 0x2a000
  | .PSL => 0x2b000
  | .WEAR => 0x2c000
  | .STR => 0x2d000
  | .JNL => 0x2e000
  | .REB => 0x2f000
  | .LDP => 0x30000
  | .CIP => 0x31000
  | .KEY => 0x32000
  | .RNG => 0x33000
  | .DIG => 0x34000
  | .MAD => 0x35000
  | .VOL => 0x36000
  | .STM => 0x37000
  | .OBJ => 0x38000
  | .SNP => 0x39000
  | .ATT => 0x3a000
  | .FAB => 0x3b000
  | .CH => 0x100000
  | .TP => 0x200000
  | .FL => 0x210000
  | .MLP => 0x300000
  | .TNT => 0x400000
  | .HQ => 0x800000
  | .TQ => 0x100000000
  | .ERRW => 0x1000000
  | .RECW => 0x1800000
  | .TRCW => 0x1c00000
  | .DDTX => 0x2000000

/-- Instance count (R51). -/
def PT.count : PT → Nat
  | .QE => 4
  | .CH => 128
  | .TP => 8
  | .FL => 6
  | .MLP => 16
  | .TNT => 1024
  | .HQ => 2048
  | .TQ => 512
  | _ => 1

/-- PAGE_CAP.HAS_DRAIN (R53). -/
def PT.hasDrain : PT → Bool
  | .QE => true
  | .CH => true
  | .TP => true
  | .FL => true
  | .MLP => true
  | .TNT => true
  | .HQ => true
  | .TQ => true
  | _ => false

/-- PAGE_CAP.HAS_INJ (R53). -/
def PT.hasInj : PT → Bool
  | .MEM => true
  | .SX => true
  | .JNL => true
  | .LDP => true
  | .KEY => true
  | .DIG => true
  | .MAD => true
  | .CH => true
  | _ => false

/-- PAGE_CAP.HAS_FORCE (R53). -/
def PT.hasForce : PT → Bool
  | .THM => true
  | .PLP => true
  | .SX => true
  | .KEY => true
  | .FL => true
  | _ => false

/-- PAGE_CAP.IRQ_BITS: block-specific IRQ_STS bits, as the owning chapter lists them. -/
def PT.irqBits : PT → Nat
  | .CLK => 1
  | .PWR => 2
  | .THM => 2
  | .PLP => 2
  | .FLT => 4
  | .REC => 2
  | .CAL => 2
  | .BFL => 1
  | .UPD => 4
  | .DBG => 3
  | .SBD => 1
  | .MAP => 1
  | .LOG => 1
  | .PSL => 1
  | .STR => 3
  | .REB => 3
  | .LDP => 1
  | .KEY => 2
  | .DIG => 1
  | .MAD => 4
  | .VOL => 1
  | .STM => 1
  | .OBJ => 1
  | .SNP => 1
  | .FAB => 5
  | .CH => 4
  | .TP => 3
  | .FL => 2
  | .MLP => 1
  | .TNT => 2
  | .HQ => 2
  | .TQ => 2
  | _ => 0

/-- Default class of each block-specific ERR_STS bit, bit 0 first (owning chapters). -/
def PT.errClasses : PT → List Nat
  | .CLK => [3, 3]
  | .PWR => [2, 3, 0]
  | .THM => [0, 4, 0]
  | .PLP => [0, 0]
  | .FLT => [0]
  | .REC => [0, 0]
  | .CAL => [0, 0]
  | .MEM => [0, 0, 0, 0]
  | .BFL => [0, 0, 0, 0]
  | .UPD => [0, 0]
  | .DBG => [0, 0]
  | .SBD => [0]
  | .VF => [0, 0, 0]
  | .MAP => [0, 3]
  | .STR => [0, 0, 0]
  | .REB => [0, 0]
  | .LDP => [2, 0]
  | .CIP => [2, 3]
  | .KEY => [0, 3]
  | .RNG => [0]
  | .DIG => [0, 0, 0]
  | .VOL => [0]
  | .STM => [0]
  | .OBJ => [0]
  | .FAB => [0, 0, 0, 0, 0]
  | .CH => [0, 0, 0, 0, 0, 3, 0, 2, 0]
  | .TP => [0, 0, 0, 2]
  | .FL => [0, 0, 0]
  | .MLP => [0, 0, 2]
  | .TNT => [0, 0]
  | .HQ => [0, 0, 0, 0, 0]
  | .TQ => [0, 0, 0, 0, 0, 0]
  | _ => []

/-- OWNER reset value: the Writers column of R51, and the readers. -/
def PT.ownerReset : PT → Nat
  | .DEV => 0x1f03
  | .CLK => 0x1f01
  | .PWR => 0x1f0b
  | .THM => 0x1f09
  | .PLP => 0x1f03
  | .FLT => 0x1f0b
  | .REC => 0x1f0b
  | .CAL => 0x1f0b
  | .MEM => 0x1f01
  | .SVC => 0x1f01
  | .SX => 0x101
  | .BFL => 0x101
  | .OPT => 0x1f01
  | .UPD => 0x1f0b
  | .DBG => 0x1f01
  | .SBD => 0x1f03
  | .EP => 0x1f03
  | .VF => 0x1f03
  | .QE => 0x1f09
  | .GATE => 0x1f09
  | .WC => 0x1f0b
  | .MAP => 0x1f09
  | .LOG => 0x1f09
  | .GC => 0x1f09
  | .PSL => 0x1f09
  | .WEAR => 0x1f0b
  | .STR => 0x1f09
  | .JNL => 0x1f09
  | .REB => 0x1f0b
  | .LDP => 0x1f09
  | .CIP => 0x1f01
  | .KEY => 0x101
  | .RNG => 0x101
  | .DIG => 0x101
  | .MAD => 0x1f09
  | .VOL => 0x1f0b
  | .STM => 0x1f0b
  | .OBJ => 0x1f0b
  | .SNP => 0x1f0b
  | .ATT => 0x1f0b
  | .FAB => 0x1f0b
  | .CH => 0x1f09
  | .TP => 0x1f0b
  | .FL => 0x1f09
  | .MLP => 0x1f0b
  | .TNT => 0x1f0b
  | .HQ => 0x1f0f
  | .TQ => 0x1f19
  | .ERRW => 0x1f0b
  | .RECW => 0x1f0b
  | .TRCW => 0x1f0b
  | .DDTX => 0x1f01

/-- Every page type, ascending by code. -/
def PT.all : List PT :=
  [.DEV, .CLK, .PWR, .THM, .PLP, .FLT, .REC, .CAL, .MEM, .SVC, .SX, .BFL, .OPT,
   .UPD, .DBG, .SBD, .EP, .VF, .QE, .GATE, .WC, .MAP, .LOG, .GC, .PSL, .WEAR,
   .STR, .JNL, .REB, .LDP, .CIP, .KEY, .RNG, .DIG, .MAD, .VOL, .STM, .OBJ, .SNP,
   .ATT, .FAB, .CH, .TP, .FL, .MLP, .TNT, .HQ, .TQ, .ERRW, .RECW, .TRCW, .DDTX]

/-- PF BAR0 offset of offset `off` of instance `i` of page type `p` (R43, R51). -/
def PT.addr (p : PT) (i off : Nat) : Nat := p.base + i * 0x1000 + off

/-- The model's register key: type code, instance and offset side by side, so that keys rise with R561's source order. -/
def PT.key (p : PT) (i off : Nat) : Nat := (p.code * 0x1000 + i % 0x1000) * 0x1000 + off % 0x1000

/-- The page type with a given code. -/
def PT.ofCode (c : Nat) : Option PT := if c = 0 then none else PT.all[c - 1]?

/-- Which page, instance and offset a BAR0 offset names; `none` for reserved space (R44). -/
def locate (a : Nat) : Option (PT × Nat × Nat) :=
  (PT.all.find? (fun p => decide (p.base ≤ a ∧ a < p.base + p.count * 0x1000))).map
    (fun p => (p, (a - p.base) / 0x1000, (a - p.base) % 0x1000))

end Sys2Proof.Machine
end

