-- ==== Sys2Proof/Machine/RegMap.lean ====
section
/-! DEFINITION. The register map of every page, one row per 32-bit register or register array: offset, count,
stride, reset value and the masks of its RW, W1C, W1S and WO bits. Transcribed from the register tables of the spec's
chapters (64-bit registers are two rows). Bits in no mask are RO or RsvdZ. -/
namespace Sys2Proof.Machine

/-- One register row of a page's map. -/
structure RegDesc where
  off : Nat
  count : Nat
  stride : Nat
  reset : Nat
  rw : Nat
  w1c : Nat
  w1s : Nat
  wo : Nat
deriving DecidableEq, Repr

/-- Registers of the DEV page (R33, R34). -/
def regsDEV : List RegDesc :=
  [⟨0x40, 1, 4, 0x1, 0x0, 0x0, 0x0, 0x0⟩,
   ⟨0x44, 1, 4, 0x0, 0x0, 0x0, 0x7, 0x0⟩]

/-- Registers of the VF page (R82). -/
def regsVF : List RegDesc :=
  [⟨0x40, 1, 4, 0x0, 0x0, 0x0, 0x0, 0x0⟩,
   ⟨0x44, 1, 4, 0x800, 0x0, 0x0, 0x0, 0x0⟩,
   ⟨0x100, 255, 4, 0x0, 0x8fffffff, 0x0, 0x0, 0x0⟩,
   ⟨0x500, 255, 4, 0x0, 0x1, 0x0, 0x0, 0x0⟩]

/-- Registers of the EP page (R97). -/
def regsEP : List RegDesc :=
  [⟨0x40, 1, 4, 0x0, 0x0, 0x0, 0x0, 0x0⟩,
   ⟨0x44, 1, 4, 0x6, 0xf, 0x0, 0x10, 0x0⟩,
   ⟨0x48, 1, 4, 0x0, 0x0, 0x0, 0x0, 0x0⟩,
   ⟨0x4c, 1, 4, 0x0, 0x0, 0x0, 0x0, 0x0⟩,
   ⟨0x50, 1, 4, 0x0, 0x0, 0x0, 0x0, 0x0⟩]

/-- Registers of the HQ page (R106). -/
def regsHQ : List RegDesc :=
  [⟨0x40, 1, 4, 0x0, 0x7fffff, 0x0, 0x0, 0x0⟩,
   ⟨0x44, 1, 4, 0x0, 0x0, 0x0, 0x0, 0x0⟩,
   ⟨0x48, 1, 4, 0x0, 0x0, 0x0, 0xffffffff, 0x0⟩,
   ⟨0x4c, 1, 4, 0x0, 0x0, 0xffffffff, 0x0, 0x0⟩,
   ⟨0x50, 1, 8, 0x0, 0xffffffc0, 0x0, 0x0, 0x0⟩,
   ⟨0x54, 1, 8, 0x0, 0xffffffff, 0x0, 0x0, 0x0⟩,
   ⟨0x58, 1, 4, 0x0, 0x3f, 0x0, 0x0, 0x0⟩,
   ⟨0x5c, 1, 4, 0x40, 0x0, 0x0, 0x0, 0x0⟩,
   ⟨0x60, 1, 4, 0x0, 0x0, 0x0, 0x0, 0x0⟩,
   ⟨0x64, 1, 4, 0x0, 0x0, 0x0, 0x0, 0x0⟩,
   ⟨0x68, 1, 4, 0x0, 0x0, 0x0, 0x0, 0x0⟩]

/-- Registers of the ERRW page (R141). -/
def regsERRW : List RegDesc :=
  [⟨0x40, 1, 4, 0x0, 0x3f, 0x0, 0x0, 0x0⟩,
   ⟨0x48, 1, 8, 0x0, 0x0, 0x0, 0x0, 0x0⟩,
   ⟨0x4c, 1, 8, 0x0, 0x0, 0x0, 0x0, 0x0⟩,
   ⟨0x50, 1, 4, 0x0, 0x0, 0x0, 0x0, 0x0⟩,
   ⟨0x54, 1, 4, 0x40, 0x0, 0x0, 0x0, 0x0⟩]

/-- Registers of the MAP page (R189). -/
def regsMAP : List RegDesc :=
  [⟨0x40, 1, 4, 0x0, 0x0, 0x0, 0x0, 0x0⟩,
   ⟨0x44, 1, 4, 0x0, 0x0, 0x0, 0x0, 0x0⟩,
   ⟨0x48, 1, 4, 0x0, 0x0, 0x0, 0x0, 0x0⟩,
   ⟨0x4c, 1, 4, 0x0, 0x0, 0x0, 0x0, 0x0⟩,
   ⟨0x50, 1, 4, 0x0, 0xffffff, 0x0, 0x0, 0x0⟩,
   ⟨0x54, 1, 4, 0x0, 0x0, 0x0, 0x0, 0x0⟩,
   ⟨0x58, 1, 8, 0x0, 0x0, 0x0, 0x0, 0x0⟩,
   ⟨0x5c, 1, 8, 0x0, 0x0, 0x0, 0x0, 0x0⟩,
   ⟨0x60, 1, 8, 0x0, 0x0, 0x0, 0x0, 0x0⟩,
   ⟨0x64, 1, 8, 0x0, 0x0, 0x0, 0x0, 0x0⟩,
   ⟨0x68, 1, 4, 0x100000, 0xffffff, 0x0, 0x0, 0x0⟩,
   ⟨0x6c, 1, 4, 0x0, 0x0, 0x0, 0x0, 0x0⟩]

/-- Registers of the LOG page (R190). -/
def regsLOG : List RegDesc :=
  [⟨0x40, 1, 4, 0x81000, 0x3ffffff, 0x0, 0x0, 0x0⟩,
   ⟨0x44, 1, 4, 0x7d0, 0xffff, 0x0, 0x0, 0x0⟩,
   ⟨0x48, 1, 4, 0x400000, 0x7f0001, 0x0, 0x0, 0x0⟩,
   ⟨0x4c, 1, 4, 0x0, 0x0, 0x0, 0x0, 0x0⟩,
   ⟨0x50, 1, 4, 0x0, 0x0, 0x0, 0x0, 0x0⟩,
   ⟨0x54, 1, 4, 0x0, 0x0, 0x0, 0x0, 0x0⟩,
   ⟨0x58, 1, 4, 0x0, 0x0, 0x0, 0x0, 0x0⟩,
   ⟨0x5c, 1, 4, 0x0, 0x0, 0x0, 0x0, 0x0⟩,
   ⟨0x60, 1, 8, 0x0, 0x0, 0x0, 0x0, 0x0⟩,
   ⟨0x64, 1, 8, 0x0, 0x0, 0x0, 0x0, 0x0⟩,
   ⟨0x68, 1, 8, 0x0, 0x0, 0x0, 0x0, 0x0⟩,
   ⟨0x6c, 1, 8, 0x0, 0x0, 0x0, 0x0, 0x0⟩,
   ⟨0x70, 1, 8, 0x0, 0x0, 0x0, 0x0, 0x0⟩,
   ⟨0x74, 1, 8, 0x0, 0x0, 0x0, 0x0, 0x0⟩]

/-- Registers of the GC page (R191). -/
def regsGC : List RegDesc :=
  [⟨0x40, 1, 4, 0x0, 0xfffff, 0x0, 0x0, 0x0⟩,
   ⟨0x44, 1, 4, 0x0, 0xfffff, 0x0, 0x0, 0x0⟩,
   ⟨0x48, 1, 4, 0x0, 0x0, 0x0, 0x0, 0x0⟩,
   ⟨0x4c, 1, 4, 0x0, 0x0, 0x0, 0x0, 0x0⟩,
   ⟨0x50, 1, 4, 0x0, 0x0, 0x0, 0x0, 0x0⟩,
   ⟨0x54, 1, 4, 0x0, 0x0, 0x0, 0x0, 0x0⟩,
   ⟨0x58, 1, 8, 0x0, 0x0, 0x0, 0x0, 0x0⟩,
   ⟨0x5c, 1, 8, 0x0, 0x0, 0x0, 0x0, 0x0⟩,
   ⟨0x60, 1, 4, 0x0, 0x0, 0x0, 0x0, 0x0⟩,
   ⟨0x64, 1, 4, 0x0, 0x0, 0x0, 0x0, 0x0⟩]

/-- Registers of the PSL page (R192). -/
def regsPSL : List RegDesc :=
  [⟨0x40, 1, 4, 0x1000040, 0x7ffffff, 0x0, 0x0, 0x0⟩,
   ⟨0x44, 1, 4, 0x19, 0x7f, 0x0, 0x0, 0x0⟩,
   ⟨0x48, 1, 4, 0x0, 0x0, 0x0, 0x0, 0x0⟩,
   ⟨0x4c, 1, 4, 0x0, 0x0, 0x0, 0x0, 0x0⟩,
   ⟨0x50, 1, 4, 0x0, 0x0, 0x0, 0x0, 0x0⟩,
   ⟨0x54, 1, 4, 0x0, 0x0, 0x0, 0x0, 0x0⟩,
   ⟨0x58, 1, 8, 0x0, 0x0, 0x0, 0x0, 0x0⟩,
   ⟨0x5c, 1, 8, 0x0, 0x0, 0x0, 0x0, 0x0⟩]

/-- Registers of the WEAR page (R193). -/
def regsWEAR : List RegDesc :=
  [⟨0x40, 1, 4, 0x80, 0xffff, 0x0, 0x0, 0x0⟩,
   ⟨0x44, 1, 4, 0x4b00a8, 0x7fffff, 0x0, 0x0, 0x0⟩,
   ⟨0x48, 1, 4, 0x0, 0x0, 0x0, 0x0, 0x0⟩,
   ⟨0x4c, 1, 4, 0x0, 0x0, 0x0, 0x0, 0x0⟩,
   ⟨0x50, 1, 4, 0x0, 0x0, 0x0, 0x0, 0x0⟩,
   ⟨0x54, 1, 4, 0x0, 0x0, 0x0, 0x0, 0x0⟩,
   ⟨0x58, 1, 4, 0x0, 0x0, 0x0, 0x0, 0x0⟩,
   ⟨0x5c, 1, 4, 0x0, 0x0, 0x0, 0x0, 0x0⟩,
   ⟨0x60, 1, 4, 0x0, 0x0, 0x0, 0x0, 0x0⟩,
   ⟨0x64, 1, 4, 0x0, 0x0, 0x0, 0x0, 0x0⟩,
   ⟨0x80, 32, 4, 0x0, 0x0, 0x0, 0x0, 0x0⟩]

/-- Registers of the CH page (R229). -/
def regsCH : List RegDesc :=
  [⟨0x40, 1, 4, 0x17, 0x3f, 0x0, 0x0, 0x0⟩,
   ⟨0x44, 1, 4, 0x0, 0x0, 0x0, 0x0, 0x0⟩,
   ⟨0x48, 1, 4, 0x2980258, 0x7ffffff, 0x0, 0x0, 0x0⟩,
   ⟨0x4c, 1, 4, 0x0, 0x0, 0x0, 0x0, 0x0⟩,
   ⟨0x50, 1, 4, 0x720c83e8, 0x7fffffff, 0x0, 0x0, 0x0⟩,
   ⟨0x54, 1, 4, 0x0, 0x0, 0x0, 0x0, 0x0⟩,
   ⟨0x58, 1, 4, 0x0, 0x0, 0x0, 0x0, 0x0⟩,
   ⟨0x5c, 1, 4, 0x0, 0x0, 0x0, 0x0, 0x0⟩,
   ⟨0x60, 1, 4, 0x0, 0x0, 0x0, 0x0, 0x0⟩,
   ⟨0x64, 1, 4, 0x0, 0x0, 0x0, 0x0, 0x0⟩,
   ⟨0x68, 1, 4, 0x0, 0xf, 0x0, 0x0, 0x0⟩,
   ⟨0x70, 1, 8, 0x0, 0x0, 0x0, 0x0, 0x0⟩,
   ⟨0x74, 1, 8, 0x0, 0x0, 0x0, 0x0, 0x0⟩,
   ⟨0x78, 1, 8, 0x0, 0x0, 0x0, 0x0, 0x0⟩,
   ⟨0x7c, 1, 8, 0x0, 0x0, 0x0, 0x0, 0x0⟩,
   ⟨0x100, 16, 4, 0x0, 0x0, 0x0, 0x0, 0x0⟩]

/-- Registers of the LDP page (R249). -/
def regsLDP : List RegDesc :=
  [⟨0x40, 1, 4, 0x81c2010, 0x1f1f3f3f, 0x0, 0x0, 0x0⟩,
   ⟨0x44, 1, 4, 0x40000, 0x1fff1f, 0x0, 0x0, 0x0⟩,
   ⟨0x48, 1, 4, 0x1e00100, 0x0, 0x0, 0x0, 0x0⟩,
   ⟨0x4c, 1, 4, 0x0, 0x0, 0x0, 0x0, 0x0⟩,
   ⟨0x50, 1, 8, 0x0, 0x0, 0x0, 0x0, 0x0⟩,
   ⟨0x54, 1, 8, 0x0, 0x0, 0x0, 0x0, 0x0⟩,
   ⟨0x58, 1, 8, 0x0, 0x0, 0x0, 0x0, 0x0⟩,
   ⟨0x5c, 1, 8, 0x0, 0x0, 0x0, 0x0, 0x0⟩,
   ⟨0x60, 1, 8, 0x0, 0x0, 0x0, 0x0, 0x0⟩,
   ⟨0x64, 1, 8, 0x0, 0x0, 0x0, 0x0, 0x0⟩,
   ⟨0x68, 1, 8, 0x0, 0x0, 0x0, 0x0, 0x0⟩,
   ⟨0x6c, 1, 8, 0x0, 0x0, 0x0, 0x0, 0x0⟩,
   ⟨0x70, 1, 8, 0x0, 0x0, 0x0, 0x0, 0x0⟩,
   ⟨0x74, 1, 8, 0x0, 0x0, 0x0, 0x0, 0x0⟩,
   ⟨0x78, 1, 8, 0x0, 0x0, 0x0, 0x0, 0x0⟩,
   ⟨0x7c, 1, 8, 0x0, 0x0, 0x0, 0x0, 0x0⟩,
   ⟨0x200, 128, 4, 0x0, 0xffffffff, 0x0, 0x0, 0x0⟩]

/-- Registers of the MEM page (R262); the regions with BASE, SIZE, default code and refusal of R255. -/
def regsMEM : List RegDesc :=
  [⟨0x40, 1, 4, 0xe10, 0xffff, 0x0, 0x0, 0x0⟩,
   ⟨0x44, 1, 4, 0x0, 0x0, 0x0, 0x0, 0x0⟩,
   ⟨0x48, 1, 4, 0x0, 0x0, 0x0, 0x0, 0x0⟩,
   ⟨0x4c, 1, 4, 0x0, 0x0, 0x0, 0x0, 0x0⟩,
   ⟨0x80, 1, 8, 0x9000000, 0x4000000, 0x0, 0x0, 0x0⟩,
   ⟨0x88, 1, 8, 0x8800800, 0x4000000, 0x0, 0x0, 0x0⟩,
   ⟨0x90, 1, 8, 0x9000c00, 0x4000000, 0x0, 0x0, 0x0⟩,
   ⟨0x98, 1, 8, 0x8081400, 0x4000000, 0x0, 0x0, 0x0⟩,
   ⟨0xa0, 1, 8, 0x8101440, 0x4000000, 0x0, 0x0, 0x0⟩,
   ⟨0xa8, 1, 8, 0x80214c0, 0x4000000, 0x0, 0x0, 0x0⟩,
   ⟨0xb0, 1, 8, 0x80814d0, 0x4000000, 0x0, 0x0, 0x0⟩,
   ⟨0xb8, 1, 8, 0x181510, 0x4000000, 0x0, 0x0, 0x0⟩,
   ⟨0xc0, 1, 8, 0x81215d0, 0x4000000, 0x0, 0x0, 0x0⟩,
   ⟨0xc8, 1, 8, 0x81c1660, 0x4000000, 0x0, 0x0, 0x0⟩,
   ⟨0xd0, 1, 8, 0x4101740, 0x4000000, 0x0, 0x0, 0x0⟩,
   ⟨0xd8, 1, 8, 0x40417c0, 0x4000000, 0x0, 0x0, 0x0⟩,
   ⟨0xe0, 1, 8, 0x40417e0, 0x4000000, 0x0, 0x0, 0x0⟩,
   ⟨0xe8, 3, 8, 0x0, 0x4000000, 0x0, 0x0, 0x0⟩,
   ⟨0x84, 16, 8, 0x0, 0x0, 0x0, 0x0, 0x0⟩]

/-- Registers of the STR page (R298). -/
def regsSTR : List RegDesc :=
  [⟨0x40, 1, 4, 0x3c, 0xffff, 0x0, 0x0, 0x0⟩,
   ⟨0x44, 1, 4, 0x0, 0x0, 0x0, 0x0, 0x0⟩,
   ⟨0x48, 1, 4, 0x0, 0x0, 0x0, 0x0, 0x0⟩,
   ⟨0x4c, 1, 4, 0x0, 0x7f, 0x0, 0x0, 0x0⟩,
   ⟨0x50, 1, 4, 0x0, 0x0, 0x0, 0x0, 0x0⟩,
   ⟨0x54, 1, 4, 0x0, 0x0, 0x0, 0x0, 0x0⟩,
   ⟨0x58, 1, 8, 0x0, 0x0, 0x0, 0x0, 0x0⟩,
   ⟨0x5c, 1, 8, 0x0, 0x0, 0x0, 0x0, 0x0⟩,
   ⟨0x60, 9, 4, 0x0, 0x0, 0x0, 0x0, 0x0⟩]

/-- Registers of the JNL page (R299). -/
def regsJNL : List RegDesc :=
  [⟨0x40, 1, 4, 0x20, 0x3f, 0x0, 0x0, 0x0⟩,
   ⟨0x44, 1, 4, 0x0, 0x0, 0x0, 0x0, 0x0⟩,
   ⟨0x48, 1, 8, 0x0, 0x0, 0x0, 0x0, 0x0⟩,
   ⟨0x4c, 1, 8, 0x0, 0x0, 0x0, 0x0, 0x0⟩,
   ⟨0x50, 1, 8, 0x0, 0x0, 0x0, 0x0, 0x0⟩,
   ⟨0x54, 1, 8, 0x0, 0x0, 0x0, 0x0, 0x0⟩,
   ⟨0x58, 1, 4, 0x0, 0x0, 0x0, 0x0, 0x0⟩,
   ⟨0x80, 1, 4, 0x0, 0x0, 0x0, 0x0, 0x0⟩,
   ⟨0x84, 1, 4, 0x0, 0x0, 0x0, 0x0, 0x0⟩,
   ⟨0x88, 1, 8, 0x0, 0x0, 0x0, 0x0, 0x0⟩,
   ⟨0x8c, 1, 8, 0x0, 0x0, 0x0, 0x0, 0x0⟩,
   ⟨0x90, 1, 4, 0x0, 0x0, 0x0, 0x0, 0x0⟩]

/-- Registers of the REB page (R300). -/
def regsREB : List RegDesc :=
  [⟨0x40, 1, 4, 0x0, 0x6, 0x0, 0x1, 0x0⟩,
   ⟨0x44, 1, 4, 0x0, 0x0, 0x0, 0x0, 0x0⟩,
   ⟨0x48, 1, 4, 0x0, 0x0, 0x0, 0x0, 0x0⟩,
   ⟨0x4c, 1, 4, 0x0, 0x0, 0x0, 0x0, 0x0⟩,
   ⟨0x50, 1, 8, 0x0, 0x0, 0x0, 0x0, 0x0⟩,
   ⟨0x54, 1, 8, 0x0, 0x0, 0x0, 0x0, 0x0⟩,
   ⟨0x58, 1, 4, 0x0, 0x0, 0x0, 0x0, 0x0⟩]

/-- Registers of the PLP page (R327). -/
def regsPLP : List RegDesc :=
  [⟨0x40, 1, 4, 0x80, 0xff, 0x0, 0x0, 0x0⟩,
   ⟨0x44, 1, 4, 0x0, 0x0, 0x0, 0x0, 0x0⟩,
   ⟨0x48, 1, 4, 0x0, 0x0, 0x0, 0x0, 0x0⟩,
   ⟨0x4c, 1, 4, 0x0, 0x0, 0x0, 0x0, 0x0⟩,
   ⟨0x50, 1, 4, 0x0, 0x0, 0x0, 0x0, 0x0⟩,
   ⟨0x54, 1, 4, 0x0, 0x0, 0x0, 0x0, 0x0⟩,
   ⟨0x58, 1, 8, 0x0, 0x0, 0x0, 0x0, 0x0⟩,
   ⟨0x5c, 1, 8, 0x0, 0x0, 0x0, 0x0, 0x0⟩,
   ⟨0x60, 1, 4, 0x0, 0x0, 0x0, 0x0, 0x0⟩,
   ⟨0x64, 1, 4, 0x0, 0x0, 0x0, 0x0, 0x0⟩,
   ⟨0x68, 1, 4, 0x0, 0x0, 0x0, 0x0, 0x0⟩,
   ⟨0x6c, 1, 4, 0x0, 0x1f, 0x0, 0x0, 0x0⟩]

/-- Registers of the VOL page (R333). -/
def regsVOL : List RegDesc :=
  [⟨0x40, 1, 4, 0x0, 0xffff, 0x0, 0x0, 0x0⟩,
   ⟨0x44, 1, 4, 0x0, 0x0, 0x0, 0x0, 0xf⟩,
   ⟨0x48, 1, 4, 0x0, 0x0, 0x0, 0x0, 0x0⟩,
   ⟨0x4c, 1, 4, 0x0, 0x0, 0x0, 0x0, 0x0⟩,
   ⟨0x50, 1, 4, 0x0, 0x0, 0x0, 0x0, 0x0⟩,
   ⟨0x54, 1, 4, 0x1000000, 0x0, 0x0, 0x0, 0x0⟩,
   ⟨0x60, 8, 4, 0x0, 0xffffffff, 0x0, 0x0, 0x0⟩]

/-- Registers of the SNP page (R364). -/
def regsSNP : List RegDesc :=
  [⟨0x40, 1, 4, 0x400000, 0x0, 0x0, 0x0, 0x0⟩,
   ⟨0x44, 1, 4, 0x0, 0x0, 0x0, 0x0, 0x0⟩,
   ⟨0x48, 1, 4, 0x0, 0x0, 0x0, 0x0, 0x0⟩,
   ⟨0x4c, 1, 4, 0x0, 0x0, 0x0, 0x0, 0x0⟩,
   ⟨0x50, 1, 4, 0x0, 0x0, 0x0, 0x0, 0x0⟩,
   ⟨0x54, 1, 4, 0x0, 0x0, 0x0, 0x0, 0x0⟩]

/-- Registers of the ATT page (R367). -/
def regsATT : List RegDesc :=
  [⟨0x40, 1, 4, 0x0, 0x0, 0x0, 0x0, 0x0⟩,
   ⟨0x44, 1, 4, 0x0, 0x0, 0x0, 0x0, 0x0⟩,
   ⟨0x48, 1, 4, 0x0, 0x0, 0x0, 0x0, 0x0⟩,
   ⟨0x4c, 1, 4, 0x0, 0x0, 0x0, 0x0, 0x0⟩]

/-- Registers of the TNT page (R386). -/
def regsTNT : List RegDesc :=
  [⟨0x40, 4, 4, 0x0, 0x80003fff, 0x0, 0x0, 0x0⟩,
   ⟨0x50, 1, 4, 0x0, 0x7ffffff, 0x0, 0x0, 0x0⟩,
   ⟨0x54, 1, 4, 0x0, 0x0, 0x0, 0x0, 0x0⟩,
   ⟨0x58, 1, 4, 0x1000000, 0x1ffffff, 0x0, 0x0, 0x0⟩,
   ⟨0x5c, 1, 4, 0x0, 0x0, 0x0, 0x0, 0x0⟩,
   ⟨0x60, 1, 4, 0xa00, 0xfff, 0x0, 0x0, 0x0⟩,
   ⟨0x64, 1, 4, 0x0, 0x0, 0x0, 0x0, 0x0⟩,
   ⟨0x68, 1, 4, 0x0, 0x0, 0x0, 0x0, 0x0⟩,
   ⟨0x6c, 1, 4, 0x0, 0x0, 0x0, 0x0, 0x0⟩,
   ⟨0x70, 1, 4, 0x0, 0x73ffff, 0x0, 0x0, 0x0⟩,
   ⟨0x74, 1, 4, 0x0, 0x0, 0x0, 0x0, 0x3⟩,
   ⟨0x78, 1, 4, 0x0, 0x0, 0x0, 0x0, 0x0⟩]

/-- Registers of the TP page (R397). -/
def regsTP : List RegDesc :=
  [⟨0x40, 1, 4, 0x0, 0x800003ff, 0x0, 0x0, 0x0⟩,
   ⟨0x44, 1, 4, 0x0, 0x0, 0x0, 0x0, 0x0⟩,
   ⟨0x48, 1, 4, 0x6, 0xf, 0x0, 0x10, 0x0⟩,
   ⟨0x4c, 1, 4, 0x0, 0x0, 0x0, 0x0, 0x0⟩,
   ⟨0x50, 1, 4, 0x4, 0x1f, 0x0, 0x0, 0x0⟩,
   ⟨0x54, 1, 4, 0x0, 0x0, 0x0, 0x0, 0x0⟩,
   ⟨0x58, 1, 8, 0x0, 0xffffffff, 0x0, 0x0, 0x0⟩,
   ⟨0x5c, 1, 8, 0x0, 0xffffffff, 0x0, 0x0, 0x0⟩,
   ⟨0x60, 1, 4, 0x400, 0xffff, 0x0, 0x0, 0x0⟩,
   ⟨0x64, 1, 4, 0x0, 0x0, 0x0, 0x0, 0x0⟩,
   ⟨0x68, 1, 4, 0x0, 0x0, 0x0, 0x0, 0x0⟩,
   ⟨0x6c, 1, 4, 0x0, 0x0, 0x0, 0x0, 0x0⟩,
   ⟨0x70, 1, 4, 0x0, 0x0, 0x0, 0x0, 0x0⟩]

/-- Registers of the FL page (R446). -/
def regsFL : List RegDesc :=
  [⟨0x40, 1, 4, 0x4002, 0xff02, 0x0, 0x1, 0x0⟩,
   ⟨0x44, 1, 4, 0x0, 0x0, 0x0, 0x0, 0x0⟩,
   ⟨0x48, 1, 4, 0x0, 0x0, 0x0, 0x0, 0x0⟩,
   ⟨0x4c, 1, 4, 0x0, 0x0, 0x0, 0x0, 0x0⟩,
   ⟨0x50, 1, 4, 0x0, 0x0, 0x0, 0x0, 0x0⟩,
   ⟨0x54, 1, 4, 0x0, 0x0, 0x0, 0x0, 0x0⟩,
   ⟨0x58, 1, 4, 0x0, 0x0, 0x0, 0x0, 0x0⟩,
   ⟨0x60, 1, 8, 0x0, 0x0, 0x0, 0x0, 0x0⟩,
   ⟨0x64, 1, 8, 0x0, 0x0, 0x0, 0x0, 0x0⟩]

/-- Registers of the FAB page (R447). -/
def regsFAB : List RegDesc :=
  [⟨0x40, 1, 4, 0x0, 0x0, 0x0, 0x0, 0x0⟩,
   ⟨0x44, 1, 4, 0x0, 0x0, 0x0, 0x0, 0x0⟩,
   ⟨0x48, 1, 4, 0x0, 0x0, 0x0, 0x0, 0x0⟩,
   ⟨0x4c, 1, 4, 0x0, 0x0, 0x0, 0x0, 0x0⟩,
   ⟨0x50, 1, 4, 0x0, 0x3f00, 0x0, 0x7, 0x0⟩,
   ⟨0x54, 1, 4, 0x27100064, 0xffffffff, 0x0, 0x0, 0x0⟩,
   ⟨0x58, 1, 8, 0x0, 0x0, 0x0, 0x0, 0x0⟩,
   ⟨0x5c, 1, 8, 0x0, 0x0, 0x0, 0x0, 0x0⟩,
   ⟨0x60, 1, 8, 0x0, 0xffffffff, 0x0, 0x0, 0x0⟩,
   ⟨0x64, 1, 8, 0x0, 0xffffffff, 0x0, 0x0, 0x0⟩,
   ⟨0x68, 1, 8, 0x0, 0x0, 0x0, 0x0, 0x0⟩,
   ⟨0x6c, 1, 8, 0x0, 0x0, 0x0, 0x0, 0x0⟩,
   ⟨0x70, 1, 4, 0x0, 0x0, 0x0, 0x0, 0x0⟩,
   ⟨0x74, 1, 4, 0x0, 0x0, 0x0, 0x0, 0x3⟩,
   ⟨0x78, 1, 4, 0x0, 0x0, 0x0, 0x0, 0x0⟩,
   ⟨0x7c, 1, 4, 0x0, 0x0, 0x0, 0x0, 0x0⟩,
   ⟨0x80, 1, 4, 0x0, 0x0, 0x0, 0x0, 0x0⟩,
   ⟨0x84, 1, 4, 0x0, 0x0, 0x0, 0x0, 0x0⟩,
   ⟨0x88, 1, 4, 0x0, 0x2fffff, 0x0, 0x100000, 0x0⟩,
   ⟨0x8c, 1, 4, 0x0, 0x0, 0x0, 0x0, 0x0⟩,
   ⟨0x90, 1, 4, 0x0, 0x0, 0x0, 0x0, 0x0⟩]

/-- Registers of the CIP page (R471). -/
def regsCIP : List RegDesc :=
  [⟨0x40, 1, 4, 0x13, 0x17, 0x0, 0x0, 0x0⟩,
   ⟨0x44, 1, 4, 0x0, 0x0, 0x0, 0x0, 0x0⟩,
   ⟨0x48, 1, 8, 0x0, 0x0, 0x0, 0x0, 0x0⟩,
   ⟨0x4c, 1, 8, 0x0, 0x0, 0x0, 0x0, 0x0⟩,
   ⟨0x50, 1, 4, 0x0, 0x0, 0x0, 0x0, 0x0⟩,
   ⟨0x54, 1, 4, 0x0, 0x0, 0x0, 0x0, 0x0⟩]

/-- Registers of the KEY page (R472). -/
def regsKEY : List RegDesc :=
  [⟨0x40, 1, 4, 0x0, 0xfff, 0x0, 0x0, 0x0⟩,
   ⟨0x44, 1, 4, 0x0, 0x0, 0x0, 0x0, 0xf⟩,
   ⟨0x48, 1, 4, 0x0, 0x7, 0x0, 0x0, 0x0⟩,
   ⟨0x4c, 1, 4, 0x0, 0x0, 0x0, 0x0, 0x0⟩,
   ⟨0x50, 1, 4, 0x0, 0x0, 0x0, 0x0, 0x0⟩,
   ⟨0x54, 1, 4, 0x0, 0x0, 0x0, 0x0, 0x0⟩,
   ⟨0x58, 1, 8, 0x0, 0xffffffc0, 0x0, 0x0, 0x0⟩,
   ⟨0x5c, 1, 8, 0x0, 0xffffffff, 0x0, 0x0, 0x0⟩,
   ⟨0x60, 1, 8, 0x0, 0x0, 0x0, 0x0, 0x0⟩,
   ⟨0x64, 1, 8, 0x0, 0x0, 0x0, 0x0, 0x0⟩,
   ⟨0x80, 16, 4, 0x0, 0x0, 0x0, 0x0, 0xffffffff⟩]

/-- Registers of the RNG page (R473). -/
def regsRNG : List RegDesc :=
  [⟨0x40, 1, 4, 0x3e8, 0xffff, 0x0, 0x0, 0x0⟩,
   ⟨0x44, 1, 4, 0x0, 0x0, 0x0, 0x0, 0x0⟩,
   ⟨0x48, 1, 4, 0x0, 0x0, 0x0, 0x0, 0x0⟩,
   ⟨0x4c, 1, 4, 0x0, 0x0, 0x0, 0x0, 0x0⟩,
   ⟨0x50, 1, 4, 0x0, 0x0, 0x0, 0x0, 0x0⟩]

/-- Registers of the DIG page (R486). -/
def regsDIG : List RegDesc :=
  [⟨0x40, 1, 4, 0x100, 0x1ff, 0x0, 0x0, 0x0⟩,
   ⟨0x44, 1, 4, 0x0, 0x0, 0x0, 0x0, 0x0⟩,
   ⟨0x48, 1, 4, 0x0, 0x0, 0x0, 0x0, 0x0⟩,
   ⟨0x4c, 1, 4, 0x0, 0x0, 0x0, 0x0, 0x7fffff7⟩,
   ⟨0x50, 1, 4, 0x0, 0x0, 0x0, 0x0, 0x0⟩,
   ⟨0x58, 1, 8, 0x0, 0xffffffff, 0x0, 0x0, 0x0⟩,
   ⟨0x5c, 1, 8, 0x0, 0xffffffff, 0x0, 0x0, 0x0⟩,
   ⟨0x60, 1, 4, 0x0, 0x1ffffff, 0x0, 0x0, 0x0⟩,
   ⟨0x68, 1, 8, 0x0, 0x0, 0x0, 0x0, 0x0⟩,
   ⟨0x6c, 1, 8, 0x0, 0x0, 0x0, 0x0, 0x0⟩,
   ⟨0x70, 1, 4, 0x0, 0x0, 0x0, 0x0, 0x0⟩,
   ⟨0x74, 1, 4, 0x0, 0x0, 0x0, 0x0, 0x0⟩,
   ⟨0x80, 16, 4, 0x0, 0x0, 0x0, 0x0, 0x0⟩]

/-- Registers of the MLP page (R503). -/
def regsMLP : List RegDesc :=
  [⟨0x40, 1, 4, 0x3e80000, 0x3ff3fff, 0x0, 0x0, 0x0⟩,
   ⟨0x44, 1, 4, 0x0, 0xffffffff, 0x0, 0x0, 0x0⟩,
   ⟨0x48, 1, 4, 0x0, 0x7fff, 0x0, 0x0, 0x0⟩,
   ⟨0x4c, 1, 4, 0x0, 0x1ffff, 0x0, 0x0, 0x0⟩,
   ⟨0x50, 1, 4, 0x1ffff, 0x1ffff, 0x0, 0x0, 0x0⟩,
   ⟨0x54, 1, 4, 0x0, 0x1ffff, 0x0, 0x0, 0x0⟩,
   ⟨0x58, 1, 4, 0x0, 0xffffffff, 0x0, 0x0, 0x0⟩,
   ⟨0x5c, 1, 4, 0x0, 0xffffffff, 0x0, 0x0, 0x0⟩,
   ⟨0x60, 1, 4, 0x0, 0xffffffff, 0x0, 0x0, 0x0⟩,
   ⟨0x64, 1, 4, 0x1ffff, 0xffffffff, 0x0, 0x0, 0x0⟩,
   ⟨0x68, 1, 4, 0x0, 0x0, 0x0, 0x5, 0x0⟩,
   ⟨0x6c, 1, 4, 0x0, 0xffffffff, 0x0, 0x0, 0x0⟩,
   ⟨0x70, 1, 4, 0x0, 0x0, 0x0, 0x0, 0x0⟩,
   ⟨0x74, 1, 4, 0x0, 0x0, 0x0, 0x0, 0x0⟩,
   ⟨0x78, 1, 8, 0x0, 0x0, 0x0, 0x0, 0x0⟩,
   ⟨0x7c, 1, 8, 0x0, 0x0, 0x0, 0x0, 0x0⟩,
   ⟨0x80, 1, 4, 0x0, 0x0, 0x0, 0x0, 0x0⟩,
   ⟨0x84, 1, 4, 0x0, 0x0, 0x0, 0x0, 0x0⟩,
   ⟨0x100, 20, 4, 0x0, 0xffffffff, 0x0, 0x0, 0x0⟩,
   ⟨0x180, 8, 8, 0x0, 0x0, 0x0, 0x0, 0x0⟩,
   ⟨0x184, 8, 8, 0x0, 0x0, 0x0, 0x0, 0x0⟩]

/-- Registers of the MAD page (R504). -/
def regsMAD : List RegDesc :=
  [⟨0x40, 1, 4, 0x0, 0x0, 0x0, 0x0, 0x0⟩,
   ⟨0x44, 1, 4, 0x10000, 0x0, 0x0, 0x0, 0x0⟩,
   ⟨0x80, 4, 16, 0x0, 0xfff7ff7f, 0x0, 0x0, 0x0⟩,
   ⟨0x84, 4, 16, 0x0, 0xffffffff, 0x0, 0x0, 0x0⟩,
   ⟨0x88, 4, 16, 0x0, 0x0, 0x0, 0x7, 0x0⟩,
   ⟨0x8c, 4, 16, 0x0, 0x0, 0x0, 0x0, 0x0⟩,
   ⟨0xc0, 4, 4, 0x0, 0x0, 0x0, 0x0, 0x0⟩]

/-- Registers of the SX page (R527). -/
def regsSX : List RegDesc :=
  [⟨0x40, 1, 4, 0x0, 0x0, 0x0, 0x0, 0x0⟩,
   ⟨0x44, 1, 4, 0x0, 0x0, 0x0, 0x0, 0x0⟩,
   ⟨0x48, 1, 4, 0x0, 0x0, 0x0, 0x0, 0x0⟩,
   ⟨0x4c, 1, 4, 0x0, 0x0, 0x0, 0x0, 0x0⟩]

/-- Registers of the BFL page (R528). -/
def regsBFL : List RegDesc :=
  [⟨0x40, 1, 4, 0x7f, 0x7f, 0x0, 0x0, 0x0⟩,
   ⟨0x44, 1, 4, 0x0, 0x0, 0x0, 0x0, 0x0⟩,
   ⟨0x48, 1, 4, 0x0, 0x0, 0x0, 0x0, 0x0⟩,
   ⟨0x4c, 1, 4, 0x0, 0x0, 0x0, 0x0, 0x0⟩,
   ⟨0x50, 1, 4, 0x0, 0x0, 0x0, 0x0, 0x0⟩,
   ⟨0x54, 1, 4, 0x0, 0x0, 0x0, 0x0, 0x0⟩]

/-- Registers of the OPT page (R529). -/
def regsOPT : List RegDesc :=
  [⟨0x40, 1, 4, 0x0, 0x0, 0x0, 0x0, 0x0⟩,
   ⟨0x44, 1, 4, 0x0, 0x0, 0x0, 0x0, 0x0⟩,
   ⟨0x48, 1, 4, 0x0, 0x0, 0x0, 0x0, 0x0⟩,
   ⟨0x4c, 1, 4, 0x0, 0x0, 0x0, 0x0, 0x0⟩,
   ⟨0x50, 1, 4, 0x0, 0x0, 0x0, 0x0, 0x0⟩]

/-- Registers of the UPD page (R551). -/
def regsUPD : List RegDesc :=
  [⟨0x40, 1, 4, 0x3c, 0xff, 0x0, 0x0, 0x0⟩,
   ⟨0x44, 1, 4, 0x0, 0x0, 0x0, 0x0, 0x0⟩,
   ⟨0x48, 1, 8, 0x0, 0x0, 0x0, 0x0, 0x0⟩,
   ⟨0x4c, 1, 8, 0x0, 0x0, 0x0, 0x0, 0x0⟩,
   ⟨0x50, 1, 4, 0x0, 0x0, 0x0, 0x0, 0x0⟩,
   ⟨0x54, 1, 4, 0x0, 0x0, 0x0, 0x0, 0x0⟩,
   ⟨0x58, 1, 8, 0x0, 0x0, 0x0, 0x0, 0x0⟩,
   ⟨0x5c, 1, 8, 0x0, 0x0, 0x0, 0x0, 0x0⟩,
   ⟨0x60, 1, 4, 0x0, 0xffffff0f, 0x0, 0x0, 0x0⟩,
   ⟨0x64, 1, 4, 0x0, 0x0, 0x0, 0x0, 0x0⟩,
   ⟨0x68, 1, 8, 0x0, 0x0, 0x0, 0x0, 0x0⟩,
   ⟨0x6c, 1, 8, 0x0, 0x0, 0x0, 0x0, 0x0⟩,
   ⟨0x400, 256, 4, 0x0, 0xffffffff, 0x0, 0x0, 0x0⟩]

/-- Registers of the THM page (R568). -/
def regsTHM : List RegDesc :=
  [⟨0x40, 4, 4, 0x0, 0x0, 0x0, 0x0, 0x0⟩,
   ⟨0x50, 1, 4, 0x28308, 0xfffff, 0x0, 0x0, 0x0⟩,
   ⟨0x54, 1, 4, 0x348, 0xfff, 0x0, 0x0, 0x0⟩,
   ⟨0x58, 1, 4, 0x0, 0x0, 0x0, 0x0, 0x0⟩,
   ⟨0x5c, 1, 4, 0x0, 0x0, 0x0, 0x0, 0x0⟩]

/-- Registers of the FLT page (R571). -/
def regsFLT : List RegDesc :=
  [⟨0x40, 1, 4, 0x2583, 0xfffff, 0x0, 0x0, 0x0⟩,
   ⟨0x44, 1, 4, 0x0, 0x0, 0x0, 0x0, 0x0⟩,
   ⟨0x48, 1, 4, 0x0, 0x0, 0x0, 0x7, 0x0⟩,
   ⟨0x4c, 1, 4, 0x3e803e8, 0xffffffff, 0x0, 0x0, 0x0⟩,
   ⟨0x50, 1, 4, 0x0, 0x0, 0x0, 0xffffffff, 0x0⟩,
   ⟨0x54, 1, 4, 0x0, 0x0, 0x0, 0x1, 0x0⟩,
   ⟨0x58, 1, 4, 0x0, 0x0, 0x0, 0x0, 0x0⟩,
   ⟨0x5c, 1, 4, 0x0, 0x0, 0x0, 0x0, 0x0⟩,
   ⟨0x60, 5, 4, 0x0, 0x0, 0x0, 0x0, 0x0⟩,
   ⟨0x80, 4, 4, 0x0, 0x0, 0x0, 0x0, 0x0⟩,
   ⟨0x90, 1, 4, 0x0, 0x1f, 0x0, 0x0, 0x0⟩,
   ⟨0x94, 1, 4, 0xe0000000, 0xffffffff, 0x0, 0x0, 0x0⟩,
   ⟨0x100, 64, 4, 0x0, 0x0, 0x0, 0x0, 0x0⟩]

/-- Registers of the RECW page (R582). -/
def regsRECW : List RegDesc :=
  [⟨0x40, 1, 4, 0x0, 0x3f, 0x0, 0x0, 0x0⟩,
   ⟨0x44, 1, 4, 0x0, 0x0, 0x0, 0x0, 0x0⟩,
   ⟨0x48, 1, 8, 0x0, 0xffffffff, 0x0, 0x0, 0x0⟩,
   ⟨0x4c, 1, 8, 0x0, 0xffffffff, 0x0, 0x0, 0x0⟩,
   ⟨0x50, 1, 8, 0x0, 0x0, 0x0, 0x0, 0x0⟩,
   ⟨0x54, 1, 8, 0x0, 0x0, 0x0, 0x0, 0x0⟩,
   ⟨0x58, 1, 8, 0x0, 0x0, 0x0, 0x0, 0x0⟩,
   ⟨0x5c, 1, 8, 0x0, 0x0, 0x0, 0x0, 0x0⟩,
   ⟨0x60, 1, 4, 0x0, 0xff0001, 0x0, 0x0, 0x0⟩]

/-- Registers of the REC page (R585). -/
def regsREC : List RegDesc :=
  [⟨0x40, 1, 4, 0xa3c01, 0xffff07, 0x0, 0x0, 0x0⟩,
   ⟨0x44, 1, 4, 0x0, 0x0, 0x0, 0x0, 0x0⟩,
   ⟨0x48, 1, 8, 0x0, 0x0, 0x0, 0x0, 0x0⟩,
   ⟨0x4c, 1, 8, 0x0, 0x0, 0x0, 0x0, 0x0⟩,
   ⟨0x50, 1, 8, 0x0, 0x0, 0x0, 0x0, 0x0⟩,
   ⟨0x54, 1, 8, 0x0, 0x0, 0x0, 0x0, 0x0⟩,
   ⟨0x58, 1, 4, 0x0, 0x0, 0x0, 0x0, 0x0⟩,
   ⟨0x5c, 1, 4, 0x0, 0x0, 0x0, 0x0, 0x0⟩,
   ⟨0x60, 1, 4, 0x0, 0x0, 0x0, 0x0, 0x0⟩,
   ⟨0x64, 1, 4, 0x0, 0x0, 0x0, 0x0, 0x0⟩,
   ⟨0x68, 1, 4, 0x0, 0x0, 0x0, 0x3, 0x0⟩,
   ⟨0x70, 1, 4, 0x0, 0xffffffff, 0x0, 0x0, 0x0⟩,
   ⟨0x74, 1, 4, 0x0, 0xffffffff, 0x0, 0x0, 0x0⟩,
   ⟨0x78, 1, 4, 0x0, 0x0, 0x0, 0x0, 0x7ffff⟩]

/-- Registers of the CAL page (R591). -/
def regsCAL : List RegDesc :=
  [⟨0x40, 1, 8, 0x0, 0x0, 0x0, 0x0, 0x0⟩,
   ⟨0x44, 1, 8, 0x0, 0x0, 0x0, 0x0, 0x0⟩,
   ⟨0x48, 1, 8, 0x0, 0xffff7fff, 0x0, 0x0, 0x0⟩,
   ⟨0x4c, 1, 8, 0x0, 0xffff, 0x0, 0x0, 0x0⟩,
   ⟨0x50, 1, 4, 0x0, 0x2, 0x0, 0x1, 0x0⟩,
   ⟨0x54, 1, 4, 0x0, 0xffffffff, 0x0, 0x0, 0x0⟩,
   ⟨0x58, 1, 4, 0x0, 0xff, 0x0, 0x0, 0x0⟩,
   ⟨0x5c, 1, 4, 0x2, 0x0, 0x0, 0x0, 0x0⟩,
   ⟨0x60, 1, 4, 0x0, 0x0, 0x0, 0x0, 0x0⟩]

/-- Registers of the PWR page (R606). -/
def regsPWR : List RegDesc :=
  [⟨0x40, 1, 4, 0x2710, 0xffffff, 0x0, 0x0, 0x0⟩,
   ⟨0x44, 1, 4, 0x3e8003c, 0xffffffff, 0x0, 0x0, 0x0⟩,
   ⟨0x48, 1, 4, 0x8, 0x7f, 0x0, 0x0, 0x0⟩,
   ⟨0x4c, 1, 4, 0x0, 0x0, 0x0, 0x0, 0x0⟩,
   ⟨0x50, 1, 4, 0x0, 0x0, 0x0, 0x0, 0x0⟩,
   ⟨0x54, 1, 4, 0x0, 0x0, 0x0, 0x0, 0x0⟩,
   ⟨0x58, 1, 4, 0x0, 0x0, 0x0, 0x0, 0x0⟩,
   ⟨0x5c, 1, 4, 0x0, 0x0, 0x0, 0x0, 0x0⟩,
   ⟨0xc0, 16, 4, 0x1, 0x1, 0x0, 0x0, 0x0⟩,
   ⟨0x400, 64, 16, 0x0, 0x83ffffff, 0x0, 0x0, 0x0⟩,
   ⟨0x404, 64, 16, 0x0, 0x3ffff, 0x0, 0x0, 0x0⟩,
   ⟨0x408, 64, 16, 0x0, 0x3fffffff, 0x0, 0x0, 0x0⟩,
   ⟨0x40c, 64, 16, 0x0, 0xfff, 0x0, 0x0, 0x0⟩]

/-- Registers of the CLK page (R619). -/
def regsCLK : List RegDesc :=
  [⟨0x40, 1, 4, 0x0, 0x3, 0x0, 0x0, 0x0⟩,
   ⟨0x44, 1, 4, 0x1, 0x0, 0x0, 0x0, 0x0⟩,
   ⟨0x48, 1, 4, 0x0, 0x0, 0x0, 0x0, 0x0⟩,
   ⟨0x4c, 1, 4, 0x0, 0x0, 0x0, 0x0, 0x0⟩,
   ⟨0x50, 1, 4, 0x0, 0x0, 0x0, 0x0, 0x0⟩,
   ⟨0x54, 1, 4, 0x0, 0x0, 0x0, 0x0, 0x0⟩]

/-- Registers of the SBD page (R639). -/
def regsSBD : List RegDesc :=
  [⟨0x40, 1, 4, 0x0, 0x1, 0x0, 0x0, 0x0⟩,
   ⟨0x44, 1, 4, 0x0, 0x0, 0x0, 0x0, 0x0⟩,
   ⟨0x48, 1, 4, 0x0, 0x0, 0x0, 0x0, 0x0⟩,
   ⟨0x4c, 1, 4, 0x0, 0x0, 0x0, 0x0, 0x0⟩]

/-- Registers of the DBG page (R655). -/
def regsDBG : List RegDesc :=
  [⟨0x40, 1, 4, 0x0, 0x0, 0x0, 0x0, 0x0⟩,
   ⟨0x44, 1, 4, 0x0, 0x0, 0x0, 0x1, 0x0⟩,
   ⟨0x48, 1, 4, 0x0, 0x0, 0x0, 0x0, 0x0⟩,
   ⟨0x4c, 1, 4, 0x0, 0x0, 0x0, 0x0, 0x0⟩,
   ⟨0x50, 1, 4, 0x0, 0x0, 0x0, 0x0, 0x0⟩,
   ⟨0x54, 1, 4, 0x0, 0x0, 0x0, 0x0, 0x0⟩]

/-- Registers of the TRCW page (R73). -/
def regsTRCW : List RegDesc :=
  [⟨0x40, 1, 4, 0x0, 0x3f, 0x0, 0x0, 0x0⟩]

/-- Registers of the DDTX page (R73). -/
def regsDDTX : List RegDesc :=
  [⟨0x40, 1, 4, 0x0, 0x3f, 0x0, 0x0, 0x0⟩]

/-- The common registers of R53 that hold a stored value on every page. PAGE_ID, PAGE_CAP and PAGE_STS are computed;
PAGE_CTL stores LOCK alone (EN is the page state of R63); OWNER's reset is per page (R51). -/
def regsCommon : List RegDesc :=
  [⟨0x008, 1, 4, 0, 0, 0, 0x8, 0⟩, ⟨0x010, 1, 4, 0, 0, 0xffffffff, 0, 0⟩, ⟨0x014, 1, 4, 0, 0xffffffff, 0, 0, 0⟩,
   ⟨0x018, 1, 4, 0, 0, 0xffffffff, 0, 0⟩, ⟨0x01c, 1, 4, 0x7fffffff, 0x7fffffff, 0, 0, 0⟩,
   ⟨0x020, 1, 4, 0, 0xffffff, 0x2000000, 0x1000000, 0⟩, ⟨0x024, 1, 4, 0, 0xff, 0, 0, 0⟩,
   ⟨0x028, 1, 4, 0, 0x1e1e, 0, 0, 0⟩, ⟨0x02c, 1, 4, 0, 0, 0, 0, 0⟩]

/-- The block registers of a page type. -/
def PT.regs : PT → List RegDesc
  | .DEV => regsDEV
  | .CLK => regsCLK
  | .PWR => regsPWR
  | .THM => regsTHM
  | .PLP => regsPLP
  | .FLT => regsFLT
  | .REC => regsREC
  | .CAL => regsCAL
  | .MEM => regsMEM
  | .SX => regsSX
  | .BFL => regsBFL
  | .OPT => regsOPT
  | .UPD => regsUPD
  | .DBG => regsDBG
  | .SBD => regsSBD
  | .EP => regsEP
  | .VF => regsVF
  | .MAP => regsMAP
  | .LOG => regsLOG
  | .GC => regsGC
  | .PSL => regsPSL
  | .WEAR => regsWEAR
  | .STR => regsSTR
  | .JNL => regsJNL
  | .REB => regsREB
  | .LDP => regsLDP
  | .CIP => regsCIP
  | .KEY => regsKEY
  | .RNG => regsRNG
  | .DIG => regsDIG
  | .MAD => regsMAD
  | .VOL => regsVOL
  | .STM => regsVOL
  | .OBJ => regsVOL
  | .SNP => regsSNP
  | .ATT => regsATT
  | .FAB => regsFAB
  | .CH => regsCH
  | .TP => regsTP
  | .FL => regsFL
  | .MLP => regsMLP
  | .TNT => regsTNT
  | .HQ => regsHQ
  | .TQ => regsHQ
  | .ERRW => regsERRW
  | .RECW => regsRECW
  | .TRCW => regsTRCW
  | .DDTX => regsDDTX
  | _ => []

/-- The row that describes offset `off` of page type `p`, if any. -/
def PT.desc (p : PT) (off : Nat) : Option RegDesc :=
  (if off < 0x40 then regsCommon else p.regs).find? (fun r =>
    decide (r.off ≤ off ∧ off < r.off + r.count * r.stride ∧ (off - r.off) % r.stride = 0))

/-- Reset value of a register: the map's, OWNER's per page (R51), zero in reserved space (R44). -/
def resetOf (p : PT) (off : Nat) : W32 :=
  if off = 0x028 then BitVec.ofNat 32 p.ownerReset
  else match p.desc off with
    | none => 0#32
    | some r => BitVec.ofNat 32 r.reset

end Sys2Proof.Machine
end

