-- ==== Sys2Proof/Machine/Reg.lean ====
section
/-! DEFINITION. Register offsets by name, `Reg.<page>_<register>`, from the register tables of the spec. The VOL names
serve the STM and OBJ pages and the HQ names serve the TQ pages, which share their maps. -/
namespace Sys2Proof.Machine.Reg

abbrev PAGE_ID : Nat := 0x0
abbrev PAGE_CAP : Nat := 0x4
abbrev PAGE_CTL : Nat := 0x8
abbrev PAGE_STS : Nat := 0xc
abbrev IRQ_STS : Nat := 0x10
abbrev IRQ_EN : Nat := 0x14
abbrev ERR_STS : Nat := 0x18
abbrev ERR_ACT : Nat := 0x1c
abbrev INJ_CTL : Nat := 0x20
abbrev FORCE : Nat := 0x24
abbrev OWNER : Nat := 0x28
abbrev PAGE_SEQ : Nat := 0x2c
abbrev DEV_MODE : Nat := 0x40
abbrev DEV_MODE_CTL : Nat := 0x44
abbrev VF_VF_CTL : Nat := 0x40
abbrev VF_QUEUES_FREE : Nat := 0x44
abbrev VF_BIND : Nat := 0x100
abbrev VF_STATE : Nat := 0x500
abbrev EP_LINK_STS : Nat := 0x40
abbrev EP_LINK_CTL : Nat := 0x44
abbrev EP_FN_STS : Nat := 0x48
abbrev EP_FEC_CORR : Nat := 0x4c
abbrev EP_REPLAY : Nat := 0x50
abbrev HQ_Q_CFG : Nat := 0x40
abbrev HQ_Q_STS : Nat := 0x44
abbrev HQ_DOORBELL : Nat := 0x48
abbrev HQ_CPL_MAP : Nat := 0x4c
abbrev HQ_CQ_BASE : Nat := 0x50
abbrev HQ_CQ_HEAD : Nat := 0x58
abbrev HQ_CQ_TAIL : Nat := 0x5c
abbrev HQ_FREEZE : Nat := 0x60
abbrev HQ_DONE_CNT : Nat := 0x64
abbrev HQ_ERR_CNT : Nat := 0x68
abbrev ERRW_MEMBER_SEL : Nat := 0x40
abbrev ERRW_NEWEST_SEQ : Nat := 0x48
abbrev ERRW_CAPACITY : Nat := 0x50
abbrev ERRW_ENTRY_SIZE : Nat := 0x54
abbrev MAP_CAP_BANDS : Nat := 0x40
abbrev MAP_MAPPED : Nat := 0x44
abbrev MAP_HELD : Nat := 0x48
abbrev MAP_FAST : Nat := 0x4c
abbrev MAP_PROBE_BAND : Nat := 0x50
abbrev MAP_EPOCH : Nat := 0x54
abbrev MAP_PROBE_ENTRY : Nat := 0x58
abbrev MAP_DELTA_SEQ : Nat := 0x60
abbrev MAP_CKPT_CFG : Nat := 0x68
abbrev MAP_CKPT_STS : Nat := 0x6c
abbrev LOG_LOG_CFG : Nat := 0x40
abbrev LOG_LOG_TIME : Nat := 0x44
abbrev LOG_LOG_MODE : Nat := 0x48
abbrev LOG_LOG_STS : Nat := 0x4c
abbrev LOG_DIRECT_STS : Nat := 0x50
abbrev LOG_SWITCH_CNT : Nat := 0x54
abbrev LOG_PARTIAL_CNT : Nat := 0x58
abbrev LOG_FULL_CNT : Nat := 0x5c
abbrev LOG_HOST_SECT : Nat := 0x60
abbrev LOG_PAD_SECT : Nat := 0x68
abbrev LOG_MERGE_SECT : Nat := 0x70
abbrev GC_GC_CFG : Nat := 0x40
abbrev GC_GC_HIGH : Nat := 0x44
abbrev GC_FREE_SB : Nat := 0x48
abbrev GC_PRESSURE : Nat := 0x4c
abbrev GC_VICTIM : Nat := 0x50
abbrev GC_RECLAIMED : Nat := 0x54
abbrev GC_RELOCATED : Nat := 0x58
abbrev GC_EFF : Nat := 0x60
abbrev GC_EFF_HIGH : Nat := 0x64
abbrev PSL_PSL_CFG : Nat := 0x40
abbrev PSL_PSL_DIRECT : Nat := 0x44
abbrev PSL_TARGET_SB : Nat := 0x48
abbrev PSL_CUR_SB : Nat := 0x4c
abbrev PSL_RSV_SB : Nat := 0x50
abbrev PSL_FAST_FREE : Nat := 0x54
abbrev PSL_FOLDED : Nat := 0x58
abbrev WEAR_WEAR_CFG : Nat := 0x40
abbrev WEAR_PATROL_CFG : Nat := 0x44
abbrev WEAR_ERASE_MAX : Nat := 0x48
abbrev WEAR_ERASE_MIN : Nat := 0x4c
abbrev WEAR_ERASE_MEAN : Nat := 0x50
abbrev WEAR_RATED : Nat := 0x54
abbrev WEAR_SPARE_MIN : Nat := 0x58
abbrev WEAR_RO_CAUSE : Nat := 0x5c
abbrev WEAR_REFRESHED : Nat := 0x60
abbrev WEAR_FINDINGS : Nat := 0x64
abbrev WEAR_HIST_0 : Nat := 0x80
abbrev CH_CH_CFG : Nat := 0x40
abbrev CH_CH_STS : Nat := 0x44
abbrev CH_PHY_CFG : Nat := 0x48
abbrev CH_PHY_STS : Nat := 0x4c
abbrev CH_SUSP_CFG : Nat := 0x50
abbrev CH_TIMEOUT_CNT : Nat := 0x54
abbrev CH_PGM_FAIL_CNT : Nat := 0x58
abbrev CH_ERS_FAIL_CNT : Nat := 0x5c
abbrev CH_SUSP_CNT : Nat := 0x60
abbrev CH_LANE_STS : Nat := 0x64
abbrev CH_TRAIN_SEL : Nat := 0x68
abbrev CH_TRAIN_RD : Nat := 0x70
abbrev CH_TRAIN_WR : Nat := 0x78
abbrev CH_DIE_0 : Nat := 0x100
abbrev LDP_LDP_CFG : Nat := 0x40
abbrev LDP_RETRY_CFG : Nat := 0x44
abbrev LDP_LIMITS : Nat := 0x48
abbrev LDP_POOL_STS : Nat := 0x4c
abbrev LDP_CW_DECODED : Nat := 0x50
abbrev LDP_SOFT_USED : Nat := 0x58
abbrev LDP_RETRY_USED : Nat := 0x60
abbrev LDP_UNCORR : Nat := 0x68
abbrev LDP_MISCORRECT : Nat := 0x70
abbrev LDP_MISDIRECT : Nat := 0x78
abbrev LDP_RETRY_0 : Nat := 0x200
abbrev MEM_MEM_CFG : Nat := 0x40
abbrev MEM_MEM_STS : Nat := 0x44
abbrev MEM_LAST_ADDR : Nat := 0x48
abbrev MEM_LAST_INFO : Nat := 0x4c
abbrev MEM_REGION0 : Nat := 0x80
abbrev STR_STR_CFG : Nat := 0x40
abbrev STR_STR_STS : Nat := 0x44
abbrev STR_ROWS : Nat := 0x48
abbrev STR_GROUP_SEL : Nat := 0x4c
abbrev STR_GROUP_INFO : Nat := 0x50
abbrev STR_GROUP_VALID : Nat := 0x54
abbrev STR_LOST_SECT : Nat := 0x58
abbrev STR_GROUP_DIE_0 : Nat := 0x60
abbrev JNL_JNL_CFG : Nat := 0x40
abbrev JNL_JNL_STS : Nat := 0x44
abbrev JNL_JSEQ : Nat := 0x48
abbrev JNL_PAGES : Nat := 0x50
abbrev JNL_REPLAY : Nat := 0x58
abbrev REB_REB_CTL : Nat := 0x40
abbrev REB_REB_STS : Nat := 0x44
abbrev REB_BANDS_LEFT : Nat := 0x48
abbrev REB_RESHAPE_CAP : Nat := 0x4c
abbrev REB_MOVED : Nat := 0x50
abbrev REB_RESHAPE_NEED : Nat := 0x58
abbrev PLP_PLP_CFG : Nat := 0x40
abbrev PLP_PLP_STS : Nat := 0x44
abbrev PLP_FLUSH_US : Nat := 0x48
abbrev PLP_HOLDUP_US : Nat := 0x4c
abbrev PLP_HOLDUP_MW : Nat := 0x50
abbrev PLP_PAGES : Nat := 0x54
abbrev PLP_FLUSH_SEQ : Nat := 0x58
abbrev PLP_LAST_FLUSH : Nat := 0x60
abbrev PLP_LAST_START : Nat := 0x64
abbrev PLP_CUT_SECT : Nat := 0x68
abbrev PLP_TEST : Nat := 0x6c
abbrev JNL_LEDGER_STS : Nat := 0x80
abbrev JNL_HALF_ERASED : Nat := 0x84
abbrev JNL_ERASE_CNT : Nat := 0x88
abbrev JNL_LAST_INTENT : Nat := 0x90
abbrev VOL_SEL : Nat := 0x40
abbrev VOL_CMD : Nat := 0x44
abbrev VOL_STS : Nat := 0x48
abbrev VOL_COUNT : Nat := 0x4c
abbrev VOL_LIMIT : Nat := 0x50
abbrev VOL_FREE_RANGE : Nat := 0x54
abbrev VOL_REC_0 : Nat := 0x60
abbrev SNP_DELTA_MAX : Nat := 0x40
abbrev SNP_DELTA_USED : Nat := 0x44
abbrev SNP_DELTA_RSV : Nat := 0x48
abbrev SNP_SNAP_LIVE : Nat := 0x4c
abbrev SNP_HOLD_US : Nat := 0x50
abbrev SNP_HOLD_VOL : Nat := 0x54
abbrev ATT_ATTESTS : Nat := 0x40
abbrev ATT_EQUAL : Nat := 0x44
abbrev ATT_NOT_EQUAL : Nat := 0x48
abbrev ATT_FAILED : Nat := 0x4c
abbrev TNT_KEY_0 : Nat := 0x40
abbrev TNT_CEIL : Nat := 0x50
abbrev TNT_EFF_RATE : Nat := 0x54
abbrev TNT_QUOTA : Nat := 0x58
abbrev TNT_USED : Nat := 0x5c
abbrev TNT_Q_ALLOW : Nat := 0x60
abbrev TNT_Q_USED : Nat := 0x64
abbrev TNT_BOUND : Nat := 0x68
abbrev TNT_GRANTS : Nat := 0x6c
abbrev TNT_GRANT_ARG : Nat := 0x70
abbrev TNT_GRANT_CMD : Nat := 0x74
abbrev TNT_GRANT_STS : Nat := 0x78
abbrev TP_TP_BIND : Nat := 0x40
abbrev TP_LINK_STS : Nat := 0x44
abbrev TP_LINK_CTL : Nat := 0x48
abbrev TP_FN_STS : Nat := 0x4c
abbrev TP_PUSH_CFG : Nat := 0x50
abbrev TP_PUSH_STS : Nat := 0x54
abbrev TP_PUSH_QMASK : Nat := 0x58
abbrev TP_MAL_CFG : Nat := 0x60
abbrev TP_MALFORMED : Nat := 0x64
abbrev TP_PORT_RESETS : Nat := 0x68
abbrev TP_FEC_CORR : Nat := 0x6c
abbrev TP_REPLAY : Nat := 0x70
abbrev FL_FL_CFG : Nat := 0x40
abbrev FL_FL_STS : Nat := 0x44
abbrev FL_PEER : Nat := 0x48
abbrev FL_CRC_ERR : Nat := 0x4c
abbrev FL_REPLAY : Nat := 0x50
abbrev FL_DOWN_CNT : Nat := 0x54
abbrev FL_RTT : Nat := 0x58
abbrev FL_PEER_SERIAL : Nat := 0x60
abbrev FAB_FAB_CFG : Nat := 0x40
abbrev FAB_FAB_POS : Nat := 0x44
abbrev FAB_FAB_STS : Nat := 0x48
abbrev FAB_EPOCH : Nat := 0x4c
abbrev FAB_FAB_CTL : Nat := 0x50
abbrev FAB_FAB_TIMING : Nat := 0x54
abbrev FAB_REACH : Nat := 0x58
abbrev FAB_VOL_SET : Nat := 0x60
abbrev FAB_TIME : Nat := 0x68
abbrev FAB_TIME_STS : Nat := 0x70
abbrev FAB_OP_CMD : Nat := 0x74
abbrev FAB_OP_STS : Nat := 0x78
abbrev FAB_OP_TIME : Nat := 0x7c
abbrev FAB_RESYNC : Nat := 0x80
abbrev FAB_INTENT : Nat := 0x84
abbrev FAB_RSHP_CTL : Nat := 0x88
abbrev FAB_RSHP_STS : Nat := 0x8c
abbrev FAB_RSHP_CURSOR : Nat := 0x90
abbrev CIP_CIP_CTL : Nat := 0x40
abbrev CIP_CIP_STS : Nat := 0x44
abbrev CIP_JOBS : Nat := 0x48
abbrev CIP_WAITING : Nat := 0x50
abbrev CIP_ALARM_STS : Nat := 0x54
abbrev KEY_KEY_SEL : Nat := 0x40
abbrev KEY_KEY_CMD : Nat := 0x44
abbrev KEY_KEY_ATTR : Nat := 0x48
abbrev KEY_KEY_STS : Nat := 0x4c
abbrev KEY_COUNTER : Nat := 0x50
abbrev KEY_SLOTS : Nat := 0x54
abbrev KEY_BLOB_ADDR : Nat := 0x58
abbrev KEY_KEY_ID : Nat := 0x60
abbrev KEY_KEY_DATA_0 : Nat := 0x80
abbrev RNG_RNG_CFG : Nat := 0x40
abbrev RNG_RNG_STS : Nat := 0x44
abbrev RNG_RCT_FAIL : Nat := 0x48
abbrev RNG_APT_FAIL : Nat := 0x4c
abbrev RNG_RESEEDS : Nat := 0x50
abbrev DIG_DIG_CFG : Nat := 0x40
abbrev DIG_CTX_STS : Nat := 0x44
abbrev DIG_CACHE_STS : Nat := 0x48
abbrev DIG_SEC_CMD : Nat := 0x4c
abbrev DIG_SEC_STS : Nat := 0x50
abbrev DIG_SEC_ADDR : Nat := 0x58
abbrev DIG_SEC_LEN : Nat := 0x60
abbrev DIG_BLOCKS : Nat := 0x68
abbrev DIG_COMPOSED : Nat := 0x70
abbrev DIG_FILLS : Nat := 0x74
abbrev DIG_OUT_0 : Nat := 0x80
abbrev MLP_LOOP_CFG : Nat := 0x40
abbrev MLP_SETPOINT : Nat := 0x44
abbrev MLP_GATES : Nat := 0x48
abbrev MLP_OUT_MIN : Nat := 0x4c
abbrev MLP_OUT_MAX : Nat := 0x50
abbrev MLP_SLEW : Nat := 0x54
abbrev MLP_KP : Nat := 0x58
abbrev MLP_KI : Nat := 0x5c
abbrev MLP_I_LO : Nat := 0x60
abbrev MLP_I_HI : Nat := 0x64
abbrev MLP_LOOP_CTL : Nat := 0x68
abbrev MLP_HOST_IN : Nat := 0x6c
abbrev MLP_OUT : Nat := 0x70
abbrev MLP_INPUT_VAL : Nat := 0x74
abbrev MLP_I_VAL : Nat := 0x78
abbrev MLP_SAMPLES : Nat := 0x80
abbrev MLP_LOOP_STS : Nat := 0x84
abbrev MLP_COEF : Nat := 0x100
abbrev MLP_STATE : Nat := 0x180
abbrev MAD_MAD_STS : Nat := 0x40
abbrev MAD_SCALE : Nat := 0x44
abbrev MAD_TRC_CFG : Nat := 0x80
abbrev MAD_TRC_THRESH : Nat := 0x84
abbrev MAD_TRC_CTL : Nat := 0x88
abbrev MAD_TRC_STS : Nat := 0x8c
abbrev MAD_TRC_TIME : Nat := 0xc0
abbrev SX_BOOT_STS : Nat := 0x40
abbrev SX_MORDANT_VER : Nat := 0x44
abbrev SX_SVN : Nat := 0x48
abbrev SX_BOOT_TIME : Nat := 0x4c
abbrev BFL_BFL_CFG : Nat := 0x40
abbrev BFL_BFL_STS : Nat := 0x44
abbrev BFL_LAST_ADDR : Nat := 0x48
abbrev BFL_PROG_CNT : Nat := 0x4c
abbrev BFL_ERASE_CNT : Nat := 0x50
abbrev BFL_OTP_STS : Nat := 0x54
abbrev OPT_OPT_STS : Nat := 0x40
abbrev OPT_OPT_FAB : Nat := 0x44
abbrev OPT_OPT_DEV : Nat := 0x48
abbrev OPT_OPT_ID : Nat := 0x4c
abbrev OPT_OPT_MISC : Nat := 0x50
abbrev UPD_UPD_CFG : Nat := 0x40
abbrev UPD_UPD_STS : Nat := 0x44
abbrev UPD_PKG_ID : Nat := 0x48
abbrev UPD_BLOCKS : Nat := 0x50
abbrev UPD_FAB_PROG : Nat := 0x54
abbrev UPD_SET : Nat := 0x58
abbrev UPD_REQ : Nat := 0x60
abbrev UPD_REQ_STS : Nat := 0x64
abbrev UPD_T_ACT : Nat := 0x68
abbrev UPD_MBOX_0 : Nat := 0x400
abbrev THM_TEMP_0 : Nat := 0x40
abbrev THM_THM_CFG : Nat := 0x50
abbrev THM_CRIT_CFG : Nat := 0x54
abbrev THM_THM_STS : Nat := 0x58
abbrev THM_MAX_TEMP : Nat := 0x5c
abbrev FLT_FLT_CFG : Nat := 0x40
abbrev FLT_FLT_STS : Nat := 0x44
abbrev FLT_FLT_CLR : Nat := 0x48
abbrev FLT_WDOG_CFG : Nat := 0x4c
abbrev FLT_WDOG_KICK : Nat := 0x50
abbrev FLT_SX_KICK : Nat := 0x54
abbrev FLT_WDOG_STS : Nat := 0x58
abbrev FLT_RAIL_STS : Nat := 0x5c
abbrev FLT_CNT_C0 : Nat := 0x60
abbrev FLT_FIRST_0 : Nat := 0x80
abbrev FLT_OVR_SEL : Nat := 0x90
abbrev FLT_OVR : Nat := 0x94
abbrev FLT_HIST_0 : Nat := 0x100
abbrev RECW_MEMBER_SEL : Nat := 0x40
abbrev RECW_VIEW_STS : Nat := 0x44
abbrev RECW_CURSOR : Nat := 0x48
abbrev RECW_VIEW_BASE : Nat := 0x50
abbrev RECW_VIEW_TOP : Nat := 0x58
abbrev RECW_FREEZE_CTL : Nat := 0x60
abbrev REC_REC_CFG : Nat := 0x40
abbrev REC_REC_STS : Nat := 0x44
abbrev REC_NEWEST_SEQ : Nat := 0x48
abbrev REC_OLDEST_SEQ : Nat := 0x50
abbrev REC_LOST : Nat := 0x58
abbrev REC_DROPPED : Nat := 0x5c
abbrev REC_POS : Nat := 0x60
abbrev REC_PCC : Nat := 0x64
abbrev REC_REC_CLR : Nat := 0x68
abbrev REC_HREC_P0 : Nat := 0x70
abbrev REC_HREC_P1 : Nat := 0x74
abbrev REC_HREC_CMD : Nat := 0x78
abbrev CAL_CAL_NOW : Nat := 0x40
abbrev CAL_CAL_SET : Nat := 0x48
abbrev CAL_CAL_CTL : Nat := 0x50
abbrev CAL_ALARM_SEC : Nat := 0x54
abbrev CAL_TRIM : Nat := 0x58
abbrev CAL_CAL_STS : Nat := 0x5c
abbrev CAL_LAST_STEP_US : Nat := 0x60
abbrev PWR_IDLE_CFG : Nat := 0x40
abbrev PWR_PATROL_CFG : Nat := 0x44
abbrev PWR_SENT_CFG : Nat := 0x48
abbrev PWR_PWR_STS : Nat := 0x4c
abbrev PWR_WAKE_STS : Nat := 0x50
abbrev PWR_IDLE_CNT : Nat := 0x54
abbrev PWR_PATROL_CNT : Nat := 0x58
abbrev PWR_FINDINGS : Nat := 0x5c
abbrev PWR_DOM_0 : Nat := 0xc0
abbrev PWR_SENT_0 : Nat := 0x400
abbrev CLK_CLK_CTL : Nat := 0x40
abbrev CLK_CLK_STS : Nat := 0x44
abbrev CLK_RST_CAUSE : Nat := 0x48
abbrev CLK_WARM_CNT : Nat := 0x4c
abbrev CLK_STRAP_STS : Nat := 0x50
abbrev CLK_UNLOCK_CNT : Nat := 0x54
abbrev SBD_SBD_CFG : Nat := 0x40
abbrev SBD_SBD_STS : Nat := 0x44
abbrev SBD_CMD_CNT : Nat := 0x48
abbrev SBD_ERR_CNT : Nat := 0x4c
abbrev DBG_DBG_STS : Nat := 0x40
abbrev DBG_DBG_CTL : Nat := 0x44
abbrev DBG_LEVEL_EXPIRY : Nat := 0x48
abbrev DBG_AUTH_CNT : Nat := 0x4c
abbrev DBG_AUTH_FAILS : Nat := 0x50
abbrev DBG_HALTED : Nat := 0x54

end Sys2Proof.Machine.Reg
end

