-- ==== Sys2Proof/Machine/CoreParts.lean ====
section
/-! DEFINITION. Parts of the state that the architecture, page, host endpoint, queue, fault, recorder, calendar, power
and clock chapters give the device (spec/01 to 04, 18 to 21). Plain data only. -/
namespace Sys2Proof.Machine

/-- Enable machine of R63: a page with HAS_DRAIN, a VF enable, a power domain or the forerunner queue. -/
inductive PageSt where
  | off
  | starting
  | serving
  | draining (pend srst : Bool)
  | faulted (pend : Bool)
deriving DecidableEq, Repr

/-- What Glaze is doing: not released, running or being restarted by a C3 (R508, R555). -/
inductive GlazeSt where
  | stopped | running | restarting
deriving DecidableEq, Repr

/-- Progress of a low-power entry (R594, R599). -/
inductive EntrySt where
  | none | quiescing | patrolEntering
deriving DecidableEq, Repr

/-- Mode, conditions, pins and time of the device (R26 to R34, R302, R611 to R617). -/
structure Life where
  mode : Mode
  seq : Nat
  fatal : Bool
  shutDone : Bool
  shutting : Bool
  maintReq : Bool
  booted : Bool
  /-- Replay has run since the last DEVICE reset (R324). -/
  replayed : Bool
  /-- A wake source that came in and has not been taken (R27, R595, R596). -/
  wakeReq : Option WakeCause
  /-- Mordant runs (step 4 of R511 complete). -/
  mordant : Bool
  /-- Time of the last BOOT entry, from which the microsecond counter and SX.BOOT_TIME count (R493). -/
  bootUs : Nat
  glaze : GlazeSt
  usUp : Nat
  strapHead : Bool
  strapTest : Bool
  rstN : Bool
  perstN : Bool
  pfailN : Bool
  pgood : Bool
  rails : Bool
  refclk : Bool
  /-- Time at which REFCLK edges last reappeared (R613). -/
  refUs : Nat
  pllLocked : Bool
  pllInternal : Bool
  flushPendingLock : Bool
  entry : EntrySt
  /-- Time since which the idle condition of R594 holds. -/
  idleSince : Option Nat
  /-- Time of the last IDLE entry, where the patrol timer starts (R599). -/
  idleAt : Nat
  c3Times : List Nat
deriving DecidableEq, Repr

/-- PCIe state of one function: BME, MSE, D-state with the queues that D3hot drained, FLR or, of a tenant port, port reset in progress
(R376), MSI-X enables, the PBA and the words of the MSI-X table that are not zero (R86 to R94), and the configuration words that differ from reset
by offset, the LTR word also where it was written zero (R77, R78, R95, R372). -/
structure FnSt where
  bme : Bool
  mse : Bool
  d3 : Bool
  slept : List Nat
  flr : Bool
  resetting : Bool
  fmask : Bool
  unmasked : List Nat
  pba : List Nat
  msixOff : Bool
  msix : List (Nat × W32)
  cfg : List (Nat × W32)
deriving DecidableEq, Repr

/-- Binding and enable of one VF (R82 to R85): the enable machine, and STATE_n.EN as last written. -/
structure VfSt where
  tint : Nat
  qcount : Nat
  qbase : Nat
  valid : Bool
  st : PageSt
  want : Bool
deriving DecidableEq, Repr

/-- A command entry (R116), copied from its slot at admission (R112). `rsv` says that a bit marked zero was set; bit 8 of `flags`, the
model's own, marks a forerunner slot (R103). -/
structure Cmd where
  opcode : Nat
  flags : Nat
  rsv : Bool
  target : Nat
  addr : Nat
  count : Nat
  appTag : Nat
  appMask : Nat
  dataAddr : Nat
  piAddr : Nat
  refTag : Nat
  arg0 : Nat
  arg1 : Nat
deriving DecidableEq, Repr

/-- Where a command in flight stands (R112 to R134): granted and not yet checked (`run`), at its gate, waiting for its descriptor
list, for its sectors, for its data, at installation under a snapshot hold or for free cache lines, installed and waiting for
earlier reservations, for its read data to be written, for other members of the fabric. -/
inductive Stage where
  | run | gate | list | media | data | held | lines | installed | xfer | fab
deriving DecidableEq, Repr

/-- Where the escalation of R244 stands for one codeword: the step to be tried next (1 to 5), the retry index reached, the
index of step 3 with the fewest unsatisfied checks and their number, whether the last failure at step 1 was a MISDIRECT
(R247), whether the codeword reads as erased (R675), LDP_CFG and RETRY_CFG when step 1 began (R249). -/
structure Esc where
  step : Nat
  idx : Nat
  best : Nat
  bestUnsat : Nat
  misdirect : Bool
  erased : Bool
  cfg : W32
  retry : W32
deriving DecidableEq, Repr

/-- What is known of one sector of a command: found with its stored PI, reading as zeros without stored data (R676), still to be decoded at a media
address, asked of other members of the fabric, held as the map's word for its band is lost (R185), or failed with a status and DETAIL (R127, R128). -/
inductive SecSt where
  | got (data : List Byte) (guard app ref : Nat)
  | zeros
  | media (key : Nat) (esc : Esc)
  | far
  | held
  | failed (status detail expected actual : Nat)
deriving DecidableEq, Repr

/-- One sector of a command: its index, its LBA or other record position, and what is known of it. -/
structure SecJob where
  idx : Nat
  key : Nat
  st : SecSt
deriving DecidableEq, Repr

/-- An object of a namespace (R349 to R356): name, generation, bytes, sectors, creation time, extent (band, first sector,
extent ID), its directory sector. -/
structure Obj where
  name : List Byte
  gen : Nat
  len : Nat
  sects : Nat
  created : Nat
  band : Nat
  start : Nat
  extent : Nat
  dir : Nat
deriving DecidableEq, Repr

/-- A command in flight (R36): queue, tag, entry, engine, tint, stage; gate, charge and sectors moved (R22, R393); sectors of a
read, data of a write with its PI; bytes read by DMA from ARG1 (name or expected digest); object named; bands reserved (R181);
what it has reserved or where it stands (stream offset, relocate cursor, snapshot, list); RESULT; place among those that wait at
installation; descriptor list. -/
structure Flight where
  q : Nat
  tag : Nat
  cmd : Cmd
  qe : Nat
  tint : Nat
  stage : Stage
  gate : Nat
  charge : Nat
  moved : Nat
  jobs : List SecJob
  staged : List SectorIn
  name : List Byte
  obj : Option Obj
  bands : List Nat
  resv : Nat
  result : Nat
  order : Nat
  descs : List Desc
deriving DecidableEq, Repr

/-- An error-log entry: the common header of R142 and the words of its KIND. -/
structure LogEntry where
  seq : Nat
  kind : Nat
  status : Nat
  origin : Nat
  originNum : Nat
  queue : Nat
  tag : Nat
  opcode : Nat
  w10 : Nat
  w14 : Nat
  w18 : Nat
  w1c : Nat
  d20 : Nat
  d28 : Nat
  d30 : Nat
  time : Nat
deriving DecidableEq, Repr

/-- The error log of one view: newest SEQ and the entries held, newest first (R140). -/
structure LogView where
  newest : Nat
  entries : List LogEntry
deriving DecidableEq, Repr

/-- A recorder record (R572). `atUs` is the arrival time that the fold window of R574 compares. -/
structure Rec where
  sev : Nat
  flags : Nat
  source : Nat
  code : Nat
  rep : Nat
  seq : Nat
  pos : Nat
  pcc : Nat
  cal : Nat
  p0 : Nat
  p1 : Nat
  atUs : Nat
deriving DecidableEq, Repr

/-- A recorder view: CURSOR as written, its staging of one window, its freeze with the time it began (R583). -/
structure RecView where
  cursor : Nat
  base : Nat
  top : Nat
  loading : Bool
  recs : List Rec
  freeze : Bool
  maxS : Nat
  freezeUs : Nat
  lost : Bool
deriving DecidableEq, Repr

/-- Event recorder: next SEQ, pending records oldest first, the newest 256 records oldest first, the stored ring
pages oldest first, the next ring page, and the views of PF (0), I3C (1) and head (2) (R573 to R583). -/
structure Recorder where
  next : Nat
  pending : List Rec
  recent : List Rec
  ring : List (List Rec)
  nextPage : Nat
  rotating : Bool
  /-- A page program is due (R576); the rotation asked for copies nothing (R584). -/
  due : Bool
  clearing : Bool
  lost : Nat
  dropped : Nat
  views : List (Nat × RecView)
deriving DecidableEq, Repr

/-- Backup domain: calendar, POS and PCC (R581, R586). `frac` is what has passed of the next sub-count, in millionths. -/
structure Backup where
  sec : Nat
  sub : Nat
  valid : Bool
  vbatLost : Bool
  frac : Nat
  pos : Nat
  pcc : Nat
  lostAtPower : Bool
  /-- An alarm whose IRQ waits for the next wake (R588). -/
  alarmWaits : Bool
deriving DecidableEq, Repr

/-- A signed token bucket: level in 1/512 token (one unit of 8 MB/s refills
1/512 token each µs, R495) and the commands that wait, oldest first (R24, R393). -/
structure Bucket where
  level : Int
  rate : Nat
  waiters : List (Nat × Nat)
deriving DecidableEq, Repr

/-- A power domain of R592: its R63 state and its stage ready signals, 0 (none) to 4 (LOGIC_OK) (R593). -/
structure Domn where
  st : PageSt
  stage : Nat
  retained : Bool
deriving DecidableEq, Repr

/-- Debug block of a core (R648): REASON (0 RUNNING), INDEX, GROUP, first of the 65 free values that a halt shows as PC and
GPR_0 to GPR_63, GPRs written while halted, BP, WP_ADDR and WP_CTL by number; `ran` says that the core has run since its reset. -/
structure CoreDbg where
  reason : Nat
  index : Nat
  group : Bool
  ran : Bool
  shown : Nat
  gprs : List (Nat × Nat)
  bps : List (Nat × Nat)
  wpAddr : List (Nat × Nat)
  wpCtl : List (Nat × Nat)
deriving DecidableEq, Repr

/-- Debug block of a sequencer (units 0 to 127) or of Madder (unit 128) (R651): REASON (0 RUNNING), INDEX, bits [19:4] of
XSTS, XBP_0 and XBP_1, a step or a pass still to be used, and the breakpoint that Madder has reached. -/
structure XDbg where
  reason : Nat
  index : Nat
  pc : Nat
  xbp0 : Nat
  xbp1 : Nat
  step : Bool
  hit : Option Nat
deriving DecidableEq, Repr

/-- What waits while the debug port halts the secure pair (R650): a key command with its blob, a mailbox request (position, act, whether
Mordant can serve it at once), or an authentication message (type, source, SERIAL, PROTO, whether it checks). -/
inductive SxWait where
  | key (op : Nat) (blob : List Byte)
  | mailbox (slot act : Nat) (ready : Bool)
  | auth (ty src serial proto : Nat) (ok : Bool)
deriving DecidableEq, Repr

/-- Debug port (R640 to R655): TAP instruction, boundary cells preloaded, what controls the balls (0 none, 1 EXTEST, 2 HIGHZ),
level in force, highest level of the OTP row and option area, nonce as its first free byte and whether it may serve a
SUBMIT, READ word index, token bytes, whether a token is being checked, the last check (0 none, 1 OK, 2 FAIL), refusal, cores
and units that differ from reset, the DAP reply (STATUS, DATA, ADDR, echo bits), a boot-flash read that stalls (R510), where AUTOINC
has advanced ADDR to, bytes written to memory spaces by SPACE × 2^32 + address, and what waits for the secure pair. -/
structure DbgSt where
  ir : Nat
  cells : Nat
  balls : Nat
  level : Nat
  nonce : Option Nat
  word : Nat
  token : List Byte
  busy : Bool
  last : Nat
  refused : Bool
  cores : List (Nat × CoreDbg)
  units : List (Nat × XDbg)
  dapSts : Nat
  dapData : Nat
  dapAddr : Nat
  dapEcho : Nat
  dapWait : Bool
  dapNext : Nat
  bytes : List Host.Cell
  sxWait : List SxWait
deriving DecidableEq, Repr

/-- I3C target: dynamic address, what the next read returns, staged recovery image (OFFSET / 64 to its 64 bytes),
what a check under way will find, the last check result, in-band interrupt causes that wait (bit c for cause c) and the one in progress (R634 to R638). -/
structure Sideband where
  dyn : Option Nat
  resp : Option (List Byte)
  staged : List (Nat × List Byte)
  checking : Option Nat
  recResult : Nat
  ibi : Nat
  ibiNow : Nat
deriving DecidableEq, Repr

/-- Host endpoint state that no register holds: NumVFs, VF Enable and VF MSE of the SR-IOV capability, termination, and whether configuration
requests are answered (R67, R82, R618). -/
structure EpSt where
  numVfs : Nat
  vfe : Bool
  vfMse : Bool
  termination : Bool
  cfgReady : Bool
deriving DecidableEq, Repr

/-- An event on its way to the fault collector (R552, R554): page type, instance and ERR_STS bit of the source, whether
it is a fixed input or a rail fault, its default class, DETAIL, and the unit a C2 of it contains. -/
structure Ev where
  ty : Nat
  inst : Nat
  bit : Nat
  fixed : Bool
  rail : Bool
  cls : Nat
  detail : Nat
  unit : Nat
deriving DecidableEq, Repr

/-- What the device sends out of its ports and pins, newest first in `Dev.out`. -/
inductive OutEvent where
  /-- DMA write of bytes to a requester's memory; `attr` bit 0 relaxed ordering, bit 1 no-snoop (R20, R74, R79). -/
  | dma (fn : Fn) (addr : Nat) (data : List Byte) (attr : Nat)
  /-- Completion entry written at a ring index (R123, R124); `native` is false for the forerunner layout (R105). -/
  | cqe (q idx tag status flags opcode firstFail result : Nat) (native : Bool)
  /-- MSI-X message (R86). -/
  | msix (fn : Fn) (vector : Nat)
  /-- LTR message of a port's function: snoop and no-snoop latency in ns (R95). -/
  | ltr (fn : Fn) (snoop noSnoop : Nat)
  /-- Value returned for a register or window read. -/
  | readData (req : Requester) (value : Nat)
  /-- Read completed with Unsupported Request (R76, R90, R91). -/
  | unsupported (fn : Fn)
  /-- Filush message: type, destination FAB_ID, its numbers (FLAGS, EPOCH, SEQ, then the payload's fields), and its bytes (R415, R417). -/
  | filush (kind dst : Nat) (body : List Nat) (bytes : List Byte)
  /-- Level of an output pin: FATAL_N, CLKREQ_N, NAND CE_N and WP_N as groups, SerDes TX idle (R627). -/
  | pin (name : String) (level : Nat)
  /-- I3C in-band interrupt data byte (R638). -/
  | ibi (cause : Nat)
  /-- I3C read response bytes (R636). -/
  | i3c (data : List Byte)
  /-- TAP or DAP scan-out (R640 to R651). -/
  | tap (value : Nat)
  /-- Debug mailbox or update mailbox response. -/
  | mbox (code value : Nat)
  /-- AER advisory non-fatal report (R79). -/
  | aer (fn : Fn) (code : Nat)
  /-- NAND bus operation on a die: operation code, die key, argument (R212). -/
  | nand (op die arg : Nat)
  /-- SET FEATURES on a die at an address, with P1 to P4 (R200, R207, R212, R242). -/
  | feature (die addr : Nat) (p : List Byte)
  /-- A page of 16 codewords of a KIND goes to a die: the data of its codewords (R276, R319). -/
  | page (kind die : Nat) (data : List Byte)
deriving DecidableEq, Repr

end Sys2Proof.Machine
end

