-- ==== Sys2Proof/Machine/EngineParts.lean ====
section
/-! DEFINITION. Parts of the state that the cipher, digest and Madder chapters give the device (spec/13 to 15). Plain
data only. -/
namespace Sys2Proof.Machine

/-- A key slot that is not EMPTY (R459): USE 0 MORDANT, 1 DATA, 2 ATTEST; STATE 1 LOADED, 2 EXHAUSTED. -/
structure KeySlot where
  use : Nat
  bits : Nat
  state : Nat
  gen : Nat
  counter : Nat
  keyId : Nat
  tint : Nat
  ab : List Byte
  c : List Byte
  cOld : List Byte
deriving DecidableEq, Repr

/-- Cipher array (R448 to R458, R470): jobs waiting with their group, lanes that hold a job, fenced lanes, jobs
of each lane's expander since its seed, deal pointer of each requester, alarm, results of
ended jobs oldest first (0 OK, 1 CTR_WRAP, 2 no usable key). -/
structure CipherSt where
  waiting : List (Nat × CipherJob)
  busy : List (Nat × CipherJob)
  fenced : List Nat
  seeds : List (Nat × Nat)
  deal : List (Nat × Nat)
  alarm : Bool
  results : List Nat
deriving DecidableEq, Repr

/-- DRBG (R468): generate requests of the lane expanders since the last reseed. -/
structure RngSt where
  requests : Nat
deriving DecidableEq, Repr

/-- A digest context (R476): requester (0 to 3 QE, 4 SEC interface, 5 key derivation), algorithm, key handle, output mode
(0 COMPARE, 1 DIGEST, 2 KEY), whether it runs composed, message so far, compressions done, finished mark, expected
digest, the command it serves, and whether its first block is still to be served (R479). -/
structure DigCtx where
  req : Nat
  alg : Nat
  key : Nat
  mode : Nat
  composed : Bool
  msg : List Byte
  done : Nat
  final : Bool
  expected : List Byte
  q : Nat
  tag : Nat
  fresh : Bool
deriving DecidableEq, Repr

/-- Digest engine: open contexts by number, requests that wait for one in arrival order, bound pairs of the key-state
cache by entry (key handle × 256 + algorithm), last served context. -/
structure DigSt where
  ctxs : List (Nat × DigCtx)
  waiting : List DigCtx
  cache : List (Nat × Nat)
  last : Nat
deriving DecidableEq, Repr

/-- Madder loop state that no register holds (R488 to R498): coefficients in use (KP, KI, then COEF_j_c), out_prev,
whether a first sample has been made since STARTING, a COMMIT that waits for the next tick, GATES, OUT_MIN and
FAIL_OPEN as taken at the last tick, and the gate count at the last sample. -/
structure LoopSt where
  kp : Int
  ki : Int
  coef : List Int
  outPrev : Int
  acted : Bool
  commit : Bool
  gates : Nat
  outMin : Nat
  failOpen : Bool
  gateSnap : Nat
deriving DecidableEq, Repr

/-- Trace buffer (R501, R502): samples by index, samples to skip, samples still to record after the trigger, FIRE
waiting, fault event since the last sample, previous signal value. -/
structure TraceSt where
  samples : List (Nat × Nat)
  skip : Nat
  post : Nat
  fire : Bool
  fault : Bool
  prev : Option Int
deriving DecidableEq, Repr

/-- Boot-flash sequence logic (R516 to R518): cycles taken of the sequence in progress (0 none, 1 and 2 unlocked, 3 command
taken), command byte, line or sector addressed, data words; ID mode; the operation running (command byte, address, data
words). Addresses carry the array at 0, the option window at 0x0400_0000 and the OTP window at 0x0400_1000 (R647). -/
structure BflSt where
  cycle : Nat
  cmd : Nat
  base : Nat
  words : List W32
  idMode : Bool
  op : Option (Nat × Nat × List W32)
deriving DecidableEq, Repr

/-- Field update (R530 to R546), as far as no register holds it: staged blocks by index (their 65,536 bytes), acknowledged blocks by member × 65,536 +
index, blocks forwarded and not acknowledged in the same form, a PREPARE in progress (TARGET) with the members still to answer and its start, the BODY
that UPD_GO scheduled, members whose REPORT was OK, and the time of the start into TRIAL. -/
structure UpdSt where
  blocks : List (Nat × List Byte)
  acks : List Nat
  sent : List Nat
  prepare : Option (Nat × List Nat × Nat)
  target : Nat
  go : Option Nat
  reports : List Nat
  trialUs : Nat
  restart : Bool
deriving DecidableEq, Repr

/-- A request in the secure mailbox of R507: its position, its act, and whether its reply was BUSY. -/
structure MboxReq where
  slot : Nat
  act : Nat
  busy : Bool
deriving DecidableEq, Repr

end Sys2Proof.Machine
end

