-- ==== Sys2Proof/Machine/MediaParts.lean ====
section
/-! DEFINITION. Parts of the state that the band translation, flash channel, code, stripe and power-loss chapters give
the device (spec/05 to 09). Plain data only. -/
namespace Sys2Proof.Machine

/-- What a sector position holds: the data kept symbolic. Ciphertext is named by the key material, key bits, tweak and
plaintext it was made from (R233, R451). -/
inductive Stored where
  | zero
  | plain (data : List Byte)
  | xts (ab : List Byte) (bits tweak : Nat) (data : List Byte)
deriving DecidableEq, Repr

/-- A codeword of a band on the media: content, PI and metadata (R233 to R235). POISON as R235 codes it; `pad` is KIND PAD. -/
structure Cw where
  band : Nat
  gen : Nat
  sector : Nat
  pad : Bool
  logged : Bool
  poison : Nat
  install : Nat
  target : Nat
  ageS : Nat
  stored : Stored
  guard : Nat
  app : Nat
  ref : Nat
deriving DecidableEq, Repr

/-- A line of the protected write cache (R311): content, extended PI, index entry, the gate of its write, the time of
installation, whether it is a zeroed sector, whether it waits in a log unit. -/
structure Line where
  stored : Stored
  guard : Nat
  app : Nat
  ref : Nat
  zero : Bool
  poison : Nat
  install : Nat
  target : Nat
  tint : Nat
  gate : Nat
  atUs : Nat
  placed : Bool
deriving DecidableEq, Repr

/-- A band map entry with VALID = 1 (R148); `slot` 63 is NONE. -/
structure BandEnt where
  logged : Bool
  fast : Bool
  snap : Bool
  sb : Nat
  slot : Nat
  logIdx : Nat
  gen : Nat
deriving DecidableEq, Repr

/-- A sector-map entry that is not all zero (R151): position with TAG, or zeroed. -/
structure LogEnt where
  pos : Nat
  inLog : Bool
  zero : Bool
  tag : Nat
deriving DecidableEq, Repr

/-- A log band or direct fill in use (R152): STATE 1 OPEN, 2 FULL, 3 MERGING. `unit` lists the sectors placed in the
unit that has not programmed, in position order, with the gate of the first and the hold time in force for them (R153, R194); `more` is
false once the log band takes no further positions; `urgent` numbers a full merge queued ahead of other G12 work in the order of R132, 0 for
none (R271); `forced` marks the victim of a forced merge (R161); LAST_WRITE counts milliseconds without bound. -/
structure LogBand where
  band : Nat
  state : Nat
  sb : Nat
  slot : Nat
  fast : Bool
  fill : Nat
  inOrder : Bool
  direct : Bool
  lastWrite : Nat
  map : List (Nat × LogEnt)
  unit : List Nat
  unitUs : Nat
  unitGate : Nat
  holdUs : Nat
  more : Bool
  urgent : Nat
  forced : Bool
deriving DecidableEq, Repr

/-- A superblock that is not in its freshly formatted FREE state (R166): STATE as R166, PSLC, VALID, RELEASE_SEQ,
slots taken, header PURPOSE (R319), members with a failed block, patrol visit count, seconds at first programming and at the last
visit, JSEQ of its last ERASE_INTENT (R319). `kind` names a refresh victim (1) or a collection victim (2). -/
structure Sb where
  state : Nat
  pslc : Bool
  valid : Nat
  relSeq : Nat
  next : Nat
  purpose : Nat
  failed : List Nat
  kind : Nat
  progS : Nat
  visitS : Nat
  visits : Nat
  intent : Nat
deriving DecidableEq, Repr

/-- A stripe group that is not UNUSED (R298): STATE 1 ACTIVE, 2 RETIRING; CAUSE 0 NONE, 1 DIE_FAILED, 2 RESHAPE. -/
structure Group where
  state : Nat
  cause : Nat
  width : Nat
  sbCount : Nat
  members : List Nat
deriving DecidableEq, Repr

/-- An open row of a log band or direct fill (R271, R272): time of its first unit in µs and units programmed. -/
structure RowSt where
  firstUs : Nat
  units : Nat
deriving DecidableEq, Repr

/-- State of an entry in its list: waiting, issued, or ended with a status of R214. -/
inductive EntryRun where
  | queued
  | issued (atUs : Nat)
  | ended (status : Nat)
deriving DecidableEq, Repr

/-- A command list on a lane (R210): the model's own number for it, unique on its channel; its submitter's LIST_ID, lane, entries with their
state, suspends, first issue time, VALUE. -/
structure CmdList where
  id : Nat
  lid : Nat
  lane : Nat
  entries : List (Entry × EntryRun)
  suspends : Nat
  firstUs : Option Nat
  value : Nat
deriving DecidableEq, Repr

/-- Completion record of a list (R214), with the model's number of the list. -/
structure ListDone where
  ch : Nat
  id : Nat
  lid : Nat
  lane : Nat
  entries : Nat
  firstBad : Nat
  status : Nat
  suspends : Nat
  duration : Nat
  value : Nat
deriving DecidableEq, Repr

/-- A request for a soft decoder (R240): its channel, its command and sector, and whether it waits in the channel (0), at the pool (1) or has a
decoder (2). -/
structure SoftReq where
  ch : Nat
  q : Nat
  tag : Nat
  idx : Nat
  place : Nat
deriving DecidableEq, Repr

/-- An injection that a coded structure holds (R56): page, TARGET, the word or codeword it landed on, MASK. -/
structure Inj where
  page : Nat
  inst : Nat
  target : Nat
  addr : Nat
  mask : Nat
deriving DecidableEq, Repr

/-- What a die's parameter page says that R203 tests: data and spare bytes of a page, planes, pages per block, bits per cell, and whether the
Puevo record is valid with INDEP_PSLC and PSLC_192. -/
structure Geo where
  data : Nat
  spare : Nat
  planes : Nat
  pages : Nat
  bits : Nat
  record : Bool
deriving DecidableEq, Repr

/-- A die that discovery has found (R224, R203): STATE, SUSP, CAUSE, data service, its page's geometry, endurance and READ ID, current BLOCK,
pSLC mode, blocks per plane, spare blocks left, factory-bad and grown-bad blocks, substitutions (index to block), erase counts by block,
spares reserved for failed blocks (R177), last timeout, the running and the suspended entry (list, index), reads served in
this suspend, time of the current state (less the time it was suspended), time at which the operation began or last resumed or the reset began,
the RETRY index it holds (R242) and the DAC steps that a soft read shifted it by (R241), why it resets (1 timeout, 2 RESET entry or
drain, 3 FLUSH), and whether a channel fault keeps it raw-only (R231). -/
structure DieSt where
  state : Nat
  susp : Nat
  cause : Nat
  data : Bool
  geo : Geo
  rated : Nat
  ident : List Byte
  block : Nat
  pslc : Bool
  blocks : Nat
  spares : List Nat
  factoryBad : List Nat
  grownBad : List Nat
  subst : List (Nat × Nat)
  resv : List (Nat × Nat)
  erases : List (Nat × Nat)
  lastTimeout : Option Nat
  cur : Option (Nat × Nat)
  held : Option (Nat × Nat)
  reads : Nat
  sinceUs : Nat
  runUs : Nat
  retry : Nat
  shift : Int
  resetFor : Nat
  keptOut : Bool
deriving DecidableEq, Repr

/-- A channel (R201 to R210): Puevo record, declared NV-DDR3 timing modes with their MT/s (R200), times of the ONFI page (R215), lists in
submission order, whether a training has ended since discovery, the rate that the full training in progress must stay below (R209), training
seconds, zone temperature at the last training, FENCED hard decoders, identification for the MEDIA entry of R205, and read delays by die. -/
structure ChSt where
  puevo : Puevo
  modes : List (Nat × Nat)
  tR : Nat
  tProg : Nat
  tBers : Nat
  lists : List CmdList
  ready : Bool
  below : Option Nat
  trainS : Nat
  trainTemp : Nat
  fenced : List Nat
  rated : Nat
  bits : Nat
  jedec : Nat
  manuf : List Byte
  model : List Byte
  trainRd : List (Nat × Nat)
deriving DecidableEq, Repr

/-- What a snapshot holds of a band (R357 to R359): base slot with its GEN and tier, or nothing (zeros), and the
snapshots it covers, (FROM, TO]. -/
structure SnapEnt where
  band : Nat
  none : Bool
  sb : Nat
  slot : Nat
  fast : Bool
  gen : Nat
  lo : Nat
  hi : Nat
deriving DecidableEq, Repr

/-- A snapshot of a volume (R357, R122): ID, calendar seconds, request ID and the tint that asked. -/
structure Snap where
  id : Nat
  time : Nat
  reqId : Nat
  tint : Nat
deriving DecidableEq, Repr

/-- A volume, stream or object-namespace record (R330, R337, R343, R349) with what the service keeps for it: FLAGS, owner, key reference, fabric code
and member set (R419), COMMITTED and FLOOR; snapshots; a delete in progress; BANDS before a shrink in progress, else 0; a snapshot hold; objects,
extent counter, fill band and extents still read after their object went (R353). -/
structure Store where
  base : Nat
  bands : Nat
  flags : Nat
  owner : Nat
  keyRef : Nat
  fabK : Nat
  fabM : Nat
  fabSet : Nat
  dirBands : Nat
  compact : Nat
  committed : Nat
  floor : Nat
  snaps : List Snap
  snapNewest : Nat
  deleting : Bool
  oldBands : Nat
  hold : Bool
  objs : List Obj
  extents : Nat
  fill : Option (Nat × Nat)
  old : List Obj
deriving DecidableEq, Repr

/-- A map delta record (R184): the new entry, its band, KIND and SEQ. -/
structure Delta where
  entry : Nat
  band : Nat
  kind : Nat
  seq : Nat
deriving DecidableEq, Repr

/-- Everything the media can give back: band map, log bands, superblocks, groups, unassigned pool, rows, snapshot delta entries, fast bands in switch
order, bands whose next log band must lie in pSLC (R157). This is what journal pages, checkpoints and codeword metadata carry (R184, R274, R320). -/
structure Ftl where
  bands : List (Nat × BandEnt)
  logs : List (Nat × LogBand)
  sbs : List (Nat × Sb)
  groups : List (Nat × Group)
  pool : List Nat
  rows : List (Nat × RowSt)
  unprot : List Nat
  held : List SnapEnt
  fastOrder : List Nat
  noDirect : List Nat
  relNext : Nat
deriving DecidableEq, Repr

/-- A journal record but for its JSEQ (R274, R318, R426): a row's, a group's STATE and members, a change of PROT, a map delta, a ledger record, a
fabric stripe's, or a change of a record of R330. -/
inductive JRec where
  | row (ty flags group width sb page slot r fin busy band : Nat)
  | groupState (g width state cause count : Nat)
  | groupMembers (g width first : Nat) (members : List Nat)
  | prot (v : Nat)
  | delta (x : Delta)
  | ledger (ty flags group width sb purpose erases mask arg : Nat)
  | stripe (ty flags volume stripe lo countM1 owner buddy pending wseq : Nat)
  | service
deriving DecidableEq, Repr

/-- A filled journal page waiting to be written: its 2,048 records by JSEQ, and the state that they tell. -/
structure JPage where
  state : Ftl
  recs : List (Nat × JRec)
deriving DecidableEq, Repr

/-- Stripe journal (R274 to R277): records in the unfinished page by JSEQ, the filled pages waiting to be
written, the state that the pages on media carry, dies of the copies written since the last complete
checkpoint pass, delta records since then, oldest first, newest JSEQ on media, PASS_JSEQ, ROOT_SEQ. -/
structure Jnl where
  recs : List (Nat × JRec)
  waiting : List JPage
  media : Ftl
  copies : List (Nat × Nat)
  deltas : List Delta
  seqMedia : Nat
  passSeq : Nat
  rootSeq : Nat
deriving DecidableEq, Repr

/-- A page of the flush plan (R312): head, journal page `i` (its copy), or cache sectors. -/
inductive FlushPage where
  | head
  | jnl (i : Nat)
  | cache (secs : List Nat)
deriving DecidableEq, Repr

/-- A sector as members pass it (R417): stored form with its extended PI. -/
structure FabSec where
  stored : Stored
  guard : Nat
  app : Nat
  ref : Nat
deriving DecidableEq, Repr

/-- An open FSTRIPE record (R426) with its sectors (sector of the stripe, content): MIRROR, ACTING, DEGRADED, the member asked to
mirror, shards not acknowledged, WSEQ, JSEQ (0 while it waits for an earlier write to the stripe), whether the mirror is acknowledged
and the shards are on their way, the ingress with its XID, and the old sectors read for the parity (16 × shard + sector, content). -/
structure FStripe where
  mirror : Bool
  acting : Bool
  degraded : Bool
  volume : Nat
  stripe : Nat
  first : Nat
  count : Nat
  owner : Nat
  buddy : Nat
  pending : Nat
  wseq : Nat
  jseq : Nat
  acked : Bool
  built : Bool
  ingress : Nat
  xid : Nat
  secs : List (Nat × FabSec)
  old : List (Nat × FabSec)
deriving DecidableEq, Repr

/-- A generation in the flush area (R316, R317): number, slot (with 10 for reserved index 1), CLEAN, TEST_CUT, planned pages by rank, pages programmed
by rank, the lines as flushed, the states its journal pages carry, the stripe records they carry, INSTALL_MAX, JSEQ_LAST, recorder buffer, duration,
retired, and whether the programs ended. -/
structure Gen where
  seq : Nat
  slot : Nat
  clean : Bool
  testCut : Bool
  plan : List (List FlushPage)
  done : List Nat
  lines : List (Nat × Line)
  jnl : List Ftl
  installMax : Nat
  jseq : Nat
  recs : List Rec
  stripes : List FStripe
  durUs : Nat
  retired : Bool
  ended : Bool
deriving DecidableEq, Repr

/-- Flush area and sequencer (R306 to R316): flush dies by rank, slots 0 to 9 written on the index in service, index in
service, free root-ring pages, generations that replay may read, quiet dies of the flush in progress, its start time,
the test cut armed, RST_CAUSE of the reset that the flush ends in. -/
structure PlpSt where
  dies : List Nat
  usedSlots : Nat
  index : Nat
  rootPages : Nat
  gens : List Gen
  flushing : Bool
  quiet : List Nat
  startUs : Nat
  cut : Bool
  cause : Nat
deriving DecidableEq, Repr

/-- Configuration fields as the last recomputation took them (R194): RESERVE, HIGH, FREE_LOW, MIN_SB. -/
structure GcHeld where
  reserve : Nat
  high : Nat
  freeLow : Nat
  minSb : Nat
deriving DecidableEq, Repr

/-- Format record in force (R187). -/
structure FormatRec where
  prot : Nat
  groups : Nat
  seq : Nat
  serial : Nat
  dies : Nat
deriving DecidableEq, Repr

end Sys2Proof.Machine
end

