-- ==== Sys2Proof/Machine/FabParts.lean ====
section
/-! DEFINITION. Parts of the state that the tenant and fabric chapters give the device (spec/11, spec/12). Plain data only. -/
namespace Sys2Proof.Machine

/-- A grant (R391): record key (kind × 65,536 + handle), tint, rights, and the rights withdrawn that commands in flight still use. -/
structure Grant where
  record : Nat
  tint : Nat
  rights : Nat
  leaving : Nat
deriving DecidableEq, Repr

/-- One entry of the head's member table (R410), by FAB_ID: MEMBER state of R71 (0 ABSENT, 1 JOINING, 2 ACTIVE, 3 FENCED, 4
FAILED), links UP, SERIAL it authenticated with, whether it is FULL (R438), time of its last HEARTBEAT, nonce sent to it. -/
structure Member where
  state : Nat
  links : Nat
  serial : Nat
  full : Bool
  hbUs : Nat
  nonce : Option Nat
deriving DecidableEq, Repr

/-- What a link keeps beside FL_STS (R400): time of its last state change, entries to DOWN, replays, and the identity that
its last HELLO matched. -/
structure FlLink where
  sinceUs : Nat
  downs : List Nat
  replays : List Nat
  partner : Option (Nat × Nat)
deriving DecidableEq, Repr

/-- A message sent with ACK_REQ and not yet answered (R416). -/
structure Unacked where
  ty : Nat
  dst : Nat
  seq : Nat
  body : List Nat
  sentUs : Nat
  tries : Nat
deriving DecidableEq, Repr

/-- A global operation at the head (R429): kind (1 BARRIER, 2 BROADCAST, 4 SNAPSHOT, 5 RESET, 6 record broadcast, 7 update broadcast,
8 CAL_SYNC), ID, BODY words, whether its answers are still to come (1) or are all here (0), COUNT summed, worst RESULT, start in fabric
ns, and whether OP_CMD asked for it. -/
structure GlobalOp where
  kind : Nat
  id : Nat
  body : List Nat
  awaiting : Nat
  count : Nat
  result : Nat
  startNs : Nat
  host : Bool
deriving DecidableEq, Repr

/-- A gather (R429): what it gathers (1 BARRIER_ARRIVE, 2 BCAST_ACK, 3 SNAP_HELD, 4 SNAP_DONE, 5 RESET_READY), ID, children still to answer
and this device itself while it is not done, COUNT summed, worst RESULT. -/
structure Gather where
  kind : Nat
  id : Nat
  children : List Nat
  count : Nat
  result : Nat
deriving DecidableEq, Repr

/-- The hold of a fabric snapshot on this device (R432): volume, SNAP_ID, request ID, when it began, and CAL_S once SNAP_COMMIT has
come. -/
structure FabHold where
  volume : Nat
  id : Nat
  reqId : Nat
  startUs : Nat
  commit : Option Nat
deriving DecidableEq, Repr

/-- What a sector asked of another member is for (R424, R425): sector `idx` of a command at this ingress, or an old sector of a
stripe that this device writes as its owner. -/
inductive FabUse where
  | cmd (q tag idx : Nat)
  | old (volume stripe : Nat)
deriving DecidableEq, Repr

/-- A SHARD_READ on its way: XID, volume, stripe, shard, sector of the shard, SNAP_ID (0 none), the member asked, whether it is one
of the k shards of a rebuild, and its use. -/
structure FabRead where
  xid : Nat
  volume : Nat
  stripe : Nat
  shard : Nat
  sec : Nat
  snap : Nat
  dst : Nat
  part : Bool
  use : FabUse
deriving DecidableEq, Repr

/-- A sector rebuilt from k other shards (R425): the status that its own holder gave, shards asked so far, parts that came. -/
structure Rebuild where
  volume : Nat
  stripe : Nat
  shard : Nat
  sec : Nat
  snap : Nat
  status : Nat
  use : FabUse
  tried : List Nat
  got : List (Nat × FabSec)
deriving DecidableEq, Repr

/-- A stripe's part of a write at its ingress that waits for STRIPE_ACK (R424): XID, queue, tag, volume, stripe, first sector of the
stripe with the sectors, the member asked, and whether it belongs to the new layout of a reshape (R444). -/
structure FabWrite where
  xid : Nat
  q : Nat
  tag : Nat
  volume : Nat
  stripe : Nat
  first : Nat
  secs : List FabSec
  dst : Nat
  newer : Bool
deriving DecidableEq, Repr

/-- A fabric reshape (R443 to R445): volume, new k, m and member set, bands copied below the cursor that were written while paused. -/
structure Reshape where
  volume : Nat
  newK : Nat
  newM : Nat
  newSet : Nat
  newBase : Nat
  again : List Nat
  space : Bool
deriving DecidableEq, Repr

/-- Who a proxied read answers: the host at BAR2, the I3C port, the debug port, or nobody any more. -/
inductive ProxyTo where
  | host
  | i3c
  | dap
  | gone
deriving DecidableEq, Repr

/-- A proxied read (R418): XID, member, offset in its window, size, time sent, and who waits for it. -/
structure Proxy where
  xid : Nat
  dst : Nat
  off : Nat
  size : Nat
  atUs : Nat
  sink : ProxyTo
deriving DecidableEq, Repr

/-- The fabric as this device holds it (R398 to R447). `resync` gives the shard bands (volume × 2^24 + band) still to be rebuilt for each member that
is JOINING. `intents` holds member and volume × 2^24 + shard band; `made` the record that the last record broadcast created here, with the broadcast's
ID; `lastBcast` the ID of the last broadcast delivered with its RESULT; `closed` the records closed as acting owner for an owner that is away (owner,
volume, stripe). `time` is fabric time at `timeUs`, in ns; `seen` holds (SRC, SEQ) pairs newest first; `resetAt` a scheduled RESET_AT; `proxies` the
proxied reads that wait, oldest first, of which the first 64 are outstanding; `shards` holds SHARD_READ requests that the head or owner forwarded. -/
structure FabSt where
  members : List (Nat × Member)
  links : List (Nat × FlLink)
  headHb : Option Nat
  hbTx : Nat
  nonce : Option Nat
  seq : Nat
  seen : List (Nat × Nat)
  unacked : List Unacked
  op : Option GlobalOp
  waiting : List GlobalOp
  gathers : List Gather
  nextOp : Nat
  snapHold : Option FabHold
  time : Nat
  timeUs : Nat
  syncs : Nat
  syncUs : Nat
  syncSeq : Nat
  resetId : Nat
  resetReady : Option (List Nat)
  resetUs : Nat
  resetAt : Option Nat
  preparing : Bool
  xid : Nat
  writes : List FabWrite
  reads : List FabRead
  rebuilds : List Rebuild
  stripes : List FStripe
  wseq : Nat
  intents : List (Nat × Nat)
  resync : List (Nat × List Nat)
  reshape : Option Reshape
  proxies : List Proxy
  calUs : Nat
  made : Option (Nat × Nat)
  lastBcast : Option (Nat × Nat)
  closed : List (Nat × Nat × Nat)
  versions : List (Nat × Nat)
  headSerial : Nat
deriving DecidableEq, Repr

end Sys2Proof.Machine
end

