-- ==== Sys2Proof/Machine/State.lean ====
section
/-! DEFINITION. The state of the device as plain data, its two ways to stop, and the state after reset. -/
namespace Sys2Proof.Machine

/-- Everything the spec gives the device; the command queue stands beside it in `State`. -/
structure Dev where
  /-- Mode, conditions, pins, clocks, time (R26 to R34, R302, R611 to R617). -/
  life : Life
  /-- Registers that differ from their reset value, by key (R43 to R56 and every page's map). -/
  regs : List (Nat × W32)
  /-- Enable state of each page with HAS_DRAIN that is not in its reset state (R52, R63). -/
  pages : List (Nat × PageSt)
  /-- Slot memory: bytes that are not zero, by queue × 2,048 + offset (R106, R110). -/
  mem : List Host.Cell
  /-- PCIe functions that differ from their reset state (R74 to R94, R371). -/
  fns : List (Nat × FnSt)
  /-- VF bindings and enables that differ from reset (R82). -/
  vfs : List (Nat × VfSt)
  /-- Forerunner queue enable machine (R101, R102). -/
  compat : PageSt
  /-- Host endpoint state outside registers. -/
  ep : EpSt
  /-- Doorbell bits set and not yet completed, in the order of R130: queue, tag. -/
  dbOrder : List (Nat × Nat)
  /-- Commands in flight, oldest admission first (R36, R112). -/
  flights : List Flight
  /-- Round-robin search pointers by arbiter key (R39). -/
  arb : List (Nat × Nat)
  /-- Admission gates G0 to G14 (R22 to R25). -/
  gates : List Bucket
  /-- Ceiling buckets by tint (R393). -/
  tints : List (Nat × Bucket)
  /-- Error logs by view: 0 PF, n VF n, 256 + p tenant port p (R140). -/
  elogs : List (Nat × LogView)
  /-- Event recorder (R572 to R585). -/
  recd : Recorder
  /-- Backup domain (R581, R586). -/
  bak : Backup
  /-- Sectors admitted at each gate so far (R492). -/
  gateAdm : List Nat
  /-- Key slots that are not EMPTY (R459). -/
  keys : List (Nat × KeySlot)
  /-- Sealed key records among the system bands (R463). -/
  sealedKeys : List (Nat × KeySlot)
  /-- Key generation that sealed each directory sector: namespace × 2^20 + sector to slot × 256 + GEN (R455). -/
  seals : List (Nat × Nat)
  /-- Slots whose directory sectors are being re-sealed (R465). -/
  reseal : List Nat
  /-- Cipher lanes (R448 to R458). -/
  cip : CipherSt
  /-- Entropy source and DRBG (R467 to R469). -/
  rng : RngSt
  /-- Digest engine (R476 to R487). -/
  dig : DigSt
  /-- Madder loops, by number (R488 to R500). -/
  loops : List (Nat × LoopSt)
  /-- Trace buffers, by number (R501, R502). -/
  traces : List (Nat × TraceSt)
  /-- Band map, log bands, superblocks, groups, rows, snapshot delta entries (R148 to R361). -/
  ftl : Ftl
  /-- RESERVE, HIGH, FREE_LOW and MIN_SB as the last recomputation took them (R194). -/
  gcHeld : GcHeld
  /-- Rows that relocating jobs in progress have passed through their gates (R156): gate × 2^32 + band, or + 2^31 + home for a held slot, to
  rows. -/
  jobRows : List (Nat × Nat)
  /-- Codewords of band slots, by (superblock × 64 + slot) × 4,096 + position; a position not listed holds a PAD codeword
  or nothing (R146, R235). -/
  media : List (Nat × Cw)
  /-- Bands whose map entry or log map is lost on the SRAM and could not be rebuilt: commands that need it are held (R185). -/
  lostEnts : List Nat
  /-- Media keys whose loss the error log already names (R290). -/
  lostSeen : List Nat
  /-- Dies found, by channel × 16 + die (R196, R224). -/
  dies : List (Nat × DieSt)
  /-- Channels, by number (R195 to R232). -/
  chans : List (Nat × ChSt)
  /-- Completion records of lists, newest first (R214). -/
  listsDone : List ListDone
  /-- Plane pages written by RAW_PROGRAM: ((die × 4 + plane) × 8,192 + block) × 1,024 + page to bytes (R221, R223). -/
  raw : List (Nat × List Byte)
  /-- Requests of the soft-decoder pool, oldest first (R240). -/
  soft : List SoftReq
  /-- Soft decoders of the shared pool that are fenced (R250, R553). -/
  softFenced : List Nat
  /-- Write-cache lines, by band × 4,096 + sector (R311). -/
  cache : List (Nat × Line)
  /-- Next install sequence number (R324). -/
  install : Nat
  /-- Stripe journal (R274 to R277). -/
  jnl : Jnl
  /-- Flush area and sequencer (R306 to R325). -/
  plp : PlpSt
  /-- Format record in force (R187), and whether this start is the first after it (R188). -/
  format : Option FormatRec
  firstStart : Bool
  /-- A format between its step 5 and step 6: the record that step 6 will write (R186). -/
  formatting : Option FormatRec
  /-- Volumes, streams and namespaces, by kind × 65,536 + handle (R330). -/
  stores : List (Nat × Store)
  /-- Grants (R391). -/
  grants : List Grant
  /-- Pushed data not yet installed, by queue × 32 + tag (R385). -/
  pushes : List (Nat × List Byte)
  /-- Push queues as taken at their last clean start (R383), queues whose push stream is discarded, and queue × 32 + tag whose
  frames are discarded up to LAST (R385). -/
  pushQs : List Nat
  pushDead : List Nat
  pushSkip : List Nat
  /-- MALFORMED events of the last second, as port and time (R396). -/
  malTimes : List (Nat × Nat)
  /-- Ports whose TPn_PERST_N is low, as a mask (R376). -/
  tpPerst : Nat
  /-- The fabric (R398 to R447). -/
  fab : FabSt
  /-- Power domains (R592, R593). -/
  doms : List Domn
  /-- I3C sideband (R634 to R639). -/
  sbd : Sideband
  /-- Boot flash: bytes of the array and its two windows that differ from the erased 0xFF (R509, R516), and the sequence logic. -/
  flash : List Host.Cell
  bfl : BflSt
  /-- Field update (R530 to R546). -/
  upd : UpdSt
  /-- Replies last written in the secure mailbox, by request position (R507). -/
  mailbox : List MboxReq
  /-- Debug port (R640 to R655). -/
  dbg : DbgSt
  /-- DDT generation and STATE (R66 to R68). -/
  ddtGen : Nat
  /-- Fault collector: event number since reset and the override entries that differ from reset (R559, R562). -/
  fltSeq : Nat
  ovr : List (Nat × W32)
  /-- Inputs the collector ignores since a rail fault: type code, instance, bit (R553). -/
  railMute : List (Nat × Nat × Nat)
  /-- Watchdog restarts by core, in µs: 0 to 31 service cores, 32 the SX pair (R565). -/
  wdog : List (Nat × Nat)
  /-- Merge-buffer entries over slot memory, oldest first: port, 64-bit word, byte-valid bits (R257). The bytes themselves
  stand in `mem`, as every reader sees them (R259). -/
  mbuf : List (Nat × Nat × Nat)
  /-- Coded SRAM words whose stored bits differ from what was written, by byte address, with the bits that differ (R251, R260, R263). -/
  sram : List (Nat × Nat)
  /-- What injections left in the coded structures outside the SRAM's regions (R56). -/
  injected : List Inj
  /-- Events raised within the present command and not yet taken by the collector (R552, R561). -/
  evq : List Ev
  /-- What the device has sent out, newest first. -/
  out : List OutEvent
  /-- The model's own counter of free values taken. -/
  free : Nat
deriving DecidableEq, Repr

/-- The block: its waiting commands, first in first out, and the device. -/
structure State where
  pending : List Instr
  dev : Dev
deriving DecidableEq, Repr

/-- Ways to stop with a fault. -/
inductive Fault where
  /-- No meaning of this model raises it; the type is closed and needs a member. Safe. -/
  | none
deriving DecidableEq, Repr

/-- Ways to stop with a refusal. -/
inductive Refusal where
  /-- A command that has no meaning yet, rejected by name. Safe. -/
  | notModelled (mnemonic : String)
deriving DecidableEq, Repr

/-! ### Reset -/

/-- The life of the device right after a cold DEVICE reset (R27, R33, R614): mode RESET, every input pin at its inactive level,
the root PLL locked (R619). -/
def Life.reset : Life :=
  { mode := .reset, seq := 0, fatal := false, shutDone := false, shutting := false, maintReq := false, booted := false, replayed := false, wakeReq := Option.none,
    mordant := false, bootUs := 0, glaze := .stopped, usUp := 0, strapHead := false, strapTest := false, rstN := true,
    perstN := true, pfailN := true, pgood := true, rails := true, refclk := false, refUs := 0, pllLocked := true, pllInternal := false,
    flushPendingLock := false, entry := .none, idleSince := none, idleAt := 0, c3Times := [] }

/-- Maps and superblocks of unformatted media: nothing (R188). -/
def Ftl.empty : Ftl :=
  { bands := [], logs := [], sbs := [], groups := [], pool := [], rows := [], unprot := [], held := [], fastOrder := [],
    noDirect := [], relNext := 1 }

/-- The reset values of GC_CFG, GC_HIGH, LOG_CFG.FREE_LOW and PSL_CFG.MIN_SB (R190 to R192). -/
def GcHeld.reset : GcHeld := { reserve := 0, high := 0, freeLow := 0x40, minSb := 0x40 }

/-- An empty journal (R274). -/
def Jnl.empty : Jnl :=
  { recs := [], waiting := [], media := Ftl.empty, copies := [], deltas := [], seqMedia := 0, passSeq := 0, rootSeq := 0 }

/-- A flush area without flush dies (R310). -/
def PlpSt.empty : PlpSt :=
  { dies := [], usedSlots := 0, index := 0, rootPages := 16, gens := [], flushing := false, quiet := [], startUs := 0, cut := false,
    cause := 1 }

/-- An admission gate or ceiling bucket after reset: full, 1,024 tokens (R24); no loop acts, so the rate is 131,071 units (R495). -/
def Bucket.full : Bucket := { level := 524288, rate := 131071, waiters := [] }

/-- An empty recorder (R573, R575). -/
def Recorder.empty : Recorder :=
  { next := 1, pending := [], recent := [], ring := [], nextPage := 0, rotating := false, due := false, clearing := false, lost := 0, dropped := 0, views := [] }

/-- The fabric state of a standalone device (R411). -/
def FabSt.empty : FabSt :=
  { members := [], links := [], headHb := none, hbTx := 0, nonce := none, seq := 0, seen := [], unacked := [], op := none,
    waiting := [], gathers := [], nextOp := 1, snapHold := none, time := 0, timeUs := 0, syncs := 0, syncUs := 0,
    syncSeq := 0, resetId := 0, resetReady := none, resetUs := 0, resetAt := none, preparing := false, xid := 0, writes := [], reads := [], rebuilds := [],
    stripes := [], wseq := 0, intents := [], resync := [], reshape := none, proxies := [], calUs := 0,
    made := none, lastBcast := none, closed := [], versions := [], headSerial := 0 }

/-- The debug port at LOCKED with IDCODE selected (R640, R645). -/
def DbgSt.locked : DbgSt :=
  { ir := 1, cells := 0, balls := 0, level := 0, nonce := none, word := 0, token := [], busy := false, last := 0,
    refused := false, cores := [], units := [], dapSts := 0, dapData := 0, dapAddr := 0, dapEcho := 0, dapWait := false, dapNext := 0,
    bytes := [], sxWait := [] }

/-- Sequence logic at rest (R516). -/
def BflSt.rest : BflSt := { cycle := 0, cmd := 0, base := 0, words := [], idMode := false, op := none }

/-- No package (R539). -/
def UpdSt.idle : UpdSt :=
  { blocks := [], acks := [], sent := [], prepare := none, target := 0, go := none, reports := [], trialUs := 0, restart := false }

/-- The sideband with nothing assigned (R634, R639). -/
def Sideband.reset : Sideband :=
  { dyn := none, resp := none, staged := [], checking := none, recResult := 0, ibi := 0, ibiNow := 0 }

/-- Host endpoint state after reset: VF Enable, VF MSE and NumVFs 0 (R82). -/
def EpSt.reset : EpSt :=
  { numVfs := 0, vfe := false, vfMse := false, termination := false, cfgReady := false }

/-- Power domains after reset: AON on, the others coming up (R592, DOM_n.EN resets to 1). -/
def domsReset : List Domn := ⟨.serving, 4, false⟩ :: List.replicate 15 ⟨.starting, 0, false⟩

/-- OPT, FAB_CFG and FAB_POS as loaded from two option copies that are not valid: the defaults of R523. -/
def optDefaults : List (Nat × W32) :=
  [(PT.OPT.key 0 0x40, 2#32), (PT.OPT.key 0 0x44, 2180#32), (PT.OPT.key 0 0x48, 0x30080#32), (PT.OPT.key 0 0x4c, 0x1f3a#32),
   (PT.OPT.key 0 0x50, 0x1c000000#32), (PT.FAB.key 0 0x40, 2180#32)]

/-- The device right after the cold reset that first follows manufacture: unformatted media (R188), an erased boot flash and
no dies found yet. -/
def Dev.first : Dev :=
  { life := Life.reset, regs := optDefaults, pages := [], mem := [], fns := [], vfs := [], compat := .off, ep := EpSt.reset,
    dbOrder := [], flights := [], arb := [], gates := List.replicate 15 Bucket.full, tints := [], elogs := [],
    recd := Recorder.empty,
    bak := { sec := 0, sub := 0, valid := false, vbatLost := true, frac := 0, pos := 0, pcc := 0, lostAtPower := true, alarmWaits := false },
    gateAdm := List.replicate 15 0, keys := [], sealedKeys := [], seals := [], reseal := [],
    cip := { waiting := [], busy := [], fenced := [], seeds := [], deal := [], alarm := false, results := [] },
    rng := { requests := 0 }, dig := { ctxs := [], waiting := [], cache := [], last := 0 }, loops := [], traces := [],
    ftl := Ftl.empty, gcHeld := GcHeld.reset, jobRows := [], media := [], lostEnts := [], lostSeen := [], dies := [], chans := [], listsDone := [], raw := [], soft := [], softFenced := [], cache := [], install := 1,
    jnl := Jnl.empty, plp := PlpSt.empty, format := none, firstStart := false, formatting := none, stores := [], grants := [], pushes := [],
    pushQs := [], pushDead := [], pushSkip := [], malTimes := [], tpPerst := 0, fab := FabSt.empty, doms := domsReset,
    sbd := Sideband.reset, flash := [], bfl := BflSt.rest, upd := UpdSt.idle, mailbox := [], dbg := DbgSt.locked,
    ddtGen := 0, fltSeq := 0, ovr := [], railMute := [], wdog := [], mbuf := [], sram := [], injected := [], evq := [], out := [], free := 0 }

/-- The block right after reset, with nothing waiting. -/
def State.reset : State := { pending := [], dev := Dev.first }

end Sys2Proof.Machine
end

