-- ==== Sys2Proof/Machine/Ops.lean ====
section
/-! DEFINITION. The named operations every meaning is written over: register access, counters, interrupts and MSI-X,
mode changes, recorder records, error-log entries, the enable machine of R63. -/
namespace Sys2Proof.Machine
open Sys2Proof

/-! ### Registers -/

/-- Register `off` of instance `i` of page type `p` (R46): the stored value, or the reset value. -/
def Dev.reg (d : Dev) (p : PT) (i off : Nat) : W32 :=
  match mget d.regs (p.key i off) with
  | some v => v
  | none => resetOf p off

/-- Store a register value; a register at its reset value is not listed. -/
def Dev.setReg (d : Dev) (p : PT) (i off : Nat) (v : W32) : Dev :=
  { d with regs := if v = resetOf p off then mdel d.regs (p.key i off) else mput d.regs (p.key i off) v }

/-- A field of a register. -/
def Dev.regF (d : Dev) (p : PT) (i off lo n : Nat) : Nat := fld (d.reg p i off) lo n

/-- A one-bit field of a register. -/
def Dev.regB (d : Dev) (p : PT) (i off lo : Nat) : Bool := d.regF p i off lo 1 == 1

/-- Set a field of a register. -/
def Dev.setRegF (d : Dev) (p : PT) (i off lo n v : Nat) : Dev := d.setReg p i off (setFld (d.reg p i off) lo n v)

/-- A register's value as a number. -/
def Dev.regN (d : Dev) (p : PT) (i off : Nat) : Nat := (d.reg p i off).toNat

/-- Store a number, modulo 2^32. -/
def Dev.setRegN (d : Dev) (p : PT) (i off v : Nat) : Dev := d.setReg p i off (BitVec.ofNat 32 v)

/-- A 64-bit register: low word at `off`, high word at `off + 4` (R46). -/
def Dev.reg64 (d : Dev) (p : PT) (i off : Nat) : Nat := d.regN p i off + d.regN p i (off + 4) * 0x100000000

/-- Store a 64-bit register, modulo 2^64. -/
def Dev.setReg64 (d : Dev) (p : PT) (i off v : Nat) : Dev :=
  (d.setRegN p i off (v % 0x100000000)).setRegN p i (off + 4) (v / 0x100000000 % 0x100000000)

/-- A counter that wraps at 2^32. -/
def Dev.incWrap (d : Dev) (p : PT) (i off n : Nat) : Dev := d.setRegN p i off (d.regN p i off + n)

/-- A counter that stops at 0xFFFF_FFFF. -/
def Dev.incSat (d : Dev) (p : PT) (i off n : Nat) : Dev := d.setRegN p i off (min 0xffffffff (d.regN p i off + n))

/-- A 64-bit counter. -/
def Dev.inc64 (d : Dev) (p : PT) (i off n : Nat) : Dev := d.setReg64 p i off (d.reg64 p i off + n)

/-- Microseconds since the device left RESET. -/
def Dev.us (d : Dev) : Nat := d.life.usUp - d.life.bootUs

/-! ### Boot-flash bytes -/

/-- Byte of the boot flash at an address of R647's layout; erased bytes read ones (R516). -/
def Dev.flashByte (d : Dev) (a : Nat) : Byte := (mget d.flash a).getD 0xff#8

/-- Base addresses of the option and OTP windows (R647). -/
abbrev optWin : Nat := 0x4000000
abbrev otpWin : Nat := 0x4001000

/-- Little-endian number of `n` flash bytes from `a`. -/
def Dev.flashNat (d : Dev) (a n : Nat) : Nat := leNat ((List.range n).map (fun i => d.flashByte (a + i)))

/-- SERIAL of the OTP row (R525). -/
def Dev.serial (d : Dev) : Nat := d.flashNat otpWin 8

/-- GRADE of the OTP row is E (0x45) (R525). -/
def Dev.gradeE (d : Dev) : Bool := d.flashNat (otpWin + 0xd) 1 == 0x45

/-! ### Output -/

/-- Reset value of a register on this device: THM's levels depend on GRADE (R568). -/
def Dev.resetAs (d : Dev) (p : PT) (off : Nat) : W32 :=
  if p = .THM ∧ d.gradeE then (match off with
    | 0x50 => 0x28358#32
    | 0x54 => 0x398#32
    | o => resetOf p o)
  else resetOf p off

/-- Send something out. -/
def Dev.emit (d : Dev) (e : OutEvent) : Dev := { d with out := e :: d.out }

/-- Index of a function in `Dev.fns` and of its view in `Dev.elogs`. -/
def fnIdx : Fn → Nat
  | .pf => 0
  | .vf n => n
  | .tp n => 256 + n

/-- Reset state of a function. PRESUMED of PCIe: MSE, BME and MSI-X Enable clear, D0, every MSI-X vector masked, no function mask. -/
def fnReset : FnSt :=
  { bme := false, mse := false, d3 := false, slept := [], flr := false, resetting := false, fmask := false, unmasked := [], pba := [], msixOff := true
    msix := [], cfg := [] }

/-- State of a function. -/
def Dev.fn (d : Dev) (f : Fn) : FnSt := (mget d.fns (fnIdx f)).getD fnReset

/-- Set the state of a function; one in its reset state is not listed. -/
def Dev.setFn (d : Dev) (f : Fn) (s : FnSt) : Dev :=
  { d with fns := if s = fnReset then mdel d.fns (fnIdx f) else mput d.fns (fnIdx f) s }

/-- MSI-X table size of a function (R78, R371). -/
def fnVectors (compat : Bool) : Fn → Nat
  | .pf => if compat then 1 else 2048
  | .vf _ => 64
  | .tp _ => 64

/-- Whether a function's vector is masked (R87); MSI-X disabled acts as the function mask. -/
def FnSt.masked (f : FnSt) (v : Nat) : Bool := f.fmask || f.msixOff || !(f.unmasked.contains v)

/-- Signal vector `v` of function `f`: one message, or the PBA bit while it is masked (R86, R87). Nothing is sent
while the function's DMA is stopped (R88). -/
def Dev.sendMsix (d : Dev) (f : Fn) (v : Nat) : Dev :=
  let s := d.fn f
  if s.masked v then
    if s.pba.contains v then d else d.setFn f { s with pba := v :: s.pba }
  else if s.bme then d.emit (.msix f v) else d

/-! ### Page interrupts -/

/-- VF whose valid binding holds host queue `q` (R82, R84). -/
def Dev.vfOfQueue (d : Dev) (q : Nat) : Option Nat :=
  (d.vfs.find? (fun e => e.2.valid && decide (e.2.qbase ≤ q ∧ q < e.2.qbase + e.2.qcount))).map (·.1)

/-- Functions whose view shows a page (R43, R81, R373). -/
def Dev.viewers (d : Dev) (p : PT) (i : Nat) : List Fn :=
  match p with
  | .TQ => [.tp (i / 64)]
  | .HQ => match d.vfOfQueue i with
    | some n => [.pf, .vf n]
    | none => [.pf]
  | _ => [.pf]

/-- A page requests its interrupt (R54). -/
def Dev.irqReq (d : Dev) (p : PT) (i : Nat) : Bool :=
  (d.reg p i Reg.IRQ_STS &&& d.reg p i Reg.IRQ_EN) != 0#32

/-- Signal vector 0 of every viewing function when a page's request has risen (R54, R86). -/
def Dev.irqEdge (before : Bool) (p : PT) (i : Nat) (d : Dev) : Dev :=
  if !before && d.irqReq p i then (d.viewers p i).foldl (fun d f => d.sendMsix f 0) d else d

/-- Set IRQ_STS bit `b` (R53). -/
def Dev.setIrq (d : Dev) (p : PT) (i b : Nat) : Dev :=
  (d.setRegF p i Reg.IRQ_STS b 1 1).irqEdge (d.irqReq p i) p i

/-! ### Events toward the collector -/

/-- DETAIL of an event for which the owning chapter states none: the collector then takes a free value (R562). -/
abbrev noDetail : Nat := 0x10000

/-- Queue an event for the collector, which takes it in this same step; a further event of an input whose event still
waits is merged into it (R552), and one of an input that a rail fault mutes is ignored (R553). -/
def Dev.event (d : Dev) (e : Ev) : Dev :=
  if d.evq.any (fun x => x.ty == e.ty && x.inst == e.inst && x.bit == e.bit && x.fixed == e.fixed) ||
      d.railMute.contains (e.ty, e.unit, e.bit) then d
  else { d with evq := d.evq ++ [e] }

/-- SRST of a page brings its inputs back to the collector (R553). -/
def Dev.unmute (d : Dev) (p : PT) (i : Nat) : Dev :=
  { d with railMute := d.railMute.filter (fun e => !(e.1 == p.code && (e.2.1 == i || p.count == 1))) }

/-- Set ERR_STS bit `b` of a page (R53). An event reaches the collector, and IRQ_STS.ERR sets, when its ERR_ACT bit is
1; OWNER_VIOL (bit 31) has no ERR_ACT bit and always does (R59, R560). The collector's input takes an event when the
bit rises or is set again. -/
def Dev.raiseErr (d : Dev) (p : PT) (i b detail : Nat) : Dev :=
  let d := d.setRegF p i Reg.ERR_STS b 1 1
  if b = 31 ∨ d.regB p i Reg.ERR_ACT b then
    (d.setIrq p i 31).event
      { ty := p.code, inst := i, bit := b, fixed := false, rail := false,
        cls := if b < p.errClasses.length then p.errClasses.getD b 0 else 0, detail := detail, unit := i }
  else d

/-- An event on a fixed input of the collector (R562). -/
def Dev.fixedEvent (d : Dev) (p : PT) (i cls detail : Nat) : Dev :=
  d.event { ty := p.code, inst := i, bit := 0x1f, fixed := true, rail := false, cls := cls, detail := detail, unit := i }

/-! ### Mode -/

/-- Code of a mode (mode table of spec/01_architecture.md). -/
def modeCode : Mode → Nat
  | .backup => 0 | .reset => 1 | .boot => 2 | .maint => 3 | .compat => 4 | .active => 5 | .idle => 6
  | .patrol => 7 | .degraded => 8 | .fenced => 9 | .readonly => 10 | .flush => 11

/-- A latency field of the LTR capability, in ns: value × 32^scale. -/
def ltrNs (w : W32) (lo : Nat) : Nat := fld w lo 10 * 32 ^ fld w (lo + 10) 3

/-- LTR message of R95 of a function for a mode: the host's maxima in IDLE and PATROL, else 10 µs or a lower maximum. -/
def ltrFor (f : Fn) (x : FnSt) (m : Mode) : OutEvent :=
  let low := m == .idle || m == .patrol
  match mget x.cfg 0x2d4 with
  | none => .ltr f 10000 10000
  | some w => .ltr f (if low then ltrNs w 0 else min 10000 (ltrNs w 0)) (if low then ltrNs w 16 else min 10000 (ltrNs w 16))

/-- The LTR messages of a change of mode: one on each PCIe link that is up (R95, R371). -/
def Dev.ltrOut (d : Dev) (m : Mode) : List OutEvent :=
  (if d.regF .EP 0 Reg.EP_LINK_STS 0 3 = 0 then [] else [ltrFor .pf (d.fn .pf) m]) ++
    (List.range 8).filterMap (fun p =>
      if d.regF .TP p Reg.TP_LINK_STS 0 3 = 0 then none else some (ltrFor (.tp p) (d.fn (.tp p)) m))

/-- Take a mode: SEQ advances and an LTR message goes out at every change of CUR (R33, R95). -/
def Dev.setMode (d : Dev) (m : Mode) : Dev :=
  if d.life.mode = m then d
  else
    let keep : Bool := match m with
      | .reset => true
      | .maint => d.dbg.level == 2
      | _ => false
    { d with
      life := { d.life with mode := m, seq := (d.life.seq + 1) % 256 }
      dbg := { d.dbg with balls := if keep then d.dbg.balls else 0 }
      out := d.ltrOut m ++ d.out }

/-- Modes in which queues are served: data commands run in them as their conditions allow. -/
def servingMode : Mode → Bool
  | .compat | .active | .degraded | .fenced | .readonly => true
  | _ => false

/-! ### Recorder -/

/-- Severity floor of REC_CFG.MIN_SEV; values above 4 act as 4 (R573, R585). -/
def Dev.minSev (d : Dev) : Nat := min 4 (d.regF .REC 0 Reg.REC_REC_CFG 0 3)

/-- Raise an in-band interrupt cause when SBD_CFG.IBI_EN is set (R638). -/
def Dev.ibiCause (d : Dev) (c : Nat) : Dev :=
  if d.regB .SBD 0 Reg.SBD_SBD_CFG 0 then { d with sbd := { d.sbd with ibi := bitSet d.sbd.ibi c } } else d

/-- Whether a new record folds into the pending record `r` (R574). -/
def foldsInto (d : Dev) (r : Rec) (sev source code p0 : Nat) : Bool :=
  let w := d.regF .REC 0 Reg.REC_REC_CFG 16 8
  decide (w ≠ 0) && r.sev == sev && r.source == source && r.code == code && r.p0 == p0 &&
    decide (d.life.usUp - r.atUs ≤ w * 100000) && decide (r.rep < 0xffff)

/-- The record with one more occurrence folded in (R574). -/
def foldRec (r : Rec) (p1 : Nat) : Rec := { r with rep := r.rep + 1, p1 := p1 }

/-- Lowest severity among records. -/
def minSevOf (rs : List Rec) : Nat := rs.foldl (fun m r => min m r.sev) 4

/-- Enter a record as pending; with 2,048 pending, R579 drops it or the oldest record of the lowest severity. -/
def Dev.enterRec (d : Dev) (r : Rec) : Dev :=
  let rc := d.recd
  let d1 : Dev :=
    if rc.pending.length < 2048 then { d with recd := { rc with pending := rc.pending ++ [r] } }
    else
      let m := minSevOf rc.pending
      let kept := if r.sev < m then rc.pending
        else (rc.pending.eraseP (fun x => x.sev == m)) ++ [r]
      { d with recd := { rc with pending := kept, dropped := min 0xffffffff (rc.dropped + 1) } }
  let d2 := if rc.pending.length < 2048 ∨ d.regB .REC 0 Reg.ERR_STS 1 then d1 else d1.raiseErr .REC 0 1 noDetail
  if rc.pending.length < 2048 ∨ ¬ (r.sev < minSevOf rc.pending) then
    { d2 with recd := { d2.recd with
        next := d2.recd.next + 1
        recent := (d2.recd.recent ++ [r]).drop (d2.recd.recent.length + 1 - 256) } }
  else d2

/-- A record arrives (R572 to R579): filtered by MIN_SEV unless the fault collector wrote it, folded into the newest
pending record, or entered with a new SEQ. `flags` carries REPLAYED and HOST; CAL_VALID is taken here. -/
def Dev.record (d : Dev) (fromFlt : Bool) (sev source code p0 p1 flags : Nat) : Dev :=
  if !fromFlt && decide (sev < d.minSev) then d
  else
    let fold := match d.recd.pending.getLast? with
      | some r => foldsInto d r sev source code p0
      | none => false
    let d1 :=
      if fold then
        { d with recd := { d.recd with
            pending := d.recd.pending.dropLast ++ (d.recd.pending.getLast?.toList.map (foldRec · p1)),
            recent := d.recd.recent.dropLast ++ (d.recd.recent.getLast?.toList.map (foldRec · p1)) } }
      else
        d.enterRec ⟨sev, flags + b2n d.bak.valid, source, code, 0, d.recd.next, d.bak.pos, d.bak.pcc, d.bak.sec,
          p0, p1, d.life.usUp⟩
    if sev = 4 then (d1.setIrq .REC 0 0).ibiCause 1 else d1

/-- A fresh value of the model's free counter, and the device that has counted it. -/
def Dev.takeFree (d : Dev) : Nat × Dev := (d.free, { d with free := d.free + 1 })

/-- A recorder event of ORIGIN `o` (0 hardware, 1 Mordant, 2 Glaze) whose CODE, and where `none` whose parameters, the spec
does not state: free values (R572). -/
def Dev.noteBy (d : Dev) (o sev : Nat) (p : PT) (p0 p1 : Option Nat) : Dev :=
  let n := d.free
  { d with free := n + 3 }.record false sev (p.code + o * 0x1000) (Config.freeNat n % 0x10000)
    (p0.getD (Config.freeNat (n + 1) % 0x100000000)) (p1.getD (Config.freeNat (n + 2) % 0x100000000)) 0

/-- As `noteBy`, from hardware. -/
def Dev.note (d : Dev) (sev : Nat) (p : PT) (p0 p1 : Option Nat) : Dev := d.noteBy 0 sev p p0 p1

/-! ### Error log -/

/-- Entries a view's window holds (R140, R141). -/
def logCapacity (v : Nat) : Nat := if v = 0 then 131008 else 960

/-- The error log of a view. -/
def Dev.elog (d : Dev) (v : Nat) : LogView := (mget d.elogs v).getD { newest := 0, entries := [] }

/-- Append an entry to a view's ring with the view's next SEQ; the oldest entry is overwritten when full (R140). -/
def Dev.addLog (d : Dev) (v : Nat) (e : LogEntry) : Dev :=
  let l := d.elog v
  { d with elogs := mput d.elogs v {
      newest := l.newest + 1
      entries := ({ e with seq := l.newest + 1, time := d.us } :: l.entries).take (logCapacity v) } }

/-- Append an entry to several views. -/
def Dev.addLogs (d : Dev) (vs : List Nat) (e : LogEntry) : Dev := vs.foldl (fun d v => d.addLog v e) d

/-! ### The enable machine of R63 -/

/-- State of a page that has HAS_DRAIN; QE pages reset with EN = 1, the others with EN = 0 (R52). -/
def pageReset (p : PT) : PageSt := if p = .QE then .starting else .off

/-- State of a page. -/
def Dev.page (d : Dev) (p : PT) (i : Nat) : PageSt := (mget d.pages (p.key i 0)).getD (pageReset p)

/-- Set the state of a page; one in its reset state is not listed. -/
def Dev.setPage (d : Dev) (p : PT) (i : Nat) (s : PageSt) : Dev :=
  { d with pages := if s = pageReset p then mdel d.pages (p.key i 0) else mput d.pages (p.key i 0) s }

/-- EN as PAGE_CTL reads it (R63). -/
def PageSt.en : PageSt → Bool
  | .starting | .serving => true
  | _ => false

/-- PAGE_STS bits READY, EN_PENDING, DRAINING and FAULT of a state (R63). -/
def PageSt.sts : PageSt → Nat
  | .off | .starting => 0
  | .serving => 1
  | .draining p _ => 4 + 2 * b2n p
  | .faulted p => 8 + 2 * b2n p

/-- EN ← 1 (R63). -/
def PageSt.enSet : PageSt → PageSt
  | .off => .starting
  | .starting => .starting
  | .serving => .serving
  | .draining _ s => .draining true s
  | .faulted _ => .faulted true

/-- EN ← 0 (R63). -/
def PageSt.enClear : PageSt → PageSt
  | .off => .off
  | .starting | .serving => .draining false false
  | .draining _ s => .draining false s
  | .faulted _ => .faulted false

/-- DRAIN ← 1: no effect in OFF, DRAINING or FAULTED (R63). -/
def PageSt.drain : PageSt → PageSt
  | .starting | .serving => .draining false false
  | s => s

/-- SRST ← 1 (R63). -/
def PageSt.srst : PageSt → PageSt
  | .off => .off
  | .starting | .serving => .draining false true
  | .draining _ _ => .draining false true
  | .faulted true => .starting
  | .faulted false => .off

/-- C2 containment: EN and EN_PENDING cleared, FAULT set (R63). -/
def PageSt.contain : PageSt → PageSt
  | .faulted p => .faulted p
  | _ => .faulted false

/-- Whether a page serves: READY of R53. Pages without HAS_DRAIN read READY from the end of BOOT. -/
def Dev.ready (d : Dev) (p : PT) (i : Nat) : Bool :=
  if p.hasDrain then d.page p i == .serving else d.life.booted

/-- PAGE_CTL.LOCK (R60). -/
def Dev.locked (d : Dev) (p : PT) (i : Nat) : Bool := d.regB p i Reg.PAGE_CTL 3

/-- Remove every register of a page at or above an offset, so that it reads its reset value. -/
def dropRegs (p : PT) (i lo : Nat) (regs : List (Nat × W32)) : List (Nat × W32) :=
  regs.filter (fun e => ! decide (p.key i lo ≤ e.1 ∧ e.1 < p.key i 0 + 0x1000))

/-- Common registers that SRST takes to their reset values: IRQ, ERR and INJ_CTL (R63, R672), and FORCE, which the PAGE scope of R614 covers
(R9) and R65 does not except. PAGE_CTL.LOCK, OWNER and PAGE_SEQ stay (R65). -/
def srstCommon : List Nat := [Reg.IRQ_STS, Reg.IRQ_EN, Reg.ERR_STS, Reg.ERR_ACT, Reg.INJ_CTL, Reg.FORCE]

/-- Load the reset values that SRST loads on a page with HAS_DRAIN: offsets 0x040 and above and `srstCommon` (R63). -/
def Dev.loadReset (d : Dev) (p : PT) (i : Nat) : Dev :=
  let d := { (d.unmute p i) with regs := dropRegs p i 0x40 d.regs }
  srstCommon.foldl
    (fun d off => d.setReg p i off (resetOf p off)) d

/-- Publish a new DDT content (R68). -/
def Dev.ddtPublish (d : Dev) : Dev := { d with ddtGen := (d.ddtGen + 1) % 0x100000000 }

/-! ### Arbiters -/

/-- Search pointer of an arbiter (R39). -/
def Dev.arbPtr (d : Dev) (k : Nat) : Nat := (mget d.arb k).getD 0

/-- Advance an arbiter's pointer past its winner (R39). -/
def Dev.arbWin (d : Dev) (k n w : Nat) : Dev := { d with arb := mput d.arb k ((w + 1) % n) }

end Sys2Proof.Machine
end

