-- ==== Sys2Proof/Machine/QueueOps.lean ====
section
/-! DEFINITION. Queues, slots, completions, freezes and discards (spec/04_command_queues.md, R101 to R105). A queue
is named by one number: host queue q is q, tenant queue i of port p is 2,048 + 64·p + i. -/
namespace Sys2Proof.Machine
open Sys2Proof

/-! ### Status codes of R127 -/
namespace St
abbrev success : Nat := 0x00
abbrev aborted : Nat := 0x01
abbrev discarded : Nat := 0x02
abbrev lengthMismatch : Nat := 0x03
abbrev piGuard : Nat := 0x04
abbrev piRef : Nat := 0x05
abbrev piApp : Nat := 0x06
abbrev mediaUncorr : Nat := 0x07
abbrev stripeLost : Nat := 0x08
abbrev readOnly : Nat := 0x09
abbrev fenced : Nat := 0x0a
abbrev keyExhausted : Nat := 0x0b
abbrev quota : Nat := 0x0c
abbrev invalidField : Nat := 0x0d
abbrev notFound : Nat := 0x0e
abbrev internalMemory : Nat := 0x0f
abbrev accessDenied : Nat := 0x10
abbrev dmaFault : Nat := 0x11
abbrev conflict : Nat := 0x12
abbrev eraseInProgress : Nat := 0x13
end St

/-- Statuses that write an error-log entry and set FLAGS.LOGGED (R127). -/
def loggedStatus (s : Nat) : Bool :=
  [0x03, 0x04, 0x05, 0x06, 0x07, 0x08, 0x0b, 0x0c, 0x0d, 0x0f, 0x10, 0x11].contains s

/-! ### Naming queues -/

/-- Page type and instance of a queue (R51, R106). -/
def qPage (q : Nat) : PT × Nat := if q < 2048 then (.HQ, q) else (.TQ, q - 2048)

/-- A field of a queue's page. -/
def Dev.qF (d : Dev) (q off lo n : Nat) : Nat := d.regF (qPage q).1 (qPage q).2 off lo n

/-- Set a field of a queue's page. -/
def Dev.setQF (d : Dev) (q off lo n v : Nat) : Dev := d.setRegF (qPage q).1 (qPage q).2 off lo n v

/-- Ring address of a queue (R107). -/
def Dev.qCqBase (d : Dev) (q : Nat) : Nat := d.reg64 (qPage q).1 (qPage q).2 Reg.HQ_CQ_BASE

/-- Function that owns a queue (R84, R373). -/
def Dev.qOwner (d : Dev) (q : Nat) : Fn :=
  if q < 2048 then (match d.vfOfQueue q with
    | some n => .vf n
    | none => .pf)
  else .tp ((q - 2048) / 64)

/-- Binding of VF `n` (R82). -/
def vfReset : VfSt := { tint := 0, qcount := 0, qbase := 0, valid := false, st := .off, want := false }

/-- State of VF `n`. -/
def Dev.vf (d : Dev) (n : Nat) : VfSt := (mget d.vfs n).getD vfReset

/-- Set the state of VF `n`; one in its reset state is not listed. -/
def Dev.setVf (d : Dev) (n : Nat) (v : VfSt) : Dev :=
  { d with vfs := if v = vfReset then mdel d.vfs n else mput d.vfs n v }

/-- Tint of a queue: the VF's binding, the port's binding, or Q_CFG.TINT (R84, R108). -/
def Dev.qTint (d : Dev) (q : Nat) : Nat :=
  match d.qOwner q with
  | .pf => d.qF q Reg.HQ_Q_CFG 0 10
  | .vf n => (d.vf n).tint
  | .tp p => d.regF .TP p Reg.TP_TP_BIND 0 10

/-- The queue's page serves: the forerunner machine stands for host queue 0 in COMPAT (R101). -/
def Dev.qSt (d : Dev) (q : Nat) : PageSt :=
  if d.life.mode = .compat ∧ q = 0 then d.compat else d.page (qPage q).1 (qPage q).2

/-- Set the enable state of a queue. -/
def Dev.setQSt (d : Dev) (q : Nat) (s : PageSt) : Dev :=
  if d.life.mode = .compat ∧ q = 0 then { d with compat := s } else d.setPage (qPage q).1 (qPage q).2 s

/-- The page is FAULTED. -/
def PageSt.isFaulted : PageSt → Bool
  | .faulted _ => true
  | _ => false

/-- Engine that serves a queue: q mod 4, or when that engine is FENCED, the next one in service (R111). -/
def Dev.engineFor (d : Dev) (q : Nat) : Nat :=
  let base := if q < 2048 then q % 4 else (q - 2048) % 64 % 4
  if (d.page .QE base).isFaulted then
    ((List.range 4).map (fun i => (base + i) % 4)).find? (fun e => d.page .QE e == .serving) |>.getD base
  else base

/-- Frozen: FREEZE.REASON is not zero (R138). -/
def Dev.frozen (d : Dev) (q : Nat) : Bool := d.qF q Reg.HQ_FREEZE 0 8 != 0

/-- Commands of a queue in flight. -/
def Dev.inflight (d : Dev) (q : Nat) : List Flight := d.flights.filter (fun f => f.q == q)

/-- UNCONSUMED: (TAIL − HEAD) mod 64 (R107). -/
def Dev.unconsumed (d : Dev) (q : Nat) : Nat := (d.qF q Reg.HQ_CQ_TAIL 0 6 + 64 - d.qF q Reg.HQ_CQ_HEAD 0 6) % 64

/-! ### Slots -/

/-- Byte `a` of slot memory; nothing written reads zero (R139). -/
def Dev.slotByte (d : Dev) (a : Nat) : Byte := (mget d.mem a).getD 0#8

/-- Store a byte of slot memory; a zero byte is not listed. -/
def putByte (m : List Host.Cell) (a : Nat) (b : Byte) : List Host.Cell := if b = 0#8 then mdel m a else mput m a b

/-- Store a run of bytes from address `a`. -/
def putBytes (m : List Host.Cell) (a : Nat) : List Byte → List Host.Cell
  | [] => m
  | b :: bs => putBytes (putByte m a b) (a + 1) bs

/-- Little-endian field of `n` bytes at offset `o` of slot `t` of queue `q`. -/
def Dev.slotField (d : Dev) (q t o n : Nat) : Nat :=
  leNat ((List.range n).map (fun i => d.slotByte (q * 2048 + t * 64 + o + i)))

/-- Copy of a slot as a command entry (R112, R116). -/
def Dev.slotCmd (d : Dev) (q t : Nat) : Cmd :=
  let f := d.slotField q t
  { opcode := f 0 1, flags := f 1 1, rsv := decide (f 1 1 ≥ 16 ∨ f 2 2 ≠ 0), target := f 4 4, addr := f 8 8,
    count := f 16 4, appTag := f 20 2, appMask := f 22 2, dataAddr := f 24 8, piAddr := f 32 8, refTag := f 40 8,
    arg0 := f 48 8, arg1 := f 56 8 }

/-! ### Completions -/

/-- Origin bytes of an error-log entry for a queue: ORIGIN, ORIGIN_NUM, QUEUE (R142). -/
def Dev.logOrigin (d : Dev) (q : Nat) : Nat × Nat × Nat :=
  match d.qOwner q with
  | .pf => (0, 0, q)
  | .vf n => (1, n, q)
  | .tp p => (2, p, (q - 2048) % 64)

/-- The views a queue's entries go to: the PF's and its owner's (R140). -/
def Dev.logViews (d : Dev) (q : Nat) : List Nat :=
  match d.qOwner q with
  | .pf => [0]
  | f => [0, fnIdx f]

/-- Opcode as the requester wrote it: forerunner IDENTIFY runs as the native one (R103). -/
def Cmd.shownOp (c : Cmd) : Nat := if nbit c.flags 8 ∧ c.opcode = 0x61 then 5 else c.opcode

/-- COMMAND entry of R142 for a command in flight. -/
def Dev.cmdLog (d : Dev) (f : Flight) (status firstFail detail expected actual addr : Nat) : LogEntry :=
  let o := d.logOrigin f.q
  { seq := 0, kind := 1, status := status, origin := o.1, originNum := o.2.1, queue := o.2.2, tag := f.tag,
    opcode := f.cmd.shownOp, w10 := firstFail, w14 := detail, w18 := f.cmd.target, w1c := f.tint + f.qe * 0x10000,
    d20 := addr, d28 := expected, d30 := actual, time := 0 }

/-- Signal the completion message of a queue: Q_CFG.VECTOR, or VECTOR_RANGE beyond the table (R87, R124). -/
def Dev.completionMsg (d : Dev) (q : Nat) : Dev :=
  let fn := d.qOwner q
  if d.life.mode = .compat ∧ q = 0 then d.sendMsix .pf 0
  else
    let v := d.qF q Reg.HQ_Q_CFG 10 11
    if v < fnVectors (d.life.mode == .compat) fn then d.sendMsix fn v
    else d.raiseErr (qPage q).1 (qPage q).2 3 noDetail

/-- Queue number of a command whose queue is gone although it still installs (R88, R376): its data had arrived, and it posts
nothing. -/
abbrev goneQ : Nat := 4097

/-- A sector asked of another member is for this command. -/
def FabUse.isFor (u : FabUse) (q t : Nat) : Bool := match u with
  | .cmd q' t' _ => q' == q && t' == t
  | .old _ _ => false

/-- Forget everything that stands for a command beside its flight: its place at a gate, its messages' answers, its pushed data. -/
def Dev.forget (d : Dev) (q t : Nat) : Dev :=
  { d with
      gates := d.gates.map (fun (b : Bucket) => { b with waiters := b.waiters.filter (fun e => !(e.1 == q && e.2 == t)) })
      pushes := mdel d.pushes (q * 32 + t)
      fab := { d.fab with
        writes := d.fab.writes.filter (fun w => !(w.q == q && w.tag == t))
        reads := d.fab.reads.filter (fun r => !r.use.isFor q t)
        rebuilds := d.fab.rebuilds.filter (fun r => !r.use.isFor q t) } }

/-- Take a command out of the flight table. -/
def Dev.unflight (d : Dev) (q t : Nat) : Dev :=
  { d.forget q t with flights := d.flights.filter (fun f => !(f.q == q && f.tag == t)) }

/-- Retire a tag: out of the flight table and the doorbell order, DOORBELL cleared. -/
def Dev.retire (d : Dev) (q t : Nat) : Dev :=
  { ((d.setQF q Reg.HQ_DOORBELL t 1 0).unflight q t) with dbOrder := d.dbOrder.filter (fun e => !(e.1 == q && e.2 == t)) }

/-- The 16 bytes of a completion entry, native (R123) or of the forerunner (R105). -/
def cqeBytes (native : Bool) (tag status flags opcode firstFail result : Nat) : List Byte :=
  if native then leBytes 1 tag ++ leBytes 1 status ++ leBytes 1 flags ++ leBytes 1 opcode ++ leBytes 4 firstFail ++ leBytes 8 result
  else leBytes 2 tag ++ leBytes 1 status ++ leBytes 1 (flags % 2) ++ leBytes 4 firstFail ++ zeros 8

/-- Ring step of R124: the entry is written at TAIL with PHASE, TAIL advances and PHASE inverts at the wrap, DOORBELL
clears, CPL_MAP sets, DONE_CNT and ERR_CNT count, then the message goes out. -/
def Dev.ringPost (d : Dev) (q tag status flags opcode firstFail result : Nat) (noIrq : Bool) : Dev :=
  let tail := d.qF q Reg.HQ_CQ_TAIL 0 6
  let phase := d.qF q Reg.HQ_CQ_TAIL 6 1
  let native := !(d.life.mode == .compat && q == 0)
  let d := d.emit (.cqe q tail tag status (phase + flags) opcode firstFail result native)
  let d := d.emit (.dma (d.qOwner q) (d.qCqBase q + 16 * tail) (cqeBytes native tag status (phase + flags) opcode firstFail result) 0)
  let d := d.setQF q Reg.HQ_CQ_TAIL 0 6 (tail + 1)
  let d := if tail = 63 then d.setQF q Reg.HQ_CQ_TAIL 6 1 (1 - phase) else d
  let d := (d.retire q tag).setQF q Reg.HQ_CPL_MAP tag 1 1
  let d := d.incWrap (qPage q).1 (qPage q).2 Reg.HQ_DONE_CNT 1
  let d := if status = 0 then d else d.incWrap (qPage q).1 (qPage q).2 Reg.HQ_ERR_CNT 1
  let irq := if native then d.qF q Reg.HQ_Q_CFG 21 1 == 1 && !noIrq else true
  if irq then d.completionMsg q else d

/-- ATTEST completions are counted (R367). -/
def Dev.countAttest (d : Dev) (status result : Nat) : Dev :=
  (d.incWrap .ATT 0 Reg.ATT_ATTESTS 1).incWrap .ATT 0
    (if status ≠ 0 then Reg.ATT_FAILED else if result = 0 then Reg.ATT_EQUAL else Reg.ATT_NOT_EQUAL) 1

/-- Post a command's completion (R123, R124): the log entry first when the status is logged, whose SEQ in the owner's
view is then RESULT. -/
def Dev.post (d : Dev) (f : Flight) (status firstFail detail expected actual addr result : Nat) : Dev :=
  if f.q = goneQ then d.unflight f.q f.tag
  else
  let logged := loggedStatus status
  let d := if f.cmd.opcode = 0x40 then d.countAttest status result else d
  let d := if logged then d.addLogs (d.logViews f.q) (d.cmdLog f status firstFail detail expected actual addr) else d
  let res := if logged then (d.elog (fnIdx (d.qOwner f.q))).newest
    else if status = St.success ∨ status = St.conflict ∨ f.cmd.opcode = 0x50 then result else 0
  d.ringPost f.q f.tag status (if logged then 2 else 0) f.cmd.shownOp firstFail res (nbit f.cmd.flags 3)

/-- Post SUCCESS with a result. -/
def Dev.postOk (d : Dev) (f : Flight) (result : Nat) : Dev := d.post f St.success 0 0 0 0 f.cmd.addr result

/-- Post a failure with a DETAIL code. -/
def Dev.postFail (d : Dev) (f : Flight) (status detail : Nat) : Dev := d.post f status 0 detail 0 0 f.cmd.addr 0

/-- Find a command in flight. -/
def Dev.flight (d : Dev) (q t : Nat) : Option Flight := d.flights.find? (fun f => f.q == q && f.tag == t)

/-- Replace a command in flight. -/
def Dev.setFlight (d : Dev) (f : Flight) : Dev :=
  { d with flights := updFirst (fun x => x.q == f.q && x.tag == f.tag) (fun _ => f) d.flights }

/-! ### Freeze and discard -/

/-! FREEZE reasons of R138. -/
namespace Fz
abbrev length : Nat := 1
abbrev dma : Nat := 2
abbrev device : Nat := 3
abbrev master : Nat := 4
abbrev contained : Nat := 5
abbrev tint : Nat := 6
end Fz

/-- Tags of a queue whose doorbell bit is set and not yet admitted. -/
def Dev.unadmitted (d : Dev) (q : Nat) : List Nat :=
  ((d.dbOrder.filter (fun e => e.1 == q)).map (·.2)).filter (fun t => (d.flight q t).isNone)

/-- A set of tags as a mask. -/
def tagMask (ts : List Nat) : Nat := ts.foldl bitSet 0

/-- Clear the unadmitted doorbell bits of a queue, with no completion (R115). -/
def Dev.clearUnadmitted (d : Dev) (q : Nat) : Dev := (d.unadmitted q).foldl (fun d t => d.retire q t) d

/-- DOORBELL of an admitted command that ends with no completion: the bit stays set until the next clean start (DOORBELL's field text,
R115); the forerunner view's C_DOORBELL reads 1 only while the command is in flight. -/
def Dev.bitAfterDrop (d : Dev) (q t : Nat) : Dev :=
  if d.life.mode = .compat ∧ q = 0 then d.setQF q Reg.HQ_DOORBELL t 1 0 else d

/-- An admitted command ends with no completion (R36, R88). -/
def Dev.dropTag (d : Dev) (q t : Nat) : Dev :=
  { ((d.bitAfterDrop q t).unflight q t) with dbOrder := d.dbOrder.filter (fun e => !(e.1 == q && e.2 == t)) }

/-- Discard every command of a queue in flight without a completion (R36). -/
def Dev.dropFlights (d : Dev) (q : Nat) : Dev := (d.inflight q).foldl (fun d f => d.dropTag q f.tag) d

/-- Discard every command of a queue in flight and post DISCARDED for each (R36, R37). -/
def Dev.discardPosted (d : Dev) (q : Nat) : Dev :=
  (d.inflight q).foldl (fun d f => d.post f St.discarded 0 0 0 0 f.cmd.addr 0) d

/-- Freeze a queue (R138): unadmitted bits cleared, FROZE set, one FREEZE entry logged; a frozen queue keeps its first
reason. `tag` is the triggering command, if any; `discarded` the tags the freeze discards. -/
def Dev.freeze (d : Dev) (q reason : Nat) (tag : Option (Nat × Nat)) (discarded : List Nat) : Dev :=
  if 4096 ≤ q then d
  else
  let cleared := d.unadmitted q
  let o := d.logOrigin q
  let views := d.logViews q
  let tint := d.qTint q
  let d := d.clearUnadmitted q
  let d := if d.frozen q then d else
    let d := d.setQF q Reg.HQ_FREEZE 0 8 reason
    match tag with
    | some (t, _) => (d.setQF q Reg.HQ_FREEZE 8 5 t).setQF q Reg.HQ_FREEZE 13 1 1
    | none => d
  let d := d.setIrq (qPage q).1 (qPage q).2 0
  d.addLogs views
    { seq := 0, kind := 2, status := reason, origin := o.1, originNum := o.2.1, queue := o.2.2,
      tag := (tag.map (·.1)).getD 0xff, opcode := (tag.map (·.2)).getD 0xff, w10 := 0, w14 := 0, w18 := 0,
      w1c := tint + d.qF q Reg.HQ_Q_STS 20 2 * 0x10000, d20 := 0, d28 := tagMask cleared, d30 := tagMask discarded,
      time := 0 }

/-- Every queue that is not OFF, by number: those whose page state is listed. -/
def Dev.liveQueues (d : Dev) : List Nat :=
  (if d.life.mode = .compat ∧ d.compat ≠ .off then [0] else []) ++
  d.pages.filterMap (fun e =>
    let c := e.1 / 0x1000000
    let i := e.1 / 0x1000 % 0x1000
    if c = PT.HQ.code then some i else if c = PT.TQ.code then some (2048 + i) else none)

/-- Freeze a queue and discard its commands, posting DISCARDED or nothing (R138). -/
def Dev.freezeDiscard (d : Dev) (q reason : Nat) (posted : Bool) : Dev :=
  let tags := (d.inflight q).map (·.tag)
  let d := if posted then d.discardPosted q else d.dropFlights q
  d.freeze q reason none tags

/-- Clean state of a queue (R63, R139): DOORBELL, CPL_MAP, HEAD, TAIL, FREEZE and counters at zero, PHASE 1, slots zero;
the serving engine is latched (R111). -/
def Dev.cleanQueue (d : Dev) (q : Nat) : Dev :=
  let p := (qPage q).1
  let i := (qPage q).2
  let d := [Reg.HQ_DOORBELL, Reg.HQ_CPL_MAP, Reg.HQ_CQ_HEAD, Reg.HQ_CQ_TAIL, Reg.HQ_FREEZE, Reg.HQ_DONE_CNT,
    Reg.HQ_ERR_CNT].foldl (fun d off => d.setReg p i off (resetOf p off)) d
  let d := { d with
    mem := d.mem.filter (fun c => !(decide (q * 2048 ≤ c.1 ∧ c.1 < q * 2048 + 2048)))
    dbOrder := d.dbOrder.filter (fun e => !(e.1 == q))
    flights := d.flights.filter (fun f => !(f.q == q)) }
  d.setQF q Reg.HQ_Q_STS 20 2 (d.engineFor q)

/-- DETAIL codes of R135 and R137. -/
def dmaDetail : DmaError → Nat
  | .unsupported => 1 | .abort => 2 | .poisoned => 3 | .timeout => 4

/-- AER uncorrectable status bit (PRESUMED of PCIe) of a failed DMA read: Unsupported Request, Completer Abort, Poisoned TLP, Completion Timeout,
else Malformed TLP. -/
def dmaAerBit (detail : Nat) : Nat := if detail = 1 then 20 else if detail = 2 then 15 else if detail = 3 then 12 else if detail = 4 then 14 else 18

/-- Log an error in a function's AER capability and report it (R74, R79): its uncorrectable status bit, for an advisory non-fatal error the
correctable status bit 13, and at the first error the First Error Pointer and the four words of the header log, which are free: the model
holds no TLP headers. -/
def Dev.aerLog (f : Fn) (bit : Nat) (advisory : Bool) (code : Nat) (d : Dev) : Dev :=
  let x := d.fn f
  let w (off : Nat) : W32 := (mget x.cfg off).getD 0#32
  let put (off : Nat) (v : W32) (c : List (Nat × W32)) : List (Nat × W32) := mput c off v
  let c := put 0x104 (w 0x104 ||| BitVec.ofNat 32 (2 ^ bit)) x.cfg
  let c := if advisory then put 0x110 (w 0x110 ||| 0x2000#32) c else c
  let d := { d with free := d.free + 4 }
  let n := d.free
  let c := if w 0x104 = 0#32 then
      (List.range 4).foldl (fun c k => put (0x11c + 4 * k) (BitVec.ofNat 32 (Config.freeNat (n + k))) c)
        (put 0x118 (setFld (w 0x118) 0 5 bit) c)
    else c
  (d.setFn f { x with cfg := c }).emit (.aer f code)

/-- Fail a command with a status that freezes its queue (R127, R138). -/
def Dev.failFreeze (d : Dev) (f : Flight) (status reason detail expected actual : Nat) : Dev :=
  (d.post f status 0 detail expected actual f.cmd.addr 0).freeze f.q reason (some (f.tag, f.cmd.shownOp)) []

end Sys2Proof.Machine
end

