-- ==== Sys2Proof/Machine/PageOps.lean ====
section
/-! DEFINITION. Access to register pages: domains, ownership, locks, PAGE_SEQ (R43 to R65). -/
namespace Sys2Proof.Machine
open Sys2Proof

/-- Bit of a domain in OWNER.WR (R53, OWNER) and its code in a DETAIL of R59. -/
def domBit : Domain → Nat
  | .secure => 0 | .host => 1 | .vf => 2 | .glaze => 3 | .tenant => 4

/-- The link of tenant port `p` is trained: LINK_STS.SPEED is not 0. An untrained port carries no request, so it draws no token and raises no
error (R2). -/
def Dev.portTrained (d : Dev) (p : Nat) : Bool := d.regF .TP p Reg.TP_LINK_STS 0 3 != 0

/-- Memory requests to a function's BARs are served: Memory Space Enable is set, for a VF the VF MSE of the SR-IOV capability, no FLR runs, and the
link is in Flit mode (R76, R90, R91, R371). -/
def Dev.fnOpen (d : Dev) (f : Fn) : Bool :=
  let s := d.fn f
  !s.flr && !s.resetting && (match f with
    | .vf _ => d.ep.vfMse && !(d.fn .pf).flr && !d.regB .EP 0 Reg.EP_LINK_STS 9
    | .tp p => s.mse && d.portTrained p && !d.regB .TP p Reg.TP_LINK_STS 9
    | .pf => s.mse && !d.regB .EP 0 Reg.EP_LINK_STS 9)

/-- An access that the head forwarded: in the host domain, its number not 0 (R49, R418). -/
def proxied (r : Requester) : Bool := r.dom == .host && !r.i3c && r.num != 0

/-- Whether a requester's view shows a page (R43, R81, R100, R373, R418, R635). -/
def Dev.shows (d : Dev) (r : Requester) (p : PT) (i : Nat) : Bool :=
  match r.dom with
  | .secure | .glaze => true
  | .host =>
    if r.i3c then (p.addr i 0 < 0x800000 || p == .RECW) && p != .TQ
    else if proxied r then p != .TQ
    else d.fnOpen .pf && !d.regB .EP 0 Reg.EP_LINK_STS 10 && d.life.mode != .compat && p != .TQ
  | .vf => d.fnOpen (.vf r.num) && d.ep.vfe && decide (r.num ≤ d.ep.numVfs) && d.life.mode != .compat && (match p with
    | .HQ => d.vfOfQueue i == some r.num
    | .ERRW => (d.vf r.num).valid
    | _ => false)
  | .tenant => d.fnOpen (.tp r.num) && match p with
    | .TQ => i / 64 == r.num
    | .TNT => d.regB .TP r.num Reg.TP_TP_BIND 31 && d.regF .TP r.num Reg.TP_TP_BIND 0 10 == i
    | .ERRW => true
    | _ => false

/-- OWNER.WR lets the domain write the page (R58, R59). The tenant's TNT page is a read view (R373). -/
def Dev.mayWrite (d : Dev) (r : Requester) (p : PT) (i : Nat) : Bool :=
  (match r.dom with
    | .secure => true
    | x => d.regB p i Reg.OWNER (domBit x)) && !(r.dom == .tenant && p == .TNT)

/-- OWNER.RD lets the domain read the page; PAGE_ID and PAGE_CAP are always readable (R59). -/
def Dev.mayRead (d : Dev) (r : Requester) (p : PT) (i off : Nat) : Bool :=
  match r.dom with
  | .secure => true
  | x => off < 8 || d.regB p i Reg.OWNER (8 + domBit x)

/-- Discard a write with the reporting of R59. -/
def Dev.ownerViol (d : Dev) (r : Requester) (p : PT) (i off : Nat) : Dev :=
  d.raiseErr p i 31 (off % 0x1000 + domBit r.dom * 0x1000)

/-- Count an accepted write in PAGE_SEQ (R53). -/
def Dev.countWrite (d : Dev) (p : PT) (i : Nat) : Dev := d.incWrap p i Reg.PAGE_SEQ 1

/-- Whether registers exist and answer: the main rails are up and the device has left RESET, or sits in RESET with its
clocks running. BACKUP has no register bus. -/
def Dev.busUp (d : Dev) : Bool := d.life.mode != .backup

/-- The wake source that a write to a page makes: an I3C management write (R27), a host or VF write to any page but PWR, or a tenant write
(R596). -/
def writeWakes (r : Requester) (p : PT) : Option WakeCause :=
  if r.i3c then some .i3c else match r.dom with
    | .host | .vf => if p = .PWR then none else some .doorbell
    | .tenant => some .tenant
    | _ => none

/-- Note the wake source of a write while the device sleeps or is about to (R595, R596). -/
def Dev.noteWake (d : Dev) (r : Requester) (p : PT) : Dev :=
  if d.life.wakeReq.isNone && (d.life.mode == .idle || d.life.mode == .patrol || d.life.entry != .none) then
    { d with life := { d.life with wakeReq := writeWakes r p } }
  else d

/-- A register write by `r` to offset `off` of a page: discarded during a C4 halt (R556) or in a view that does not show the page (R44), discarded
with OWNER_VIOL by R58, R59 or R60, else counted and carried out by `f`. -/
def Dev.regWrite (d : Dev) (r : Requester) (p : PT) (i off : Nat) (f : Dev → Dev) : Dev :=
  let d := d.noteWake r p
  if !d.busUp || d.life.fatal || !d.shows r p i then d
  else if !d.mayWrite r p i then d.ownerViol r p i off
  else if r.dom != .secure && (off == Reg.OWNER || (d.locked p i && decide (0x40 ≤ off))) then d.ownerViol r p i off
  else f (d.countWrite p i)

/-- As `regWrite`, for a write that the owning rule discards in the present state (`ok` false): then it is not counted. -/
def Dev.regWriteIf (d : Dev) (r : Requester) (p : PT) (i off : Nat) (ok : Bool) (f : Dev → Dev) : Dev :=
  let d := d.noteWake r p
  if !d.busUp || d.life.fatal || !d.shows r p i then d
  else if !d.mayWrite r p i then d.ownerViol r p i off
  else if r.dom != .secure && (off == Reg.OWNER || (d.locked p i && decide (0x40 ≤ off))) then d.ownerViol r p i off
  else if ok then f (d.countWrite p i) else d

/-- As `regWriteIf`, where the discarded write has an effect `g` of its own. -/
def Dev.regWriteElse (d : Dev) (r : Requester) (p : PT) (i off : Nat) (ok : Bool) (f g : Dev → Dev) : Dev :=
  let d := d.noteWake r p
  if !d.busUp || d.life.fatal || !d.shows r p i then d
  else if !d.mayWrite r p i then d.ownerViol r p i off
  else if r.dom != .secure && (off == Reg.OWNER || (d.locked p i && decide (0x40 ≤ off))) then d.ownerViol r p i off
  else if ok then f (d.countWrite p i) else g d

/-- A write that the owning rule leaves to other domains: discarded with the reporting of R59. -/
def Dev.notAllowed (d : Dev) (r : Requester) (p : PT) (i off : Nat) : Dev :=
  let d := d.noteWake r p
  if !d.busUp || d.life.fatal || !d.shows r p i then d else d.ownerViol r p i off

/-- OWNER of a page takes a value (R53, R58): the secure bits read 1, and a secure-read page ignores a write that widens its readers
(R51). -/
def Dev.setOwner (d : Dev) (p : PT) (i v : Nat) : Dev :=
  let w := BitVec.ofNat 32 (v &&& 0x1e1e ||| 0x101)
  if p.ownerReset = 0x101 ∧ fld w 9 4 ≠ 0 then d else d.setReg p i Reg.OWNER w

/-- A FORCE write: it acts only from the secure domain (R55). PAGE_SEQ counts it from any domain that OWNER lets write, for R53 excepts R46, R59,
R60 and rules of a given state alone. -/
def Dev.forceWrite (d : Dev) (r : Requester) (p : PT) (i : Nat) (f : Dev → Dev) : Dev :=
  d.regWrite r p i Reg.FORCE (if r.dom == .secure then f else id)

/-- A cipher lane is fenced; its job goes back to the front of its group's queue, for another lane (R470). -/
def CipherSt.fence (c : CipherSt) (lane : Nat) : CipherSt :=
  if c.fenced.contains lane then c
  else
    { c with
        fenced := lane :: c.fenced, busy := mdel c.busy lane
        waiting := (match mget c.busy lane with
          | some j => [(lane / 80, j)]
          | none => []) ++ c.waiting }

/-- Units of a block that a fault source names by unit number on the block's one page: hard decoders 0 to 255 (channel × 2 + decoder), then the
32 soft decoders, on LDP; lanes on CIP (R13, R250, R470). -/
def PT.units : PT → Nat
  | .LDP => 288
  | .CIP => 640
  | p => p.count

/-- As `raiseErr`, with the class and the contained unit given by the owning rule. -/
def Dev.raiseErrAs (d : Dev) (p : PT) (i b cls detail unit : Nat) : Dev :=
  let d := d.setRegF p i Reg.ERR_STS b 1 1
  if d.regB p i Reg.ERR_ACT b then
    (d.setIrq p i 31).event
      { ty := p.code, inst := i, bit := b, fixed := false, rail := false, cls := cls, detail := detail, unit := unit }
  else d

end Sys2Proof.Machine
end

