-- ==== Sys2Proof/Machine/BflOps.lean ====
section
/-! DEFINITION. The boot flash: sequence logic, CRC-32C, boot control and option copies, the OTP row (spec/16_firmware_domains.md). -/
namespace Sys2Proof.Machine
open Sys2Proof

/-! ### CRC-32C -/

/-- One bit of the reflected CRC-32C (polynomial 0x1EDC6F41). -/
def crcBit (c : BitVec 32) : BitVec 32 := if c.getLsbD 0 then (c >>> 1) ^^^ 0x82f63b78#32 else c >>> 1

/-- One byte of CRC-32C. -/
def crcByte (c : BitVec 32) (b : Byte) : BitVec 32 :=
  crcBit (crcBit (crcBit (crcBit (crcBit (crcBit (crcBit (crcBit (c ^^^ b.zeroExtend 32))))))))

/-- CRC-32C of a byte string: seed and final inversion all ones. -/
def crc32c (bs : List Byte) : Nat := (bs.foldl crcByte 0xffffffff#32 ^^^ 0xffffffff#32).toNat

/-! ### Array content -/

/-- Store a flash byte; an erased byte is not listed. -/
def putFlash (m : List Host.Cell) (a : Nat) (b : Byte) : List Host.Cell := if b = 0xff#8 then mdel m a else mput m a b

/-- Store a run of flash bytes. -/
def putFlashRun (m : List Host.Cell) (a : Nat) : List Byte → List Host.Cell
  | [] => m
  | b :: bs => putFlashRun (putFlash m a b) (a + 1) bs

/-- `n` flash bytes from `a`. -/
def Dev.flashBytes (d : Dev) (a n : Nat) : List Byte := (List.range n).map (fun i => d.flashByte (a + i))

/-- Program bytes: each becomes the AND of its old content and the written data (R516). -/
def Dev.flashProgram (d : Dev) (a : Nat) (bs : List Byte) : Dev :=
  { d with flash := putFlashRun d.flash a ((d.flashBytes a bs.length).zipWith (· &&& ·) bs) }

/-- Erase `n` bytes from `a`. -/
def Dev.flashErase (d : Dev) (a n : Nat) : Dev :=
  { d with flash := d.flash.filter (fun c => !(decide (a ≤ c.1 ∧ c.1 < a + n))) }

/-- Bytes left undefined by a timeout, a reset or a loss of rails (R518): free values. -/
def Dev.flashUndefined (d : Dev) (a n : Nat) : Dev :=
  let f := d.free
  { d with free := f + n, flash := putFlashRun d.flash a ((List.range n).map (fun i => Config.freeByte (f + i))) }

/-- Erase and write one duplicated structure's copy as Mordant does (R519, R521). -/
def Dev.flashRewrite (d : Dev) (a size : Nat) (bs : List Byte) : Dev :=
  let d := d.flashErase a size
  let d := { d with flash := putFlashRun d.flash a bs }
  (d.incWrap .BFL 0 Reg.BFL_ERASE_CNT 1).incWrap .BFL 0 Reg.BFL_PROG_CNT ((bs.length + 31) / 32)

/-! ### Sequences (R516 to R518) -/

/-- Bytes that an operation addresses: a line, an array sector, or an option copy. -/
def opSize (cmd base : Nat) : Nat := if cmd = 0x20 then (if base < optWin then 0x10000 else 0x800) else 32

/-- BFL_STS.OP of a command byte. -/
def opCode : Nat → Nat
  | 0x10 => 1 | 0x20 => 2 | 0x40 => 3 | 0x60 => 4 | _ => 0

/-- LAST_ADDR of an address: offset in its window and WINDOW (R528). -/
def lastAddr (a : Nat) : Nat := if a < optWin then a else if a < otpWin then a - optWin + 2 ^ 26 else a - otpWin + 2 ^ 27

/-- Policy bits of the OTP row, active-low (R525). -/
def Dev.otpBit (d : Dev) (off bit : Nat) : Bool := !nbit (d.flashNat (otpWin + off) 4) bit

/-- PROGRAM_OTP of the line at OTP offset `o` is refused (R526). -/
def Dev.otpRefused (d : Dev) (o : Nat) : Bool :=
  ((decide (o < 0xc0) || (decide (0x140 ≤ o ∧ o < 0x160)) || decide (0x180 ≤ o ∧ o < 0x1c0)) && d.otpBit 0x140 1) ||
    (decide (0xc0 ≤ o ∧ o < 0x100) && d.otpBit 0x160 1) || decide (0x1c0 ≤ o)

/-- Abort a sequence (R517). -/
def Dev.seqAbort (d : Dev) : Dev := { (d.raiseErr .BFL 0 0 noDetail) with bfl := { d.bfl with cycle := 0, words := [] } }

/-- Start the operation of a complete sequence. -/
def Dev.opStart (d : Dev) (cmd base : Nat) (words : List W32) : Dev :=
  let d := { d with bfl := { d.bfl with cycle := 0, words := [], op := some (cmd, base, words) } }
  let d := d.setRegN .BFL 0 Reg.BFL_LAST_ADDR (lastAddr base)
  d.setRegN .BFL 0 Reg.BFL_BFL_STS (1 + opCode cmd * 2 + (if base < optWin then base / 0x800000 * 16 else 0))

/-- Window that a program command addresses (R516). -/
def cmdWindow (cmd a : Nat) : Bool :=
  match cmd with
  | 0x10 => decide (a < optWin)
  | 0x40 => decide (optWin ≤ a ∧ a < otpWin)
  | 0x60 => decide (otpWin ≤ a ∧ a < otpWin + 0x800)
  | _ => false

/-- Take or leave ID mode; BFL_STS.OP shows it. -/
def Dev.idMode (d : Dev) (on : Bool) : Dev :=
  ({ d with bfl := { d.bfl with cycle := 0, words := [], idMode := on } }).setRegN .BFL 0 Reg.BFL_BFL_STS (if on then 10 else 0)

/-- One 32-bit write by a secure requester to the boot flash at `a` (R516, R517). -/
def Dev.seqWrite (d : Dev) (a : Nat) (v : W32) : Dev :=
  let b := d.bfl
  if b.op.isSome then d.raiseErr .BFL 0 1 noDetail
  else if a = 0xaaa8 ∧ v = 0xf0#32 ∧ (b.cycle = 0 ∨ b.cycle = 2) then d.idMode false
  else if b.cycle = 0 then
    if a = 0xaaa8 ∧ v = 0x5a#32 then { d with bfl := { b with cycle := 1 } } else d.seqAbort
  else if b.cycle = 1 then
    if a = 0x5554 ∧ v = 0xa5#32 then { d with bfl := { b with cycle := 2 } } else d.seqAbort
  else if b.cycle = 2 then
    if a ≠ 0xaaa8 then d.seqAbort
    else if v = 0x90#32 then d.idMode true
    else if v = 0x10#32 ∨ v = 0x20#32 ∨ v = 0x40#32 ∨ v = 0x60#32 then
      { d with bfl := { b with cycle := 3, cmd := v.toNat, words := [] } }
    else d.seqAbort
  else if a = 0xaaa8 ∨ a = 0x5554 then d.seqAbort
  else if b.cmd = 0x20 then
    if v = 0x30#32 ∧ ((a < optWin ∧ a % 0x10000 = 0) ∨ a = optWin ∨ a = optWin + 0x800) then d.opStart 0x20 a []
    else d.seqAbort
  else
    let n := b.words.length
    if !cmdWindow b.cmd a ∨ (n = 0 ∧ a % 32 ≠ 0) ∨ (n ≠ 0 ∧ a ≠ b.base + 4 * n) then d.seqAbort
    else if n < 7 then { d with bfl := { b with base := a - 4 * n, words := b.words ++ [v] } }
    else if b.cmd = 0x60 ∧ d.otpRefused (b.base - otpWin) then
      { (d.raiseErr .BFL 0 2 noDetail) with bfl := { b with cycle := 0, words := [] } }
    else d.opStart b.cmd b.base (b.words ++ [v])

/-- The operation that runs is left undone: its line or sector is undefined (R518). -/
def Dev.opLost (d : Dev) : Dev :=
  match d.bfl.op with
  | none => d
  | some (cmd, base, _) =>
    ({ (d.flashUndefined base (opSize cmd base)) with bfl := { d.bfl with op := none } }).setRegN .BFL 0 Reg.BFL_BFL_STS
      (if d.bfl.idMode then 10 else 0)

/-- OTP_STS as the loader sets it (R511, R528). -/
def Dev.loadOtp (d : Dev) : Dev :=
  d.setRegN .BFL 0 Reg.BFL_OTP_STS (b2n (d.otpBit 0x140 0) + b2n (d.otpBit 0x160 0) * 2 + b2n (d.otpBit 0x140 1) * 4 +
    b2n (d.otpBit 0x160 1) * 8)

/-- Value of an SVN field: the number of 0 bits counted up from bit 0, at most 255 (R525, R526). -/
def Dev.otpSvn (d : Dev) (off : Nat) : Nat :=
  let bits := (d.flashBytes (otpWin + off) 32).flatMap (fun b => (List.range 8).map (fun i => b.getLsbD i))
  min 255 (bits.takeWhile (fun b => !b)).length

/-- Advance an SVN field to `v` (R546): bits below `v` are programmed. -/
def Dev.advanceSvn (d : Dev) (off v : Nat) : Dev :=
  if d.otpSvn off < v then (d.flashProgram (otpWin + off) ((List.range 32).map (fun i =>
      BitVec.ofNat 8 ((2 ^ 256 - 2 ^ v) / 2 ^ (8 * i) % 256)))).incWrap .BFL 0 Reg.BFL_PROG_CNT 1
  else d

/-! ### Boot control copies (R515) -/

/-- A boot control record: SEQ, FLAGS, TRIES. -/
structure BootRec where
  seq : Nat
  flags : Nat
  tries : Nat
deriving DecidableEq, Repr

/-- Base of boot control copy `i`. -/
def bootCopy (i : Nat) : Nat := 0x3e20000 + 0x10000 * i

/-- Boot control copy `i`, if it is valid. -/
def Dev.bootRec (d : Dev) (i : Nat) : Option BootRec :=
  let a := bootCopy i
  if d.flashNat a 4 = 0x43425650 ∧ d.flashNat (a + 4) 1 = 1 ∧ d.flashNat (a + 0x1c) 4 = crc32c (d.flashBytes a 0x1c) then
    some ⟨d.flashNat (a + 8) 8, d.flashNat (a + 5) 1, d.flashNat (a + 6) 1⟩
  else none

/-- Copy in force: the valid one with the higher SEQ (R511). -/
def Dev.bootInForce (d : Dev) : Option (Nat × BootRec) :=
  match d.bootRec 0, d.bootRec 1 with
  | some a, some b => some (if a.seq < b.seq then (1, b) else (0, a))
  | some a, none => some (0, a)
  | none, some b => some (1, b)
  | none, none => none

/-- The 28 bytes of a boot control record before CHECK. -/
def bootBytes (r : BootRec) : List Byte :=
  leBytes 4 0x43425650 ++ leBytes 1 1 ++ leBytes 1 r.flags ++ leBytes 1 r.tries ++ leBytes 1 0 ++ leBytes 8 r.seq ++ zeros 12

/-- Write a new boot control record with flags and tries into the copy that does not hold the newer SEQ; ungated records
carry CHECK 0xFFFF_FFFF (R515, R519, R543). -/
def Dev.writeBoot (d : Dev) (flags tries : Nat) (gated : Bool) : Dev :=
  let i := match d.bootInForce with
    | some (k, _) => 1 - k
    | none => 0
  let seq := match d.bootInForce with
    | some (_, r) => r.seq + 1
    | none => 1
  let bs := bootBytes ⟨seq, flags, tries⟩
  d.flashRewrite (bootCopy i) 0x10000 (bs ++ (if gated then leBytes 4 (crc32c bs) else leBytes 4 0xffffffff))

/-- Gate the ungated record: program its line again with the true CHECK (R543). -/
def Dev.gateBoot (d : Dev) : Dev :=
  let i := match d.bootInForce with
    | some (k, _) => 1 - k
    | none => 0
  let a := bootCopy i
  if d.flashNat a 4 = 0x43425650 ∧ d.flashNat (a + 0x1c) 4 = 0xffffffff then
    (d.flashProgram (a + 0x1c) (leBytes 4 (crc32c (d.flashBytes a 0x1c)))).incWrap .BFL 0 Reg.BFL_PROG_CNT 1
  else d

/-! ### Option copies (R522, R523) -/

/-- Base of option copy `i`. -/
def optCopy (i : Nat) : Nat := optWin + 0x800 * i

/-- Whether option copy `i` is valid: SIG, VER and CHECK. -/
def Dev.optValid (d : Dev) (i : Nat) : Bool :=
  let a := optCopy i
  let len := d.flashNat (a + 6) 2
  let body := (d.flashBytes a 12) ++ zeros 4 ++ d.flashBytes (a + 16) (len - 16)
  d.flashNat a 4 == 0x504f5650 && d.flashNat (a + 4) 1 == 1 && decide (0x30 ≤ len ∧ len ≤ 0x230) && len % 8 == 0 &&
    d.flashNat (a + 12) 4 == crc32c body

/-- SEQ of option copy `i`. -/
def Dev.optSeq (d : Dev) (i : Nat) : Nat := d.flashNat (optCopy i + 8) 4

/-- Copy the loader takes: the valid one with the higher SEQ, copy A when equal (R522). -/
def Dev.optInForce (d : Dev) : Option Nat :=
  if d.optValid 0 then (if d.optValid 1 && decide (d.optSeq 0 < d.optSeq 1) then some 1 else some 0)
  else if d.optValid 1 then some 1 else none

/-- Field of the option copy in force, or its default (R523). -/
def Dev.optField (d : Dev) (off n dflt : Nat) : Nat := match d.optInForce with
  | some i => d.flashNat (optCopy i + off) n
  | none => dflt

/-- Load the OPT registers and what the option area gives other pages at reset (R522, R529, R403, R311). -/
def Dev.loadOptions (d : Dev) : Dev :=
  let f := d.optField
  let fab := f 0x10 1 0 % 4 + f 0x11 1 1 % 32 * 2 ^ 2 + f 0x12 1 1 % 16 * 2 ^ 7 + f 0x13 1 1 % 8 * 2 ^ 11
  let pos := f 0x14 1 0 % 16 + f 0x15 1 0 % 16 * 2 ^ 4 + f 0x16 1 0 % 16 * 2 ^ 8
  let flags := f 5 1 0
  let sts := match d.optInForce with
    | some i => i + d.optSeq i % 2 ^ 30 * 4
    | none => 2
  let d := d.setRegN .OPT 0 Reg.OPT_OPT_STS sts
  let d := d.setRegN .OPT 0 Reg.OPT_OPT_FAB (fab + pos * 2 ^ 14)
  let d := d.setRegN .OPT 0 Reg.OPT_OPT_DEV (f 0x18 1 128 + f 0x19 1 0 % 4 * 2 ^ 8 + flags % 4 * 2 ^ 10 + f 0x22 1 0x30 % 128 * 2 ^ 12)
  let d := d.setRegN .OPT 0 Reg.OPT_OPT_ID (f 0x1c 2 0x1f3a + f 0x1e 2 0 * 2 ^ 16)
  let d := d.setRegN .OPT 0 Reg.OPT_OPT_MISC (f 0x1a 2 0 % 4096 + f 0x20 2 0x1c00 * 2 ^ 16)
  let d := d.setRegN .FAB 0 0x40 fab
  let d := d.setRegN .FAB 0 0x44 pos
  d.setRegN .PLP 0 Reg.PLP_PLP_CFG (f 0x18 1 128)

/-- OWNER override entries of the option copy in force: type code, instance (0xFFFF for all), value (R58, R523). -/
def Dev.ownerOverrides (d : Dev) : List (Nat × Nat × Nat) :=
  match d.optInForce with
  | none => []
  | some i => (List.range (min 64 (d.flashNat (optCopy i + 0x23) 1))).map (fun k =>
      let a := optCopy i + 0x30 + 8 * k
      (d.flashNat a 2, d.flashNat (a + 2) 2, d.flashNat (a + 4) 4))

/-! ### Format records (R187) -/

/-- Base of format record copy `i` (R509). -/
def fmtCopy (i : Nat) : Nat := 0x3e50000 + 0x10000 * i

/-- The 28 bytes of a format record before CHECK. -/
def fmtBytes (r : FormatRec) : List Byte :=
  leBytes 4 0x4d465650 ++ leBytes 1 1 ++ leBytes 1 r.prot ++ leBytes 1 r.groups ++ zeros 1 ++ leBytes 8 r.seq ++ leBytes 8 r.serial ++
    leBytes 2 r.dies ++ zeros 2

/-- Format record copy `i`, if it is valid. -/
def Dev.fmtRec (d : Dev) (i : Nat) : Option FormatRec :=
  let a := fmtCopy i
  if d.flashNat a 4 = 0x4d465650 ∧ d.flashNat (a + 4) 1 = 1 ∧ d.flashNat (a + 0x1c) 4 = crc32c (d.flashBytes a 0x1c) then
    some ⟨d.flashNat (a + 5) 1, d.flashNat (a + 6) 1, d.flashNat (a + 8) 8, d.flashNat (a + 0x10) 8, d.flashNat (a + 0x18) 2⟩
  else none

/-- The valid format record with the higher FORMAT_SEQ (R187). -/
def Dev.fmtInForce (d : Dev) : Option FormatRec :=
  match d.fmtRec 0, d.fmtRec 1 with
  | some a, some b => some (if a.seq < b.seq then b else a)
  | some a, none => some a
  | none, x => x

end Sys2Proof.Machine
end

