-- ==== Sys2Proof/Machine/CipherOps.lean ====
section
/-! DEFINITION. Key slots, GCM counters, the digest engine and the cipher alarm (spec/13_cipher_cells.md,
spec/14_digest_engine.md). -/
namespace Sys2Proof.Machine
open Sys2Proof

/-! ### Key slots -/

/-- Slot `n`, if it is not EMPTY. -/
def Dev.key (d : Dev) (n : Nat) : Option KeySlot := mget d.keys n

/-- Store a slot. -/
def Dev.setKey (d : Dev) (n : Nat) (k : KeySlot) : Dev := { d with keys := mput d.keys n k }

/-- Label of R460 for component C: "PVMC" and GEN. -/
def metaLabel (gen : Nat) : List Byte := [0x50#8, 0x56#8, 0x4d#8, 0x43#8, BitVec.ofNat 8 gen]

/-- Component C of a slot: derived for DATA slots, zero otherwise (R460, R461). -/
def deriveC (use gen : Nat) (ab : List Byte) : List Byte := if use = 1 then Config.kdf ab (metaLabel gen) else zeros 32

/-- A freshly loaded slot: GEN 0, COUNTER 0, STATE LOADED (R461). -/
def freshSlot (use bits keyId tint : Nat) (ab : List Byte) : KeySlot :=
  { use := use, bits := bits, state := 1, gen := 0, counter := 0, keyId := keyId, tint := tint, ab := ab,
    c := deriveC use 0 ab, cOld := zeros 32 }

/-- Keep the sealed record of a DATA or ATTEST slot in step with the slot (R463). -/
def Dev.sealRecord (d : Dev) (n : Nat) : Dev :=
  match d.key n with
  | some k => if k.use = 0 then d else { d with sealedKeys := mput d.sealedKeys n k }
  | none => { d with sealedKeys := mdel d.sealedKeys n }

/-- KEY_STS.RESULT (R461). -/
def Dev.keyResult (d : Dev) (r : Nat) : Dev := d.setRegF .KEY 0 Reg.KEY_KEY_STS 1 4 r

/-- Directory sectors sealed by a slot at a generation (R455, R465). -/
def Dev.sealedBy (d : Dev) (slot gen : Nat) : List Nat :=
  (d.seals.filter (fun e => e.2 == slot * 256 + gen)).map (·.1)

/-- Count GCM encryptions under a slot (R465): the counter, COUNTER_HIGH with its re-seal, EXHAUSTED. `none` when
the slot is EMPTY or EXHAUSTED. -/
def Dev.gcmCount (d : Dev) (slot : Nat) : Option Dev :=
  match d.key slot with
  | none => none
  | some k =>
    if k.state = 2 then none
    else
      let c := k.counter + 1
      let d := (d.setKey slot { k with counter := c, state := if c = 0xffffffff then 2 else 1 }).sealRecord slot
      let d := if c = 0xf0000000 then
          { d.setIrq .KEY 0 0 with reseal := if d.reseal.contains slot then d.reseal else slot :: d.reseal }
        else d
      some (if c = 0xffffffff then d.setIrq .KEY 0 1 else d)

/-- ROLL of a slot (R461): C_OLD ← C, GEN + 1, C derived, COUNTER 0, LOADED. -/
def rollSlot (k : KeySlot) : KeySlot :=
  { k with cOld := k.c, gen := k.gen + 1, c := deriveC k.use (k.gen + 1) k.ab, counter := 0, state := 1 }

/-- Key handle a queue's tint holds (R388): a valid reference of the tint's KEY_0 to KEY_3 with USE `use` naming `slot`. -/
def Dev.tintHoldsKey (d : Dev) (tint slot use : Nat) : Bool :=
  (List.range 4).any (fun n =>
    d.regB .TNT tint (Reg.TNT_KEY_0 + 4 * n) 31 && d.regF .TNT tint (Reg.TNT_KEY_0 + 4 * n) 12 2 == use &&
    d.regF .TNT tint (Reg.TNT_KEY_0 + 4 * n) 0 12 == slot)

/-! ### Digest engine -/

/-- Block size in bytes of an algorithm code (R474); `none` for a code of no algorithm (R475). -/
def algBlock : Nat → Option Nat
  | 0x01 | 0x11 => some 64
  | 0x02 | 0x03 | 0x12 | 0x13 => some 128
  | 0x04 | 0x14 => some 136
  | _ => none

/-- Digest length in bytes (R474). -/
def algLen : Nat → Nat
  | 0x02 | 0x12 => 48
  | 0x03 | 0x13 => 64
  | _ => 32

/-- Keyed codes (R474). -/
def algKeyed (a : Nat) : Bool := decide (0x10 ≤ a)

/-- Compressions of the padded message (R474): SHA-2 pads one byte and the length, SHA-3 at least one byte. The keyed
message follows whole ipad blocks, so its own count is the same. -/
def algBlocks (a bytes : Nat) : Nat :=
  match algBlock a with
  | some 64 => (bytes + 9 + 63) / 64
  | some 128 => (bytes + 17 + 127) / 128
  | _ => bytes / 136 + 1

/-- Compressions of a whole message (R481, R482): the inner digest, one outer block when keyed, and two more when composed. -/
def DigCtx.total (c : DigCtx) : Nat :=
  algBlocks c.alg c.msg.length + b2n (algKeyed c.alg) + 2 * b2n c.composed

/-- Compressions ready now: the ipad block of a composed message and the whole blocks received, or all at FINAL. -/
def DigCtx.avail (c : DigCtx) : Nat :=
  if c.final then c.total else b2n c.composed + c.msg.length / (algBlock c.alg).getD 64

/-- A context has a ready block (R479). -/
def DigCtx.ready (c : DigCtx) : Bool := decide (c.done < c.avail)

/-- CACHE_MAX: entries usable, higher values act as 256 (R486). -/
def Dev.cacheMax (d : Dev) : Nat := min 256 (d.regF .DIG 0 Reg.DIG_DIG_CFG 0 9)

/-- Cache tag of a pair (R481). -/
def digPair (key alg : Nat) : Nat := key * 256 + alg

/-- A context uses a pair from the cache. -/
def DigCtx.usesPair (c : DigCtx) (pair : Nat) : Bool :=
  algKeyed c.alg && !c.composed && digPair c.key c.alg == pair

/-- Free the cache entries at or above CACHE_MAX that no context uses (R481). -/
def Dev.digTrim (d : Dev) : Dev :=
  { d with dig := { d.dig with
      cache := d.dig.cache.filter (fun e => decide (e.1 < d.cacheMax) || d.dig.ctxs.any (fun c => c.2.usesPair e.2)) } }

/-- Bind a keyed message's pair if it can be bound, or run it composed (R481, R482). -/
def Dev.digBind (d : Dev) (c : DigCtx) (force : Bool) : DigCtx × Dev :=
  if !algKeyed c.alg then ({ c with composed := false }, d)
  else if !force && d.dig.cache.any (fun e => e.2 == digPair c.key c.alg) then ({ c with composed := false }, d)
  else
    let free := (List.range 256).find? (fun i => !(mhas d.dig.cache i))
    match free with
    | some i =>
      if !force && decide (d.dig.cache.length < d.cacheMax) then
        ({ c with composed := false },
          (({ d with dig := { d.dig with cache := mput d.dig.cache i (digPair c.key c.alg) } }).incWrap
            .DIG 0 Reg.DIG_FILLS 1).inc64 .DIG 0 Reg.DIG_BLOCKS 2)
      else ({ c with composed := true }, d.incWrap .DIG 0 Reg.DIG_COMPOSED 1)
    | none => ({ c with composed := true }, d.incWrap .DIG 0 Reg.DIG_COMPOSED 1)

/-- Lowest free context (R480). DESIGN CHOICE: the spec does not say which free context a requester takes. -/
def Dev.digFree (d : Dev) : Option Nat := (List.range 16).find? (fun n => !(mhas d.dig.ctxs n))

/-- Give context `n` to a message; the SEC interface's command then ends OK (R487). -/
def Dev.digTake (d : Dev) (n : Nat) (c : DigCtx) : Dev :=
  let b := d.digBind c c.composed
  let d := { b.2 with dig := { b.2.dig with ctxs := mput b.2.dig.ctxs n { b.1 with fresh := true } } }
  if c.req = 4 then d.setRegN .DIG 0 Reg.DIG_SEC_STS (n * 16 + 0x100) else d

/-- Open a message: a free context, or the wait of R480. -/
def Dev.digOpen (d : Dev) (c : DigCtx) : Dev :=
  match d.digFree with
  | some n => if d.dig.waiting.isEmpty then d.digTake n c else { d with dig := { d.dig with waiting := d.dig.waiting ++ [c] } }
  | none => { d with dig := { d.dig with waiting := d.dig.waiting ++ [c] } }

/-- Requester number of R480. -/
def digReq (c : DigCtx) : Nat := min 4 c.req

/-- Give freed contexts to waiting requesters by R39 over the five requesters, each serving its own in arrival order
(R480). Arbiter key 0x300. -/
def Dev.digGrant (d : Dev) : Dev :=
  match d.digFree, rrPick 5 (d.arbPtr 0x300) (fun r => d.dig.waiting.any (fun c => digReq c == r)) with
  | some n, some r =>
    match d.dig.waiting.find? (fun c => digReq c == r) with
    | some c =>
      let d := { d with dig := { d.dig with waiting := d.dig.waiting.eraseP (fun c => digReq c == r) } }
      (d.arbWin 0x300 5 r).digTake n c
    | none => d
  | _, _ => d

/-- Close context `n`. -/
def Dev.digClose (d : Dev) (n : Nat) : Dev :=
  ({ d with dig := { d.dig with ctxs := mdel d.dig.ctxs n } }).digTrim

/-- End the SEC interface's message: RESULT, OPEN clear, SEC_DONE (R487). -/
def Dev.secEnd (d : Dev) (result : Nat) : Dev :=
  ((d.setRegN .DIG 0 Reg.DIG_SEC_STS (result * 2))).setIrq .DIG 0 0

/-- The digest of a finished message, of its algorithm's length (R474). -/
def Dev.digValue (d : Dev) (c : DigCtx) : List Byte :=
  let v := if algKeyed c.alg then Config.keyedDigest c.alg (((d.key c.key).map (·.ab)).getD (zeros 64)) c.msg
    else Config.digest c.alg c.msg
  (v ++ zeros 64).take (algLen c.alg)

/-- Complete the ATTEST that a context serves (R365, R367). -/
def Dev.attestDone (d : Dev) (c : DigCtx) (equal : Bool) : Dev :=
  match d.flight c.q c.tag with
  | some f => d.postOk f (if equal then 0 else 1)
  | none => d

/-- Complete the ATTEST that a context serves with a failure (R367, R483, R485). -/
def Dev.attestFail (d : Dev) (c : DigCtx) (status detail : Nat) : Dev :=
  match d.flight c.q c.tag with
  | some f => d.postFail f status detail
  | none => d

/-- Write a digest into OUT_0 to OUT_15. -/
def Dev.digOut (d : Dev) (v : List Byte) : Dev :=
  (List.range 16).foldl (fun d k => d.setRegN .DIG 0 (Reg.DIG_OUT_0 + 4 * k) (leNat ((v.drop (4 * k)).take 4))) d

/-- Finish context `n` whose last compression is done (R484, R487). -/
def Dev.digFinish (d : Dev) (n : Nat) (c : DigCtx) : Dev :=
  let v := d.digValue c
  let equal := v == c.expected
  let d := d.digClose n
  if c.req < 4 then d.attestDone c equal
  else if c.req = 4 then (if c.mode = 1 then (d.digOut v).secEnd 0 else d.secEnd (if equal then 1 else 2))
  else d

/-- End context `n` with a failure: an ATTEST completes with a status and DETAIL, a SEC message with a result. -/
def Dev.digAbort (d : Dev) (n : Nat) (c : DigCtx) (status detail result : Nat) : Dev :=
  let d := d.digClose n
  if c.req < 4 then d.attestFail c status detail else if c.req = 4 then d.secEnd result else d

/-- End every message keyed by a slot and free the slot's entries (R483). -/
def Dev.digKeyErased (d : Dev) (slot : Nat) : Dev :=
  let hit := d.dig.ctxs.filter (fun e => algKeyed e.2.alg && e.2.key == slot)
  let d := hit.foldl (fun d e => d.digAbort e.1 e.2 St.accessDenied 0x21 5) d
  let wait := d.dig.waiting.filter (fun c => algKeyed c.alg && c.key == slot)
  let d := { d with dig := { d.dig with
      waiting := d.dig.waiting.filter (fun c => !(algKeyed c.alg && c.key == slot))
      cache := d.dig.cache.filter (fun e => e.2 / 256 != slot) } }
  wait.foldl (fun d c => if c.req < 4 then d.attestFail c St.accessDenied 0x21 else if c.req = 4 then d.secEnd 5 else d) d

/-- Clear every context and OUT register (R485). Commands of the messages end by the caller. -/
def Dev.digZero (d : Dev) (cacheToo : Bool) : Dev :=
  let d := (List.range 16).foldl (fun d k => d.setRegN .DIG 0 (Reg.DIG_OUT_0 + 4 * k) 0) d
  { d with dig := { d.dig with ctxs := [], waiting := [], cache := if cacheToo then [] else d.dig.cache } }

/-! ### Alarm -/

/-- Zeroise every slot (R461 ERASE_ALL, R470); the sealed records stay where the alarm's restart reloads them from. -/
def Dev.zeroKeys (d : Dev) : Dev := { d with keys := [], reseal := [] }

/-- Cipher alarm of R470 with its cause bit (0 ENTROPY, 1 KEY_RAM, 2 FORCE): class C3, or C4 at the third of a power-on. -/
def Dev.cipherAlarm (d : Dev) (cause : Nat) : Dev :=
  let n := min 3 (d.regF .CIP 0 Reg.CIP_ALARM_STS 8 2 + 1)
  let sec := d.dig.ctxs.any (fun e => e.2.req == 4) || d.dig.waiting.any (fun c => c.req == 4)
  let d := d.setRegN .CIP 0 Reg.CIP_ALARM_STS (2 ^ cause + n * 256)
  let d := { d with cip := { d.cip with waiting := [], busy := [], seeds := [], alarm := true },
                    rng := { requests := 0 } }
  let d := (d.setRegF .RNG 0 Reg.RNG_RNG_STS 0 1 0).zeroKeys.digZero true
  let d := if sec then d.secEnd 3 else d
  d.raiseErrAs .CIP 0 1 (if n = 3 then 4 else 3) noDetail 0

/-- Mordant reseeds the DRBG and reloads the slots from the sealed records (R463, R470), which ends an alarm. -/
def Dev.reloadKeys (d : Dev) : Dev :=
  let d := (d.setRegF .RNG 0 Reg.RNG_RNG_STS 0 3 3).incWrap .RNG 0 Reg.RNG_RESEEDS 1
  { d with keys := mput d.sealedKeys 4095 (freshSlot 0 256 0 0 Config.sealKey), cip := { d.cip with alarm := false }, rng := { requests := 0 } }

/-! ### Sector encryption -/

/-- The XTS tweak of R453: sector address, extent, handle, kind. -/
def xtsTweak (address extent handle kind : Nat) : Nat :=
  address % 2 ^ 48 + extent % 2 ^ 48 * 2 ^ 48 + handle % 2 ^ 16 * 2 ^ 96 + kind % 4 * 2 ^ 112

/-- Sectors that the lanes ciphered count as jobs completed (R449, R471). -/
def Dev.cipherJobs (d : Dev) (n : Nat) : Dev := d.inc64 .CIP 0 Reg.CIP_JOBS n

end Sys2Proof.Machine
end

