-- ==== Sys2Proof/Machine/MadderOps.lean ====
section
/-! DEFINITION. Madder arithmetic, loop state, gate rates and trace buffers (spec/15_madder_control.md). -/
namespace Sys2Proof.Machine
open Sys2Proof

/-! ### Numbers (R488 to R491) -/

/-- One in Q17.30. -/
abbrev q30 : Int := 1073741824

/-- A two's-complement field of `n` bits as an integer. -/
def signed (n : Nat) (v : Nat) : Int := if v % 2 ^ n ≥ 2 ^ (n - 1) then (v % 2 ^ n : Nat) - (2 ^ n : Nat) else (v % 2 ^ n : Nat)

/-- An integer as a two's-complement field of `n` bits. -/
def unsigned (n : Nat) (v : Int) : Nat := (v % (2 ^ n : Nat)).toNat

/-- Round a value held in units of 2^−60 to Q17.30, ties toward +∞ (R488). -/
def roundQ (v : Int) : Int := (v + 536870912) / q30

/-- Clamp to a range. -/
def clampI (v lo hi : Int) : Int := max lo (min v hi)

/-- Saturate to the Q17.30 range, and whether it saturated (R488, R489). -/
def satQ (v : Int) : Int × Bool :=
  let c := clampI v (-140737488355328) 140737488355327
  (c, c != v)

/-- One second-order section: input y, states s1 and s2, coefficients b0, b1, b2, a1, a2 (R488). -/
def section1 (y s1 s2 b0 b1 b2 a1 a2 : Int) : (Int × Int × Int) × Bool :=
  let v := satQ (roundQ (b0 * y + s1 * q30))
  let t1 := satQ (roundQ (b1 * y - a1 * v.1 + s2 * q30))
  let t2 := satQ (roundQ (b2 * y - a2 * v.1))
  ((v.1, t1.1, t2.1), v.2 || t1.2 || t2.2)

/-- The sections in order: the signal, the new states and whether anything saturated. -/
def sections : List Int → List (Int × Int) → Int → (Int × List (Int × Int)) × Bool
  | b0 :: b1 :: b2 :: a1 :: a2 :: cs, (s1, s2) :: ss, y =>
    let r := section1 y s1 s2 b0 b1 b2 a1 a2
    let t := sections cs ss r.1.1
    ((t.1.1, (r.1.2.1, r.1.2.2) :: t.1.2), r.2 || t.2)
  | _, _, y => ((y, []), false)

/-- What one sample of a loop computes (R488). -/
structure LoopOut where
  err : Int
  y : Int
  secs : List (Int × Int)
  i : Int
  o : Int
  atMin : Bool
  atMax : Bool
  slewed : Bool
  held : Bool
  sat : Bool
deriving DecidableEq, Repr

/-- The sample of R488 from input, setpoint, polarity, coefficients, states and clamps. -/
def loopSample (input setpoint : Int) (pol : Bool) (coef : List Int) (secs : List (Int × Int)) (kp ki i0 : Int)
    (iLo iHi outMin outMax slew outPrev : Int) : LoopOut :=
  let e := satQ ((if pol then input - setpoint else setpoint - input) * q30)
  let s := sections coef secs e.1
  let y := s.1.1
  let p := satQ (roundQ (kp * y))
  let inc := satQ (roundQ (ki * y))
  let sum := satQ (i0 + inc.1)
  let cand0 := clampI sum.1 (iLo * q30) (iHi * q30)
  let pc := satQ (p.1 + cand0)
  let u0 := pc.1 / q30
  let hold := (decide (u0 > outMax) && decide (inc.1 > 0)) || (decide (u0 < outMin) && decide (inc.1 < 0))
  let pi := satQ (p.1 + i0)
  let cand := if hold then i0 else cand0
  let u := if hold then pi.1 / q30 else u0
  let c := clampI u outMin outMax
  let o := if slew ≠ 0 then clampI c (outPrev - slew) (outPrev + slew) else c
  let i := if o ≠ c then clampI (o * q30 - p.1) (iLo * q30) (iHi * q30) else cand
  { err := e.1, y := y, secs := s.1.2, i := i, o := o, atMin := decide (u ≤ outMin), atMax := decide (outMax ≤ u),
    slewed := decide (o ≠ c), held := hold,
    sat := e.2 || s.2 || p.2 || inc.2 || sum.2 || pc.2 || (hold && pi.2) }

/-! ### Loop pages -/

/-- Loop state at reset: everything zero. -/
def loopReset : LoopSt :=
  { kp := 0, ki := 0, coef := List.replicate 20 0, outPrev := 0, acted := false, commit := false, gates := 0,
    outMin := 0, failOpen := false, gateSnap := 0 }

/-- State of loop `n`. -/
def Dev.loop (d : Dev) (n : Nat) : LoopSt := (mget d.loops n).getD loopReset

/-- Set the state of loop `n`; one in its reset state is not listed. -/
def Dev.setLoop (d : Dev) (n : Nat) (l : LoopSt) : Dev :=
  { d with loops := if l = loopReset then mdel d.loops n else mput d.loops n l }

/-- OUT_MAX and OUT_MIN as they act (R503). -/
def Dev.outMax (d : Dev) (n : Nat) : Nat := d.regF .MLP n Reg.MLP_OUT_MAX 0 17

/-- OUT_MIN above OUT_MAX acts as OUT_MAX. -/
def Dev.outMin (d : Dev) (n : Nat) : Nat := min (d.regF .MLP n Reg.MLP_OUT_MIN 0 17) (d.outMax n)

/-- Take GATES, OUT_MIN and FAIL_OPEN as the loop's tick takes them (R498). -/
def Dev.loopTake (d : Dev) (n : Nat) (l : LoopSt) : LoopSt :=
  { l with
      gates := d.regF .MLP n Reg.MLP_GATES 0 15
      outMin := d.outMin n
      failOpen := d.regB .MLP n Reg.MLP_LOOP_CFG 13 }

/-- Clean state of a loop entering STARTING (R496). -/
def Dev.loopClean (d : Dev) (n : Nat) : Dev :=
  let v := if d.regB .MLP n Reg.MLP_LOOP_CFG 12 then d.outMax n else d.outMin n
  let d := (List.range 8).foldl (fun d k => d.setReg64 .MLP n (Reg.MLP_STATE + 8 * k) 0) d
  let d := d.setReg64 .MLP n Reg.MLP_I_VAL (unsigned 48 ((v : Int) * q30))
  d.setLoop n (d.loopTake n { d.loop n with outPrev := v, acted := false })

/-- The loop acts on gate `g`, with the output it contributes (R495, R496). -/
def Dev.loopActs (d : Dev) (n g : Nat) : Option Nat :=
  let l := d.loop n
  if !nbit l.gates g then none
  else match d.page .MLP n with
    | .serving => if l.acted then some (d.regF .MLP n Reg.MLP_OUT 0 17) else none
    | .faulted _ => if l.failOpen then none else some l.outMin
    | _ => none

/-- Refill rate of a gate in units of 8 MB/s (R23, R495). -/
def Dev.gateRate (d : Dev) (g : Nat) : Nat :=
  ((List.range 16).filterMap (fun n => d.loopActs n g)).foldl min 131071

/-- Set every gate's rate (R23). -/
def Dev.setRates (d : Dev) : Dev :=
  { d with gates := (List.range d.gates.length).map (fun g => match d.gates[g]? with
      | some b => { b with rate := d.gateRate g }
      | none => { level := 0, rate := 0, waiters := [] }) }

/-! ### Trace buffers (R501, R502) -/

/-- Trace buffer at reset. -/
def traceReset : TraceSt := { samples := [], skip := 0, post := 0, fire := false, fault := false, prev := none }

/-- Trace buffer `b`. -/
def Dev.trace (d : Dev) (b : Nat) : TraceSt := (mget d.traces b).getD traceReset

/-- Store trace buffer `b`; one at reset is not listed. -/
def Dev.setTrace (d : Dev) (b : Nat) (t : TraceSt) : Dev :=
  { d with traces := if t = traceReset then mdel d.traces b else mput d.traces b t }

/-- TRC_STS.STATE of buffer `b`: 0 IDLE, 1 ARMED, 2 TRIGGERED, 3 DONE. -/
def Dev.trcState (d : Dev) (b : Nat) : Nat := d.regF .MAD 0 (Reg.MAD_TRC_STS + 0x10 * b) 0 2

/-- The buffer becomes DONE and TRACE_DONE sets (R502, R504). -/
def Dev.traceDone (d : Dev) (b : Nat) (stopped : Bool) : Dev :=
  let d := d.setRegF .MAD 0 (Reg.MAD_TRC_STS + 0x10 * b) 0 2 3
  let d := if stopped then d.setRegF .MAD 0 (Reg.MAD_TRC_STS + 0x10 * b) 2 1 1 else d
  d.setIrq .MAD 0 b

/-- A loop page leaves SERVING: its trace buffers that run become DONE, STOPPED (R502). -/
def Dev.traceLeave (d : Dev) (n : Nat) : Dev :=
  (List.range 4).foldl (fun d b =>
    if d.regF .MAD 0 (Reg.MAD_TRC_CFG + 0x10 * b) 0 4 = n ∧ (d.trcState b = 1 ∨ d.trcState b = 2) then d.traceDone b true
    else d) d

/-- A C2, C3 or C4 event is taken: FAULT triggers hold at the next sample (R502, R504). -/
def Dev.traceFault (d : Dev) : Dev :=
  (List.range 4).foldl (fun d b => if d.trcState b = 1 then d.setTrace b { d.trace b with fault := true } else d) d

/-- Write one sample at WR_INDEX (R501). -/
def Dev.traceWrite (d : Dev) (b word : Nat) : Dev :=
  let sts := Reg.MAD_TRC_STS + 0x10 * b
  let w := d.regF .MAD 0 sts 16 12
  let d := d.setTrace b { d.trace b with samples := mput (d.trace b).samples w word }
  let d := if w = 4095 then d.setRegF .MAD 0 sts 3 1 1 else d
  d.setRegF .MAD 0 sts 16 12 ((w + 1) % 4096)

end Sys2Proof.Machine
end

