-- ==== Sys2Proof/Machine/Journal.lean ====
section
/-! DEFINITION. The bytes of the stripe journal: its records and pages, and the header page of a superblock (spec/08_stripes_rebuild.md R274 to
R276, spec/09_power_loss.md R318, R319, spec/12_filush_fabric.md R426). -/
namespace Sys2Proof.Machine
open Sys2Proof

/-- The 16 bytes of a delta record (R184). -/
def Delta.bytes (x : Delta) : List Byte := leBytes 8 x.entry ++ leBytes 3 x.band ++ leBytes 1 x.kind ++ leBytes 4 x.seq

/-- TYPE of a row record (R274). -/
abbrev rowOpen : Nat := 0x01
abbrev rowProgress : Nat := 0x02
abbrev rowClosed : Nat := 0x03
abbrev rowUnprot : Nat := 0x04
abbrev rowAbandoned : Nat := 0x05

/-- TYPE of a ledger record (R318). -/
abbrev eraseIntent : Nat := 0x20
abbrev eraseOk : Nat := 0x21
abbrev eraseFailed : Nat := 0x22
abbrev sbClosed : Nat := 0x23
abbrev sbReleased : Nat := 0x24
abbrev genRetired : Nat := 0x25
abbrev rsvRotate : Nat := 0x26

/-- The first 24 bytes of a record; the last eight are JSEQ. A change of a record of R330 has no format in the spec: its bytes are free values,
by JSEQ. -/
def JRec.body (r : JRec) (jseq : Nat) : List Byte := match r with
  | .row ty flags group width sb page slot r fin busy band =>
    leBytes 1 ty ++ leBytes 1 flags ++ leBytes 1 group ++ leBytes 1 width ++ leBytes 4 sb ++ leBytes 2 page ++ leBytes 1 slot ++ leBytes 1 r ++
      leBytes 4 fin ++ leBytes 4 busy ++ leBytes 3 band ++ leBytes 1 0
  | .groupState g width state cause count =>
    leBytes 1 0x08 ++ leBytes 1 0 ++ leBytes 1 g ++ leBytes 1 width ++ leBytes 1 state ++ leBytes 1 cause ++ leBytes 2 count ++ zeros 16
  | .groupMembers g width first members =>
    leBytes 1 0x09 ++ leBytes 1 0 ++ leBytes 1 g ++ leBytes 1 width ++ leBytes 4 first ++
      (List.range 8).flatMap (fun i => leBytes 2 (members.getD (first + i) 0xffff))
  | .prot v => leBytes 4 0x0a ++ leBytes 4 v ++ zeros 16
  | .delta x => leBytes 8 0x10 ++ x.bytes
  | .ledger ty flags group width sb purpose erases mask arg =>
    leBytes 1 ty ++ leBytes 1 flags ++ leBytes 1 group ++ leBytes 1 width ++ leBytes 4 sb ++ leBytes 1 purpose ++ leBytes 1 0 ++
      leBytes 2 erases ++ leBytes 4 mask ++ leBytes 8 arg
  | .stripe ty flags volume at_ lo countM1 owner buddy pending wseq =>
    leBytes 1 ty ++ leBytes 1 flags ++ leBytes 2 volume ++ leBytes 4 at_ ++ leBytes 1 lo ++ leBytes 1 countM1 ++ leBytes 1 owner ++
      leBytes 1 buddy ++ leBytes 4 pending ++ leBytes 8 wseq
  | .service => (List.range 24).map (fun i => Config.freeByte (2 ^ 70 + 32 * jseq + i))

/-- The 32 bytes of a record with its JSEQ. -/
def jrecBytes (e : Nat × JRec) : List Byte := e.2.body e.1 ++ leBytes 8 e.1

/-- The data of a journal page: 16 codewords of 128 records. -/
def JPage.bytes (p : JPage) : List Byte := p.recs.flatMap jrecBytes

/-- The header record of a superblock (R319). -/
def headerBytes (group width sb purpose erases intent relSeq : Nat) (blocks : List Nat) : List Byte :=
  leBytes 4 0x48535650 ++ leBytes 1 1 ++ leBytes 1 purpose ++ leBytes 1 group ++ leBytes 1 width ++ leBytes 4 sb ++ leBytes 2 erases ++ zeros 2 ++
    leBytes 8 intent ++ leBytes 4 relSeq ++ zeros 4 ++ (List.range 18).flatMap (fun i => leBytes 2 (blocks.getD i 0xffff))

/-- The data of a header page: codeword 0 carries the record, the other 15 are PAD. -/
def headerPage (record : List Byte) : List Byte := record ++ zeros (65536 - record.length)

end Sys2Proof.Machine
end

