-- ==== Sys2Proof/Machine/FtlOps.lean ====
section
/-! DEFINITION. Superblocks, the band map, log bands, the journal and the pSLC region (spec/05_band_translation.md,
spec/08_stripes_rebuild.md R274 to R277, spec/09_power_loss.md R318 to R321). -/
namespace Sys2Proof.Machine
open Sys2Proof

/-! ### Geometry (R145, R146, R267) -/

/-- Slots of a superblock (R145). -/
def slotsOf (pslc : Bool) : Nat := if pslc then 12 else 48

/-- SLOT value NONE (R148). -/
abbrev noSlot : Nat := 63

/-- Media key of position `pos` of slot `slot` of superblock `sb`. -/
def mediaKey (sb slot pos : Nat) : Nat := (sb * 64 + slot) * 4096 + pos

/-- Superblock of a media key. -/
def keySb (k : Nat) : Nat := k / 4096 / 64

/-- Row key of a media key: superblock, slot and row. -/
def keyRow (k : Nat) : Nat := k / 4096 * 16 + k % 4096 / 256

/-- Plane and codeword position of a media key within its plane page: of sector s, (s mod 16) / 4 and s mod 4 (R146). -/
def keyPlane (k : Nat) : Nat := k % 16 / 4
def keyCw (k : Nat) : Nat := k % 4

/-- Multi-plane page of a media key: 16 · slot + row (R146). -/
def keyPage (k : Nat) : Nat := 16 * (k / 4096 % 64) + k % 4096 / 256

/-- Group of a superblock, and its block index. -/
def sbGroup (sb : Nat) : Nat := sb / 8192

/-- Member of a group of width `w` that holds data die `dd` of page `p` of block index `b` (R267). -/
def memberOf (w p b dd : Nat) : Nat := (p + b + dd) % w

/-! ### State access -/

/-- Change the FTL state. -/
def Dev.mapFtl (d : Dev) (f : Ftl → Ftl) : Dev := { d with ftl := f d.ftl }

/-- Entry of a band; `none` is VALID = 0 (R149). -/
def Dev.band (d : Dev) (b : Nat) : Option BandEnt := mget d.ftl.bands b

/-- Group `g`, if it is not UNUSED. -/
def Dev.group (d : Dev) (g : Nat) : Option Group := mget d.ftl.groups g

/-- A superblock that no record lists is FREE since the format, released in index order. -/
def sbFresh (n : Nat) : Sb :=
  { state := 0, pslc := false, valid := 0, relSeq := n % 8192, next := 0, purpose := 0, failed := [], kind := 0,
    progS := 0, visitS := 0, visits := 0, intent := 0 }

/-- A superblock that no record lists: FREE, or in a RETIRING group RETIRED with it (R167). -/
def Dev.sbUnlisted (d : Dev) (n : Nat) : Sb := match d.group (sbGroup n) with
  | some g => if g.state = 2 then { sbFresh n with state := 6 } else sbFresh n
  | none => sbFresh n

/-- Superblock `n`. -/
def Dev.sb (d : Dev) (n : Nat) : Sb := (mget d.ftl.sbs n).getD (d.sbUnlisted n)

/-- Set a superblock; one in the state of an unlisted one is not listed. -/
def Dev.setSb (d : Dev) (n : Nat) (s : Sb) : Dev :=
  let u := d.sbUnlisted n
  d.mapFtl (fun f => { f with sbs := if s = u then mdel f.sbs n else mput f.sbs n s })

/-- Die by number across the device. -/
def Dev.die (d : Dev) (n : Nat) : Option DieSt := mget d.dies n

/-- Change a die that is present. -/
def Dev.mapDie (d : Dev) (n : Nat) (f : DieSt → DieSt) : Dev :=
  match d.die n with
  | some x => { d with dies := mput d.dies n (f x) }
  | none => d

/-- A die is FAILED or absent (R224). -/
def Dev.dieGone (d : Dev) (n : Nat) : Bool := match d.die n with
  | some x => x.state == 8
  | none => true

/-- An erase of a block of die `n` ends what RAW_PROGRAM wrote to its pages. -/
def Dev.dropRaw (d : Dev) (n b : Nat) : Dev :=
  { d with raw := d.raw.filter (fun e => !(e.1 / 2 ^ 25 == n && e.1 / 1024 % 8192 == b)) }

/-- Seconds since power-on of the current session. -/
def Dev.nowS (d : Dev) : Nat := d.life.usUp / 1000000

/-- The superblock exists in a group that is not UNUSED (R145, R173). -/
def Dev.sbExists (d : Dev) (n : Nat) : Bool := match d.group (sbGroup n) with
  | some g => decide (n % 8192 < g.sbCount)
  | none => false

/-- The superblock's group is ACTIVE. -/
def Dev.sbActive (d : Dev) (n : Nat) : Bool := match d.group (sbGroup n) with
  | some g => g.state == 1 && decide (n % 8192 < g.sbCount)
  | none => false

/-- Listed superblocks of existing groups that satisfy `p`. -/
def Dev.countSb (d : Dev) (p : Nat → Sb → Bool) : Nat := (d.ftl.sbs.filter (fun e => d.sbExists e.1 && p e.1 e.2)).length

/-- Superblocks of the ACTIVE groups. -/
def Dev.activeSb (d : Dev) : Nat := (d.ftl.groups.filter (fun e => e.2.state == 1)).foldl (fun n e => n + e.2.sbCount) 0

/-- GC.FREE_SB: superblocks in state FREE of ACTIVE groups (R166, R191). -/
def Dev.freeSb (d : Dev) : Nat := d.activeSb - d.countSb (fun n s => d.sbActive n && s.state != 0)

/-- Superblocks not RETIRED: those of ACTIVE groups, and of RETIRING ones the reserved ones still serving (R164, R307). -/
def Dev.liveSb (d : Dev) : Nat :=
  d.activeSb - d.countSb (fun n s => d.sbActive n && s.state == 6) + d.countSb (fun n s => !d.sbActive n && s.state != 6)

/-- ACTIVE groups. -/
def Dev.activeGroups (d : Dev) : Nat := (d.ftl.groups.filter (fun e => e.2.state == 1)).length

/-- Effective reserve (R191), of RESERVE as the last recomputation took it (R194). -/
def Dev.effReserve (d : Dev) : Nat :=
  let r := d.gcHeld.reserve
  if r = 0 then max (2 * d.activeGroups) (d.liveSb / 256) else r

/-- Effective start of pressure (R191), of HIGH as the last recomputation took it (R194). -/
def Dev.effHigh (d : Dev) : Nat :=
  let h := d.gcHeld.high
  if h ≤ d.effReserve then 4 * d.effReserve else h

/-- Patrol threshold in bits: REFRESH_PCT per cent of HARD_LIMIT 256 (R179, R246). -/
def Dev.patrolBits (d : Dev) : Nat := (max 1 (min 100 (d.regF .WEAR 0 Reg.WEAR_PATROL_CFG 16 7)) * 256 + 99) / 100

/-- PSL_CFG.MIN_SB as it acts (R192). -/
def Dev.minSb (d : Dev) : Nat := max 0x40 (d.regF .PSL 0 Reg.PSL_PSL_CFG 0 20)

/-- MAP.MAPPED (R189). -/
def Dev.mapped (d : Dev) : Nat := d.ftl.bands.length

/-- MAP.HELD: slots held only by snapshots (R189). -/
def Dev.heldSlots (d : Dev) : Nat := (d.ftl.held.filter (fun e => !e.none)).length

/-- The media is formatted: a format record in force names this device's SERIAL (R188). -/
def Dev.formatted (d : Dev) : Bool := match d.format with
  | some f => f.serial == d.serial
  | none => false

/-- MAP.CAP_BANDS: zero on unformatted media (R181, R188). -/
def Dev.capBands (d : Dev) : Nat :=
  if !d.formatted then 0
  else min 16777216 (48 * (d.liveSb - d.countSb (fun _ s => s.state == 5) - (d.effReserve + d.gcHeld.minSb)))

/-- Superblocks on their way into pSLC use: allocated, not yet open (R163). -/
def Dev.pslcComing (d : Dev) : Nat := d.countSb (fun _ s => s.pslc && s.state == 1)

/-- PSL.CUR_SB: superblocks in pSLC use, OPEN or CLOSED (R192). -/
def Dev.curSb (d : Dev) : Nat := d.countSb (fun _ s => s.pslc && (s.state == 2 || s.state == 3))

/-- PSL.RSV_SB: reserved superblocks in use (R192, R307). -/
def Dev.pslRsv (d : Dev) : Nat := d.countSb (fun _ s => s.purpose == 6 && s.state == 2)

/-- PSL.TARGET_SB as last recomputed (R164). -/
def Dev.pslTarget (d : Dev) : Nat := d.regF .PSL 0 Reg.PSL_TARGET_SB 0 20

/-- PSL.FAST_FREE (R192): reserved superblocks hold no fast bands. -/
def Dev.fastFree (d : Dev) : Nat :=
  (d.ftl.sbs.filter (fun e => e.2.pslc && e.2.state == 2 && e.2.purpose == 2)).foldl (fun n e => n + (12 - e.2.next)) 0 +
    12 * (d.pslTarget - d.curSb)

/-- Fast space is short (R157). -/
def Dev.fastShort (d : Dev) : Bool :=
  let pct := min 100 (d.regF .PSL 0 Reg.PSL_PSL_DIRECT 0 7)
  decide (d.fastFree * 100 < pct * (12 * d.pslTarget))

/-- LOG_STS.IN_USE (R190). -/
def Dev.logInUse (d : Dev) : Nat := d.ftl.logs.length

/-- LOG_STS.LIMIT as last recomputed (R165). -/
def Dev.logLimit (d : Dev) : Nat := d.regF .LOG 0 Reg.LOG_LOG_STS 13 13

/-- FREE_LOW as it acts (R190), as the last recomputation took it (R194). -/
def Dev.freeLow (d : Dev) : Nat := max 1 d.gcHeld.freeLow

/-- pSLC slots that hold fast bands or log bands (R492). -/
def Dev.pslcHeld (d : Dev) : Nat :=
  (d.ftl.bands.filter (fun e => e.2.fast && e.2.slot != noSlot)).length + (d.ftl.logs.filter (fun e => e.2.fast)).length

/-- GC.PRESSURE (R172). -/
def Dev.gcPressure (d : Dev) : Nat :=
  let hi := d.effHigh
  let lo := d.effReserve
  let sbTerm := if hi ≤ lo then 0 else min 65535 (65535 * (hi - d.freeSb) / (hi - lo))
  let fl := 4 * d.freeLow
  let logTerm := min 65535 (65535 * (fl - (d.logLimit - d.logInUse)) / fl)
  max sbTerm logTerm

/-- FREE_SB is at or below the effective reserve (R171). -/
def Dev.atReserve (d : Dev) : Bool := decide (d.freeSb ≤ d.effReserve)

/-! ### Journal (R274 to R277) -/

/-- BUF_PAGES as it acts (R299). -/
def Dev.bufPages (d : Dev) : Nat := max 1 (min 48 (d.regF .JNL 0 Reg.JNL_JNL_CFG 0 6))

/-- The journal holds programs (R276). -/
def Dev.jnlFull (d : Dev) : Bool := decide (d.bufPages ≤ d.jnl.waiting.length)

/-- One record more in the unfinished page; a page of 2,048 that fills waits to be written with the state it tells (R276). -/
def Jnl.push (j : Jnl) (f : Ftl) (e : Nat × JRec) : Jnl :=
  let recs := j.recs ++ [e]
  if recs.length < 2048 then { j with recs := recs } else { j with recs := [], waiting := j.waiting ++ [⟨f, recs⟩] }

/-- Write journal records: JSEQ advances by one for each (R274). -/
def Dev.jrec (d : Dev) (rs : List JRec) : Dev :=
  let seq := d.reg64 .JNL 0 Reg.JNL_JSEQ
  let d := d.inc64 .JNL 0 Reg.JNL_JSEQ rs.length
  { d with jnl := rs.zipIdx.foldl (fun j (e : JRec × Nat) => j.push d.ftl (seq + 1 + e.2, e.1)) d.jnl }

/-- Width of the group of a superblock. -/
def Dev.sbWidth (d : Dev) (sb : Nat) : Nat := ((d.group (sbGroup sb)).map (fun g => g.members.length)).getD 0

/-- Members of a superblock's row that hold its first `n` data units (R267), or every member from 17 on. -/
def Dev.rowMask (d : Dev) (sb page n : Nat) : Nat :=
  let w := d.sbWidth sb
  if n ≤ 16 then tagMask ((List.range n).map (memberOf w page (sb % 8192))) else 2 ^ w - 1

/-- A row record (R274) of row `k` (superblock × 64 + slot, × 16 + row) with the first `n` data units programmed, or all of it from 17 on. The
model issues and ends a program in one step, so BUSY_MASK is zero. -/
def Dev.rowRec (d : Dev) (ty k : Nat) (log : Bool) (band n : Nat) : JRec :=
  let sb := k / 16 / 64
  let page := 16 * (k / 16 % 64) + k % 16
  .row ty (b2n (d.sb sb).pslc + 2 * b2n log) (sbGroup sb) (d.sbWidth sb) sb page (k / 16 % 64) (k % 16) (d.rowMask sb page n) 0 band

/-- Band of the log band or direct fill in a slot. -/
def Dev.bandOfSlot (d : Dev) (sb slot : Nat) : Nat :=
  ((d.ftl.logs.find? (fun e => e.2.sb == sb && e.2.slot == slot)).map (fun e => e.2.band)).getD 0

/-- A ledger record (R318) of a superblock, with MASK and ARG; ERASES is the count after the erase that it concerns. -/
def Dev.ledgerRec (d : Dev) (ty sb erases mask arg : Nat) : JRec :=
  let s := d.sb sb
  .ledger ty (b2n s.pslc) (sbGroup sb) (d.sbWidth sb) sb s.purpose (min 0xffff erases) mask arg

/-- GROUP_STATE of group `g`; one that is not listed is UNUSED. -/
def Dev.groupRec (d : Dev) (g : Nat) : JRec := match d.group g with
  | some x => .groupState g x.width x.state x.cause x.sbCount
  | none => .groupState g 0 0 0 0

/-- GROUP_STATE and the three GROUP_MEMBERS records of a group (R275). -/
def Dev.groupRecs (d : Dev) (g : Nat) : List JRec :=
  d.groupRec g :: [0, 8, 16].map (fun i => .groupMembers g (((d.group g).map (·.width)).getD 0) i (((d.group g).map (·.members)).getD []))

/-- A band map entry in the format of R148; an absent one is zero. -/
def bandBits : Option BandEnt → Nat
  | none => 0
  | some e => 2 ^ 63 + b2n e.logged * 2 ^ 62 + b2n e.fast * 2 ^ 61 + b2n e.snap * 2 ^ 60 + e.sb % 2 ^ 20 * 2 ^ 40 + e.slot % 64 * 2 ^ 34 +
      (if e.logged then e.logIdx % 4096 else 0) * 2 ^ 22 + e.gen % 64 * 2 ^ 16

/-- KIND of a delta record (R184): 1 SWITCH, 2 UNMAP, 3 LOG_ATTACH, 4 LOG_DETACH, 5 SNAP_MARK. -/
def deltaKind (was now : Option BandEnt) : Nat := match was, now with
  | _, none => 2
  | none, some e => if e.logged then 3 else 1
  | some o, some e =>
    if e.logged && !o.logged then 3
    else if o.sb != e.sb || o.slot != e.slot then 1
    else if o.logged && !e.logged then 4
    else if e.snap && !o.snap then 5
    else 1

/-- Write a band's entry with its delta record (R149, R184). -/
def Dev.setBand (d : Dev) (b : Nat) (e : Option BandEnt) : Dev :=
  let delta : Delta := ⟨bandBits e, b, deltaKind (d.band b) e, (d.reg64 .MAP 0 Reg.MAP_DELTA_SEQ + 1) % 2 ^ 32⟩
  let d := d.mapFtl (fun f => { f with bands := match e with
    | some x => mput f.bands b x
    | none => mdel f.bands b })
  let d := { d with jnl := { d.jnl with deltas := d.jnl.deltas ++ [delta] } }
  (d.inc64 .MAP 0 Reg.MAP_DELTA_SEQ 1).jrec [.delta delta]

/-- The band map entry that 64 bits in the format of R148 hold. -/
def bandOfBits (w : Nat) : Option BandEnt :=
  if nbit w 63 then some
    { logged := nbit w 62, fast := nbit w 61, snap := nbit w 60, sb := w / 2 ^ 40 % 2 ^ 20, slot := w / 2 ^ 34 % 64
      logIdx := w / 2 ^ 22 % 4096, gen := w / 2 ^ 16 % 64 }
  else none

/-- The entry of a band as the newest delta record, or else the checkpoint, has it (R184, R185). -/
def Dev.recordedEntry (d : Dev) (b : Nat) : Nat := match d.jnl.deltas.reverse.find? (fun x => x.band == b) with
  | some x => x.entry
  | none => bandBits (mget d.jnl.media.bands b)

/-- Delta records that the map read from media does not bear out are gone: they were never written there. -/
def Dev.trimDeltas (d : Dev) : Dev :=
  { d with jnl := { d.jnl with deltas := d.jnl.deltas.filter (fun x => d.recordedEntry x.band == bandBits (mget d.ftl.bands x.band)) } }

/-- Rebuild the map word of a band from its records (R185). -/
def Dev.rebuildEntry (d : Dev) (b : Nat) : Dev := d.mapFtl (fun f => { f with bands := match bandOfBits (d.recordedEntry b) with
  | some x => mput f.bands b x
  | none => mdel f.bands b })

/-! ### pSLC target (R164, R165) -/

/-- The configuration fields that a recomputation takes (R194). -/
def Dev.gcFields (d : Dev) : GcHeld :=
  { reserve := d.regF .GC 0 Reg.GC_GC_CFG 0 20, high := d.regF .GC 0 Reg.GC_GC_HIGH 0 20
    freeLow := d.regF .LOG 0 Reg.LOG_LOG_CFG 13 13, minSb := d.minSb }

/-- Recompute TARGET_SB and the log limit, and take the configuration fields that wait for it (R164, R165, R181, R194); SHRINK when the target
falls below CUR_SB (R163). DESIGN CHOICE: MAX_128THS above 64 acts as 64 and MAX_LOG above 4,096 as 4,096; R190 and R192 give those values no
meaning. -/
def Dev.pslRecompute (d : Dev) : Dev :=
  let d := { d with gcHeld := d.gcFields }
  let f := d.freeSb + d.countSb (fun _ s => s.pslc && s.state != 0 && s.state != 6)
  let m := max 1 (min 64 (d.regF .PSL 0 Reg.PSL_PSL_CFG 20 7))
  let hi := d.liveSb * m / 128
  let t := (f - d.effReserve) / 4
  let target := max d.minSb (min t hi)
  let was := d.pslTarget
  let cur := d.curSb
  let maxLog := max 1 (min 4096 (d.regF .LOG 0 Reg.LOG_LOG_CFG 0 13))
  let d := (d.setRegN .PSL 0 Reg.PSL_TARGET_SB target).setRegF .LOG 0 Reg.LOG_LOG_STS 13 13
    (min maxLog (12 * (target - d.pslRsv) / 2))
  if target < cur ∧ cur ≤ was then d.setIrq .PSL 0 0 else d

/-! ### Blocks and spares (R177, R178) -/

/-- Block that die `die` uses for block index `b` (R145). -/
def DieSt.blockOf (x : DieSt) (b : Nat) : Nat := (mget x.subst b).getD b

/-- Highest erase count among the blocks of a superblock, saturating at 0xFFFF (R166). -/
def Dev.sbErases (d : Dev) (sb : Nat) : Nat := min 0xffff <| match d.group (sbGroup sb) with
  | some g => g.members.foldl (fun m n => match d.die n with
    | some x => max m ((mget x.erases (x.blockOf (sb % 8192))).getD 0)
    | none => m) 0
  | none => 0

/-- ERASE_INTENT of a superblock, with its counters (R318, R329). -/
def Dev.ledgerIntent (d : Dev) (sb : Nat) : Dev :=
  let d := (d.inc64 .JNL 0 Reg.JNL_ERASE_CNT 1).setRegN .JNL 0 Reg.JNL_LAST_INTENT (sb % 2 ^ 20)
  let d := d.setRegN .JNL 0 Reg.JNL_LEDGER_STS (min 0xff (d.regN .JNL 0 Reg.JNL_LEDGER_STS + 1))
  let d := d.jrec [d.ledgerRec eraseIntent sb (d.sbErases sb + 1) (2 ^ d.sbWidth sb - 1) 0]
  d.setSb sb { d.sb sb with intent := d.reg64 .JNL 0 Reg.JNL_JSEQ }

/-- An intent closes with ERASE_DONE, or ERASE_FAILED naming the members in `bad` (R318). -/
def Dev.ledgerClose (d : Dev) (sb : Nat) (bad : List Nat) : Dev :=
  let d := d.setRegN .JNL 0 Reg.JNL_LEDGER_STS (d.regN .JNL 0 Reg.JNL_LEDGER_STS - 1)
  d.jrec [if bad.isEmpty then d.ledgerRec eraseOk sb (d.sbErases sb) (2 ^ d.sbWidth sb - 1) 0
    else d.ledgerRec eraseFailed sb (d.sbErases sb) (tagMask bad) 0]

/-- A block fails in a program or erase (R177, R178): the grown-bad list takes it, a spare is reserved, a superblock in ERASING or OPEN goes
to REPAIR (R167); with no spare READONLY is raised, recorded and logged CRITICAL. `member` indexes the superblock's group. -/
def Dev.blockFail (d : Dev) (sb member : Nat) : Dev :=
  match d.group (sbGroup sb) with
  | none => d
  | some g =>
    let n := g.members.getD member 0
    match d.die n with
    | none => d
    | some x =>
      let b := sb % 8192
      let s := d.sb sb
      let d := d.setSb sb { s with
        state := if s.state = 1 ∨ s.state = 2 then 5 else s.state
        failed := if s.failed.contains member then s.failed else s.failed ++ [member] }
      match x.spares with
      | sp :: rest =>
        d.mapDie n (fun x => { x with
          grownBad := x.blockOf b :: x.grownBad, spares := rest, resv := mput x.resv b sp })
      | [] =>
        let d := d.mapDie n (fun x => { x with grownBad := x.blockOf b :: x.grownBad })
        if g.state = 1 ∧ !d.regB .WEAR 0 Reg.WEAR_RO_CAUSE 31 then
          (d.setRegN .WEAR 0 Reg.WEAR_RO_CAUSE (n + sb % 2 ^ 20 * 2048 + 2 ^ 31)).note 4 .WEAR none none
        else d

/-- Every failed block of a superblock has a reserved spare, which replaces it (R177). `none` when one has not. -/
def Dev.replaceBlocks (d : Dev) (sb : Nat) : Option Dev :=
  match d.group (sbGroup sb) with
  | none => none
  | some g =>
    let b := sb % 8192
    let dies := (d.sb sb).failed.map (fun m => g.members.getD m 0)
    if dies.all (fun n => match d.die n with
      | some x => mhas x.resv b
      | none => false) then
      some (dies.foldl (fun d n => d.mapDie n (fun x => { x with
        subst := mput x.subst b ((mget x.resv b).getD b), resv := mdel x.resv b })) d)
    else none

/-! ### Release (R155, R166, R167) -/

/-- Return a superblock to FREE: SB_RELEASED, a new RELEASE_SEQ, the targets recomputed (R164, R167, R318). -/
def Dev.sbFree (d : Dev) (n : Nat) : Dev :=
  let s := d.sb n
  let gc := s.kind == 2
  let d := d.setSb n { s with state := 0, valid := 0, relSeq := 8192 + d.ftl.relNext, next := 0, failed := [], kind := 0 }
  let d := d.mapFtl (fun f => { f with relNext := f.relNext + 1 })
  let d := d.jrec [d.ledgerRec sbReleased n (d.sbErases n) 0 (d.sb n).relSeq]
  let d := if gc then (d.incWrap .GC 0 Reg.GC_RECLAIMED 1).setRegF .GC 0 Reg.GC_VICTIM 20 7 0 else d
  d.pslRecompute

/-- A superblock whose VALID is 0 leaves CLOSED, RECLAIM or REPAIR for FREE where R167 lets it. -/
def Dev.sbSettle (d : Dev) (n : Nat) : Dev :=
  let s := d.sb n
  if s.valid ≠ 0 ∨ s.purpose = 6 then d
  else if s.state = 3 ∨ s.state = 4 then d.sbFree n
  else if s.state = 5 then (match d.replaceBlocks n with
    | some d => d.sbFree n
    | none => d)
  else d

/-- One slot of a superblock no longer holds a band. -/
def Dev.releaseSlot (d : Dev) (n : Nat) : Dev :=
  let s := d.sb n
  (d.setSb n { s with valid := s.valid - 1 }).sbSettle n

/-- A log band or direct fill still receives units in a slot of the superblock. -/
def Dev.sbFills (d : Dev) (n : Nat) : Bool := d.ftl.logs.any (fun e => e.2.sb == n)

/-- An OPEN superblock in which nothing fills becomes CLOSED, its slots not taken abandoned (R167, R318). -/
def Dev.sbClose (d : Dev) (n : Nat) : Dev :=
  let s := d.sb n
  if s.state = 2 ∧ s.purpose ≠ 6 ∧ d.sbFills n = false then
    ((d.setSb n { s with state := 3, next := max s.next (slotsOf s.pslc) }).jrec [d.ledgerRec sbClosed n (d.sbErases n) 0 0]).sbSettle n
  else d

/-- Close an OPEN superblock whose last slot is programmed (R167). -/
def Dev.sbCloseIfFull (d : Dev) (n : Nat) : Dev := if slotsOf (d.sb n).pslc ≤ (d.sb n).next then d.sbClose n else d

/-- Take the next slot of an OPEN superblock: VALID and the slots taken advance (R147, R166). -/
def Dev.takeSlot (d : Dev) (n : Nat) : Nat × Dev :=
  let s := d.sb n
  (s.next, d.setSb n { s with
    next := s.next + 1, valid := s.valid + 1, progS := if s.next = 0 then d.nowS else s.progS })

/-- A destination that firmware may use for a slot: OPEN in the mode asked, in an ACTIVE group, with a free slot, opened
for band data; in QLC mode no direct fill of it is unfinished, for one slot is filled at a time (R147, R156, R166). -/
def Dev.destOk (d : Dev) (n : Nat) (pslc : Bool) : Bool :=
  let s := d.sb n
  (pslc || !d.sbFills n) &&
  d.sbActive n && s.state == 2 && s.pslc == pslc && decide (s.next < slotsOf pslc) && (s.purpose == 1 || s.purpose == 2)

/-! ### Snapshots' hold on a base (R359) -/

/-- Members of a fabric volume's set (R420). -/
def Store.width (v : Store) : Nat := (bitList v.fabSet 64).length

/-- Bands of a member's shard range (R421). -/
def Store.shardBands (v : Store) : Nat :=
  let stripes := v.bands * 256 / max 1 v.fabK
  let w := max 1 v.width
  ((stripes + w - 1) / w * (v.fabK + v.fabM) * 16 + 4095) / 4096

/-- Bands that a record takes on this device (R330, R338, R421): a fabric volume takes its shard range, or none outside its set. -/
def Store.span (v : Store) : Nat :=
  if v.fabK = 0 then max v.bands v.oldBands else if v.base = 0xffffff then 0 else max v.shardBands v.oldBands

/-- The record whose range holds a band, with its key in `stores` (R330). -/
def Dev.storeOfBand (d : Dev) (b : Nat) : Option (Nat × Store) :=
  d.stores.find? (fun e => decide (e.2.base ≤ b ∧ b < e.2.base + e.2.span))

/-- Highest LAST among a band's delta entries (R359). -/
def Dev.heldTop (d : Dev) (b : Nat) : Nat := (d.ftl.held.filter (fun e => e.band == b)).foldl (fun m e => max m e.hi) 0

/-- Snapshot IDs that a change of the band's base must be kept for: c + 1 to SNAP_NEWEST, when a live ID lies there. -/
def Dev.snapNeeds (d : Dev) (b : Nat) : Option (Nat × Nat) :=
  match d.storeOfBand b with
  | some (_, v) =>
    let c := d.heldTop b
    if v.snaps.any (fun s => decide (c < s.id)) then some (c + 1, v.snapNewest) else none
  | none => none

/-- Let go of the base of a band whose entry was `e`: kept as a delta entry where a snapshot needs it, else released (R359). -/
def Dev.dropBase (d : Dev) (b : Nat) (e : Option BandEnt) : Dev :=
  match d.snapNeeds b, e with
  | some (lo, hi), none =>
    d.mapFtl (fun f => { f with held := f.held ++
      [⟨b, true, 0, 0, false, 0, lo, hi⟩] })
  | some (lo, hi), some x =>
    if x.slot = noSlot then d.mapFtl (fun f => { f with held := f.held ++ [⟨b, true, 0, 0, false, 0, lo, hi⟩] })
    else d.mapFtl (fun f => { f with held := f.held ++ [⟨b, false, x.sb, x.slot, x.fast, x.gen, lo, hi⟩] })
  | none, some x => if x.slot = noSlot then d else d.releaseSlot x.sb
  | none, none => d

/-! ### Map switch (R155) -/

/-- Change a band's base (R148, R155): GEN + 1, SNAP 0, EPOCH + 1, the old base released or kept. The slot's VALID was
counted when it was taken. -/
def Dev.switchBase (d : Dev) (b : Nat) (fast : Bool) (sb slot : Nat) : Dev :=
  let old := d.band b
  let gen := match old with
    | some e => (e.gen + 1) % 64
    | none => 1
  let d := d.dropBase b old
  let d := d.setBand b (some ⟨false, fast, false, sb, slot, 0, gen⟩)
  let d := d.mapFtl (fun f => { f with
    fastOrder := f.fastOrder.filter (· != b) ++ (if fast then [b] else []) })
  (d.incWrap .MAP 0 Reg.MAP_EPOCH 1).sbCloseIfFull sb

/-- Tokens charged without the level test stop at −4,096 (R24). -/
def Dev.charge (d : Dev) (g tokens : Nat) : Dev :=
  { d with
      gates := d.gates.modify g (fun x => { x with level := max (-4096 * 512) (x.level - 512 * tokens) })
      gateAdm := d.gateAdm.modify g (· + tokens) }

/-- The gate admits: its level is at least one whole token (R24). -/
def Dev.gateOpen (d : Dev) (g : Nat) : Bool := match d.gates[g]? with
  | some x => decide (512 ≤ x.level)
  | none => false

/-! ### Relocating jobs and their gates (R24, R156) -/

/-- Rows of a job pass gate `g` in turn while it admits, each at its cost; `n` counts those passed. A forced job makes no level test. -/
def Dev.passRows (g : Nat) (forced : Bool) : List Nat → Nat → Dev → Nat × Dev
  | [], n, d => (n, d)
  | c :: cs, n, d => if forced || d.gateOpen g then Dev.passRows g forced cs (n + 1) (d.charge g c) else (n, d)

/-- What a job moves, as a key beside its gate: a band, or a held slot. -/
def heldKey (sb slot : Nat) : Nat := 2 ^ 31 + sb * 64 + slot

/-- Another job, under another gate, holds the band or held slot (R156), or the map has lost the band (R185). -/
def Dev.jobElse (d : Dev) (g what : Nat) : Bool :=
  d.lostEnts.contains what || d.jobRows.any (fun e => e.1 % 2 ^ 32 == what && e.1 / 2 ^ 32 != g)

/-- Some job holds the band, or the map has lost it (R185). -/
def Dev.jobOn (d : Dev) (what : Nat) : Bool := d.lostEnts.contains what || d.jobRows.any (fun e => e.1 % 2 ^ 32 == what)

/-- A relocating job at gate `g` goes on (R156): the rows it still lacks pass the gate at `costs`; with the last of them its work `go` is done in
one step, and until then the rows passed are kept. It waits while another job holds the band. -/
def Dev.job (d : Dev) (g what : Nat) (forced : Bool) (costs : List Nat) (go : Dev → Dev) : Dev :=
  if d.jobElse g what then d
  else
    let k := g * 2 ^ 32 + what
    let n := (mget d.jobRows k).getD 0
    let r := Dev.passRows g forced (costs.drop n) n d
    if costs.length ≤ r.1 then go { r.2 with jobRows := mdel r.2.jobRows k }
    else { r.2 with jobRows := mput r.2.jobRows k r.1 }

/-- Costs of the 16 rows of a whole band: two tokens for each of 256 sectors (R22). -/
def wholeCosts : List Nat := List.replicate 16 512

/-! ### Log bands -/

/-- Log band `l`. -/
def Dev.logBand (d : Dev) (l : Nat) : Option LogBand := mget d.ftl.logs l

/-- Store a log band. -/
def Dev.setLog (d : Dev) (l : Nat) (x : LogBand) : Dev := d.mapFtl (fun f => { f with logs := mput f.logs l x })

/-- A band of a volume under an installation hold (R358), a tail band of a sealed stream (R346) or a closed data band of a namespace
(R351) whose sectors have all left the cache: its log band is merged at once, on the forced path of R161. -/
def Dev.mergeNow (d : Dev) (b : Nat) : Bool := match d.storeOfBand b with
  | some (k, v) =>
    if k / 65536 = 0 then v.hold
    else if k / 65536 = 1 then nbit v.flags 0 && !d.cache.any (fun e => e.1 / 4096 == b)
    else decide (k / 65536 = 2 ∧ v.base + v.dirBands ≤ b) && (match v.fill with
        | some (f, _) => f != b
        | none => true) && !d.cache.any (fun e => e.1 / 4096 == b)
  | none => false

/-- Lowest log index not in use. -/
def Dev.freeLog (d : Dev) : Option Nat := (List.range 4096).find? (fun l => !mhas d.ftl.logs l)

/-- Direct fills in use (R190). -/
def Dev.directInUse (d : Dev) : Nat := (d.ftl.logs.filter (fun e => e.2.direct)).length

/-- Milliseconds since the device left RESET (R152). -/
def Dev.nowMs (d : Dev) : Nat := d.us / 1000

/-- LAST_WRITE of a log band (R152): its low 32 bits at the last install for the band, which a line still in the cache may name. -/
def Dev.lastWrite (d : Dev) (x : LogBand) : Nat :=
  (d.cache.filter (fun e => e.1 / 4096 == x.band)).foldl (fun m e => max m ((e.2.atUs - d.life.bootUs) / 1000)) x.lastWrite % 2 ^ 32

/-- The 16-byte descriptor of a log band (R152). -/
def Dev.logBytes (d : Dev) (x : LogBand) : List Byte :=
  leBytes 3 x.band ++ leBytes 1 x.state ++ leBytes 4 (x.sb % 2 ^ 20 + x.slot % 64 * 2 ^ 20 + b2n x.fast * 2 ^ 26) ++ leBytes 2 x.fill ++
    leBytes 1 (b2n x.inOrder + 2 * b2n x.direct) ++ leBytes 1 0 ++ leBytes 4 (d.lastWrite x)

/-- Attach a new log band or direct fill to a band by one map write (R158): an unmapped band becomes VALID with SLOT NONE. -/
def Dev.attachLog (d : Dev) (b dst : Nat) (direct : Bool) : Dev :=
  match d.freeLog with
  | none => d
  | some l =>
    let fast := !direct
    let t := d.takeSlot dst
    let d := t.2.setLog l
      { band := b, state := 1, sb := dst, slot := t.1, fast := fast, fill := 0, inOrder := true, direct := direct,
        lastWrite := t.2.nowMs, map := [], unit := [], unitUs := 0, unitGate := 12, holdUs := 1, more := true, urgent := 0, forced := false }
    let d := d.mapFtl (fun f => { f with noDirect := f.noDirect.filter (· != b) })
    let old := d.band b
    let d := match old with
      | some _ => d
      | none => d.dropBase b none
    let e : BandEnt := match old with
      | some e => { e with logged := true, logIdx := l }
      | none => ⟨true, false, false, 0, noSlot, l, 0⟩
    (d.setBand b (some e)).sbCloseIfFull dst

/-- The GEN that codewords of a band's next base carry (R150). -/
def Dev.nextGen (d : Dev) (b : Nat) : Nat := match d.band b with
  | some e => (e.gen + 1) % 64
  | none => 1

/-- A PAD codeword of a band (R150, R153, R159, R235): it reads as zeros. -/
def Dev.padCw (d : Dev) (b sec : Nat) (logged : Bool) (install : Nat) : Cw :=
  { band := b, gen := d.nextGen b, sector := sec, pad := true, logged := logged, poison := 0, install := install, target := 0
    ageS := d.bak.pos % 2 ^ 32, stored := .zero, guard := 0, app := 0, ref := 0 }

/-- A codeword made from a cache line (R150, R233 to R235). -/
def Dev.cwOf (d : Dev) (b sec : Nat) (logged : Bool) (x : Line) : Cw :=
  { band := b, gen := d.nextGen b, sector := sec, pad := false, logged := logged, poison := x.poison, install := x.install,
    target := x.target, ageS := d.bak.pos % 2 ^ 32, stored := x.stored, guard := x.guard, app := x.app, ref := x.ref }

/-- Put a codeword at a media key: what stood there before is gone. -/
def Dev.putCw (d : Dev) (k : Nat) (c : Cw) : Dev :=
  { d with media := mput d.media k c, lostSeen := d.lostSeen.filter (fun x => x != k) }

/-- Drop a log band's structure and release its slot (R159, R167). -/
def Dev.freeLogBand (d : Dev) (l : Nat) (keepSlot : Bool) : Dev :=
  match d.logBand l with
  | none => d
  | some x =>
    let d := d.mapFtl (fun f => { f with
      logs := mdel f.logs l
      rows := f.rows.filter (fun e => keepSlot || e.1 / 16 != x.sb * 64 + x.slot)
      unprot := f.unprot.filter (fun r => keepSlot || r / 16 != x.sb * 64 + x.slot) })
    if keepSlot then d else (d.releaseSlot x.sb).sbCloseIfFull x.sb

/-- Unmap a band (R157, R182): VALID ← 0, slot and log band released, its cache lines dropped. -/
def Dev.unmapBand (d : Dev) (b : Nat) : Dev :=
  let d := { d with cache := d.cache.filter (fun e => e.1 / 4096 != b), jobRows := d.jobRows.filter (fun e => e.1 % 2 ^ 32 != b) }
  match d.band b with
  | none => d
  | some e =>
    let d := if e.logged then d.freeLogBand e.logIdx false else d
    let d := d.dropBase b (some e)
    (d.setBand b none).mapFtl (fun f => { f with fastOrder := f.fastOrder.filter (· != b) })

/-! ### Lookup (R154) -/

/-- Where a sector that the cache does not serve is found: zeros, or a media key. -/
inductive Where where
  | zeros
  | at (key : Nat)
deriving DecidableEq, Repr

/-- Resolve a sector of a band (R154). -/
def Dev.lookup (d : Dev) (b sec : Nat) : Where :=
  match d.band b with
  | none => .zeros
  | some e =>
    let base := if e.slot = noSlot then Where.zeros else .at (mediaKey e.sb e.slot sec)
    if e.logged then
      match d.logBand e.logIdx with
      | some l => match mget l.map sec with
        | some x => if x.zero then .zeros else if x.inLog then .at (mediaKey l.sb l.slot x.pos) else base
        | none => base
      | none => base
    else base

/-- Codeword of a sector's newest copy on media, `none` when it reads as zeros (PAD included, R676). -/
def Dev.mediaCw (d : Dev) (b sec : Nat) : Option Cw := match d.lookup b sec with
  | .zeros => none
  | .at k => (mget d.media k).filter (fun c => !c.pad)

/-- A lookup in flight names a superblock (R155). -/
def Dev.lookupOpen (d : Dev) (sb : Nat) : Bool :=
  d.flights.any (fun f => f.jobs.any (fun j => match j.st with
    | .media k _ => keySb k == sb
    | _ => false))

end Sys2Proof.Machine
end

