-- ==== Sys2Proof/Machine/FtlJobs.lean ====
section
/-! DEFINITION. Placement of writes, merges and relocating jobs (R156 to R163, R170, R180, R248, R270 to R272, R282). -/
namespace Sys2Proof.Machine
open Sys2Proof

/-- Modes in which relocating work runs (R174): BOOT, MAINT, PATROL and FLUSH exclude it, and in BACKUP, RESET and IDLE
nothing runs. -/
def backgroundMode : Mode → Bool
  | .compat | .active | .degraded | .fenced | .readonly => true
  | _ => false

/-- Relocating work may run and program: not halted by a C4 fault, journal room (R174, R276, R556). -/
def Dev.mayRelocate (d : Dev) : Bool := backgroundMode d.life.mode && !d.life.fatal && !d.jnlFull

/-- Some member of a superblock's group is FAILED. -/
def Dev.sbDegraded (d : Dev) (sb : Nat) : Bool := match d.group (sbGroup sb) with
  | some g => g.members.any d.dieGone
  | none => false

/-! ### Lost sectors (R289 to R291) -/

/-- Rights of a tint on a record: all for the owner, else those of its grant. -/
def Dev.rights (d : Dev) (t k : Nat) (v : Store) : Nat :=
  if v.owner = t then 7 else match d.grants.find? (fun g => g.record == k && g.tint == t) with
    | some g => g.rights
    | none => 0

/-- Views that a lost sector of a record goes to (R290): the PF's, and that of every VF and port whose tint owns the record or
holds a grant on it. -/
def Dev.recordViews (d : Dev) (k : Nat) (v : Store) : List Nat :=
  0 :: (d.vfs.filter (fun e => e.2.valid && d.rights e.2.tint k v != 0)).map (·.1) ++
    ((List.range 8).filter (fun p => d.regB .TP p Reg.TP_TP_BIND 31 &&
      d.rights (d.regF .TP p Reg.TP_TP_BIND 0 10) k v != 0)).map (256 + ·)

/-- Runs of consecutive sectors of one row: sorted (sector, media key) pairs cut into first sector, count and key of the first. -/
def lostRuns : List (Nat × Nat) → List (Nat × Nat × Nat)
  | [] => []
  | (s, k) :: xs => match lostRuns xs with
    | (t, n, j) :: rest => if t = s + 1 ∧ keyRow j = keyRow k then (s, n + 1, k) :: rest else (s, 1, k) :: (t, n, j) :: rest
    | [] => [(s, 1, k)]

/-- Why a row has no usable parity (R273, R281, R291): 2 OPEN_ROW, 3 UNPROTECTED_ROW, else 1 EXCESS. -/
def Dev.rowCause (d : Dev) (key : Nat) : Nat :=
  if mhas d.ftl.rows (keyRow key) then 2 else if d.ftl.unprot.contains (keyRow key) then 3 else 1

/-- A LOST_RANGE entry for a run of `n` sectors from `sec` of band `b` (R291); `cause` 4 is JOURNAL_SCAN, any other is the row's. -/
def Dev.lostEntry (d : Dev) (b cause unavail : Nat) (run : Nat × Nat × Nat) : Dev :=
  let sb := keySb run.2.2
  let g := sbGroup sb
  let page := 16 * (run.2.2 / 4096 % 64) + run.2.2 % 4096 / 256
  let width := (match d.group g with
    | some x => x.width
    | none => 17)
  let cause := if cause = 4 then 4 else d.rowCause run.2.2
  let at_ : List Nat × Nat × Nat := match d.storeOfBand b with
    | some (k, v) =>
      let addr := match v.objs.find? (fun o => o.band == b && decide (o.start ≤ run.1 ∧ run.1 < o.start + o.sects)) with
        | some o => run.1 - o.start
        | none => (b - v.base) * 4096 + run.1
      (d.recordViews k v, k % 65536, addr)
    | none => ([0], 0, 0)
  let d := d.addLogs at_.1
    { seq := 0, kind := 3, status := St.stripeLost, origin := 0xff, originNum := 0, queue := 0xffff, tag := 0xff, opcode := 0xff
      w10 := run.2.1, w14 := cause + g * 2 ^ 8 + page * 2 ^ 16, w18 := at_.2.1, w1c := b + width * 2 ^ 24, d20 := at_.2.2
      d28 := sb + unavail * 2 ^ 32, d30 := 0, time := 0 }
  d.note 4 .STR none none

/-- Lost sectors of band `b` as (sector, media key), ascending (R290): those not logged before are logged once, one entry for
each run, and counted. -/
def Dev.lostFound (d : Dev) (b cause unavail : Nat) (secs : List (Nat × Nat)) : Dev :=
  let new := secs.filter (fun e => !d.lostSeen.contains e.2 && (match mget d.media e.2 with
    | some c => c.poison != 3
    | none => true))
  if new.isEmpty then d
  else
    let d := (lostRuns new).foldl (fun (d : Dev) r => d.lostEntry b cause unavail r) { d with lostSeen := new.map (·.2) ++ d.lostSeen }
    ((d.inc64 .STR 0 Reg.STR_LOST_SECT new.length).setIrq .STR 0 2).raiseErr .STR 0 0 noDetail

/-- A CLOSED superblock becomes a victim (R167): `kind` 1 refresh, 2 collection. -/
def Dev.toReclaim (d : Dev) (sb kind : Nat) : Dev :=
  let s := d.sb sb
  if s.state = 3 then d.setSb sb { s with state := 4, kind := kind } else d

/-- A patrol finding on a superblock (R180, R245): counted, and the superblock goes to RECLAIM. -/
def Dev.finding (d : Dev) (sb : Nat) : Dev := (d.incWrap .WEAR 0 Reg.WEAR_FINDINGS 1).toReclaim sb 1

/-- Die that holds the codeword of a media key (R146, R267). -/
def Dev.cwDie (d : Dev) (key : Nat) : Option Nat :=
  let sb := keySb key
  match d.group (sbGroup sb) with
  | some g => g.members[memberOf g.members.length (keyPage key) (sb % 8192) (key % 256 / 16)]?
  | none => none

/-- The die of a codeword is FAILED (R280). -/
def Dev.cwGone (d : Dev) (key : Nat) : Bool := match d.cwDie key with
  | some n => d.dieGone n
  | none => false

/-- Codewords that reach step 5 of R244: counted with UNCORR, each a patrol finding (R245, R249, R250). -/
def Dev.reach5 (d : Dev) (keys : List Nat) : Dev :=
  if keys.isEmpty then d
  else keys.foldl (fun d k => d.finding (keySb k)) ((d.inc64 .LDP 0 Reg.LDP_UNCORR keys.length).setIrq .LDP 0 0)

/-- FAILED members of a group, as a mask. -/
def Dev.goneMask (d : Dev) (g : Group) : Nat :=
  (g.members.zipIdx.filter (fun (e : Nat × Nat) => d.dieGone e.1)).foldl (fun m e => m + 2 ^ e.2) 0

/-- Members set in a mask. -/
def maskCount (m w : Nat) : Nat := (bitList m w).length

/-- A codeword on a FAILED die that no parity rebuilds: its row is open or UNPROTECTED, or more members are FAILED than it has
parity (R273, R281, R289). -/
def Dev.doomed (d : Dev) (k : Nat) : Bool :=
  d.cwGone k && (d.rowCause k != 1 || (match d.group (sbGroup (keySb k)) with
    | some g => decide (g.members.length - 16 < maskCount (d.goneMask g) g.members.length)
    | none => true))

/-- Reads of a relocating job of band `b` (R244, R248, R282): `ks` gives sectors with their media keys. Codewords on a FAILED die and
those in `lost` reach step 5; those in `lost` or without parity, in a group with a FAILED member, are lost sectors. -/
def Dev.jobReads (d : Dev) (b : Nat) (lost : List Nat) (ks : List (Nat × Nat)) : Dev :=
  let bad := ks.filter (fun e => lost.contains e.1 || d.doomed e.2)
  let d := d.reach5 ((ks.filter (fun e => lost.contains e.1 || d.cwGone e.2)).map (·.2))
  let d := d.inc64 .LDP 0 Reg.LDP_CW_DECODED (ks.length - bad.length)
  match bad.filter (fun e => d.sbDegraded (keySb e.2)) with
  | [] => d
  | x :: xs => d.lostFound b 1 (match d.group (sbGroup (keySb x.2)) with
      | some g => d.goneMask g
      | none => 0) (x :: xs)

/-- Sectors of a band that a job reads from media, with their keys. -/
def Dev.readKeys (d : Dev) (b : Nat) (secs : List Nat) : List (Nat × Nat) :=
  secs.filterMap (fun s => match d.lookup b s with
    | .zeros => none
    | .at k => some (s, k))

/-- The codeword a relocating job programs for a sector: a copy with the new identity (R292), the poison of R248 or R282
for a sector in `lost` or without parity, or nothing where the sector reads as zeros. -/
def Dev.relocated (d : Dev) (b sec : Nat) (logged : Bool) (lost : List Nat) (k : Nat) (c : Option Cw) : Option Cw :=
  if lost.contains sec || d.doomed k then
    some { band := b, gen := d.nextGen b, sector := sec, pad := false, logged := logged,
           poison := if d.sbDegraded (keySb k) then 3 else 1,
           install := (c.map (·.install)).getD 0, target := (c.map (·.target)).getD 0, ageS := d.bak.pos % 2 ^ 32,
           stored := .zero, guard := 0, app := 0, ref := 0 }
  else c.map (fun c => { c with gen := d.nextGen b, sector := sec, logged := logged, ageS := d.bak.pos % 2 ^ 32 })

/-- The codewords of sectors `secs` of a band for positions equal to the sector index of a slot; a sector that reads as zeros is a PAD
codeword. -/
def Dev.copySectors (d : Dev) (b : Nat) (logged : Bool) (lost secs : List Nat) : List (Nat × Cw) :=
  secs.filterMap (fun sec => match d.lookup b sec with
    | .zeros => some (sec, d.padCw b sec logged 0)
    | .at k => (d.relocated b sec logged lost k (mget d.media k)).map (fun c => (sec, c)))

/-- Program codewords at the positions of a slot. -/
def Dev.programAt (d : Dev) (sb slot : Nat) (cws : List (Nat × Cw)) : Dev :=
  cws.foldl (fun d e => d.putCw (mediaKey sb slot e.1) e.2) d

/-- Journal records of the rows of a slot from `first` on: ROW_OPEN and ROW_CLOSED each (R270, R274). -/
def Dev.fullRows (d : Dev) (sb slot band first : Nat) (log : Bool) : Dev :=
  d.jrec ((List.range (16 - first)).flatMap (fun i =>
    let k := (sb * 64 + slot) * 16 + first + i
    [d.rowRec rowOpen k log band 0, d.rowRec rowClosed k log band 17]))

/-- A member program of a new slot failed (R270): the slot is abandoned and the block handled under R177. -/
def Dev.abandonSlot (d : Dev) (b dst member : Nat) : Dev :=
  let t := d.takeSlot dst
  let s := t.2.sb dst
  let k := (dst * 64 + t.1) * 16
  ((t.2.setSb dst { s with valid := s.valid - 1 }).jrec [d.rowRec rowOpen k false b 0, d.rowRec rowAbandoned k false b 0]).blockFail dst member

/-- Write codewords into a new slot of `dst` and switch the band to it, the log band gone (R155, R159). -/
def Dev.newSlot (d : Dev) (b dst : Nat) (fast : Bool) (cws : List (Nat × Cw)) : Dev :=
  let old := d.band b
  let t := d.takeSlot dst
  let d := (t.2.programAt dst t.1 cws).fullRows dst t.1 b 0 false
  let d := match old with
    | some e => if e.logged then d.freeLogBand e.logIdx false else d
    | none => d
  d.switchBase b fast dst t.1

/-- As `newSlot` for a job that moves a base in place: no delta entry, SNAP kept (R360). A fold is no such job (R359). -/
def Dev.moveBase (d : Dev) (b dst : Nat) (cws : List (Nat × Cw)) : Dev :=
  match d.band b with
  | none => d
  | some e =>
    let t := d.takeSlot dst
    let d := (t.2.programAt dst t.1 cws).fullRows dst t.1 b 0 false
    let d := d.releaseSlot e.sb
    let d := d.setBand b (some { e with fast := false, sb := dst, slot := t.1, gen := (e.gen + 1) % 64 })
    let d := d.mapFtl (fun f => { f with fastOrder := f.fastOrder.filter (· != b) })
    (d.incWrap .MAP 0 Reg.MAP_EPOCH 1).sbCloseIfFull dst

/-! ### Log units -/

/-- The cache lines of sectors `secs` of a band, in order. -/
def Dev.linesOf (d : Dev) (b : Nat) (secs : List Nat) : List (Nat × Line) :=
  secs.filterMap (fun s => (mget d.cache (b * 4096 + s)).map (fun l => (s, l)))

/-- Drop the lines of sectors `secs` of a band. -/
def Dev.dropLines (d : Dev) (b : Nat) (secs : List Nat) : Dev :=
  { d with cache := d.cache.filter (fun e => !(e.1 / 4096 == b && secs.contains (e.1 % 4096))) }

/-- A unit of a log band's row has programmed: ROW_OPEN at the row's first unit, then ROW_PROGRESS (R271, R274). -/
def Dev.rowUnit (d : Dev) (sb slot row : Nat) : Dev :=
  let k := (sb * 64 + slot) * 16 + row
  let r := (mget d.ftl.rows k).getD { firstUs := d.life.usUp, units := 0 }
  let b := d.bandOfSlot sb slot
  (d.mapFtl (fun f => { f with rows := mput f.rows k { r with units := r.units + 1 } })).jrec
    ((if r.units = 0 then [d.rowRec rowOpen k true b 0] else []) ++ [d.rowRec rowProgress k true b (r.units + 1)])

/-- Codewords of the pending unit of a log band by position: the sectors whose newest copy the position is to hold. A sector
written again since it was placed leaves its position dead; a zeroed sector's position is PAD. -/
def Dev.unitCws (d : Dev) (x : LogBand) : List (Nat × Cw) :=
  let first := x.fill - x.unit.length
  (List.range x.unit.length).filterMap (fun i => (x.unit[i]?).bind (fun sec =>
    match mget x.map sec, mget d.cache (x.band * 4096 + sec) with
    | some m, some ln =>
      if m.pos == first + i && ln.placed then
        some (first + i, if ln.zero then d.padCw x.band sec true ln.install else d.cwOf x.band sec true ln)
      else none
    | _, _ => none))

/-- PAD codewords of the positions `lo` to `hi` − 1 of a log band; their sector index is the position (DESIGN CHOICE). -/
def Dev.padCws (d : Dev) (x : LogBand) (lo hi : Nat) : List (Nat × Cw) :=
  (List.range (hi - lo)).map (fun i => (lo + i, d.padCw x.band (lo + i) true 0))

/-- The lines of a log band's pending unit leave the cache, but for those written again since they were placed. -/
def Dev.dropUnit (d : Dev) (x : LogBand) : Dev :=
  { d with cache := d.cache.filter (fun e => !(e.1 / 4096 == x.band && x.unit.contains (e.1 % 4096) && e.2.placed)) }

/-- Program the pending unit of log band `l` with pads to its end (R153): the sectors leave the cache, pad positions
count in FILL, and each pad charges the gate of the unit's first sector without the level test. -/
def Dev.programUnit (d : Dev) (l : Nat) : Dev :=
  match d.logBand l with
  | none => d
  | some x =>
    let first := x.fill - x.unit.length
    let pads := 16 - x.unit.length
    let d := (d.programAt x.sb x.slot (d.unitCws x ++ d.padCws x x.fill (first + 16))).dropUnit x
    let d := (d.inc64 .LOG 0 Reg.LOG_HOST_SECT x.unit.length).inc64 .LOG 0 Reg.LOG_PAD_SECT pads
    let d := if pads = 0 then d else d.charge x.unitGate pads
    let d := d.rowUnit x.sb x.slot (first / 256)
    let fill := first + 16
    d.setLog l { x with
      fill := fill, unit := [], inOrder := x.inOrder && pads == 0, state := if fill = 4096 then 2 else x.state }

/-- Place of the next merge that R271 or R278 queues ahead of all other G12 work (R132). -/
def Dev.nextUrgent (d : Dev) : Nat := d.ftl.logs.foldl (fun m e => max m e.2.urgent) 0 + 1

/-- The data-unit program of a log row failed (R271): its positions are dead, its sectors stay in the cache, the row is
UNPROTECTED, and a full merge is queued ahead. -/
def Dev.unitFail (d : Dev) (l member : Nat) : Dev :=
  match d.logBand l with
  | none => d
  | some x =>
    let k := (x.sb * 64 + x.slot) * 16 + (x.fill - x.unit.length) / 256
    let d := d.blockFail x.sb member
    let units := ((mget d.ftl.rows k).map (·.units)).getD 0
    let d := (d.mapFtl (fun f => { f with unprot := if f.unprot.contains k then f.unprot else k :: f.unprot })).jrec
      [d.rowRec rowUnprot k true x.band units]
    (d.setLog l { x with more := false, urgent := if x.urgent = 0 then d.nextUrgent else x.urgent, inOrder := false }).raiseErr .STR 0 2 noDetail

/-- HOLD_US as it is set (R190); a unit takes it as its hold begins (R194). -/
def Dev.holdUs (d : Dev) : Nat := max 1 (d.regF .LOG 0 Reg.LOG_LOG_TIME 0 16)

/-- Append one placed sector to log band `l` at FILL (R151, R157). -/
def Dev.appendSector (d : Dev) (l sec : Nat) (ln : Line) : Dev :=
  match d.logBand l with
  | none => d
  | some x =>
    let x := { x with
      map := mput x.map sec ⟨x.fill, true, false, ln.install % 65536⟩
      unitUs := if x.unit.isEmpty then d.life.usUp else x.unitUs
      unitGate := if x.unit.isEmpty then ln.gate else x.unitGate
      holdUs := if x.unit.isEmpty then d.holdUs else x.holdUs
      unit := x.unit ++ [sec]
      inOrder := x.inOrder && x.fill == sec
      fill := x.fill + 1
      state := if x.fill + 1 = 4096 then 2 else x.state
      lastWrite := max x.lastWrite ((ln.atUs - d.life.bootUs) / 1000) }
    { (d.setLog l x) with cache := mput d.cache (x.band * 4096 + sec) { ln with placed := true } }

/-- Append the lines of a write to log band `l`, as far as they fit (R158): the rest waits for the next log band. A unit
programs when it holds 16 sectors (R153); `bad` names the member whose program fails. -/
def Dev.appendLines (d : Dev) (l : Nat) (bad : Option Nat) (lines : List (Nat × Line)) : Dev :=
  lines.foldl (fun d e => match d.logBand l with
    | some x =>
      if x.fill < 4096 ∧ x.more then
        let d := d.appendSector l e.1 e.2
        if x.unit.length = 15 then (match bad with
          | none => d.programUnit l
          | some m => d.unitFail l m)
        else d
      else d
    | none => d) d

/-- A WRITE_ZEROES sets ZERO entries of a log band, uses no position and clears IN_ORDER (R157). -/
def Dev.appendZeroes (d : Dev) (l : Nat) (lines : List (Nat × Line)) : Dev :=
  match d.logBand l with
  | none => d
  | some x =>
    let map := lines.foldl (fun m e => mput m e.1 ⟨0, false, true, e.2.install % 65536⟩) x.map
    let last := lines.foldl (fun m e => max m ((e.2.atUs - d.life.bootUs) / 1000)) x.lastWrite
    (d.setLog l { x with map := map, inOrder := false, lastWrite := last }).dropLines x.band (lines.map (·.1))

/-! ### Merges (R159 to R161) -/

/-- Sectors of a log band's pending unit go to their positions as part of a merge. -/
def Dev.settleUnit (d : Dev) (l : Nat) : Dev :=
  match d.logBand l with
  | none => d
  | some x =>
    if x.unit.isEmpty ∨ !x.more then d
    else
      let d := (d.programAt x.sb x.slot (d.unitCws x)).dropUnit x
      (d.inc64 .LOG 0 Reg.LOG_HOST_SECT x.unit.length).setLog l { x with unit := [] }

/-- Rows of the slot of a log band that hold all their data units and wait for their parity (R155, R271). -/
def Dev.parityWaits (d : Dev) (x : LogBand) : Bool :=
  d.ftl.rows.any (fun e => e.1 / 16 == x.sb * 64 + x.slot && decide (e.1 % 16 < x.fill / 256))

/-- End log band `l` by a switch merge: its slot becomes the base (R159). -/
def Dev.switchMerge (d : Dev) (l : Nat) : Dev :=
  match d.logBand l with
  | none => d
  | some x =>
    let d := (d.freeLogBand l true).mapFtl (fun f => { f with
      rows := f.rows.filter (fun e => e.1 / 16 != x.sb * 64 + x.slot) })
    d.switchBase x.band x.fast x.sb x.slot

/-- The band of a log band has no base slot. -/
def Dev.baseless (d : Dev) (x : LogBand) : Bool := match d.band x.band with
  | some e => e.slot == noSlot
  | none => true

/-- Sectors from FILL on of a log band, which its partial merge brings. -/
def LogBand.restSecs (x : LogBand) : List Nat := (List.range (4096 - x.fill)).map (· + x.fill)

/-- End log band `l` by a partial merge (R159): sectors from FILL on are copied from the base, or PAD codewords stand there. -/
def Dev.partialMerge (d : Dev) (l : Nat) (lost : List Nat) : Dev :=
  match d.logBand l with
  | none => d
  | some x =>
    let secs := x.restSecs
    let none_ := d.baseless x
    let cws := if none_ then d.padCws x x.fill 4096 else d.copySectors x.band true lost secs
    let d := if none_ then d else d.jobReads x.band lost (d.readKeys x.band secs)
    let d := d.programAt x.sb x.slot cws
    let d := (d.inc64 .LOG 0 Reg.LOG_MERGE_SECT secs.length).fullRows x.sb x.slot x.band ((x.fill + 255) / 256) true
    let d := if x.fill % 256 = 0 then d else d.jrec [d.rowRec rowClosed ((x.sb * 64 + x.slot) * 16 + x.fill / 256) true x.band 17]
    (d.incWrap .LOG 0 Reg.LOG_PARTIAL_CNT 1).switchMerge l

/-- The newest copy of all sectors of a logged band (R159), the failed unit's sectors from the cache (R271). -/
def Dev.newestAll (d : Dev) (b l : Nat) (lost : List Nat) : List (Nat × Cw) :=
  let dead := match d.logBand l with
    | some x => if x.more then [] else x.unit
    | none => []
  (d.copySectors b false lost ((List.range 4096).filter (fun s => !dead.contains s))) ++
    (d.linesOf b dead).map (fun e => (e.1, if e.2.zero then d.padCw b e.1 false e.2.install else d.cwOf b e.1 false e.2))

/-- End log band `l` by a full merge into a new slot of `dst` (R159), its rows having passed their gate. -/
def Dev.fullMerge (d : Dev) (l dst : Nat) (fast : Bool) (lost : List Nat) : Dev :=
  match d.logBand l with
  | none => d
  | some x =>
    let cws := d.newestAll x.band l lost
    let dead := if x.more then [] else x.unit
    let d := d.jobReads x.band lost (d.readKeys x.band ((List.range 4096).filter (fun s => !dead.contains s)))
    let d := d.dropLines x.band dead
    let d := (d.inc64 .LOG 0 Reg.LOG_MERGE_SECT 4096).incWrap .LOG 0 Reg.LOG_FULL_CNT 1
    d.newSlot x.band dst fast cws

/-- Which merge ends a log band (R159, R271): 0 switch, 1 partial, 2 full. -/
def LogBand.mergeKind (x : LogBand) : Nat :=
  if x.urgent != 0 || !x.inOrder then 2 else if x.fill = 4096 then 0 else 1

/-- Costs of the rows of a merge (R160): none for a switch; two tokens for each sector copied from media, row by row; one for each PAD sector. -/
def Dev.mergeCosts (d : Dev) (x : LogBand) : List Nat := match x.mergeKind with
  | 0 => []
  | 1 => ((List.range 16).filter (fun r => decide (x.fill < (r + 1) * 256))).map (fun r =>
      (if d.baseless x then 1 else 2) * ((r + 1) * 256 - max x.fill (r * 256)))
  | _ => wholeCosts

/-- What a merge does once its rows have passed their gate (R159). -/
def Dev.mergeWork (d : Dev) (l dst : Nat) (fast : Bool) (lost : List Nat) : Dev :=
  match d.logBand l with
  | none => d
  | some x => match x.mergeKind with
    | 0 => (d.switchMerge l).incWrap .LOG 0 Reg.LOG_SWITCH_CNT 1
    | 1 => d.partialMerge l lost
    | _ => if d.destOk dst fast then d.fullMerge l dst fast lost else d

/-- The merge of a log band cannot go on: rows wait for their parity (R155), a full merge has no destination, or another merge queued ahead of
the G12 work comes first (R132). -/
def Dev.mergeWaits (d : Dev) (l dst : Nat) (fast : Bool) : Bool := match d.logBand l with
  | none => true
  | some x => d.parityWaits x || (x.mergeKind == 2 && !d.destOk dst fast) ||
      d.ftl.logs.any (fun e => e.2.urgent != 0 && e.1 != l && (x.urgent == 0 || decide (e.2.urgent < x.urgent)))

/-- End log band `l` by the merge of R159, row by row under gate G12 (R156, R160); `forced` makes no level test (R161, R163). While it runs
the log band is MERGING (R152). -/
def Dev.endLog (d : Dev) (l dst : Nat) (fast forced : Bool) (lost : List Nat) : Dev :=
  if d.mergeWaits l dst fast then d
  else
    let d := d.settleUnit l
    match d.logBand l with
    | none => d
    | some x => (d.setLog l { x with state := 3 }).job 12 x.band forced (d.mergeCosts x) (fun d => d.mergeWork l dst fast lost)

/-- Victim of R160 among OPEN and FULL log bands: lowest cost, then least recently written, then lowest index. -/
def Dev.mergeVictim (d : Dev) : Option Nat :=
  let cost (x : LogBand) : Nat := if x.inOrder then 4096 - x.fill else 4096
  (d.ftl.logs.filter (fun e => e.2.state == 1 || e.2.state == 2)).foldl (fun best e => match best with
    | none => some e
    | some y => if cost e.2 < cost y.2 ∨ (cost e.2 = cost y.2 ∧ d.lastWrite e.2 < d.lastWrite y.2) then some e else best)
    (none : Option (Nat × LogBand)) |>.map (·.1)

/-- A forced merge runs (R161, R190 FORCED). -/
def Dev.forced (d : Dev) : Bool := d.ftl.logs.any (fun e => e.2.forced)

/-- Log band `l` is the victim of a forced merge. -/
def Dev.forcedLog (d : Dev) (l : Nat) : Bool := match d.logBand l with
  | some x => x.forced
  | none => false

/-- A log band is due for a merge (R160, R161, R165, R271): full, queued ahead, forced, under way, or the victim while free log bands are
few. -/
def Dev.mergeDue (d : Dev) (l : Nat) : Bool := match d.logBand l with
  | none => false
  | some x => x.state == 2 || x.state == 3 || x.urgent != 0 || x.forced || x.fill == 4096 || d.mergeNow x.band ||
      (d.mergeVictim == some l && decide (d.logLimit - d.logInUse < d.freeLow))

/-! ### Relocating jobs (R156) -/

/-- A job at gate `g` on the band stands in progress. -/
def Dev.jobHere (d : Dev) (g what : Nat) : Bool := mhas d.jobRows (g * 2 ^ 32 + what)

/-- The log band of a band takes no sectors while a job moves the band (R158). -/
def Dev.holdLog (d : Dev) (e : BandEnt) : Dev :=
  if e.logged then match (d.settleUnit e.logIdx).logBand e.logIdx with
    | some x => (d.settleUnit e.logIdx).setLog e.logIdx { x with state := 3 }
    | none => d
  else d

/-- What the move of a band does once its rows have passed their gate (R156, R359, R360): a logged band moves by a full merge, a fold
switches the base, any other job moves it in place. The move of a fast band counts as its fold. -/
def Dev.relocateWork (d : Dev) (b dst gate : Nat) (lost : List Nat) : Dev :=
  match d.band b with
  | none => d
  | some e =>
    let d := if e.fast ∧ e.slot ≠ noSlot then d.inc64 .PSL 0 Reg.PSL_FOLDED 1 else d
    if e.logged then d.fullMerge e.logIdx dst false lost
    else
      let cws := d.copySectors b false lost (List.range 4096)
      let d := d.jobReads b lost (d.readKeys b (List.range 4096))
      if gate = 11 then d.newSlot b dst false cws else d.moveBase b dst cws

/-- Relocate a band out of its base into a QLC slot of `dst` at `gate` (R156), row by row; `after` follows its last row. -/
def Dev.relocateBand (d : Dev) (b dst gate : Nat) (forced : Bool) (lost : List Nat) (after : Dev → Dev) : Dev :=
  match d.band b with
  | none => d
  | some e =>
    if !d.destOk dst false || d.jobElse gate b then d
    else (d.holdLog e).job gate b forced wholeCosts (fun d => after (d.relocateWork b dst gate lost))

/-- What the move of a held slot does once its rows have passed their gate (R360). -/
def Dev.heldWork (d : Dev) (h : SnapEnt) (dst : Nat) (lost : List Nat) : Dev :=
  let d := d.jobReads h.band lost ((List.range 4096).map (fun sec => (sec, mediaKey h.sb h.slot sec)))
  let t := d.takeSlot dst
  let cws := (List.range 4096).filterMap (fun sec =>
    let k := mediaKey h.sb h.slot sec
    (t.2.relocated h.band sec false lost k (mget t.2.media k)).map (fun c => (sec, { c with gen := h.gen })))
  let d := (t.2.programAt dst t.1 cws).fullRows dst t.1 h.band 0 false
  let d := d.mapFtl (fun f => { f with held := f.held.map (fun x =>
    if x = h then { x with sb := dst, slot := t.1, fast := false } else x) })
  (d.releaseSlot h.sb).sbCloseIfFull dst

/-- Move a slot held only by a snapshot into a QLC slot of `dst` (R360): its delta entry follows. -/
def Dev.relocateHeld (d : Dev) (h : SnapEnt) (dst gate : Nat) (forced : Bool) (lost : List Nat) : Dev :=
  if h.none ∨ !d.destOk dst false then d
  else d.job gate (heldKey h.sb h.slot) forced wholeCosts (fun d => d.heldWork h dst lost)

/-- Bands with their base slot or log band in a superblock, ascending by slot of the base. -/
def Dev.bandsIn (d : Dev) (sb : Nat) : List Nat :=
  (d.ftl.bands.filter (fun e => (e.2.sb == sb && e.2.slot != noSlot) || (e.2.logged && (match d.logBand e.2.logIdx with
    | some x => x.sb == sb
    | none => false)))).map (·.1)

/-- Delta entries that hold a slot of a superblock. -/
def Dev.heldIn (d : Dev) (sb : Nat) : List SnapEnt := d.ftl.held.filter (fun h => !h.none && h.sb == sb)

/-- First destination of a list with a free QLC slot outside superblock `src`. -/
def Dev.pickDst (d : Dev) (src : Nat) (dsts : List Nat) : Option Nat := dsts.find? (fun n => n != src && d.destOk n false)

/-- Relocate the bands and held slots of a superblock as far as the destinations and the gate reach; `after` follows each band moved. -/
def Dev.emptySb (d : Dev) (sb gate : Nat) (dsts lost : List Nat) (after : Dev → Dev) : Dev :=
  let d := (d.bandsIn sb).foldl (fun d b => match d.pickDst sb dsts with
    | some dst => d.relocateBand b dst gate false lost after
    | none => d) d
  (d.heldIn sb).foldl (fun d h => match d.pickDst sb dsts with
    | some dst => d.relocateHeld h dst gate false lost
    | none => d) d

end Sys2Proof.Machine
end

