-- ==== Sys2Proof/Machine/Onfi.lean ====
section
/-! DEFINITION. Parameter pages, the Puevo record, list entries as bytes, and what a sequencer writes to its dies by SET FEATURES
(spec/06_flash_channels.md R198 to R212, spec/07_media_codes.md R241, R242). PRESUMED: the places of the fields that the ONFI standard defines and
the polynomial and seed of its integrity CRC, which the spec names and does not write out (log entry). -/
namespace Sys2Proof.Machine
open Sys2Proof

/-! ### The parameter page (R198, R201, R203) -/

/-- One byte of the ONFI integrity CRC: polynomial 0x8005, most significant bit first. -/
def onfiByte (c : BitVec 16) (b : Byte) : BitVec 16 :=
  (List.range 8).foldl (fun (c : BitVec 16) _ => if c.getLsbD 15 then (c <<< 1) ^^^ 0x8005#16 else c <<< 1) (c ^^^ (b.setWidth 16 <<< 8))

/-- The ONFI integrity CRC over bytes, seed 0x4F4E. -/
def onfiCrc (bs : List Byte) : Nat := (bs.foldl onfiByte 0x4f4e#16).toNat

/-- Little-endian field of `n` bytes at `o`. -/
def fieldAt (bs : List Byte) (o n : Nat) : Nat := leNat ((bs.drop o).take n)

/-- The CRC at bytes 254 and 255 of a copy is right. -/
def pageGood (pg : List Byte) : Bool := pg.length == 256 && onfiCrc (pg.take 254) == fieldAt pg 254 2

/-- ONFI's READ ID signature. -/
def onfiSig : List Byte := [0x4f#8, 0x4e#8, 0x46#8, 0x49#8]

/-- LUNs behind a chip enable, at most 4 (R196). -/
def pageLuns (pg : List Byte) : Nat := min 4 (fieldAt pg 100 1)

/-- Planes: a power of two of the plane address bits. -/
def pagePlanes (pg : List Byte) : Nat := 2 ^ (fieldAt pg 113 1 % 16)

/-- Blocks per plane. -/
def pageBlocks (pg : List Byte) : Nat := fieldAt pg 96 4 / pagePlanes pg

/-- Declared block endurance: a value times a power of ten. DESIGN CHOICE: one above 32 bits reads as 32 ones. -/
def pageRated (pg : List Byte) : Nat := min (2 ^ 32 - 1) (fieldAt pg 105 1 * 10 ^ fieldAt pg 106 1)

/-- The Puevo record at byte 166 (R202). -/
def puevoOf (pg : List Byte) : Puevo :=
  let r := (pg.drop 166).take 26
  { valid := fieldAt r 0 4 == 0x31585650 && onfiCrc (r.take 24) == fieldAt r 24 2
    ver := fieldAt r 4 1, maxRate := fieldAt r 5 1, flags := fieldAt r 6 1, suspMax := fieldAt r 7 1, trainRd := fieldAt r 8 1
    trainWr := fieldAt r 9 1, trainRb := fieldAt r 10 1, extFeature := fieldAt r 11 1, pslcFeature := fieldAt r 12 1, tSus := fieldAt r 13 1
    tR := fieldAt r 14 2, tProgSlc := fieldAt r 16 2, tProgQlc := fieldAt r 18 2, tBers := fieldAt r 20 4 }

end Sys2Proof.Machine
namespace Sys2Proof
open Sys2Proof.Machine

/-- A record is valid, with INDEP_PSLC and PSLC_192 set (R203). -/
def Puevo.dataOk (x : Puevo) : Bool := x.valid && nbit x.flags 2 && nbit x.flags 5

end Sys2Proof
namespace Sys2Proof.Machine

/-- Geometry of a page. -/
def geoOf (pg : List Byte) : Geo :=
  { data := fieldAt pg 80 4, spare := fieldAt pg 84 2, planes := pagePlanes pg, pages := fieldAt pg 92 4, bits := fieldAt pg 102 1
    record := (puevoOf pg).dataOk }

/-- The geometry that data service asks for (R203). -/
def Geo.fits (g : Geo) : Bool :=
  g.record && g.data == 16384 && decide (2048 ≤ g.spare) && g.planes == 4 && g.pages == 768 && g.bits == 4

end Sys2Proof.Machine
namespace Sys2Proof
open Sys2Proof.Machine

/-- The first good copy of a chip enable's page (R201). -/
def CeFound.page (c : CeFound) : Option (List Byte) := c.copies.find? pageGood

/-- A chip enable is present: it returns the ONFI signature (R201). -/
def CeFound.present (c : CeFound) : Bool := decide (c.ce < 4) && c.sig == onfiSig

end Sys2Proof
namespace Sys2Proof.Machine

/-! ### NV-DDR3 timing modes (R200) -/

/-- Transfer rate of a rate code in MT/s (R199). -/
def rateOf (code : Nat) : Nat := [10, 100, 200, 400, 800, 1600, 3200, 6400].getD code 6400

/-- The fastest NV-DDR3 rate code not above the fastest declared mode; SDR0 where none is. -/
def ChSt.nvRate (c : ChSt) : Nat :=
  let top := c.modes.foldl (fun m e => max m e.2) 0
  ([5, 4, 3, 2, 1].find? (fun r => decide (rateOf r ≤ top))).getD 0

/-- The slowest declared mode whose rate is at least that of a rate code. -/
def ChSt.modeFor (c : ChSt) (rate : Nat) : Option Nat :=
  ((c.modes.filter (fun e => decide (rateOf rate ≤ e.2))).foldl (fun (m : Option (Nat × Nat)) e => match m with
    | none => some e
    | some y => if e.2 < y.2 then some e else m) none).map (·.1)

/-- P1 to P4 of a SET FEATURES with one parameter. -/
def feat1 (v : Nat) : List Byte := [BitVec.ofNat 8 v, 0#8, 0#8, 0#8]

/-- Switch a die to a rate (R207): EXT_FEATURE with the rate code, or the NV-DDR3 timing mode; SDR0 needs none. PRESUMED: ONFI's timing mode
feature is at address 0x01, with the mode in P1[3:0] and NV-DDR3 as P1[5:4] = 2. -/
def Dev.rateFeature (d : Dev) (c : ChSt) (n rate : Nat) : Dev :=
  if 6 ≤ rate then d.emit (.feature n c.puevo.extFeature (feat1 rate))
  else match c.modeFor rate with
    | some m => if rate = 0 then d else d.emit (.feature n 0x01 (feat1 (0x20 + m % 16)))
    | none => d

/-! ### List entries (R211, R212) -/

end Sys2Proof.Machine
namespace Sys2Proof
open Sys2Proof.Machine

/-- The 16 bytes of an entry. -/
def Entry.bytes (e : Entry) : List Byte :=
  leBytes 1 e.op ++ leBytes 1 e.flags ++ leBytes 1 e.diePl ++ leBytes 1 e.retry ++ leBytes 4 e.row ++ leBytes 2 e.cwMask ++ leBytes 2 e.buf ++
    leBytes 4 e.arg

/-- The entry that 16 bytes hold. -/
def entryOf (bs : List Byte) : Entry :=
  { op := fieldAt bs 0 1, flags := fieldAt bs 1 1, diePl := fieldAt bs 2 1, retry := fieldAt bs 3 1, row := fieldAt bs 4 4
    cwMask := fieldAt bs 8 2, buf := fieldAt bs 10 2, arg := fieldAt bs 12 4 }

/-- Fields within bytes: die and plane mask, RETRY index, page and block. -/
def Entry.die (e : Entry) : Nat := e.diePl % 16
def Entry.planes (e : Entry) : Nat := e.diePl / 16 % 16
def Entry.idx (e : Entry) : Nat := e.retry % 32
def Entry.page (e : Entry) : Nat := e.row % 1024
def Entry.block (e : Entry) : Nat := e.row / 1024 % 8192

/-- P1 to P4 of a SET_FEATURE: bytes 0x08 to 0x0B. -/
def Entry.params (e : Entry) : List Byte := leBytes 2 e.cwMask ++ leBytes 2 e.buf

/-- A reserved bit is not zero. -/
def Entry.rsv (e : Entry) : Bool := nbit e.flags 6 || nbit e.flags 7 || decide (32 ≤ e.retry) || decide (2 ^ 23 ≤ e.row)

/-- What an entry puts on the bus beside its opcode (R212): row and planes of a READ, PROGRAM or ERASE, an address, LONG of ZQ_CAL, the step
of TRAIN, the time of WAIT. -/
def Entry.busArg (e : Entry) : Nat :=
  if e.op ≤ 3 then e.row % 2 ^ 23 + e.planes * 2 ^ 23
  else if e.op = 4 then e.row % 2 ^ 23
  else if e.op = 0x0a then e.arg % 2
  else if e.op = 0x0b then e.arg % 16
  else if e.op = 0x0c then e.arg
  else e.arg % 256

end Sys2Proof
namespace Sys2Proof.Machine

/-! ### What a die is set to before a READ (R212, R241, R242) -/

/-- OFFSET of threshold T`k` in retry entry `i`, signed DAC steps; index 0 means all zero (R242, R249). -/
def Dev.retryOffset (d : Dev) (i k : Nat) : Int :=
  if i = 0 then 0 else signed 8 ((d.regN .LDP 0 (Reg.LDP_RETRY_0 + 16 * i + (k - 1) / 4 * 4) / 256 ^ ((k - 1) % 4)) % 256)

/-- The 15 offsets of an index shifted by `s` on every threshold, as bytes. DESIGN CHOICE: a sum beyond a byte wraps. -/
def Dev.offsets (d : Dev) (i : Nat) (s : Int) : List Byte := ((List.range 15).map (· + 1)).map (fun k => BitVec.ofInt 8 (d.retryOffset i k + s))

/-- SET FEATURES of the offsets: four for a QLC read, one with T8 for a pSLC read (R242). -/
def Dev.sendOffsets (d : Dev) (n i : Nat) (s : Int) (pslc : Bool) : Dev :=
  let a := d.regF .LDP 0 Reg.LDP_RETRY_CFG 8 8
  let bs := d.offsets i s
  if pslc then d.emit (.feature n a [bs.getD 7 0#8, 0#8, 0#8, 0#8])
  else (List.range 4).foldl (fun d k => d.emit (.feature n (a + k) ((bs.drop (4 * k)).take 4 ++ (if k = 3 then [0#8] else [])))) d

/-- The retry index a READ is issued at: one whose table entry lacks VALID acts as 0 and sets RETRY_TABLE (R242). -/
def Dev.retryIndex (d : Dev) (i : Nat) : Nat × Dev :=
  if i = 0 then (0, d)
  else if d.regB .LDP 0 (Reg.LDP_RETRY_0 + 16 * i + 12) 24 then (i, d)
  else (0, d.raiseErr .LDP 0 1 noDetail)

/-- Bring die `n` to index `i` shifted by `s`, unless it holds exactly that (R242). -/
def Dev.dieOffsets (d : Dev) (n i : Nat) (s : Int) (pslc : Bool) : Dev := match d.die n with
  | some x =>
    if x.retry = i ∧ x.shift = s then d
    else (d.sendOffsets n i s pslc).mapDie n (fun x => { x with retry := i, shift := s })
  | none => d

/-- Select pSLC or native mode on die `n` where it holds the other (R212); `feature` is PSLC_FEATURE. -/
def Dev.dieMode (d : Dev) (n feature : Nat) (pslc : Bool) : Dev := match d.die n with
  | some x => if x.pslc = pslc then d else (d.emit (.feature n feature (feat1 (b2n pslc)))).mapDie n (fun x => { x with pslc := pslc })
  | none => d

end Sys2Proof.Machine
end

