-- ==== Sys2Proof/Machine/GroupOps.lean ====
section
/-! DEFINITION. Stripe groups, die failure and flush dies (spec/08_stripes_rebuild.md R265 to R298, spec/06_flash_channels.md
R224, R225, spec/09_power_loss.md R306 to R311). -/
namespace Sys2Proof.Machine
open Sys2Proof

/-! ### Forming groups (R173, R265, R287) -/

/-- Put `x` before the first element of a list whose key is not smaller. -/
def insertBy (f : Nat → Nat) (x : Nat) : List Nat → List Nat
  | [] => [x]
  | y :: ys => if f x ≤ f y then x :: y :: ys else y :: insertBy f x ys

/-- Sort by a key, equal keys in their order. -/
def sortBy (f : Nat → Nat) (l : List Nat) : List Nat := l.foldr (insertBy f) []

/-- Key of R265: die number within the channel × 128 + channel. -/
def dieKey (n : Nat) : Nat := n % 16 * 128 + n / 16

/-- The walk of R265 over dies in key order: the groups formed, and the dies passed over or left. -/
def walk (w : Nat) : List Nat → List Nat → List (List Nat) × List Nat
  | [], cur => ([], cur)
  | n :: ns, cur =>
    if cur.any (fun m => m / 16 == n / 16) then
      let r := walk w ns cur
      (r.1, n :: r.2)
    else if cur.length + 1 = w then
      let r := walk w ns []
      ((cur ++ [n]) :: r.1, r.2)
    else walk w ns (cur ++ [n])

/-- Block `b` of a die is bad: marked by the factory or failed under R177 (R173). -/
def DieSt.bad (x : DieSt) (b : Nat) : Bool := x.factoryBad.contains b || x.grownBad.contains b

/-- Good blocks of a die (R173). -/
def DieSt.good (x : DieSt) : Nat := ((List.range x.blocks).filter (fun b => !x.bad b)).length

/-- Superblock count of a group: m − m / 64 for the least number m of good blocks (R173). -/
def Dev.sbCountOf (d : Dev) (members : List Nat) : Nat :=
  let gs := members.filterMap (fun n => (d.die n).map DieSt.good)
  match gs with
  | [] => 0
  | g :: rest => let m := rest.foldl min g
    m - m / 64

/-- Spares and substitutions of a die in a group of `c` superblocks: good blocks above the count replace bad ones below it,
lowest first, and the rest are spares (R145, R173). -/
def DieSt.assign (x : DieSt) (c : Nat) : DieSt :=
  let low := (List.range c).filter x.bad
  let high := ((List.range (x.blocks - c)).map (c + ·)).filter (fun b => !x.bad b)
  { x with subst := low.zip high, spares := high.drop low.length, resv := [] }

/-- Protection width W of PROT, or of the reshape target while a reshape runs (R266, R287). -/
def Dev.formWidth (d : Dev) : Nat :=
  17 + (if d.regB .REB 0 Reg.REB_REB_CTL 0 then d.regF .REB 0 Reg.REB_REB_CTL 1 1 else d.regF .STR 0 Reg.STR_STR_STS 0 1)

/-- Highest erase count of block index `b` over dies. -/
def Dev.eraseOf (d : Dev) (members : List Nat) (b : Nat) : Nat :=
  members.foldl (fun m n => match d.die n with
    | some x => max m ((mget x.erases (x.blockOf b)).getD 0)
    | none => m) 0

/-- Fresh superblocks of a new group in its release queue, ascending by erase count (R186, R287). -/
def Dev.queueGroup (d : Dev) (g count : Nat) (members : List Nat) : Dev :=
  let order := sortBy (d.eraseOf members) (List.range count)
  let d := d.mapFtl (fun f => { f with sbs := f.sbs.filter (fun e => e.1 / 8192 != g) })
  (List.range count).foldl (fun d r =>
    let n := g * 8192 + order.getD r r
    d.setSb n { sbFresh n with relSeq := r }) d

/-- Form a group from `members` with the lowest UNUSED number (R265, R287): GROUP_STATE and three GROUP_MEMBERS records. -/
def Dev.formGroup (d : Dev) (members : List Nat) : Dev :=
  match (List.range 128).find? (fun g => (d.group g).isNone) with
  | none => d
  | some g =>
    let c := d.sbCountOf members
    let d := members.foldl (fun d n => d.mapDie n (fun x => x.assign c)) d
    let d := d.mapFtl (fun f => { f with
      groups := mput f.groups g ⟨1, 0, members.length, c, members⟩
      pool := f.pool.filter (fun n => !members.contains n) })
    let d := d.queueGroup g c members
    d.jrec (d.groupRecs g)

/-- Form every group that the pool allows (R287). -/
def Dev.formFromPool (d : Dev) : Dev :=
  let pool := sortBy dieKey (d.ftl.pool.filter (fun n => !d.dieGone n))
  (walk d.formWidth pool []).1.foldl (fun d ms => (d.formGroup ms).setIrq .STR 0 1) d

/-! ### Retirement (R283, R286) -/

/-- Begin the retirement of group `g` with a cause (R283, R295, R297): its superblocks retire, but for reserved ones. -/
def Dev.retireGroup (d : Dev) (g cause : Nat) : Dev :=
  match d.group g with
  | none => d
  | some x =>
    if x.state = 2 then
      if x.cause = 2 ∧ cause = 1 then
        (d.mapFtl (fun f => { f with groups := mput f.groups g { x with cause := 1 } })).jrec [.groupState g x.width 2 1 x.sbCount]
      else d
    else
      (d.mapFtl (fun f => { f with
        groups := mput f.groups g { x with state := 2, cause := cause }
        sbs := mfilterMap (fun n s => some (if n / 8192 = g ∧ s.purpose ≠ 6 then { s with state := 6, kind := 0 } else s)) f.sbs })).jrec
        [.groupState g x.width 2 cause x.sbCount]

/-- Bands with a base slot, log band or direct fill in group `g` (R298), ascending. -/
def Dev.bandsOfGroup (d : Dev) (g : Nat) : List Nat :=
  (d.ftl.bands.filter (fun e => (e.2.slot != noSlot && sbGroup e.2.sb == g) ||
    (e.2.logged && (match d.logBand e.2.logIdx with
      | some x => sbGroup x.sb == g
      | none => false)))).map (·.1)

/-- Snapshot-held slots of group `g`. -/
def Dev.heldOfGroup (d : Dev) (g : Nat) : List SnapEnt := d.ftl.held.filter (fun h => !h.none && sbGroup h.sb == g)

/-- STR.GROUP_VALID: distinct bands of a group (R298). -/
def Dev.groupValid (d : Dev) (g : Nat) : Nat :=
  let bs := d.bandsOfGroup g
  bs.length + ((d.heldOfGroup g).map (·.band)).eraseDups.countP (fun b => !bs.contains b)

/-- A RETIRING group that holds no band becomes UNUSED (R286): its dies that are not FAILED join the pool. -/
def Dev.groupDone (d : Dev) (g : Nat) : Dev :=
  match d.group g with
  | none => d
  | some x =>
    if x.state ≠ 2 ∨ d.groupValid g ≠ 0 then d
    else
      let d := d.mapFtl (fun f => { f with
        groups := mdel f.groups g
        sbs := f.sbs.filter (fun e => e.1 / 8192 != g)
        pool := f.pool ++ x.members.filter (fun n => !d.dieGone n) })
      let d := ((d.jrec [d.groupRec g]).setIrq .STR 0 0).note 1 .STR none none
      if x.cause = 1 ∧ !d.ftl.groups.any (fun e => e.2.state == 2 && e.2.cause == 1) then d.setIrq .REB 0 0 else d

/-! ### Die failure (R224, R225) -/

/-- The group and member index of a die. -/
def Dev.dieGroup (d : Dev) (n : Nat) : Option (Nat × Nat) :=
  (d.ftl.groups.find? (fun e => e.2.members.contains n)).map (fun e => (e.1, e.2.members.idxOf n))

/-- The superblock that uses block `b` of die `n`, with the die's member index (R145). -/
def Dev.sbOfBlock (d : Dev) (n b : Nat) : Option (Nat × Nat) :=
  match d.dieGroup n, d.die n with
  | some (g, m), some x => match d.group g with
    | some y => ((List.range y.sbCount).find? (fun i => x.blockOf i == b)).map (fun i => (g * 8192 + i, m))
    | none => none
  | _, _ => none

/-- Channel `ch`, if its package has been discovered. -/
def Dev.chan (d : Dev) (ch : Nat) : Option ChSt := mget d.chans ch

/-- Change a channel that is known. -/
def Dev.mapChan (d : Dev) (ch : Nat) (f : ChSt → ChSt) : Dev :=
  match d.chan ch with
  | some c => { d with chans := mput d.chans ch (f c) }
  | none => d

/-- The dies of a channel, by number. -/
def Dev.diesOf (d : Dev) (ch : Nat) : List (Nat × DieSt) := d.dies.filter (fun e => e.1 / 16 == ch)

/-- The dies of a channel that are present: found at discovery (R224). -/
def Dev.presentOf (d : Dev) (ch : Nat) : List (Nat × DieSt) := (d.diesOf ch).filter (fun e => e.2.state != 0)

/-- DATA_SERVICE and RAW_ONLY of a channel as they stand (R229). -/
def Dev.chService (d : Dev) (ch : Nat) : Nat :=
  let xs := d.presentOf ch
  b2n (xs.any (fun e => e.2.data)) + 2 * b2n (!xs.isEmpty && xs.all (fun e => !e.2.data))

/-- WEAR.RATED: the lowest endurance of any die in data service (R204); 0 while there is none. -/
def Dev.wearRated (d : Dev) : Nat := match (d.dies.filter (fun e => e.2.data && e.2.state != 0)).map (fun e => e.2.rated) with
  | [] => 0
  | r :: rs => rs.foldl min r

/-- Status of a list: the first entry that is not OK (R214). -/
def CmdList.firstBad (l : CmdList) : Nat × Nat :=
  match (List.range l.entries.length).find? (fun i => match l.entries[i]? with
    | some (_, EntryRun.ended s) => s != 0
    | _ => false) with
  | some i => match l.entries[i]? with
    | some (_, EntryRun.ended s) => (i, s)
    | _ => (i, 0)
  | none => (0xff, 0)

/-- Every entry has ended. -/
def CmdList.done (l : CmdList) : Bool := l.entries.all (fun e => match e.2 with
  | .ended _ => true
  | _ => false)

/-- Write completion records for the lists of a channel that have ended (R214). -/
def Dev.reapLists (d : Dev) (ch : Nat) : Dev :=
  match d.chan ch with
  | none => d
  | some c =>
    let ended := c.lists.filter CmdList.done
    let d := d.mapChan ch (fun c => { c with lists := c.lists.filter (fun l => !l.done) })
    ended.foldl (fun d l =>
      let fb := l.firstBad
      let d := { d with listsDone :=
        ⟨ch, l.id, l.lid, l.lane, l.entries.length, fb.1, fb.2, l.suspends, d.life.usUp - l.firstUs.getD d.life.usUp, l.value⟩ :: d.listsDone }
      if l.entries.any (fun e => nbit e.1.flags 2) then d.setIrq .CH ch 3 else d) d

/-- End entry `i` of list `id` with a status; a failure skips the later entries of the list for the same die (R214). -/
def CmdList.endEntry (l : CmdList) (i status : Nat) : CmdList :=
  let die := (l.entries[i]?.map (·.1.die)).getD 16
  { l with entries := (List.range l.entries.length).filterMap (fun j => (l.entries[j]?).map (fun e =>
      if j = i then (e.1, .ended status)
      else if status ≠ 0 ∧ i < j ∧ e.1.die = die ∧ e.2 = .queued then (e.1, .ended 7)
      else e)) }

/-- End entry `i` of list `id` on channel `ch`. -/
def Dev.endEntry (d : Dev) (ch id i status : Nat) : Dev :=
  (d.mapChan ch (fun c => { c with lists := updFirst (fun l => l.id == id) (fun l => l.endEntry i status) c.lists })).reapLists ch

/-- Every entry for a die ends with a status, issued or not (R225). -/
def Dev.endDieEntries (d : Dev) (ch die status : Nat) : Dev :=
  (d.mapChan ch (fun c => { c with lists := c.lists.map (fun l => { l with entries := l.entries.map (fun e =>
    if e.1.die = die then match e.2 with
      | .ended s => (e.1, EntryRun.ended s)
      | _ => (e.1, .ended status)
    else e) }) })).reapLists ch

/-- Die `n` enters FAILED (R225) with a CAUSE of DIE_n: its entries end, the group begins its retirement. -/
def Dev.dieFail (d : Dev) (n cause : Nat) : Dev :=
  match d.die n with
  | none => d
  | some x =>
    if x.state = 8 then d
    else
      let ch := n / 16
      let d := d.mapDie n (fun x => { x with state := 8, cause := cause, data := false, cur := none, held := none, susp := 0 })
      let d := ((d.endDieEntries ch (n % 16) 4).setIrq .CH ch 2).raiseErr .CH ch 3 noDetail
      match d.dieGroup n with
      | some (g, _) => d.retireGroup g 1
      | none => d

/-- A C2 containment of a channel: every present die FAILED with CAUSE CHANNEL (R231). -/
def Dev.containChannel (d : Dev) (ch : Nat) : Dev :=
  ((d.dies.filter (fun e => e.1 / 16 == ch))).foldl (fun d e => d.dieFail e.1 4) d

/-! ### Pages of the journal stream (R276, R319) -/

/-- Two dies that may take the copies of a page of the journal stream: known, not FAILED, on different channels. -/
def Dev.copyOk (d : Dev) (a b : Nat) : Bool := !d.dieGone a && !d.dieGone b && a / 16 != b / 16

/-- The two copies of a page whose codewords are of a KIND. -/
def Dev.copyPage (d : Dev) (a b kind : Nat) (bytes : List Byte) : Dev := (d.emit (.page kind a bytes)).emit (.page kind b bytes)

/-- The header record of a superblock that has just been erased (R319). -/
def Dev.headerRec (d : Dev) (n : Nat) : List Byte :=
  let s := d.sb n
  let blocks := ((d.group (sbGroup n)).map (·.members)).getD [] |>.map (fun m => ((d.die m).map (fun x => x.blockOf (n % 8192))).getD 0xffff)
  headerBytes (sbGroup n) (d.sbWidth n) n s.purpose (d.sbErases n) s.intent s.relSeq blocks

/-! ### Flush dies and the flush budget (R306 to R311) -/

/-- CACHE_MIB as it acts (R327). -/
def Dev.cacheMib (d : Dev) : Nat := max 16 (min 128 (d.regF .PLP 0 Reg.PLP_PLP_CFG 0 8 / 16 * 16))

/-- Cache size in force (R311). -/
def Dev.effMib (d : Dev) : Nat := d.regF .PLP 0 Reg.PLP_PLP_STS 16 8

/-- Cache size that the flush budget and the choice of flush dies count with: the one in force, which a smaller CACHE_MIB changes only once
destage has reached it (R70, R311); the configured one while none is in force yet. -/
def Dev.budgetMib (d : Dev) : Nat := if d.effMib = 0 then d.cacheMib else d.effMib

/-- Lines of a cache of a given size in MiB. -/
def linesOfMib (m : Nat) : Nat := max (m * 254) 4096

/-- Lines the write cache holds (R311). -/
def Dev.cacheLines (d : Dev) : Nat := linesOfMib d.effMib

/-- The size in force becomes that of PLP_CFG, and the HOLDUP entry follows. -/
def Dev.applyCache (d : Dev) : Dev := d.setRegF .PLP 0 Reg.PLP_PLP_STS 16 8 d.cacheMib

/-- A larger CACHE_MIB takes effect at once, a smaller one once the content fits (R311). -/
def Dev.cacheFollow (d : Dev) : Dev :=
  if !d.life.booted then d
  else if d.effMib ≤ d.cacheMib ∨ d.cache.length ≤ linesOfMib d.cacheMib then d.applyCache else d

/-- q of R306. -/
def Dev.flushQ (d : Dev) : Nat := if 64 < d.budgetMib then 2 else 1

/-- A die may be a flush die (R306). -/
def DieSt.flushable (x : DieSt) : Bool := x.data && x.state != 8 && !x.bad 0 && !x.bad 1

/-- The flush dies that R306 chooses, by rank. -/
def Dev.flushChoice (d : Dev) : List Nat :=
  (List.range 128).flatMap (fun ch =>
    (((List.range 16).map (fun k => ch * 16 + k)).filter (fun n => match d.die n with
      | some x => x.flushable
      | none => false)).take d.flushQ)

/-- Reserve superblock indexes 0 and 1 of every group that holds a flush die (R307): the one in service is OPEN in pSLC mode, and the targets
are recomputed (R164). -/
def Dev.reserveSbs (d : Dev) : Dev :=
  ((d.ftl.groups.filter (fun e => e.2.members.any d.plp.dies.contains)).foldl (fun d e =>
    [0, 1].foldl (fun d i =>
      let n := e.1 * 8192 + i
      if (d.sb n).purpose = 6 then d
      else d.setSb n { sbFresh n with
        purpose := 6, pslc := true, state := if i = d.plp.index then 2 else 0, progS := d.nowS }) d) d).pslRecompute

/-- Take the choice of R306, on formatted media or while a format lays it out (R186, R188). -/
def Dev.chooseFlushDies (d : Dev) : Dev :=
  if !d.formatted && d.formatting.isNone then { d with plp := { d.plp with dies := [] } }
  else ({ d with plp := { d.plp with dies := d.flushChoice } }).reserveSbs

/-- Rate of the slowest channel with a die in data service (R310). -/
def Dev.slowRate (d : Dev) : Nat :=
  (d.chans.filter (fun e => d.dies.any (fun x => x.1 / 16 == e.1 && x.2.data))).foldl
    (fun m e => min m (rateOf (d.regF .CH e.1 Reg.CH_CH_STS 0 4))) 6400

/-- P of R310. -/
def Dev.flushPages (d : Dev) : Nat :=
  let n := d.plp.dies.length
  if n = 0 then 0 else 1 + (2 * (d.bufPages + 1) + n - 1) / n + (16 * d.budgetMib + n - 1) / n

/-- Longest declared time of the flush dies by a field of their Puevo records. -/
def Dev.flushTime (d : Dev) (f : Puevo → Nat) : Nat :=
  d.plp.dies.foldl (fun m n => match d.chan (n / 16) with
    | some c => max m (f c.puevo)
    | none => m) 0

/-- FLUSH_US of R310, zero while there is no flush die. -/
def Dev.flushUs (d : Dev) : Nat :=
  let p := d.flushPages
  if p = 0 then 0
  else
    let rate := d.slowRate
    let quiesce := max (d.flushTime (·.tProgQlc)) 1000
    let raw := (100 + quiesce + p * d.flushTime (·.tProgSlc)) * rate + p * d.flushQ * 73728
    (raw * 9 + 8 * rate * 100 - 1) / (8 * rate * 100) * 100

/-- HOLDUP_US of R310. -/
def Dev.holdupUs (d : Dev) : Nat := if d.plp.dies.isEmpty then 0 else d.flushUs + 1000

/-- HOLDUP_MW of R310. -/
def Dev.holdupMw (d : Dev) : Nat := if d.plp.dies.isEmpty then 0 else 18000 + 125 * d.plp.dies.length

/-- The write cache takes no new content while a smaller size waits (R311) or the flush area is not armed (R309). -/
def Dev.cacheHeld (d : Dev) : Bool := decide (d.cacheMib < d.effMib) || !d.regB .PLP 0 Reg.PLP_PLP_STS 0

/-- New commands wait at installation: also while FREE_SB stands at or below the effective reserve (R171). -/
def Dev.installHeld (d : Dev) : Bool := d.cacheHeld || d.atReserve

/-- ARMED of R309. -/
def Dev.armed (d : Dev) : Bool :=
  d.formatted && !d.plp.dies.isEmpty && decide (d.plp.usedSlots < 10) && decide (d.flushPages ≤ 16) &&
    d.plp.dies.all (fun n => match d.die n with
      | some x => x.flushable
      | none => false)

/-- Keep PLP_STS.ARMED in step; ARM_LOST and NOT_ARMED set when it falls (R309, R327). -/
def Dev.updateArmed (d : Dev) : Dev :=
  let was := d.regB .PLP 0 Reg.PLP_PLP_STS 0
  let now := d.armed && d.life.replayed
  if was == now then d
  else
    let d := d.setRegF .PLP 0 Reg.PLP_PLP_STS 0 1 (b2n now)
    if was then (d.setIrq .PLP 0 1).raiseErr .PLP 0 0 noDetail else d

end Sys2Proof.Machine
end

