-- ==== Sys2Proof/Machine/DebugOps.lean ====
section
/-! DEFINITION. Debug state of cores, sequencers and Madder (spec/23_debug_port.md): halts, resumes, what the DBG page
shows of them. -/
namespace Sys2Proof.Machine
open Sys2Proof

/-- Debug block of a core at reset (R648). -/
def coreDbgReset : CoreDbg :=
  { reason := 0, index := 0, group := false, ran := false, shown := 0, gprs := [], bps := [], wpAddr := [], wpCtl := [] }

/-- Debug block of a unit at reset (R651). -/
def xDbgReset : XDbg := { reason := 0, index := 0, pc := 0, xbp0 := 0, xbp1 := 0, step := false, hit := none }

/-- Debug block of core `n`: 0 to 31 are SV0 to SV31, 32 the SX pair (R648). -/
def Dev.coreDbg (d : Dev) (n : Nat) : CoreDbg := (mget d.dbg.cores n).getD coreDbgReset

/-- Set a core's debug block; one at reset is not listed. -/
def Dev.setCore (d : Dev) (n : Nat) (c : CoreDbg) : Dev :=
  { d with dbg := { d.dbg with cores := if c = coreDbgReset then mdel d.dbg.cores n else mput d.dbg.cores n c } }

/-- Debug block of unit `u`: channel sequencers 0 to 127, Madder 128 (R651). -/
def Dev.xDbg (d : Dev) (u : Nat) : XDbg := (mget d.dbg.units u).getD xDbgReset

/-- Set a unit's debug block; one at reset is not listed. -/
def Dev.setX (d : Dev) (u : Nat) (x : XDbg) : Dev :=
  { d with dbg := { d.dbg with units := if x = xDbgReset then mdel d.dbg.units u else mput d.dbg.units u x } }

/-- DSTS.HALTED of a core. -/
def Dev.coreHalted (d : Dev) (n : Nat) : Bool := (d.coreDbg n).reason != 0

/-- DBG.HALTED: bit n for a halted SVn (R655). -/
def Dev.haltMask (d : Dev) : Nat :=
  (List.range 32).foldl (fun m n => if d.coreHalted n then bitSet m n else m) 0

/-- DBG_STS.SX_HALTED (R650). -/
def Dev.sxHalted (d : Dev) : Bool := d.coreHalted 32

/-- XSTS.HALTED of a unit. -/
def Dev.xHalted (d : Dev) (u : Nat) : Bool := (d.xDbg u).reason != 0

/-- The number of Madder among the units. -/
abbrev madUnit : Nat := 128

/-- Halt one core with a reason (R649); its PC and registers as it stops are free values. A halted core stays as it is. -/
def Dev.haltCore (d : Dev) (n reason index : Nat) : Dev :=
  let c := d.coreDbg n
  if c.reason ≠ 0 then d
  else
    let d := { d with free := d.free + 65 }
    (d.setCore n { c with reason := reason, index := index, shown := d.free - 65, gprs := [] }).setIrq .DBG 0 2

/-- Halt a core, and with a GROUP core every other GROUP core, reason GROUP (R649). -/
def Dev.haltGroup (d : Dev) (n reason index : Nat) : Dev :=
  let others := ((List.range 33).filter (fun k => k != n && (d.coreDbg k).group && (d.coreDbg n).group))
  others.foldl (fun d k => d.haltCore k 5 0) (d.haltCore n reason index)

/-- Resume one core; its watchdog counts on from here (R565, R649). -/
def Dev.resumeCore (d : Dev) (n : Nat) : Dev :=
  let c := d.coreDbg n
  if c.reason = 0 then d
  else { (d.setCore n { c with reason := 0, index := 0, ran := true, gprs := [] }) with wdog := mput d.wdog n d.life.usUp }

/-- Resume a core, and with a GROUP core every other GROUP core (R648). -/
def Dev.resumeGroup (d : Dev) (n : Nat) : Dev :=
  let others := ((List.range 33).filter (fun k => k != n && (d.coreDbg k).group && (d.coreDbg n).group))
  others.foldl (fun d k => d.resumeCore k) (d.resumeCore n)

/-- A C3 resets SV0 to SV31: a halt ends, breakpoints and watchpoints stay armed (R652). -/
def Dev.coresReset (d : Dev) : Dev :=
  { d with dbg := { d.dbg with cores := mfilterMap (fun n c =>
      if n = 32 then some c
      else
        let c := { c with reason := 0, index := 0, ran := false, shown := 0, gprs := [] }
        if c = coreDbgReset then none else some c) d.dbg.cores } }

/-- Halt a sequencer or Madder; a sequencer's microcode PC is a free value (R651). -/
def Dev.haltX (d : Dev) (u reason index : Nat) : Dev :=
  let x := d.xDbg u
  if x.reason ≠ 0 then d
  else
    let f := d.takeFree
    let pc := if u = madUnit then x.pc else Config.freeNat f.1 % 65536
    let d := if u = madUnit then d else f.2
    (d.setX u { x with reason := reason, index := index, pc := pc, step := false, hit := none }).setIrq .DBG 0 2

/-- Resume a sequencer or Madder: the entry or computation at which it stopped passes its breakpoint once. -/
def Dev.resumeX (d : Dev) (u : Nat) : Dev :=
  let x := d.xDbg u
  if x.reason = 0 then d else d.setX u { x with reason := 0, index := 0, step := decide (u ≠ madUnit ∧ x.reason = 3) }

/-- Every halt ends, and every breakpoint and watchpoint is disabled (R645). -/
def Dev.debugRelease (d : Dev) : Dev :=
  let d := (List.range 33).foldl (fun d n => d.resumeCore n) d
  let d := (List.range 129).foldl (fun d u => d.resumeX u) d
  { d with dbg := { d.dbg with
      units := [], balls := 0
      cores := mfilterMap (fun _ c => some { c with
        bps := mfilterMap (fun _ v => some (v / 2 * 2)) c.bps
        wpCtl := mfilterMap (fun _ v => some (v / 2 * 2)) c.wpCtl }) d.dbg.cores } }

/-- The level falls to LOCKED (R645). -/
def Dev.levelFall (d : Dev) : Dev :=
  if d.dbg.level = 0 then d
  else
    let d := d.debugRelease
    let d := { d with dbg := { d.dbg with level := 0 } }
    ((d.setRegF .CIP 0 Reg.CIP_CIP_CTL 4 1 1).setRegN .DBG 0 Reg.DBG_LEVEL_EXPIRY 0).setIrq .DBG 0 1

/-- The breakpoint that matches an entry about to issue on channel `ch`: OP and die mask (R651). -/
def Dev.seqBreak (d : Dev) (ch op die : Nat) : Option Nat :=
  let x := d.xDbg ch
  let hit (b : Nat) : Bool := nbit b 24 && b % 256 == op && nbit (b / 256 % 65536) die
  if hit x.xbp0 then some 0 else if hit x.xbp1 then some 1 else none

/-- The breakpoint that names Madder loop `n` (R651). -/
def Dev.madBreak (d : Dev) (n : Nat) : Option Nat :=
  let x := d.xDbg madUnit
  let hit (b : Nat) : Bool := nbit b 24 && b % 16 == n
  if hit x.xbp0 then some 0 else if hit x.xbp1 then some 1 else none

/-- Whether the sequencer of a channel may issue this entry: running and at no breakpoint, or stepping (R651). -/
def Dev.seqMayIssue (d : Dev) (ch op die : Nat) : Bool :=
  let x := d.xDbg ch
  x.step || (x.reason == 0 && (d.seqBreak ch op die).isNone)

/-- What follows the issue of one entry: a step or a pass is used up, and a halted sequencer's reason is STEP. -/
def Dev.seqIssued (d : Dev) (ch : Nat) : Dev :=
  let x := d.xDbg ch
  if x.step then d.setX ch { x with step := false, reason := if x.reason = 0 then 0 else 2 } else d

end Sys2Proof.Machine
end

