-- ==== Sys2Proof/Machine/PowerOps.lean ====
section
/-! DEFINITION. Power domains, the idle condition and the wake (spec/20_power_states.md), and the fabric's two conditions
(R412, R414). -/
namespace Sys2Proof.Machine
open Sys2Proof

/-- FAB_STS.STATE (R411). -/
def Dev.fabState (d : Dev) : Nat := d.regF .FAB 0 Reg.FAB_FAB_STS 0 3

/-- FENCED condition (R412): a member that is SEEKING, JOINING, FENCED or EVICTED. -/
def Dev.fabFenced (d : Dev) : Bool := [1, 2, 4, 5].contains d.fabState

/-- The fabric's cause of DEGRADED (R414). -/
def Dev.fabDegraded (d : Dev) : Bool := d.fabState == 3 && d.regB .FAB 0 Reg.FAB_FAB_STS 15

/-- Members of the fabric, 0 on a standalone device (R27 PATROL row). -/
def Dev.fabSize (d : Dev) : Nat := if d.fabState = 0 then 0 else d.regF .FAB 0 Reg.FAB_FAB_STS 3 7

/-- Domain `n` (R592). -/
def Dev.dom (d : Dev) (n : Nat) : Domn := d.doms.getD n ⟨.off, 0, false⟩

/-- Set domain `n`. -/
def Dev.setDom (d : Dev) (n : Nat) (x : Domn) : Dev := { d with doms := d.doms.set n x }

/-- The page of a domain's R63 machine is the PWR page's DOM_n; a fault leaves the unit FAULTED (R593). -/
def Dev.containDomain (d : Dev) (n : Nat) : Dev := d.setDom n { d.dom n with st := (d.dom n).st.contain }

/-- The power domain that holds a page, where R592 gives it one that follows R63 (DEDUCED from its Content column). -/
def pageDomain (p : PT) (i : Nat) : Option Nat :=
  match p with
  | .EP => some 1
  | .TP => some (2 + i)
  | .TQ => some (2 + i / 64)
  | .FL => some 10
  | _ => none

/-- IDLE_US as it acts (R606); 0 disables. -/
def Dev.idleUs (d : Dev) : Nat :=
  let v := d.regF .PWR 0 Reg.PWR_IDLE_CFG 0 24
  if v = 0 then 0 else max 100 v

/-- The idle condition of R594. -/
def Dev.idleCond (d : Dev) : Bool :=
  d.dbOrder.isEmpty && d.flights.isEmpty &&
    d.chans.all (fun e => e.2.lists.isEmpty) && d.jobRows.isEmpty &&
    d.regB .PLP 0 Reg.PLP_PLP_STS 0 && d.recd.pending.all (fun r => decide (r.sev < 3)) &&
    d.reseal.isEmpty && !d.regB .REB 0 Reg.REB_REB_CTL 0 && d.stores.all (fun e => !e.2.hold && !e.2.deleting) &&
    d.regF .UPD 0 Reg.UPD_UPD_STS 0 4 == 0

/-- Where the idle timer stands started: it starts when the condition begins to hold in ACTIVE (R594). -/
def Dev.idleStart (d : Dev) : Option Nat :=
  if d.life.mode == .active && d.idleCond then some (d.life.idleSince.getD d.life.usUp) else none

/-- Keep the idle timer in step. -/
def Dev.idleTimer (d : Dev) : Dev :=
  if d.life.idleSince = d.idleStart then d else { d with life := { d.life with idleSince := d.idleStart } }

/-- Code of a wake cause in WAKE_STS (R598). -/
def wakeCode : WakeCause → Nat
  | .doorbell => 1 | .tenant => 2 | .filush => 3 | .work => 4 | .i3c => 5 | .condition => 6 | .patrolTimer => 7
  | .finding => 8 | .power => 9

/-- Watchdogs restart at wake (R565). -/
def Dev.kickAll (d : Dev) : Dev := { d with wdog := (List.range 33).map (fun i => (i, d.life.usUp)) }

/-- Every domain that was retained or off for sleep serves again (R592, R593). -/
def Dev.domsUp (d : Dev) : Dev :=
  { d with doms := d.doms.map (fun x => if x.retained then { x with stage := 4, retained := false } else x) }

/-- Leave IDLE or PATROL for ACTIVE: domains, watchdogs, WAKE_STS, the timer and the mode. -/
def Dev.wokenBy (d : Dev) (c : WakeCause) : Dev :=
  let d := (d.domsUp.kickAll).setRegN .PWR 0 Reg.PWR_WAKE_STS (wakeCode c)
  let d := { d with life := { d.life with entry := .none, idleSince := none } }
  (d.setMode .active).setIrq .PWR 0 0

/-- A calendar alarm that waited for the wake is signalled. -/
def Dev.ringAlarm (d : Dev) : Dev := if d.bak.alarmWaits then ({ d with bak := { d.bak with alarmWaits := false } }).setIrq .CAL 0 0 else d

/-- Wake to ACTIVE with the first cause taken (R28, R598). The model gives a wake no time, so LATENCY_US reads 0.
During a C4 halt nothing wakes (R31). -/
def Dev.wakeFor (d : Dev) (c : WakeCause) : Dev :=
  if d.life.fatal then d
  else match d.life.mode with
  | .idle | .patrol => (d.wokenBy c).ringAlarm
  | _ => d

/-- Leave an entry that was in progress, with the timer restarted. -/
def Dev.entryOver (d : Dev) (restart : Bool) : Dev :=
  { (d.setRegF .PWR 0 Reg.PWR_PWR_STS 2 1 0) with life := { d.life with
      entry := .none, idleSince := if restart then some d.life.usUp else d.life.idleSince } }

/-- A wake source of R27 in IDLE or PATROL (R598); while Glaze quiesces it is latched (R595), and it abandons a patrol entry (R599). -/
def Dev.wakeSource (c : WakeCause) (d : Dev) : Dev :=
  match d.life.entry with
  | .quiescing => if d.life.wakeReq.isSome then d else { d with life := { d.life with wakeReq := some c } }
  | .patrolEntering => d.entryOver true
  | .none => d.wakeFor c

end Sys2Proof.Machine
end

