-- ==== Sys2Proof/Machine/Publish.lean ====
section
/-! DEFINITION. What the content of the DDT depends on, and its publication: GENERATION counts every change of content, within the command
that makes it (spec/02_register_pages.md R66 to R71). -/
namespace Sys2Proof.Machine
open Sys2Proof

/-- Base of a Mordant and of a Glaze bank (R509). -/
def mordantBank (i : Nat) : Nat := 0x3000000 + 0x100000 * i
def glazeBank (i : Nat) : Nat := 0x1800000 * i

/-- Version of the running Glaze (R531); 0 while none runs. -/
def Dev.glazeVer (d : Dev) : Nat :=
  if d.life.glaze = .stopped then 0 else d.flashNat (glazeBank (d.regF .SX 0 Reg.SX_BOOT_STS 7 1) + 0x10) 4

/-- Version of the running Mordant (R512). -/
def Dev.mordantVer (d : Dev) : Nat := d.regN .SX 0 Reg.SX_MORDANT_VER

/-- What the entries and the header of the DDT show, in any view (R66, R69 to R72, R205). -/
structure DdtSource where
  booted : Bool
  compat : Bool
  versions : List Nat
  pages : List (Nat × PageSt)
  vfs : List (Nat × Nat × Nat × Bool)
  ports : List Nat
  keys : List Nat
  lanes : List Nat
  decoders : List Nat
  chans : List (Nat × List Nat × List Nat × List Byte × List Byte)
  dies : List (Nat × Nat × Bool × Nat)
  holdup : List Nat
  fabric : List Nat
  members : List (Nat × List Nat)
deriving DecidableEq, Repr

/-- The source of the DDT's content as the device stands. -/
def Dev.ddtSource (d : Dev) : DdtSource :=
  { booted := d.life.booted, compat := d.life.mode == .compat, versions := [d.mordantVer, d.glazeVer, d.serial, b2n d.gradeE]
    pages := d.pages
    vfs := d.vfs.map (fun (e : Nat × VfSt) => (e.1, e.2.qbase, e.2.qcount, e.2.valid))
    ports := (List.range 8).map (fun p => d.regF .TP p Reg.TP_TP_BIND 0 32)
    keys := d.keys.map (·.1), lanes := d.cip.fenced, decoders := d.softFenced
    chans := d.chans.map (fun (e : Nat × ChSt) =>
      (e.1, e.2.fenced, [d.regF .CH e.1 Reg.CH_CH_STS 0 6, e.2.bits, e.2.rated, e.2.jedec], e.2.manuf, e.2.model))
    dies := d.dies.map (fun (e : Nat × DieSt) => (e.1, b2n (e.2.state == 8) + 2 * b2n (e.2.state == 0), e.2.data, e.2.blocks))
    holdup := [d.budgetMib, d.plp.dies.length, d.flushUs, d.holdupUs, d.holdupMw]
    fabric := [d.regN .FAB 0 Reg.FAB_FAB_CFG, d.regN .FAB 0 Reg.FAB_FAB_POS, d.fabState, d.fabSize] ++
      (List.range 6).map (fun n => d.regF .FL n Reg.FL_FL_STS 0 3)
    members := d.fab.members.map (fun (e : Nat × Member) => (e.1, [e.2.state, e.2.links, e.2.serial, (mget d.fab.versions e.1).getD 0])) }

/-- The DDT exists from configuration-ready on (R67): not in BACKUP or RESET. -/
def Dev.ddtHeld (d : Dev) : Bool := d.life.mode != .backup && d.life.mode != .reset

/-- Publication (R68): a command that changed the content raises GENERATION by 1, in the step that changed it. -/
def Dev.published (before after : Dev) : Dev :=
  if after.ddtHeld && after.ddtSource != before.ddtSource then after.ddtPublish else after

end Sys2Proof.Machine
end

