-- ==== Sys2Proof/Machine/ServiceOps.lean ====
section
/-! DEFINITION. Records, rights, capacity and the ends of provisioning and grant commands (spec/10_services.md,
spec/11_tenant_ports.md R386 to R394, spec/05_band_translation.md R181, R182). -/
namespace Sys2Proof.Machine
open Sys2Proof

/-! ### Records (R330 to R349) -/

/-- Key of a record: kind (0 volume, 1 stream, 2 object namespace) and handle. -/
def storeKey (kind h : Nat) : Nat := kind * 65536 + h

/-- Record with a key. -/
def Dev.store (d : Dev) (k : Nat) : Option Store := mget d.stores k

/-- Set a record. -/
def Dev.setStore (d : Dev) (k : Nat) (v : Store) : Dev := { d with stores := mput d.stores k v }

/-- Change a record that is present. -/
def Dev.mapStore (d : Dev) (k : Nat) (f : Store → Store) : Dev :=
  match d.store k with
  | some v => d.setStore k (f v)
  | none => d

/-- Record with a key for a new command: none while it is being deleted (R336). -/
def Dev.liveStore (d : Dev) (k : Nat) : Option Store :=
  match d.store k with
  | some v => if v.deleting then none else some v
  | none => none

/-- FLAGS of the three record formats (R337, R343, R349). -/
def Store.ro (v : Store) : Bool := nbit v.flags 0
def Store.piExt (v : Store) : Bool := nbit v.flags 1
def Store.enc (v : Store) : Bool := nbit v.flags 4
def Store.fabric (v : Store) : Bool := v.fabK != 0

/-- Reference-tag mode (R293, R337, R343, R355): 0 LBA, 1 COMMAND, 2 OPAQUE. -/
def Store.refMode (kind : Nat) (v : Store) : Nat :=
  if kind = 0 then v.flags / 4 % 4 else if kind = 1 then 2 * (v.flags / 4 % 2) else 0

/-- Width T of the reference tag (R293). -/
def Store.tagBits (v : Store) : Nat := if v.piExt then 48 else 32

/-- Kind of record that TARGET names, by opcode (R119); `none` where it names none. 0x100 and 0x101 are the model's numbers for a shard
read and a shard write that a member asks for (R424, R425). -/
def opKind (op : Nat) : Option Nat :=
  if [0x01, 0x02, 0x03, 0x04, 0x05, 0x06, 0x30, 0x31, 0x32, 0x40, 0x50, 0x100, 0x101].contains op then some 0
  else if [0x10, 0x11, 0x12, 0x13].contains op then some 1
  else if [0x20, 0x21, 0x22, 0x23].contains op then some 2
  else none

/-- Key of the record a command in flight names. -/
def Flight.key (f : Flight) : Option Nat := (opKind f.cmd.opcode).map (fun k => storeKey k f.cmd.target)

/-- Commands in flight on a record. -/
def Dev.onRecord (d : Dev) (k : Nat) : List Flight := d.flights.filter (fun f => f.key == some k)

/-! ### Rights (R390, R391) -/

/-- Rights that let an opcode run, as bits READ 1, WRITE 2, SNAP 4; any one of them is enough (R390). -/
def opRight (op : Nat) : Nat :=
  if op = 0x03 then 3
  else if [0x01, 0x06, 0x11, 0x13, 0x21, 0x23, 0x32, 0x40].contains op then 1
  else if [0x02, 0x05, 0x04, 0x10, 0x12, 0x20, 0x22].contains op then 2
  else if op = 0x30 ∨ op = 0x31 then 4
  else 0

/-- A grant command of tint `t` ends with a result (R386). -/
def Dev.grantEnd (d : Dev) (t result rights : Nat) : Dev :=
  (d.setRegN .TNT t Reg.TNT_GRANT_STS (result * 2 + rights * 16)).setIrq .TNT t 0

/-- Commands admitted under rights withdrawn from a grant have ended. -/
def Dev.grantIdle (d : Dev) (g : Grant) : Bool :=
  !(d.onRecord g.record).any (fun f => f.tint == g.tint && opRight f.cmd.opcode &&& g.leaving != 0)

/-- End the grant commands that waited (R391). -/
def Dev.grantsFinish (d : Dev) : Dev :=
  d.grants.foldl (fun d g =>
    if g.leaving = 0 ∨ !d.grantIdle g then d
    else
      let rest := if g.rights = 0 then d.grants.filter (fun x => !(x == g))
        else d.grants.map (fun x => if x = g then { x with leaving := 0 } else x)
      let d := { d with grants := rest }
      if d.regB .TNT g.tint Reg.TNT_GRANT_STS 0 then d.grantEnd g.tint 0 0 else d) d

/-! ### Keys of a record (R388) -/

/-- Key slot number that an encrypted record uses; `none` where the owner's reference is not in force or its slot is EMPTY. -/
def Dev.recordSlot (d : Dev) (v : Store) : Option Nat :=
  let r := Reg.TNT_KEY_0 + 4 * (v.keyRef % 4)
  if d.regB .TNT v.owner r 31 ∧ d.regF .TNT v.owner r 12 2 = 1 then
    let n := d.regF .TNT v.owner r 0 12
    if (d.key n).isSome then some n else none
  else none

/-- Commands that need the record's data are refused for want of its key. -/
def Dev.keyDenied (d : Dev) (v : Store) : Bool := v.enc && (d.recordSlot v).isNone

/-! ### Capacity (R181, R182, R392) -/

/-- Bands with a line in the cache, and bands with VALID = 1. -/
def Dev.cachedBands (d : Dev) : List Nat := d.cache.map (fun (e : Nat × Line) => e.1 / 4096)
def Dev.validBands (d : Dev) : List Nat := d.ftl.bands.map (fun (e : Nat × BandEnt) => e.1)

/-- Bands not yet VALID that cache lines or commands in flight will map. -/
def Dev.pendingBands (d : Dev) : List Nat :=
  ((d.cachedBands ++ d.flights.flatMap (fun (f : Flight) => f.bands)).filter (fun b => (d.band b).isNone)).eraseDups

/-- The band lies in a range of a record that tint `t` owns. -/
def Dev.bandOf (d : Dev) (t b : Nat) : Bool := match d.storeOfBand b with
  | some (_, v) => v.owner == t
  | none => false

/-- TNT.USED: bands with VALID = 1, slots held only by snapshots, and bands reserved, of the records that a tint owns (R392). -/
def Dev.usedBy (d : Dev) (t : Nat) : Nat :=
  (d.ftl.bands.filter (fun e => d.bandOf t e.1)).length + (d.ftl.held.filter (fun h => !h.none && d.bandOf t h.band)).length +
    (d.pendingBands.filter (d.bandOf t)).length

/-- QUOTA as it acts (R386). -/
def Dev.quota (d : Dev) (t : Nat) : Nat := min 16777216 (d.regF .TNT t Reg.TNT_QUOTA 0 25)

/-- Delta entries in use or reserved by writes to unmapped bands under a snapshot (R359, R364). -/
def Dev.deltaUsed (d : Dev) : Nat :=
  d.ftl.held.length + (d.pendingBands.filter (fun b => (d.snapNeeds b).isSome)).length

/-- SNP.DELTA_RSV: bands with SNAP = 1 (R363). -/
def Dev.deltaRsv (d : Dev) : Nat := (d.ftl.bands.filter (fun e => e.2.snap)).length

/-- SNP.DELTA_MAX. -/
abbrev deltaMax : Nat := 4194304

/-- DELTA_LOW when the free entries, less those reserved, are few (R364). -/
def Dev.deltaCheck (d : Dev) : Dev :=
  if deltaMax < d.deltaUsed + d.deltaRsv + deltaMax / 16 ∧ !d.regB .SNP 0 Reg.IRQ_STS 0 then d.setIrq .SNP 0 0 else d

/-- QUOTA DETAIL of reserving `bands` (distinct bands not yet mapped) for a record, tint before device; 0 where they fit (R181,
R359, R370, R392). -/
def Dev.quotaTest (d : Dev) (owner : Nat) (bands : List Nat) : Nat :=
  let new := bands.filter (fun b => (d.band b).isNone && !d.pendingBands.contains b)
  if new.isEmpty then 0
  else if d.quota owner < d.usedBy owner + new.length then 1
  else if d.capBands < d.mapped + d.heldSlots + d.pendingBands.length + new.length then 2
  else if deltaMax < d.deltaUsed + (new.filter (fun b => (d.snapNeeds b).isSome)).length then 3
  else 0

/-! ### Ranges (R331) -/

/-- Base and length of every live range, ascending by base. -/
def Dev.ranges (d : Dev) : List (Nat × Nat) :=
  let rs := (d.stores.map (fun e => (e.2.base, e.2.span))).filter (fun r => r.2 != 0)
  rs.foldl (fun m r => mput m r.1 r.2) []

/-- Lowest base at which `n` consecutive band numbers are free, above the ranges `rs` from `at`. -/
def lowFit (n : Nat) : List (Nat × Nat) → Nat → Option Nat
  | [], a => if a + n ≤ 16777216 then some a else none
  | (b, l) :: rs, a => if a + n ≤ b then some a else lowFit n rs (max a (b + l))

/-- Largest run of free band numbers (R333). -/
def freeRun : List (Nat × Nat) → Nat → Nat
  | [], a => 16777216 - a
  | (b, l) :: rs, a => max (b - a) (freeRun rs (max a (b + l)))

/-- Whether the range from `b` is free. -/
def Dev.rangeFree (d : Dev) (b n : Nat) : Bool :=
  decide (b + n ≤ 16777216) && d.ranges.all (fun r => decide (b + n ≤ r.1) || decide (r.1 + r.2 ≤ b))

/-- The base that a new record takes (R331). -/
def Dev.takeRange (d : Dev) (base n : Nat) : Option Nat :=
  if base = 0xffffff then lowFit n d.ranges 0 else if d.rangeFree base n then some base else none

/-! ### Ends of provisioning (R335, R336, R338) -/

/-- Page of a kind. -/
def kindPage : Nat → PT
  | 0 => .VOL
  | 1 => .STM
  | _ => .OBJ

/-- Handles of a kind (R333). -/
def kindLimit : Nat → Nat
  | 0 => 4096
  | 1 => 65536
  | _ => 1024

/-- A provisioning command of a kind ends with a result. -/
def Dev.provEnd (d : Dev) (kind result : Nat) : Dev :=
  (d.setRegN (kindPage kind) 0 Reg.VOL_STS (result * 16)).setIrq (kindPage kind) 0 0

/-- Unmap the bands from `lo` up to `hi` (R182). -/
def Dev.unmapRange (d : Dev) (lo hi : Nat) : Dev :=
  let bs := (d.validBands ++ d.cachedBands).filter (fun b => decide (lo ≤ b ∧ b < hi))
  bs.eraseDups.foldl (fun d b => d.unmapBand b) d

/-- Finish a DELETE or a smaller BANDS whose commands have ended. -/
def Dev.provFinishOne (d : Dev) (k : Nat) (v : Store) : Dev :=
  if !(d.onRecord k).isEmpty then d
  else
    let page := kindPage (k / 65536)
    let busy := d.regB page 0 Reg.VOL_STS 0 && decide (d.regF page 0 Reg.VOL_SEL 0 16 = k % 65536) &&
      !((d.fab.op.toList ++ d.fab.waiting).any (fun o => o.kind == 6))
    if v.deleting then
      let d := d.unmapRange v.base (v.base + v.span)
      let d := { d with stores := mdel d.stores k, grants := d.grants.filter (fun g => g.record != k) }
      let d := d.jrec [.service]
      if busy then d.provEnd (k / 65536) 0 else d
    else if v.oldBands ≠ 0 then
      let d := d.unmapRange (v.base + (if v.fabK = 0 then v.bands else v.shardBands)) (v.base + v.oldBands)
      let d := (d.mapStore k (fun v => { v with oldBands := 0 })).jrec [.service]
      if busy then d.provEnd (k / 65536) 0 else d
    else d

/-- Finish what waits for commands to end. -/
def Dev.provFinish (d : Dev) : Dev :=
  d.stores.foldl (fun d e => if e.2.deleting || e.2.oldBands != 0 then d.provFinishOne e.1 e.2 else d) d

/-! ### Objects whose extents are dead (R353, R354) -/

/-- Sectors of an extent: COUNT rounded up to 16 (R351). -/
def extentLen (sects : Nat) : Nat := (sects + 15) / 16 * 16

/-- Objects of commands in flight on a namespace. -/
def Dev.inFlightObjs (d : Dev) (k : Nat) : List Obj := (d.onRecord k).filterMap (·.obj)

/-- Live sectors of data band `b` of a namespace: live objects and extents still named by a lookup. -/
def Store.liveIn (v : Store) (b : Nat) : Nat :=
  ((v.objs ++ v.old).filter (fun o => o.band == b)).foldl (fun n o => n + extentLen o.sects) 0

/-- Drop replaced extents that no command names any more, then unmap closed data bands without live sectors (R353, R354). -/
def Dev.nsClean (d : Dev) (k : Nat) (v : Store) : Dev :=
  let held := d.inFlightObjs k
  let v := { v with old := v.old.filter (fun o => held.any (fun x => x.extent == o.extent)) }
  let d := d.setStore k v
  let bs := (d.validBands ++ d.cachedBands).filter (fun b =>
    decide (v.base + v.dirBands ≤ b ∧ b < v.base + v.bands) && (match v.fill with
      | some (f, _) => f != b
      | none => true) && v.liveIn b == 0 && !held.any (fun o => o.band == b))
  bs.eraseDups.foldl (fun d b => d.unmapBand b) d

/-! ### Append reservations (R121) -/

/-- Appends in flight on a stream that hold a reservation. -/
def Dev.reservations (d : Dev) (k : Nat) : List Flight :=
  (d.onRecord k).filter (fun f => f.cmd.opcode == 0x10 && f.stage != .run)

/-- End of the reservations that follow one another from `next`. -/
def chainEnd : Nat → List Flight → Nat → Nat
  | 0, _, next => next
  | n + 1, fs, next => match fs.find? (fun f => f.resv == next) with
    | some f => chainEnd n fs (next + f.cmd.count)
    | none => next

/-- Reserve mark of a stream: the committed length plus the sectors reserved by appends in flight (R121). -/
def Dev.reserveMark (d : Dev) (k : Nat) (v : Store) : Nat :=
  let fs := d.reservations k
  chainEnd fs.length fs v.committed

/-- Reservations beyond one that failed complete with CONFLICT and the reserve mark (R121). -/
def Dev.appendGaps (d : Dev) (k : Nat) (v : Store) : Dev :=
  let mark := d.reserveMark k v
  ((d.reservations k).filter (fun f => decide (mark ≤ f.resv))).foldl (fun d f =>
    d.post f St.conflict 0 0 0 0 f.cmd.addr mark) d

/-- Advance the committed length over every installed reservation that follows it, and release those completions (R121). -/
def Dev.appendRelease (d : Dev) : Nat → Nat → Dev
  | 0, _ => d
  | n + 1, k => match d.store k with
    | none => d
    | some v => match (d.reservations k).find? (fun f => f.stage == .installed && f.resv == v.committed) with
      | some f => ((d.mapStore k (fun v => { v with committed := v.committed + f.cmd.count })).postOk f f.resv).appendRelease n k
      | none => d

/-- After every command: grants, records and extents that waited for commands to end. -/
def Dev.recordsFinish (d : Dev) : Dev :=
  let d := d.grantsFinish.provFinish
  let d := d.stores.foldl (fun d e => if e.1 / 65536 = 2 then (match d.store e.1 with
    | some v => d.nsClean e.1 v
    | none => d)
    else if e.1 / 65536 = 1 then d.appendGaps e.1 e.2
    else d) d
  d.deltaCheck

end Sys2Proof.Machine
end

