-- ==== Sys2Proof/Machine/Collector.lean ====
section
/-! DEFINITION. What follows every command: the fault collector takes the events raised (spec/18_fault_handling.md), and the
mode follows its conditions (R26 to R29, R674). -/
namespace Sys2Proof.Machine
open Sys2Proof

/-! ### Class of an event (R554 to R559) -/

/-- Lockstep differences and the SX watchdog, which no override matches (R559). -/
def Ev.fixedClass (e : Ev) : Bool := e.rail || (e.fixed && e.ty == PT.SX.code)

/-- Override entry `i` (R571). -/
def Dev.ovrEntry (d : Dev) (i : Nat) : W32 := (mget d.ovr i).getD 0xe0000000#32

/-- Class of the lowest-numbered override entry that matches an event (R559). -/
def Dev.ovrClass (d : Dev) (e : Ev) : Option Nat :=
  if e.fixedClass then none
  else ((List.range 32).find? (fun i =>
    let w := d.ovrEntry i
    decide (fld w 29 3 ≤ 4) && fld w 0 12 == e.ty && (fld w 12 12 == e.inst || fld w 12 12 == 0xfff) && fld w 24 5 == e.bit)).map
      (fun i => fld (d.ovrEntry i) 29 3)

/-- C3_WINDOW_S as it acts, in µs, and C3_MAX as it acts (R571). -/
def Dev.c3Window (d : Dev) : Nat := max 1 (d.regF .FLT 0 Reg.FLT_FLT_CFG 4 16) * 1000000

/-- C3 events taken within the window (R557). -/
def Dev.c3Recent (d : Dev) : Nat := (d.life.c3Times.filter (fun t => decide (d.life.usUp - t ≤ d.c3Window))).length

/-- C3_MAX as it acts. -/
def Dev.c3Max (d : Dev) : Nat := max 1 (d.regF .FLT 0 Reg.FLT_FLT_CFG 0 4)

/-- Whether the collector finds a unit to contain for a C2 of a page type (R553, R554). -/
def c2Unit (ty : Nat) : Bool :=
  [PT.QE, .CH, .TP, .FL, .MLP, .HQ, .TQ, .LDP, .CIP, .PWR].any (fun p => p.code == ty)

/-- The class taken, whether it was escalated and whether overridden. -/
def Dev.takenClass (d : Dev) (e : Ev) : Nat × Bool × Bool :=
  let o := d.ovrClass e
  let c := o.getD e.cls
  let c := if c = 2 ∧ !c2Unit e.ty then 3 else c
  if c = 3 ∧ d.c3Max < d.c3Recent + 1 then (4, true, o.isSome) else (c, false, o.isSome)

/-! ### History, record, log (R562 to R564) -/

/-- Views an event's DEVICE entry goes to (R564): the PF's; a tenant port's or VF's own for a C2 there; every view for a C3. -/
def Dev.deviceViews (d : Dev) (e : Ev) (cls : Nat) : List Nat :=
  if cls = 3 then List.range 264
  else if cls ≠ 2 then [0]
  else if e.ty = PT.TP.code then [0, 256 + e.inst]
  else if e.ty = PT.TQ.code then [0, 256 + e.inst / 64]
  else if e.ty = PT.HQ.code then (match d.vfOfQueue e.inst with
    | some n => [0, n]
    | none => [0])
  else [0]

/-- Commands that the reaction to an event discards. -/
def Dev.discards (d : Dev) (e : Ev) (cls : Nat) : Nat :=
  if cls = 3 then d.flights.length
  else if cls ≠ 2 then 0
  else if e.ty = PT.QE.code then (d.flights.filter (fun f => f.qe == e.inst)).length
  else if e.ty = PT.TP.code then (d.flights.filter (fun f => decide (2048 ≤ f.q) && (f.q - 2048) / 64 == e.inst)).length
  else if e.ty = PT.HQ.code then (d.inflight e.inst).length
  else if e.ty = PT.TQ.code then (d.inflight (2048 + e.inst)).length
  else 0

/-- Record one event (R554, R562 to R564): counter, history, first error, recorder, DEVICE log entry, page bits. -/
def Dev.takeEvent (d : Dev) (e : Ev) (cls : Nat) (esc ovr : Bool) : Dev :=
  let d := d.incSat .FLT 0 (Reg.FLT_CNT_C0 + 4 * cls) 1
  let seq := d.fltSeq + 1
  let d := { d with fltSeq := seq }
  let next := d.regF .FLT 0 Reg.FLT_FLT_STS 10 4
  let first := !d.regB .FLT 0 Reg.FLT_FLT_STS 14
  let source := e.ty % 4096 + e.inst % 4096 * 2 ^ 12 + min 0x1f e.bit * 2 ^ 24 + cls * 2 ^ 29
  let free := d.free
  let detail := if e.detail = noDetail then Config.freeNat free % 65536 else e.detail % 65536
  let d := if e.detail = noDetail then { d with free := free + 1 } else d
  let info := b2n first + b2n e.rail * 2 + b2n esc * 4 + b2n ovr * 8 + b2n e.fixed * 16 + detail * 65536
  let words := [seq, d.us, source, info]
  let lost := !first && d.regF .FLT 0 Reg.FLT_FLT_STS 15 4 == next
  let d := (List.range 4).foldl (fun d k => d.setRegN .FLT 0 (Reg.FLT_HIST_0 + 16 * next + 4 * k) (words.getD k 0)) d
  let d := if first then
      let d := (List.range 4).foldl (fun d k => d.setRegN .FLT 0 (Reg.FLT_FIRST_0 + 4 * k) (words.getD k 0)) d
      ((d.setRegF .FLT 0 Reg.FLT_FLT_STS 14 1 1).setRegF .FLT 0 Reg.FLT_FLT_STS 15 4 next).setRegF .FLT 0 Reg.FLT_FLT_STS 19 1 0
    else if lost then d.setRegF .FLT 0 Reg.FLT_FLT_STS 19 1 1 else d
  let d := d.setRegF .FLT 0 Reg.FLT_FLT_STS 10 4 (next + 1)
  let d := d.setRegF .FLT 0 Reg.FLT_FLT_STS 5 5 (min 16 (d.regF .FLT 0 Reg.FLT_FLT_STS 5 5 + 1))
  let d := (d.setRegF .FLT 0 Reg.FLT_FLT_STS 1 3 (max cls (d.regF .FLT 0 Reg.FLT_FLT_STS 1 3))).setRegF .FLT 0 Reg.FLT_FLT_STS 4 1 1
  let d := if e.rail then d.setRegN .FLT 0 Reg.FLT_RAIL_STS (e.ty % 4096 + e.inst % 4096 * 4096 + 2 ^ 31) else d
  let n := d.free
  let d := { d with free := n + 2 }
  let d := d.record true (if cls ≤ 2 then cls + 1 else 4) e.ty (min 0x1f e.bit + cls * 32) (Config.freeNat n % 2 ^ 32)
    (Config.freeNat (n + 1) % 2 ^ 32) 0
  let d := if 2 ≤ cls then d.addLogs (d.deviceViews e cls)
      { seq := 0, kind := 4, status := cls, origin := 0xff, originNum := 0, queue := 0xffff, tag := 0xff, opcode := 0xff,
        w10 := source, w14 := info, w18 := seq, w1c := d.discards e cls, d20 := 0, d28 := 0, d30 := 0, time := 0 } else d
  let d := d.setIrq .FLT 0 0
  let d := if first then d.setIrq .FLT 0 1 else d
  let d := if cls = 2 then d.setIrq .FLT 0 2 else if cls = 3 then d.setIrq .FLT 0 3 else d
  let d := if cls = 3 then { d with life := { d.life with c3Times := d.life.usUp :: d.life.c3Times } } else d
  if 2 ≤ cls then d.traceFault else d

/-! ### Reactions (R554 to R556) -/

/-- Freeze the queues that satisfy `p` and discard their commands (R138 CONTAINED). -/
def Dev.containQueues (d : Dev) (p : Nat → Bool) : Dev :=
  (d.liveQueues.filter p).foldl (fun d q => d.freezeDiscard q Fz.contained false) d

/-- Contain the unit of a C2 event (R554): its page enters FAULTED, or it is FENCED where it has no page; a channel's WP_N goes low (R197), a port's
termination is withdrawn (R396), a link is OFF (R400). -/
def Dev.containUnit (d : Dev) (e : Ev) : Dev :=
  match PT.ofCode e.ty with
  | some .QE => (d.setPage .QE e.inst (d.page .QE e.inst).contain).containQueues (fun q => d.qF q Reg.HQ_Q_STS 20 2 == e.inst)
  | some .CH => (d.setPage .CH e.inst (d.page .CH e.inst).contain).containChannel e.inst |>.emit (.pin "CH_WP_N" (2 * e.inst))
  | some .TP => ((d.setPage .TP e.inst (d.page .TP e.inst).contain).setRegN .TP e.inst Reg.TP_LINK_STS 0).containQueues
      (fun q => decide (2048 ≤ q) && (q - 2048) / 64 == e.inst)
  | some .FL => (d.setPage .FL e.inst (d.page .FL e.inst).contain).setRegF .FL e.inst Reg.FL_FL_STS 0 7 0
  | some .MLP => ((d.setPage .MLP e.inst (d.page .MLP e.inst).contain).traceLeave e.inst).setRates
  | some .HQ => (d.dropFlights e.inst).setPage .HQ e.inst (d.page .HQ e.inst).contain
  | some .TQ => (d.dropFlights (2048 + e.inst)).setPage .TQ e.inst (d.page .TQ e.inst).contain
  | some .LDP =>
    if e.unit < 256 then d.mapChan (e.unit / 2) (fun c => { c with
      fenced := if c.fenced.contains (e.unit % 2) then c.fenced else (e.unit % 2) :: c.fenced })
    else { d with softFenced := if d.softFenced.contains (e.unit - 256) then d.softFenced else (e.unit - 256) :: d.softFenced }
  | some .CIP => if e.rail || e.bit == 0 then { d with cip := d.cip.fence e.unit } else d
  | some .PWR => d.containDomain e.unit
  | _ => d

/-- C3 (R555): every command is discarded with DISCARDED posted, every queue freezes with DEVICE_FAULT, Mordant restarts Glaze. -/
def Dev.c3React (d : Dev) : Dev :=
  let d := (d.liveQueues.foldl (fun d q => d.freezeDiscard q Fz.device true) d).coresReset
  { d with
      flights := d.flights.filter (fun f => decide (f.q < 4096))
      dig := { d.dig with ctxs := d.dig.ctxs.filter (fun c => decide (4 ≤ c.2.req)), waiting := d.dig.waiting.filter (fun c => decide (4 ≤ c.req)) }
      life := { d.life with glaze := .restarting } }

/-- C4 (R31, R556): FATAL, FATAL_N low, every queue frozen with nothing posted. A second C4 changes nothing. -/
def Dev.c4React (d : Dev) : Dev :=
  if d.life.fatal then d
  else
    let d := ({ d with life := { d.life with fatal := true } }).setRegF .FLT 0 Reg.FLT_FLT_STS 0 1 1
    ((d.liveQueues.foldl (fun d q => d.freeze q Fz.device none []) d).emit (.pin "FATAL_N" 0)).ibiCause 3

/-- Source number of R39's order in R561. -/
def Ev.source (e : Ev) : Nat := b2n e.fixed * 2 ^ 40 + e.ty * 2 ^ 24 + e.inst * 2 ^ 8 + e.bit

/-- Insert an event by source number. -/
def insertEv (e : Ev) : List Ev → List Ev
  | [] => [e]
  | x :: xs => if e.source < x.source then e :: x :: xs else x :: insertEv e xs

/-- Take one cycle's events (R561): each recorded in source order, C2 units contained, then the highest reaction once. -/
def Dev.takeAll (d : Dev) : Dev :=
  let es := d.evq.foldl (fun l e => insertEv e l) []
  let r := es.foldl (fun (r : Dev × List (Ev × Nat)) e =>
    let c := r.1.takenClass e
    (r.1.takeEvent e c.1 c.2.1 c.2.2, r.2 ++ [(e, c.1)])) ({ d with evq := [] }, [])
  let d := r.2.foldl (fun d e => if e.2 = 2 then d.containUnit e.1 else d) r.1
  if r.2.any (fun e => e.2 == 4) then d.c4React
  else if r.2.any (fun e => e.2 == 3) then d.c3React
  else d

/-- Take the events raised, and those that the reactions raise, up to `fuel` cycles. -/
def Dev.collectN : Nat → Dev → Dev
  | 0, d => { d with evq := [] }
  | n + 1, d => if d.evq.isEmpty then d else (d.takeAll).collectN n

/-- The collector after a command. Three cycles suffice: a reaction raises events of class C0 only. -/
def collect (d : Dev) : Dev := d.collectN 3

/-! ### The mode follows its conditions (R26 to R29, R674) -/

/-- DEGRADED condition (R674). -/
def Dev.degradedC (d : Dev) : Bool :=
  d.ftl.groups.any (fun e => e.2.state == 2 && e.2.cause == 1) || d.chans.any (fun e => decide (2 ≤ e.2.fenced.length)) ||
    decide (64 < d.cip.fenced.length) || d.fabDegraded

/-- READONLY condition (R178). -/
def Dev.readonlyC (d : Dev) : Bool := d.regB .WEAR 0 Reg.WEAR_RO_CAUSE 31

/-- Mode of highest precedence of the conditions held (R26). -/
def Dev.condMode (d : Dev) : Mode :=
  if d.fabFenced then .fenced else if d.readonlyC then .readonly else if d.degradedC then .degraded else .active

/-- The mode after a command: in a mode that conditions choose it is their mode; in IDLE and PATROL a condition wakes first (R28).
A C4 halt keeps the mode (R31). -/
def settleMode (d : Dev) : Dev :=
  if d.life.fatal then d
  else match d.life.mode with
  | .active | .degraded | .fenced | .readonly => d.setMode d.condMode
  | .idle | .patrol => if d.condMode = .active then d else (d.wakeFor .condition).setMode d.condMode
  | _ => d

/-- The wake source that has come in is taken, but for one latched while Glaze quiesces (R595, R598). -/
def Dev.wakes (d : Dev) : Dev :=
  if d.life.entry = .quiescing then d
  else match d.life.wakeReq with
    | some c => ({ d with life := { d.life with wakeReq := none } }).wakeSource c
    | none => d

/-- After every command: records that waited, arming (with its event), wakes, the mode, the idle timer. -/
def settle (d : Dev) : Dev := (settleMode (collect d.recordsFinish.updateArmed).wakes).idleTimer

/-- Carry out a command's own effect, then the collector's and the mode's, and publish the DDT where its content changed (R68). -/
def run (f : Dev → Dev) (s : State) : Host.Outcome State Fault Refusal :=
  .next { s with dev := Dev.published s.dev (settle (collect (f s.dev))) }

end Sys2Proof.Machine
end

