-- ==== Sys2Proof/Machine/PlpOps.lean ====
section
/-! DEFINITION. The flush plan, generations, their replay and the reserved area (spec/09_power_loss.md). -/
namespace Sys2Proof.Machine
open Sys2Proof

/-! ### The plan (R312, R313) -/

/-- Rank of copy B of journal page `i`: the first rank at or after (i + n/2) mod n on another channel than copy A's (R312). -/
def rankB (dies : List Nat) (i : Nat) : Nat :=
  let n := dies.length
  let a := dies.getD (i % n) 0
  let from0 := (i + n / 2) % n
  (((List.range n).map (fun k => (from0 + k) % n)).find? (fun r => dies.getD r 0 / 16 != a / 16)).getD from0

/-- Split a list into runs of 16 for the pages of cache codewords. -/
def pagesOf16 : Nat → List Nat → List (List Nat)
  | 0, _ => []
  | _, [] => []
  | n + 1, l => l.take 16 :: pagesOf16 n (l.drop 16)

/-- Planned pages of rank `r` (R312): head, journal pages, cache pages dealt round-robin. -/
def planOf (dies : List Nat) (jnl : Nat) (secs : List Nat) (r : Nat) : List FlushPage :=
  let n := dies.length
  let copies := (List.range jnl).flatMap (fun i =>
    (if i % n = r then [FlushPage.jnl i] else []) ++ (if rankB dies i = r then [FlushPage.jnl i] else []))
  let cache := (pagesOf16 secs.length secs).zipIdx.filterMap (fun e => if e.2 % n = r then some (FlushPage.cache e.1) else none)
  .head :: (copies ++ cache)

/-- States that journal pages of a flush carry: the waiting pages and the unfinished page (R312); none before replay ends. -/
def Dev.flushJnl (d : Dev) : List Ftl := if d.life.replayed then d.jnl.waiting.map (·.state) ++ [d.ftl] else []

/-- Keys of the mirrored or owned sectors of a stripe record, which flush with the cache (R426). -/
def stripeKeys (x : FStripe) : List Nat := x.secs.map (fun e => 2 ^ 48 + (x.volume * 2 ^ 24 + x.stripe) * 256 + e.1)

/-- Write a new generation into the next flush slot (R308, R312): its plan, and what the pages carry. -/
def Dev.newGen (d : Dev) (clean : Bool) : Dev :=
  let jnl := if clean then [] else d.flushJnl
  let lines := if clean then [] else d.cache
  let seq := d.plp.gens.foldl (fun m g => max m g.seq) 0 + 1
  let stripes := if clean then [] else d.fab.stripes
  let keys := lines.map (·.1) ++ stripes.flatMap stripeKeys
  let plan := (List.range d.plp.dies.length).map (planOf d.plp.dies jnl.length keys)
  let g : Gen :=
    { seq := seq, slot := d.plp.usedSlots + 10 * d.plp.index, clean := clean, testCut := d.plp.cut && !clean, plan := plan,
      done := plan.map (fun _ => 0), lines := lines, jnl := jnl, installMax := d.install - 1,
      jseq := d.reg64 .JNL 0 Reg.JNL_JSEQ, recs := d.recd.recent, stripes := stripes, durUs := 0, retired := false, ended := false }
  ({ d with plp := { d.plp with gens := d.plp.gens ++ [g], usedSlots := d.plp.usedSlots + 1 } }).setReg64 .PLP 0
    Reg.PLP_FLUSH_SEQ seq

/-- Change the newest generation. -/
def Dev.mapGen (d : Dev) (f : Gen → Gen) : Dev :=
  { d with plp := { d.plp with gens := d.plp.gens.dropLast ++ (d.plp.gens.getLast?.toList.map f) } }

/-- Pages that rank `r` may program of the newest generation: its plan, or CUT_PAGES of it in a test cut (R328). -/
def Dev.flushLimit (d : Dev) (g : Gen) (r : Nat) : Nat :=
  let n := (g.plan.getD r []).length
  if g.testCut then min n (max 1 (min 16 (d.regF .PLP 0 Reg.PLP_TEST 0 5))) else n

/-- The last flush program has ended. -/
def Dev.flushDone (d : Dev) (g : Gen) : Bool :=
  (List.range g.plan.length).all (fun r => decide (d.flushLimit g r ≤ g.done.getD r 0))

/-- LAST_FLUSH.RESULT of a generation: COMPLETE, CUT or TEST_CUT (R327). -/
def Gen.result (g : Gen) : Nat :=
  if g.testCut then 3
  else if (List.range g.plan.length).all (fun r => decide ((g.plan.getD r []).length ≤ g.done.getD r 0)) then 1 else 2

/-! ### What survives (R317) -/

/-- Pages of rank `r` that were written. -/
def Gen.written (g : Gen) (r : Nat) : List FlushPage := (g.plan.getD r []).take (g.done.getD r 0)

/-- Pages of rank `r` that were not. -/
def Gen.missing (g : Gen) (r : Nat) : List FlushPage := (g.plan.getD r []).drop (g.done.getD r 0)

/-- The ranks of a generation. -/
def Gen.ranks (g : Gen) : List Nat := List.range g.plan.length

/-- Journal page `i` survives in either copy. -/
def Gen.hasJnl (g : Gen) (i : Nat) : Bool := g.ranks.any (fun r => (g.written r).contains (.jnl i))

/-- The newest state that the surviving journal pages give before the first page lost in both copies, and whether one is lost. -/
def Gen.jnlState (g : Gen) : Option Ftl × Bool :=
  let ok := (List.range g.jnl.length).takeWhile g.hasJnl
  (ok.getLast?.bind (fun i => g.jnl[i]?), decide (ok.length < g.jnl.length))

/-- Sectors on pages that were written. -/
def Gen.saved (g : Gen) : List Nat := g.ranks.flatMap (fun r => (g.written r).flatMap (fun p => match p with
  | .cache secs => secs
  | _ => []))

/-- Ranks whose head page is missing (R317). -/
def Gen.headless (g : Gen) : List Nat := g.ranks.filter (fun r => !(g.written r).contains .head)

/-- Sectors that a decoded head places on a page that was not written. -/
def Gen.cut (g : Gen) : List Nat :=
  (g.ranks.filter (fun r => (g.written r).contains .head)).flatMap (fun r => (g.missing r).flatMap (fun p => match p with
    | .cache secs => secs
    | _ => []))

/-- The recorder buffer survives in either head page that holds it (R314). -/
def Gen.hasRecs (g : Gen) : Bool := [0, g.plan.length / 2].any (fun r => (g.written r).contains .head)

/-- Some page was lost. -/
def Gen.lostAny (g : Gen) : Bool := g.ranks.any (fun r => !(g.missing r).isEmpty)

/-! ### Replay (R278, R317, R322, R324) -/

/-- INSTALL_SEQ that the replayed map names for a sector, 0 where it names none. -/
def Dev.installOf (d : Dev) (k : Nat) : Nat := match mget d.cache k with
  | some l => l.install
  | none => match d.mediaCw (k / 4096) (k % 4096) with
    | some c => c.install
    | none => 0

/-- The codeword at position `p` of a log band was programmed for its band: its metadata says so (R150, R184). -/
def Dev.logCw (d : Dev) (x : LogBand) (p : Nat) : Option Cw :=
  (mget d.media (mediaKey x.sb x.slot p)).filter (fun c => c.band == x.band && c.logged && c.gen == d.nextGen x.band)

/-- Positions of a log band that stand programmed: from `first` on, unit by unit, as long as a codeword of the unit belongs to it. -/
def Dev.logTop (d : Dev) (x : LogBand) : Nat → Nat → Nat
  | 0, p => p
  | n + 1, p => if (List.range 16).any (fun i => (d.logCw x (p + i)).isSome) then d.logTop x n (p + 16) else p

/-- A log band as its units' codewords tell (R184, R324 step 5): units programmed after the state that the media carries was taken are added to
its map, and entries that name positions never programmed give way to the newest programmed position of their sector. -/
def Dev.logReplay (d : Dev) (x : LogBand) : LogBand :=
  let known := x.fill - x.unit.length
  let first := d.logTop x 256 known
  let older (sec : Nat) : Option Nat := (List.range first).reverse.find? (fun p => match d.logCw x p with
    | some c => c.sector == sec && (!c.pad || c.install != 0)
    | none => false)
  let later : List (Nat × LogEnt) := (List.range (first - known)).filterMap (fun i => (d.logCw x (known + i)).bind (fun c =>
    if c.pad && c.install == 0 then none else some (c.sector, ⟨known + i, true, false, c.install % 65536⟩)))
  let x := { x with
    map := later.foldl (fun m (e : Nat × LogEnt) => mput m e.1 e.2) x.map
    inOrder := x.inOrder && later.all (fun e => e.2.pos == e.1) && later.length == first - known }
  { x with
    fill := first
    state := if first = 4096 then 2 else 1
    forced := false
    unit := []
    map := mfilterMap (fun sec m =>
      if m.inLog && decide (first ≤ m.pos) then (older sec).map (fun p => { m with pos := p }) else some m) x.map }

/-- Settle superblocks and log bands after the journal is read (R278, R322): a superblock in ERASING returns to FREE. -/
def Dev.settleMedia (d : Dev) : Dev :=
  let half := (d.ftl.sbs.filter (fun e => e.2.state == 1)).length
  let d := d.mapFtl (fun f => { f with
    sbs := mfilterMap (fun n s =>
      let s' := if s.state = 1 then { s with state := 0, purpose := 0, next := 0, valid := 0 } else s
      if s' = sbFresh n then none else some s') f.sbs
    logs := mfilterMap (fun _ x => some (d.logReplay x)) f.logs })
  (d.setRegN .JNL 0 Reg.JNL_HALF_ERASED (half % 2 ^ 20)).setRegN .JNL 0 Reg.JNL_LEDGER_STS 0

/-- Reinstall one flushed line if it is newer than what the map names (R324 step 6). -/
def Dev.reinstall (d : Dev) (k : Nat) (l : Line) : Dev :=
  if d.installOf k < l.install then { d with cache := mput d.cache k { l with placed := false, atUs := d.life.usUp } } else d

/-- A sector on a page that was not written: the map's newer copy serves it, or it becomes poison MEDIA (R317). -/
def Dev.cutSector (d : Dev) (g : Gen) (k : Nat) : Dev :=
  match mget g.lines k with
  | none => d
  | some l =>
    if l.install ≤ d.installOf k then d
    else
      let p : Line := { l with stored := .zero, guard := 0, app := 0, ref := 0, zero := false, poison := 1, placed := false,
                               atUs := d.life.usUp }
      ({ d with cache := mput d.cache k p }).incSat .PLP 0 Reg.PLP_CUT_SECT 1

/-- Sectors that begin a run of consecutive sectors of one band. -/
def runHeads (ks : List Nat) : List Nat :=
  ks.filter (fun k => k % 4096 == 0 || !ks.contains (k - 1))

/-- LAST_FLUSH: the outcome of a generation (R317, R327). -/
def Dev.showFlush (d : Dev) (g : Gen) : Dev :=
  d.setRegN .PLP 0 Reg.PLP_LAST_FLUSH
    (g.result + (if g.headless.isEmpty then 0 else 1) * 4 + b2n g.clean * 8 + min 0xffff g.durUs * 65536)

/-- Replay one generation's sectors (R317, R324). -/
def Dev.replayGen (d : Dev) (g : Gen) : Dev :=
  let d := g.saved.foldl (fun d k => match mget g.lines k with
    | some l => d.reinstall k l
    | none => d) d
  let lostKeys := g.cut.filter (fun k => match mget g.lines k with
    | some l => decide (d.installOf k < l.install)
    | none => false)
  let d := lostKeys.foldl (fun d k => d.cutSector g k) d
  let d := (runHeads lostKeys).foldl (fun d k => d.note 4 .PLP (some (k / 4096)) (some (k % 4096))) d
  let d := g.headless.foldl (fun d r => (d.note 4 .PLP (some r) none).raiseErr .PLP 0 1 noDetail) d
  let d := if g.lostAny then d.setIrq .PLP 0 0 else d
  d.showFlush g

/-- A sector that a scan finds lost (R279): its codeword carries no data any more. -/
def Dev.scanLoss (d : Dev) (k : Nat) : Dev :=
  match d.lookup (k / 4096) (k % 4096) with
  | .zeros => d
  | .at m =>
    let c := (mget d.media m).getD
      { band := k / 4096, gen := 0, sector := k % 4096, pad := false, logged := false, poison := 3, install := 0, target := 0, ageS := 0
        stored := .zero, guard := 0, app := 0, ref := 0 }
    d.putCw m { c with poison := 3, stored := .zero, guard := 0, app := 0, ref := 0 }

/-- Sectors (band × 4,096 + sector) that a scan finds lost, logged with cause JOURNAL_SCAN band by band (R279, R290). -/
def Dev.scanAll (d : Dev) (ks : List Nat) : Dev :=
  let ks := sortBy id ks.eraseDups
  let d := (ks.map (· / 4096)).eraseDups.foldl (fun d b =>
    let secs := d.readKeys b ((ks.filter (fun k => k / 4096 == b)).map (· % 4096))
    match secs with
    | [] => d
    | x :: _ => d.lostFound b 4 (match d.group (sbGroup (keySb x.2)) with
        | some g => d.goneMask g
        | none => 0) secs) d
  ks.foldl (fun d k => d.scanLoss k) d

/-- Records that the flush heads give back (R580): those above the newest stored SEQ, marked REPLAYED, and the count of the lost. -/
def Dev.recorderReplay (d : Dev) (gens : List Gen) : Dev :=
  let stored := d.recd.ring.foldl (fun m p => p.foldl (fun m r => max m r.seq) m) 0
  let found := gens.foldl (fun (l : List Rec) g => if g.hasRecs then g.recs.foldl (fun l r =>
      if decide (stored < r.seq) && !l.any (fun x => x.seq == r.seq) then l ++ [{ r with flags := r.flags ||| 2 }] else l) l
    else l) []
  let keep := d.recd.pending.filter (fun r => decide (stored < r.seq) && !found.any (fun x => x.seq == r.seq))
  let all := found ++ keep
  let top := all.foldl (fun m r => max m r.seq) stored
  let lost := if all.isEmpty then 0 else top - stored - all.length
  let pos := (d.recd.ring.flatten ++ all).foldl (fun m r => max m r.pos) 0
  let pcc := (d.recd.ring.flatten ++ all).foldl (fun m r => max m r.pcc) 0
  let d := { d with
    bak := { d.bak with
      lostAtPower := false
      pos := max d.bak.pos pos
      pcc := max d.bak.pcc (if d.bak.lostAtPower && decide (d.bak.pcc ≤ pcc) && decide (pcc ≠ 0) then pcc + 1 else pcc) }
    recd := { d.recd with
      next := top + 1
      pending := all
      recent := all.drop (all.length - 256)
      lost := min 0xffffffff (d.recd.lost + lost) } }
  if lost = 0 then d else d.record false 2 PT.REC.code 1 lost 0 0

/-- Replay of R324: journal, ledger, rows, log maps and flushed sectors; `scanLost` lists the sectors (band × 4,096 + sector)
that a scan does not recover. -/
def Dev.replay (d : Dev) (scanLost : List Nat) : Dev :=
  let gens := d.plp.gens.filter (fun g => !g.retired)
  let base := gens.foldl (fun (acc : Ftl × Bool) g =>
    if g.jseq < d.jnl.seqMedia ∨ g.jnl.isEmpty then acc
    else match g.jnlState with
      | (some f, lost) => (f, acc.2 || lost)
      | (none, lost) => (acc.1, acc.2 || lost)) (d.jnl.media, false)
  let scan := base.2 || (d.plp.gens.isEmpty && !d.firstStart && d.jnl.rootSeq == 0)
  let rows := base.1.rows.length
  let jseq := gens.foldl (fun m g => max m g.jseq) d.jnl.seqMedia
  let content := gens.any (fun g => !g.clean && (!g.lines.isEmpty || !g.jnl.isEmpty))
  let kind := if d.firstStart then 3 else if scan then 2 else if content then 1 else 0
  let stripes := gens.foldl (fun acc g => if g.clean || g.jnlState.2 then acc else g.stripes) []
  let d := { d with fab := { d.fab with stripes := stripes } }
  let d := { d with ftl := base.1, jnl := { d.jnl with seqMedia := jseq, recs := [], waiting := [] } }
  let d := d.trimDeltas.settleMedia
  let d := if scan then d.scanAll scanLost else d
  let d := gens.foldl (fun d g => d.replayGen g) d
  let d := d.recorderReplay gens
  let top := d.media.foldl (fun m e => max m e.2.install) (gens.foldl (fun m g => max m g.installMax) 0)
  let top := d.cache.foldl (fun m e => max m e.2.install) top
  let d := { d with install := top + 1, firstStart := false }
  let d := d.setReg64 .JNL 0 Reg.JNL_JSEQ jseq
  let d := d.setReg64 .PLP 0 Reg.PLP_FLUSH_SEQ (d.plp.gens.foldl (fun m g => max m g.seq) 0)
  let one := d.jnl.copies.any (fun c => d.dieGone c.1 != d.dieGone c.2)
  let src := if scan then 3 else if !content then 0 else if one then 2 else 1
  let d := d.setRegN .JNL 0 Reg.JNL_REPLAY (src + min 0xffff rows * 65536)
  let d := d.setRegN .PLP 0 Reg.PLP_LAST_START (kind + min 0xffff ((d.life.usUp - d.life.bootUs) / 1000) * 65536)
  let d := { d with
    jnl := { d.jnl with rootSeq := d.jnl.rootSeq + 1 }
    plp := { d.plp with rootPages := d.plp.rootPages - 1 } }
  d.setRegF .PLP 0 Reg.PLP_PLP_STS 16 8 d.cacheMib

/-! ### The reserved area (R309) -/

/-- Erase one reserved block of die `n` for the index that comes into service; a failed erase makes the block grown bad. -/
def Dev.eraseReserved (d : Dev) (bad : List Nat) (index n : Nat) : Dev :=
  d.mapDie n (fun x =>
    let b := x.blockOf index
    if bad.contains n then { x with grownBad := b :: x.grownBad }
    else { x with erases := mput x.erases b ((mget x.erases b).getD 0 + 1) })

/-- A generation stored in the other reserved index is not retired. -/
def Dev.otherIndexHeld (d : Dev) : Bool := d.plp.gens.any (fun g => !g.retired && g.slot / 10 != d.plp.index)

/-- A rotation would discard ring records that a frozen view shows (R583). -/
def Dev.ringFrozen (d : Dev) : Bool :=
  let stored := d.recd.ring.filter (fun p => !p.isEmpty)
  let drop := (stored.take (if d.recd.clearing then stored.length else stored.length - 16)).flatten
  d.recd.views.any (fun v => v.2.freeze && drop.any (fun r => decide (v.2.base ≤ r.seq)))

/-- Rotate to the other reserved index (R309, R578): ledger, root page and the newest 16 ring pages into the new blocks, service
moved; `keepRing` false drops the ring (R584). `bad` names flush dies whose reserved block fails to erase. -/
def Dev.rotateReserved (d : Dev) (keepRing : Bool) (bad : List Nat) : Dev :=
  let index := 1 - d.plp.index
  let groups := d.ftl.groups.filter (fun e => e.2.members.any d.plp.dies.contains)
  let d := groups.foldl (fun d e =>
    let d := d.ledgerIntent (e.1 * 8192 + index)
    (e.2.members.foldl (fun d n => d.eraseReserved bad index n) d).ledgerClose (e.1 * 8192 + index)
      ((List.range e.2.members.length).filter (fun i => bad.contains (e.2.members.getD i 0)))) d
  let d := groups.foldl (fun d e => [0, 1].foldl (fun d i =>
    d.setSb (e.1 * 8192 + i) { d.sb (e.1 * 8192 + i) with state := if i = index then 2 else 0 }) d) d
  let stored := d.recd.ring.filter (fun p => !p.isEmpty)
  let ring := if keepRing then stored.drop (stored.length - 16) else []
  let d := { d with
    plp := { d.plp with index := index, usedSlots := 0, rootPages := 15 }
    jnl := { d.jnl with rootSeq := d.jnl.rootSeq + 1 }
    recd := { d.recd with ring := ring, nextPage := ring.length, rotating := false, clearing := false } }
  let d := (d.jrec [.ledger rsvRotate 0 0 0 index 0 0 0 0]).pslRecompute
  if d.plp.dies.any bad.contains then d.chooseFlushDies else d

/-- The recorder can program ring pages (R576): replay is done, flush dies exist, no C4 halt, not in RESET, FLUSH, IDLE or PATROL,
and no rotation runs. -/
def Dev.ringReady (d : Dev) : Bool :=
  d.life.replayed && !d.life.fatal && !d.plp.dies.isEmpty && !d.recd.rotating &&
    !(d.life.mode == .reset || d.life.mode == .flush || d.life.mode == .idle || d.life.mode == .patrol || d.life.mode == .backup)

/-! ### Entering FLUSH -/

/-- Queues stop: every command in flight is discarded, nothing is posted (R36, R312). -/
def Dev.stopWork (d : Dev) : Dev :=
  { d with
    flights := [], dig := { d.dig with ctxs := [], waiting := [] }, soft := []
    gates := d.gates.map (fun b => { b with waiters := [] })
    tints := mfilterMap (fun _ b => some { b with waiters := [] }) d.tints
    pushes := [] }

/-- Enter FLUSH for a cause of RST_CAUSE (R27, R302, R303). During a relock the flush waits for the lock (R613). -/
def Dev.enterFlush (d : Dev) (cause : Nat) : Dev :=
  if !d.life.pllLocked then { d with life := { d.life with flushPendingLock := true }, plp := { d.plp with cause := cause } }
  else
    let d := { d.stopWork with plp := { d.plp with flushing := false, quiet := [], startUs := d.life.usUp, cause := cause } }
    ({ d with life := { d.life with entry := .none, idleSince := none, shutting := false } }).setMode .flush

/-- The cache or the journal holds data that is not on media (R27). -/
def Dev.dataPending (d : Dev) : Bool := !d.cache.isEmpty || !d.fab.stripes.isEmpty || !d.jnl.recs.isEmpty || !d.jnl.waiting.isEmpty

/-- Modes from which a RESTART, an update activation or a fabric reset leads to RESET (R27). -/
def restartMode : Mode → Bool
  | .maint | .active | .degraded | .fenced | .readonly | .compat => true
  | _ => false

/-- Modes from BOOT through READONLY (R27). -/
def liveMode : Mode → Bool
  | .backup | .reset | .flush => false
  | _ => true

end Sys2Proof.Machine
end

