-- ==== Sys2Proof/Machine/ResetOps.lean ====
section
/-! DEFINITION. DEVICE resets and the entry to RESET and BACKUP (spec/21_supplies_clocks_reset.md, R27, R614). -/
namespace Sys2Proof.Machine
open Sys2Proof

/-- Registers of CAL that only the backup supply resets (R586, R614). -/
def calKey (k : Nat) : Bool := k / 0x1000000 == PT.CAL.code && decide (0x40 ≤ k % 0x1000)

/-- Registers whose content the media restores at replay: DELTA_SEQ and ERASE_CNT, which never wrap, RO_CAUSE, which stays until the
next format (R178, R189, R329), and the configuration of tint pages, which is data (R547). -/
def mediaKeyReg (k : Nat) : Bool :=
  let ty := k / 0x1000000
  let off := k % 0x1000
  (ty == PT.MAP.code && (off == 0x60 || off == 0x64)) || (ty == PT.JNL.code && (off == 0x88 || off == 0x8c)) ||
    (ty == PT.WEAR.code && off == Reg.WEAR_RO_CAUSE) ||
    (ty == PT.TNT.code && (decide (0x40 ≤ off ∧ off ≤ 0x50) || off == 0x58 || off == 0x60))

/-- A die as a DEVICE reset leaves it: out of data service until its channel trains again; FAILED lasts until the next
power-on (R224). -/
def DieSt.reset (cold : Bool) (x : DieSt) : DieSt :=
  { x with
      state := if x.state = 8 ∧ !cold then 8 else 0
      susp := 0, data := false, cur := none, held := none, reads := 0, retry := 0, shift := 0, resetFor := 0, pslc := false }

/-- A DEVICE reset (R539, R614): a package in progress ends ABORTED, a trial keeps its package set; every page but the calendar's takes its reset
values, every command in flight is discarded; PROT and a reshape in progress stand in the group records (R266, R296, R297); what is on media, in the
boot flash and in the backup domain stays. -/
def Dev.deviceReset (cold : Bool) (cause : Nat) (flushed : Bool) (d0 : Dev) : Dev :=
  let d := d0.opLost
  let warm := d.regN .CLK 0 Reg.CLK_WARM_CNT
  let r : Dev := { Dev.first with
    life := { Life.reset with
      usUp := d.life.usUp, bootUs := d.life.usUp, maintReq := d.life.maintReq, rstN := d.life.rstN, perstN := d.life.perstN, pfailN := d.life.pfailN,
      pgood := d.life.pgood, rails := d.life.rails, refclk := d.life.refclk, refUs := d.life.refUs
      pllInternal := !cold && d.life.pllInternal && !(d.life.refclk && decide (1000 ≤ d.life.usUp - d.life.refUs)) }
    regs := d.regs.filter (fun e => calKey e.1 || mediaKeyReg e.1)
    recd := { Recorder.empty with
      next := d.recd.next, ring := d.recd.ring, nextPage := d.recd.nextPage
      pending := if cold || flushed then [] else d.recd.pending
      recent := if cold || flushed then [] else d.recd.recent }
    bak := { d.bak with pcc := if cold then (d.bak.pcc + 1) % 2 ^ 32 else d.bak.pcc }
    injected := d.injected.filter (fun x => x.page == PT.LDP.code)
    sealedKeys := d.sealedKeys, seals := d.seals, media := d.media, lostSeen := d.lostSeen
    dies := mfilterMap (fun _ x => some (x.reset cold)) d.dies
    raw := d.raw
    jnl := { Jnl.empty with
      media := d.jnl.media, copies := d.jnl.copies, seqMedia := d.jnl.seqMedia, passSeq := d.jnl.passSeq, rootSeq := d.jnl.rootSeq
      deltas := d.jnl.deltas }
    plp := { d.plp with flushing := false, quiet := [], cut := false, cause := 1 }
    format := d.fmtInForce, firstStart := d.firstStart, stores := d.stores.map (fun (e : Nat × Store) => (e.1, { e.2 with hold := false })), grants := d.grants
    fab := { FabSt.empty with
      intents := d.fab.intents
      members := mfilterMap (fun _ (m : Member) => if m.full then some { m with state := 0, links := 0, nonce := none } else none) d.fab.members }
    flash := d.flash, dbg := { DbgSt.locked with ir := d.dbg.ir, cells := d.dbg.cells }
    tpPerst := d.tpPerst, out := d.out, free := d.free }
  let r := r.loadOptions.loadOtp
  let r := (r.setReg .THM 0 0x50 (r.resetAs .THM 0x50)).setReg .THM 0 0x54 (r.resetAs .THM 0x54)
  let r := r.setRegN .CLK 0 Reg.CLK_RST_CAUSE (cause + b2n flushed * 16 + b2n (cold && d.bak.lostAtPower) * 32)
  let r := r.setRegN .CLK 0 Reg.CLK_WARM_CNT (if cold then 0 else min 0xffffffff (warm + 1))
  let r := r.setRegF .STR 0 Reg.STR_STR_STS 0 1 (d.regF .STR 0 Reg.STR_STR_STS 0 1)
  let r := if d.regB .REB 0 Reg.REB_REB_CTL 0 then r.setRegF .REB 0 Reg.REB_REB_CTL 0 2 (d.regF .REB 0 Reg.REB_REB_CTL 0 2) else r
  let st := d.regF .UPD 0 Reg.UPD_UPD_STS 0 4
  let r := if 1 ≤ st ∧ st ≤ 4 ∧ cause ≠ 6 then r.setRegF .UPD 0 Reg.UPD_UPD_STS 4 8 8 else r
  let r := if cause = 6 ∨ st = 5 ∨ st = 6 then
      (r.setReg64 .UPD 0 Reg.UPD_SET (d.reg64 .UPD 0 Reg.UPD_SET)).setReg64 .UPD 0 Reg.UPD_T_ACT (d.reg64 .UPD 0 Reg.UPD_T_ACT)
    else r
  ((r.emit (.pin "NAND_CE_N" 1)).emit (.pin "NAND_WP_N" 0)).emit (.pin "FATAL_N" 1)

/-- Main rails below their operating minimum (R27, R304): BACKUP. A flush in progress ends where it stands. -/
def Dev.toBackup (d : Dev) : Dev :=
  let d := d.mapGen (fun g => if d.plp.flushing && !g.ended then { g with ended := true } else g)
  let d := d.opLost
  let d := { d with plp := { d.plp with flushing := false, quiet := [] } }
  { d.stopWork with
    life := { d.life with mode := .backup, rails := false, pllLocked := false, fatal := false, glaze := .stopped, mordant := false, booted := false, replayed := false }
    cache := [], jnl := { d.jnl with recs := [], waiting := [] }
    recd := { d.recd with pending := [], recent := [] }
    keys := [], dbg := DbgSt.locked, sbd := Sideband.reset }

/-- A warm reset source in a live mode: through FLUSH while data is pending, else straight to RESET (R27, R615). -/
def Dev.warmReset (d : Dev) (cause : Nat) : Dev :=
  if !liveMode d.life.mode then d
  else if d.dataPending then d.enterFlush cause
  else d.deviceReset false cause false

end Sys2Proof.Machine
end

