-- ==== Sys2Proof/Machine/FabBase.lean ====
section
/-! DEFINITION. Topology, identity and the position of the device in its fabric (spec/12_filush_fabric.md R403 to R406). -/
namespace Sys2Proof.Machine
open Sys2Proof

/-- FAB_CFG.TOPOLOGY (R403). -/
def Dev.topo (d : Dev) : Nat := d.regF .FAB 0 Reg.FAB_FAB_CFG 0 2

/-- Sides X, Y and Z that the topology uses (R403). -/
def Dev.sides (d : Dev) : Nat × Nat × Nat :=
  let f := d.regF .FAB 0 Reg.FAB_FAB_CFG
  (if d.topo = 0 then 1 else f 2 5, if d.topo < 2 then 1 else f 7 4, if d.topo < 3 then 1 else f 11 3)

/-- Coordinates of this device. -/
def Dev.coords (d : Dev) : Nat × Nat × Nat :=
  let f := d.regF .FAB 0 Reg.FAB_FAB_POS
  (f 0 4, f 4 4, f 8 4)

/-- FAB_ID in snake order (R405). -/
def fabIdOf (s c : Nat × Nat × Nat) : Nat :=
  let X := s.1
  let Y := s.2.1
  let s2 := if c.2.1 % 2 = 1 then c.2.1 * X + (X - 1 - c.1) else c.2.1 * X + c.1
  c.2.2 * X * Y + (if c.2.2 % 2 = 1 then X * Y - 1 - s2 else s2)

/-- Coordinates of a FAB_ID. -/
def coordsOf (s : Nat × Nat × Nat) (id : Nat) : Nat × Nat × Nat :=
  let X := s.1
  let Y := s.2.1
  let z := id / (X * Y)
  let p := id % (X * Y)
  let s2 := if z % 2 = 1 then X * Y - 1 - p else p
  let y := s2 / X
  let r := s2 % X
  (if y % 2 = 1 then X - 1 - r else r, y, z)

/-- FAB_ID of this device. -/
def Dev.fabId (d : Dev) : Nat := d.regF .FAB 0 Reg.FAB_FAB_POS 12 6

/-- Places of the topology. -/
def Dev.places (d : Dev) : Nat := d.sides.1 * d.sides.2.1 * d.sides.2.2

/-- The device serves as the head (R406, R411). -/
def Dev.isHead (d : Dev) : Bool := d.fabState != 0 && d.fabId == 0

/-- The device is a fabric member other than the head. -/
def Dev.isMember (d : Dev) : Bool := d.fabState != 0 && d.fabId != 0

/-- The device has a host interface: standalone or the head (R30, R98). -/
def Dev.hostPort (d : Dev) : Bool := !d.isMember

/-- Links that the topology uses (R403). -/
def Dev.usedLinks (d : Dev) : List Nat := List.range (2 * d.topo)

/-- HEAD_SEL disagrees with the coordinates, or these lie outside the sides (R406). -/
def Dev.wiringBad (d : Dev) : Bool :=
  let s := d.sides
  let c := d.coords
  !(decide (c.1 < s.1) && decide (c.2.1 < s.2.1) && decide (c.2.2 < s.2.2)) || d.life.strapHead != (c == (0, 0, 0))

/-- State of link `n` (R400). -/
def Dev.linkState (d : Dev) (n : Nat) : Nat := d.regF .FL n Reg.FL_FL_STS 0 3

/-- Set a link's state and remember when it changed. -/
def Dev.setLink (d : Dev) (n st : Nat) : Dev :=
  let l := (mget d.fab.links n).getD ⟨0, [], [], none⟩
  ({ d with fab := { d.fab with links := mput d.fab.links n { l with sinceUs := d.life.usUp } } }).setRegF .FL n Reg.FL_FL_STS 0 3 st

/-- The fabric state that BOOT entry takes (R406, R411): the head goes to ACTIVE, a member to SEEKING. -/
def Dev.fabBoot (d : Dev) : Dev :=
  let d := d.setRegF .FAB 0 Reg.FAB_FAB_POS 18 1 (b2n d.life.strapHead)
  if d.topo = 0 then d
  else
    let d := d.setRegF .FAB 0 Reg.FAB_FAB_POS 12 6 (fabIdOf d.sides d.coords)
    if d.wiringBad then (d.setRegF .FAB 0 Reg.FAB_FAB_STS 16 1 1).raiseErr .FAB 0 3 noDetail
    else if d.life.strapHead then
      let d := (d.setRegF .FAB 0 Reg.FAB_FAB_STS 0 3 3).setRegF .FAB 0 Reg.FAB_FAB_STS 3 7 1
      let d := d.setReg64 .FAB 0 Reg.FAB_REACH 1
      { d with fab := { d.fab with members := mput d.fab.members 0 ⟨2, 0, d.serial, false, d.life.usUp, none⟩ } }
    else (d.setRegF .FAB 0 Reg.FAB_FAB_STS 0 3 1).setRegF .EP 0 Reg.EP_LINK_STS 10 1 1

end Sys2Proof.Machine
end

