-- ==== Sys2Proof/Machine/Sram.lean ====
section
/-! DEFINITION. The coded words of the on-chip SRAM (spec/07_media_codes.md R251 to R263): the errors that words hold against what was written,
their class under the region's code, and the counting of what a read finds. -/
namespace Sys2Proof.Machine
open Sys2Proof

/-! ### Regions (R255) -/

/-- Offset of REGIONn (R262). -/
def regionOff (n : Nat) : Nat := Reg.MEM_REGION0 + 8 * n

/-- A region of R255 is in use. -/
def regionUsed (n : Nat) : Bool := decide (n ≤ 12)

/-- SYM1 is the code of a region. -/
def Dev.sym1 (d : Dev) (n : Nat) : Bool := d.regB .MEM 0 (regionOff n) 26

/-- BASE of regions 1 to 12, in units of 64 KiB (R255). -/
def regionBases : List Nat := [0x800, 0xc00, 0x1400, 0x1440, 0x14c0, 0x14d0, 0x1510, 0x15d0, 0x1660, 0x1740, 0x17c0, 0x17e0]

/-- Region of an SRAM byte address (R255). -/
def regionAt (a : Nat) : Nat := (regionBases.filter (fun b => decide (b ≤ a / 0x10000))).length

/-- SRAM byte address of 64-bit word `w` of region `n`. -/
def regionWord (n w : Nat) : Nat := (0 :: regionBases).getD n 0x1800 * 0x10000 + 8 * w

/-- Queue slots within the SRAM (R255, region 4): slot bytes of queue q from q × 2,048. -/
abbrev slotBase : Nat := 0x14400000

/-- Slot memory that an SRAM address shows. -/
def slotAddr (a : Nat) : Option Nat := if slotBase ≤ a ∧ a < slotBase + 2560 * 2048 then some (a - slotBase) else none

/-- SRAM byte address of 64-bit word `w` of slot memory. -/
def slotWord (w : Nat) : Nat := slotBase + 8 * w

/-! ### Symbols and classes (R251, R252) -/

/-- Symbol `k` of an error pattern: of the 80 stored bits of a word, those that differ from what was written. -/
def errSymbol (p k : Nat) : Nat := p / 256 ^ k % 256

/-- Symbols in error in a SYM2 word: 0 to 7 data, 8 and 9 check. -/
def errSymbols (p : Nat) : List Nat := (List.range 10).filter (fun k => errSymbol p k != 0)

/-- Syndrome of a SYM1 word: its check symbol is the XOR of the eight data symbols. -/
def sym1Syndrome (p : Nat) : Nat := (List.range 9).foldl (fun x k => x ^^^ errSymbol p k) 0

/-- What a read of a coded word finds: no error that the code sees, one symbol that it corrects, or an uncorrectable word. -/
inductive WordClass where
  | clean
  | corrected (symbol : Nat)
  | uncorr
deriving DecidableEq, Repr

/-- Class of an error pattern under SYM1 or SYM2. DEDUCED: R251 names errors in two symbols; one in more of them is uncorrectable too. -/
def classOf (sym1 : Bool) (p : Nat) : WordClass :=
  if sym1 then (if sym1Syndrome p = 0 then .clean else .uncorr)
  else match errSymbols p with
    | [] => .clean
    | [k] => .corrected k
    | _ => .uncorr

/-- An error that no code corrects: every bit of both check symbols. It stands for the fixed uncorrectable pattern of R260. -/
def badPattern : Nat := 0xffff * 2 ^ 64

/-! ### Words -/

/-- Error pattern that the word at SRAM address `a` holds. -/
def Dev.wordErr (d : Dev) (a : Nat) : Nat := (mget d.sram (a / 8 * 8)).getD 0

/-- The word at `a` is left with an error pattern; a write with fresh check bits leaves 0. -/
def Dev.setWordErr (d : Dev) (a p : Nat) : Dev :=
  { d with sram := if p = 0 then mdel d.sram (a / 8 * 8) else mput d.sram (a / 8 * 8) p }

/-- Class of a read of the word at `a` that also meets the bits `upset`. -/
def Dev.wordClass (d : Dev) (a upset : Nat) : WordClass := classOf (d.sym1 (regionAt a)) (d.wordErr a ^^^ upset)

/-- LAST_ADDR and LAST_INFO of an event of a word (R261, R262). -/
def Dev.memLast (d : Dev) (addr symbol port : Nat) (uncorr scrub : Bool) : Dev :=
  (d.setRegN .MEM 0 Reg.MEM_LAST_ADDR (addr % 2 ^ 29)).setRegN .MEM 0 Reg.MEM_LAST_INFO
    (regionAt addr % 16 + symbol % 16 * 16 + b2n uncorr * 256 + port % 16 * 512 + b2n scrub * 8192)

/-- A corrected read: the word is written back, counted and reported (R253). -/
def Dev.memCorrected (d : Dev) (addr symbol port : Nat) (scrub : Bool) : Dev :=
  let off := regionOff (regionAt addr) + 4
  let d := (d.setWordErr addr 0).setRegF .MEM 0 off 0 16 (min 0xffff (d.regF .MEM 0 off 0 16 + 1))
  (d.memLast addr symbol port false scrub).raiseErr .MEM 0 0 noDetail

/-- An uncorrectable read is counted and reported (R261); the region's action follows. -/
def Dev.memBad (d : Dev) (addr port : Nat) (scrub : Bool) : Dev :=
  let off := regionOff (regionAt addr) + 4
  let d := d.setRegF .MEM 0 off 16 16 (min 0xffff (d.regF .MEM 0 off 16 16 + 1))
  (d.memLast addr 0xf port true scrub).raiseErr .MEM 0 1 noDetail

/-- A read of the word at `addr` that the code can serve: a correctable error is corrected on the way (R253). -/
def Dev.memServe (d : Dev) (addr upset port : Nat) (scrub : Bool) : Dev := match d.wordClass addr upset with
  | .corrected k => d.memCorrected addr k port scrub
  | _ => d

/-! ### Injection (R56, R263) -/

/-- What TARGET may name on a page; on MEM a region in use, as no word is written into another. -/
def PT.injTarget (p : PT) (t : Nat) : Bool := match p with
  | .MEM => regionUsed t
  | .CH | .LDP | .DIG => t == 1 || t == 2
  | .JNL | .KEY | .MAD | .SX => t == 1
  | _ => false

/-- The pattern that MASK leaves in a word of MEM: MASK[7:0] on check symbol 8, MASK[15:8] on check symbol 9, of which SYM1 has only the first. -/
def injPattern (sym1 : Bool) (mask : Nat) : Nat := mask % (if sym1 then 256 else 65536) * 2 ^ 64

/-- The armed injection lands on a write to TARGET: on MEM into the word at `addr`, elsewhere into word `addr` of the structure, on LDP the codeword
of media key `addr`. -/
def Dev.inject (d : Dev) (p : PT) (i addr : Nat) : Dev :=
  let mask := d.regF p i Reg.INJ_CTL 0 16
  let t := d.regF p i Reg.INJ_CTL 16 8
  match p with
  | .MEM => d.setWordErr addr (injPattern (d.sym1 t) mask)
  | _ => { d with injected := ⟨p.code, i, t, addr, mask⟩ ::
      d.injected.filter (fun x => !(x.page == p.code && x.inst == i && x.target == t && x.addr == addr)) }

/-- ARM clears and DONE sets (R56). -/
def Dev.injEnd (d : Dev) (p : PT) (i : Nat) : Dev := (d.setRegF p i Reg.INJ_CTL 24 1 0).setRegF p i Reg.INJ_CTL 25 1 1

/-- The word at `a` is written with fresh check bits; an injection armed on its region lands on it. -/
def Dev.freshWord (d : Dev) (a : Nat) : Dev :=
  if d.regB .MEM 0 Reg.INJ_CTL 24 && d.regF .MEM 0 Reg.INJ_CTL 16 8 == regionAt a then (d.inject .MEM 0 a).injEnd .MEM 0 else d.setWordErr a 0

/-- Mask that an injection left on a codeword (R249): target 1 the first parity bits, target 2 CHECK. -/
def Dev.cwInjected (d : Dev) (key target : Nat) : Nat :=
  ((d.injected.find? (fun x => x.page == PT.LDP.code && x.target == target && x.addr == key)).map (·.mask)).getD 0

end Sys2Proof.Machine
end

