-- ==== Sys2Proof/Machine/CmdOps.lean ====
section
/-! DEFINITION. Sectors of commands: places, protection information, encryption, lookup (spec/08_stripes_rebuild.md R292, R293, R676,
spec/10_services.md, spec/13_cipher_cells.md R453). -/
namespace Sys2Proof.Machine
open Sys2Proof

/-! ### Guards (R341) -/

/-- One bit of the 16-bit guard: polynomial 0x8BB7, no reflection. -/
def guard16Bit (c : BitVec 16) : BitVec 16 := if c.getLsbD 15 then (c <<< 1) ^^^ 0x8bb7#16 else c <<< 1

/-- One byte of the 16-bit guard. -/
def guard16Byte (c : BitVec 16) (b : Byte) : BitVec 16 :=
  (List.range 8).foldl (fun c _ => guard16Bit c) (c ^^^ (b.zeroExtend 16 <<< 8))

/-- The 16-bit guard. -/
def guard16 (bs : List Byte) : Nat := (bs.foldl guard16Byte 0#16).toNat

/-- One bit of the 64-bit guard: polynomial 0xAD93D23594C93659, reflected. -/
def guard64Bit (c : BitVec 64) : BitVec 64 := if c.getLsbD 0 then (c >>> 1) ^^^ 0x9a6c9329ac4bc9b5#64 else c >>> 1

/-- One byte of the 64-bit guard. -/
def guard64Byte (c : BitVec 64) (b : Byte) : BitVec 64 :=
  (List.range 8).foldl (fun c _ => guard64Bit c) (c ^^^ b.zeroExtend 64)

/-- The 64-bit guard. -/
def guard64 (bs : List Byte) : Nat := (bs.foldl guard64Byte 0xffffffffffffffff#64 ^^^ 0xffffffffffffffff#64).toNat

/-! ### Where a command's sectors lie (R330, R350, R453) -/

/-- Queue number under which requests of other members, and this device's own for its shards, stand among the commands in flight. -/
abbrev fabQ : Nat := 4096

/-- Place of one sector: band, sector of the band, address for tags and tweak, extent ID. -/
structure Place where
  band : Nat
  sec : Nat
  addr : Nat
  extent : Nat
deriving DecidableEq, Repr

/-- Stripe, shard and sector of the shard that hold LBA `a` of a fabric volume (R420). -/
def Store.stripeOf (v : Store) (a : Nat) : Nat × Nat × Nat :=
  let k := max 1 v.fabK
  (a / (16 * k), a % (16 * k) / 16, a % 16)

/-- Sector of shard `j` of stripe `i` within its holder's shard range (R421). -/
def Store.shardIdx (v : Store) (i j s : Nat) : Nat := (i / max 1 v.width * (v.fabK + v.fabM) + j) * 16 + s

/-- Band and sector of address `a` of a record; of a fabric volume, where its holder keeps it. -/
def Store.place (v : Store) (a : Nat) : Place :=
  if v.fabK = 0 then ⟨v.base + a / 4096, a % 4096, a, 0⟩
  else
    let t := v.stripeOf a
    let x := v.shardIdx t.1 t.2.1 t.2.2
    ⟨v.base + x / 4096, x % 4096, a, 0⟩

/-- Band and sector at index `x` of a shard range. -/
def Store.shardPlace (v : Store) (x : Nat) : Place := ⟨v.base + x / 4096, x % 4096, x, 0⟩

/-- Place of sector `s` of an object. -/
def Obj.place (o : Obj) (s : Nat) : Place := ⟨o.band, o.start + s, s, o.extent⟩

/-- Place of sector `i` of a command (R119): LBA, stream offset, reserved offset, or object sector. -/
def Flight.place (f : Flight) (v : Store) (i : Nat) : Place :=
  match f.cmd.opcode, f.obj with
  | 0x10, _ => v.place (f.resv + i)
  | 0x100, _ => v.shardPlace (f.cmd.addr + i)
  | 0x101, _ => v.shardPlace (f.cmd.addr + i)
  | 0x20, some o => o.place i
  | 0x21, some o => o.place (f.cmd.addr / 4096 + i)
  | _, _ => v.place (f.cmd.addr + i)

/-! ### Merge buffers over slot memory (R257 to R260) -/

/-- Evict the entries of 64-bit word `w`: one with every byte valid is written whole, another by read-modify-write, whose read meets the bits
`upset` too: it is corrected, or leaves the word with the fixed uncorrectable pattern (R258, R260). -/
def Dev.evictWord (d : Dev) (w upset : Nat) : Dev :=
  match d.mbuf.find? (fun e => e.2.1 == w) with
  | none => d
  | some e =>
    let d := { d with mbuf := d.mbuf.filter (fun e => e.2.1 != w) }
    if e.2.2 = 255 then d.freshWord (slotWord w)
    else if d.wordClass (slotWord w) upset = .uncorr then (d.setWordErr (slotWord w) badPattern).raiseErr .MEM 0 3 noDetail
    else (d.memServe (slotWord w) upset e.1 false).freshWord (slotWord w)

/-! ### Encryption (R452, R453) -/

/-- Bytes that a stored sector holds on the media. -/
def Stored.bytes : Stored → List Byte
  | .zero => zeros 4096
  | .plain d => d
  | .xts ab bits tweak d => Config.xtsEncrypt ab bits tweak d

/-- Tweak of a place of record `k`. -/
def tweakOf (k : Nat) (p : Place) : Nat := xtsTweak p.addr p.extent (k % 65536) (k / 65536)

/-- Stored form of a plaintext sector of a record: ciphertext named by the key and tweak, or plaintext (R233). -/
def Dev.encrypt (d : Dev) (k : Nat) (v : Store) (p : Place) (data : List Byte) : Stored :=
  if v.enc then match (d.recordSlot v).bind d.key with
    | some x => .xts x.ab x.bits (tweakOf k p) data
    | none => .plain data
  else .plain data

/-- Plaintext of a stored sector of a record. -/
def Dev.decrypt (d : Dev) (k : Nat) (v : Store) (p : Place) (s : Stored) : List Byte :=
  if v.enc then match (d.recordSlot v).bind d.key with
    | some x => match s with
      | .xts ab bits tweak data =>
        if ab = x.ab ∧ bits = x.bits ∧ tweak = tweakOf k p then data else Config.xtsDecrypt x.ab x.bits (tweakOf k p) s.bytes
      | _ => Config.xtsDecrypt x.ab x.bits (tweakOf k p) s.bytes
    | none => s.bytes
  else s.bytes

/-! ### Protection information (R292, R293) -/

/-- The record as a command sees its PI: a forerunner command always in the 8-byte form (R104). -/
def Flight.piView (f : Flight) (v : Store) : Store := if nbit f.cmd.flags 8 then { v with flags := v.flags &&& 0xfd } else v

/-- Reference tag that the command gives for its sector `i`, modulo 2^T. -/
def Flight.refAt (f : Flight) (v : Store) (i : Nat) : Nat := (f.cmd.refTag + i) % 2 ^ (f.piView v).tagBits

/-- Reference tag stored for a place in mode LBA (R293). -/
def lbaTag (k : Nat) (p : Place) : Nat := if k / 65536 = 0 then p.addr % 2 ^ 36 else p.addr % 2 ^ 48

/-- A failed check: status, DETAIL, expected and actual value. -/
structure PiFail where
  status : Nat
  detail : Nat
  expected : Nat
  actual : Nat
deriving DecidableEq, Repr

/-- Application tag under APP_MASK: `none` where it agrees. -/
def appCheck (c : Cmd) (app detail : Nat) : Option PiFail :=
  if app &&& c.appMask = c.appTag &&& c.appMask then none else some ⟨St.piApp, detail, c.appTag, app⟩

/-- Checkpoints 5 and 6 for one stored sector (R292), in the order guard, reference tag, application tag (R128). `egress` is
false for ATTEST (R365). -/
def piCheck (k : Nat) (v : Store) (f : Flight) (i : Nat) (p : Place) (egress : Bool) (data : List Byte) (guard app ref : Nat) :
    Option PiFail :=
  let g := guard64 data
  let mode := v.refMode (k / 65536)
  let T := (f.piView v).tagBits
  if guard ≠ g then some ⟨St.piGuard, 2, g, guard⟩
  else if mode = 0 ∧ ref ≠ lbaTag k p then some ⟨St.piRef, 2, lbaTag k p, ref⟩
  else if !egress then none
  else
    let out := if mode = 0 then lbaTag k p % 2 ^ T else ref % 2 ^ T
    if mode ≠ 2 ∧ out ≠ f.refAt v i then some ⟨St.piRef, 3, f.refAt v i, out⟩ else appCheck f.cmd app 3

/-- Checkpoint 1 for one sector that arrives (R292): the failure, or the sector with the extended PI to be stored. A forerunner command's
reference tag is compared, or generated, in every mode (R104). -/
def piIngress (k : Nat) (v : Store) (f : Flight) (i : Nat) (p : Place) (s : SectorIn) : PiFail ⊕ SectorIn :=
  let mode := v.refMode (k / 65536)
  let buf := nbit f.cmd.flags 2
  let g := if (f.piView v).piExt then guard64 s.data else guard16 s.data
  let T := (f.piView v).tagBits
  let want := f.refAt v i
  let ref := if mode = 0 then lbaTag k p else if buf then s.ref % 2 ^ T else if mode = 1 ∨ nbit f.cmd.flags 8 then want else 0
  let ok : SectorIn := { data := s.data, guard := guard64 s.data, app := if buf then s.app else f.cmd.appTag, ref := ref }
  if !buf then .inr ok
  else if s.guard ≠ g then .inl ⟨St.piGuard, 1, g, s.guard⟩
  else if (mode ≠ 2 ∨ nbit f.cmd.flags 8) ∧ s.ref % 2 ^ T ≠ want then .inl ⟨St.piRef, 1, want, s.ref⟩
  else match appCheck f.cmd s.app 1 with
    | some e => .inl e
    | none => .inr ok

/-- Big-endian bytes (R340). -/
def beBytes (n v : Nat) : List Byte := (leBytes n v).reverse

/-- PI field returned for a sector (R340, R342, R676). -/
def piOut (k : Nat) (v : Store) (f : Flight) (i : Nat) (p : Place) (st : SecSt) : List Byte :=
  let mode := v.refMode (k / 65536)
  let T := (f.piView v).tagBits
  let fields : List Byte × Nat × Nat × Nat := match st with
    | .got data guard app ref => (data, guard, app, if mode = 0 then lbaTag k p else ref)
    | _ => (zeros 4096, guard64 (zeros 4096), 0, if mode = 0 then lbaTag k p else if mode = 1 then f.refAt v i else 0)
  if (f.piView v).piExt then leBytes 8 fields.2.1 ++ leBytes 2 fields.2.2.1 ++ leBytes 6 (fields.2.2.2 % 2 ^ T)
  else beBytes 2 (guard16 fields.1) ++ beBytes 2 fields.2.2.1 ++ beBytes 4 (fields.2.2.2 % 2 ^ T)

/-! ### Finding sectors (R154, R248, R362) -/

/-- What a read of a poisoned sector returns (R235). -/
def poisonSt (p : Nat) : SecSt :=
  match p with
  | 1 => .failed St.mediaUncorr 3 0 0
  | 2 => .failed St.internalMemory 0x12 0 0
  | _ => .failed St.stripeLost 0 0 0

/-- A sector found with its stored content: decrypted and checked. A shard sector asked by a member goes out as it is stored (R423), and
a fabric sector of zeros without PI is one that was never written. -/
def Dev.openSec (d : Dev) (k : Nat) (v : Store) (f : Flight) (i : Nat) (p : Place) (poison : Nat) (s : Stored) (guard app ref : Nat) : SecSt :=
  if poison ≠ 0 then poisonSt poison
  else if f.q = fabQ then .got s.bytes guard app ref
  else if v.fabric && s == .zero && guard == 0 && app == 0 && ref == 0 then .zeros
  else
    let data := d.decrypt k v p s
    match piCheck k v f i p (f.cmd.opcode != 0x40) data guard app ref with
    | none => .got data guard app ref
    | some e => .failed e.status e.detail e.expected e.actual

/-- Where the escalation of a codeword begins: at step 5 when its die is FAILED (R280). -/
def Dev.escStart (d : Dev) (key : Nat) : Esc :=
  { step := if d.cwGone key then 5 else 1, idx := 0, best := 0, bestUnsat := 0, misdirect := false, erased := false
    cfg := d.reg .LDP 0 Reg.LDP_LDP_CFG, retry := d.reg .LDP 0 Reg.LDP_RETRY_CFG }

/-- A sector of a read: from the cache, as zeros, or to be decoded (R154); held where the map has lost the band (R185). -/
def Dev.findSec (d : Dev) (k : Nat) (v : Store) (f : Flight) (i : Nat) : SecSt :=
  let p := f.place v i
  match mget d.cache (p.band * 4096 + p.sec) with
  | some l => if l.zero && l.poison == 0 then .zeros else d.openSec k v f i p l.poison l.stored l.guard l.app l.ref
  | none => if d.lostEnts.contains p.band then .held else match d.lookup p.band p.sec with
    | .zeros => .zeros
    | .at m => .media m (d.escStart m)

/-- A sector of SNAP_READ of snapshot `s` (R362). -/
def Dev.findSnap (d : Dev) (v : Store) (f : Flight) (s i : Nat) : SecSt :=
  let p := f.place v i
  if d.lostEnts.contains p.band then .held else
  match d.ftl.held.find? (fun h => h.band == p.band && decide (h.lo ≤ s ∧ s ≤ h.hi)) with
  | some h => if h.none then .zeros else
      let m := mediaKey h.sb h.slot p.sec
      .media m (d.escStart m)
  | none => match d.band p.band with
    | some e => if e.slot = noSlot then .zeros else
        let m := mediaKey e.sb e.slot p.sec
        .media m (d.escStart m)
    | none => .zeros

/-- Content of an accepted codeword of sector `i`: PAD and positions not listed read as zeros (R676). -/
def Dev.cwSec (d : Dev) (k : Nat) (v : Store) (f : Flight) (i key : Nat) : SecSt :=
  match mget d.media key with
  | none => .zeros
  | some c => if c.pad then .zeros else d.openSec k v f i (f.place v i) c.poison c.stored c.guard c.app c.ref

end Sys2Proof.Machine
end

