-- ==== Sys2Proof/Machine/Wire.lean ====
section
/-! DEFINITION. The bytes of Filush messages, little-endian (spec/00_scope.md R10, spec/12_filush_fabric.md R415, R417, R426, spec/07_media_codes.md
R234, spec/17_field_update.md R536). -/
namespace Sys2Proof.Machine

/-- Fields of a payload in order: bytes of the number, then zero bytes that follow it (R417, R426, R536). -/
def wireFields : Nat → List (Nat × Nat)
  | 0x01 => (8, 0) :: List.replicate 9 (1, 0) ++ [(1, 0), (2, 0), (4, 0)]
  | 0x02 => [(8, 0), (1, 3), (4, 0)]
  | 0x03 => [(32, 0)]
  | 0x04 => [(32, 0), (96, 0), (2, 2)]
  | 0x05 => List.replicate 64 (2, 0)
  | 0x06 => [(8, 0), (1, 7)]
  | 0x07 => (1, 1) :: List.replicate 5 (1, 0) ++ [(1, 8)]
  | 0x10 => [(4, 0), (2, 2)]
  | 0x11 => [(4, 4)]
  | 0x12 => [(4, 0), (2, 2)]
  | 0x13 => [(4, 0), (2, 0), (1, 1)]
  | 0x14 => [(2, 2), (4, 0), (8, 0)]
  | 0x15 => [(4, 0), (2, 0), (1, 1)]
  | 0x16 => [(2, 2), (4, 0), (4, 4)]
  | 0x17 => [(4, 0), (2, 0), (1, 1)]
  | 0x18 => [(2, 2), (4, 0)]
  | 0x20 => [(8, 0), (8, 0), (4, 4)]
  | 0x21 => [(8, 0), (8, 0), (8, 0)]
  | 0x28 => [(4, 4)]
  | 0x29 => [(4, 0), (2, 2)]
  | 0x2a => [(4, 4), (8, 0)]
  | 0x30 => [(2, 2), (4, 0), (1, 0), (1, 2), (4, 4)]
  | 0x31 => [(4, 0), (1, 3), (4, 4)]
  | 0x32 => [(2, 0), (1, 1), (4, 0), (1, 0), (1, 2), (8, 0)]
  | 0x33 => [(2, 0), (1, 0), (1, 0), (4, 0), (8, 0)]
  | 0x34 => [(2, 0), (1, 1), (4, 0), (1, 0), (1, 0), (1, 1), (4, 0), (4, 0)]
  | 0x35 => [(4, 0), (1, 0), (1, 2), (4, 4)]
  | 0x36 => [(1, 0), (1, 0), (2, 0), (4, 0), (1, 0), (1, 0), (1, 0), (1, 0), (4, 0), (8, 0), (8, 0)]
  | 0x37 => [(8, 8)]
  | 0x38 => [(4, 0), (1, 3), (4, 4)]
  | 0x39 => [(4, 0), (1, 3), (8, 0)]
  | 0x3a => [(4, 4), (8, 0)]
  | 0x40 => [(1, 0), (1, 2), (4, 0), (8, 0)]
  | _ => []

/-- Sectors of a data message: 4,096 stored bytes, then the extended PI: guard, application tag, reference tag (R234). -/
def wireSectors : List Nat → List Byte
  | bytes :: guard :: app :: ref :: rest => leBytes 4096 bytes ++ leBytes 8 guard ++ leBytes 2 app ++ leBytes 6 ref ++ wireSectors rest
  | _ => []

/-- What follows the fields of a payload: sectors; the members' certificate; the BODY of a broadcast, in words of 4 bytes for the kinds that
software gives and of 8 for the device's own; the bytes of an update block. -/
def wireRest (ty : Nat) (body rest : List Nat) : List Byte :=
  if ty = 0x04 then leBytes (body.getD 2 0) (rest.headD 0)
  else if ty = 0x12 then rest.flatMap (leBytes (if body.getD 1 0 < 2 then 4 else 8))
  else if ty = 0x30 ∨ ty = 0x32 ∨ ty = 0x35 ∨ ty = 0x36 then wireSectors rest
  else if ty = 0x40 then rest.map (BitVec.ofNat 8)
  else []

/-- Payload of a message from its numbers. -/
def wirePayload (ty : Nat) (body : List Nat) : List Byte :=
  let fs := wireFields ty
  (List.range fs.length).flatMap (fun k => leBytes (fs.getD k (0, 0)).1 (body.getD k 0) ++ zeros (fs.getD k (0, 0)).2) ++
    wireRest ty body (body.drop fs.length)

/-- Messages of the tree (FLAGS DOWN or UP) and of one link, whose DST is 0xFF (R415). -/
def wireTree (ty flags : Nat) : Bool := ty == 0x01 || ty == 0x02 || ty == 0x07 || flags / 2 % 4 != 0

/-- A message: the 16-byte header of R415, then the payload. -/
def wireBytes (ty flags src dst epoch seq : Nat) (body : List Nat) : List Byte :=
  let p := wirePayload ty body
  leBytes 1 ty ++ leBytes 1 flags ++ leBytes 1 src ++ leBytes 1 (if wireTree ty flags then 0xff else dst) ++ leBytes 3 p.length ++ leBytes 1 0 ++
    leBytes 4 epoch ++ leBytes 4 seq ++ p

end Sys2Proof.Machine
end

