-- ==== Sys2Proof/Machine/FabOps.lean ====
section
/-! DEFINITION. Fabric volumes as one member sees them: routes, messages sent, stripes, mirrors, shards and rebuilds
(spec/12_filush_fabric.md R408, R415 to R428, R437, R438). -/
namespace Sys2Proof.Machine
open Sys2Proof

/-! ### GF(2^8) and the Cauchy code (R268, R422) -/

/-- Multiply by x modulo x^8 + x^4 + x^3 + x^2 + 1. -/
def gfX (a : BitVec 8) : BitVec 8 := if a.getLsbD 7 then (a <<< 1) ^^^ 0x1d#8 else a <<< 1

/-- Product. -/
def gfMul (a b : BitVec 8) : BitVec 8 :=
  ((List.range 8).foldl (fun (r : BitVec 8 × BitVec 8) i => (if b.getLsbD i then r.1 ^^^ r.2 else r.1, gfX r.2)) (0#8, a)).1

/-- Inverse: the 254th power. -/
def gfInv (a : BitVec 8) : BitVec 8 := (List.range 253).foldl (fun r _ => gfMul r a) a

/-- Coefficient c(r, j) (R422). -/
def cauchy (r j : Nat) : BitVec 8 := gfInv (BitVec.ofNat 8 (r + 16) ^^^ BitVec.ofNat 8 j)

/-- Byte strings: sum, and multiple. -/
def gfAdd (a b : List Byte) : List Byte := List.zipWith (· ^^^ ·) a b
def gfScale (c : BitVec 8) (a : List Byte) : List Byte := a.map (gfMul c)

/-- The 4,112 bytes of a sector (R417). -/
def FabSec.bytes (x : FabSec) : List Byte := x.stored.bytes ++ leBytes 8 x.guard ++ leBytes 2 x.app ++ leBytes 6 x.ref

/-- A sector from its 4,112 bytes; one of zeros alone was never written. -/
def fabSecOf (bs : List Byte) : FabSec :=
  if bs.all (· == 0#8) then ⟨.zero, 0, 0, 0⟩
  else ⟨.plain (bs.take 4096), leNat ((bs.drop 4096).take 8), leNat ((bs.drop 4104).take 2), leNat ((bs.drop 4106).take 6)⟩

/-- A sector that arrived in a message. -/
def fabIn (x : SectorIn) : FabSec :=
  if x.data.all (· == 0#8) && x.guard == 0 && x.app == 0 && x.ref == 0 then ⟨.zero, 0, 0, 0⟩ else ⟨.plain x.data, x.guard, x.app, x.ref⟩

/-- Equation that shard `x` gives over the k data shards: the unit vector, or its Cauchy row. -/
def shardRow (k x : Nat) : List (BitVec 8) :=
  if x < k then (List.range k).map (fun j => if j = x then 1#8 else 0#8) else (List.range k).map (fun j => cauchy (x - k) j)

/-- One row of a linear system: coefficients and right-hand side. -/
abbrev GfRow := List (BitVec 8) × List Byte

/-- Subtract the multiple of `p` that clears column `c` of `r`. -/
def clearCol (c : Nat) (p r : GfRow) : GfRow :=
  let f := r.1.getD c 0#8
  if f = 0#8 then r else (List.zipWith (· ^^^ ·) r.1 (gfScale f p.1), gfAdd r.2 (gfScale f p.2))

/-- Gauss-Jordan elimination over columns `c` on: solved rows, then the rest. -/
def gauss : Nat → Nat → List GfRow → List GfRow → List GfRow
  | 0, _, solved, _ => solved
  | n + 1, c, solved, rest =>
    match rest.find? (fun r => r.1.getD c 0#8 != 0#8) with
    | none => solved
    | some p =>
      let i := gfInv (p.1.getD c 0#8)
      let q : GfRow := (gfScale i p.1, gfScale i p.2)
      let others := (updFirst (fun r => r == p) (fun _ => ([], [])) rest).filter (fun r => !r.1.isEmpty)
      gauss n (c + 1) (solved.map (clearCol c q) ++ [q]) (others.map (clearCol c q))

/-- Data shards from any k shards (R422). -/
def solveShards (k : Nat) (parts : List (Nat × List Byte)) : List (List Byte) :=
  (gauss k 0 [] (parts.map (fun (p : Nat × List Byte) => (shardRow k p.1, p.2)))).map (·.2)

/-- Parity shard `r` over the data shards (R422). -/
def parityOf (r : Nat) (datas : List (List Byte)) : List Byte :=
  (datas.zipIdx.map (fun (e : List Byte × Nat) => gfScale (cauchy r e.2) e.1)).foldl gfAdd (zeros 4112)

/-- Shard `x` from k others (R425). -/
def rebuildShard (k x : Nat) (parts : List (Nat × FabSec)) : FabSec :=
  let datas := solveShards k (parts.map (fun (p : Nat × FabSec) => (p.1, p.2.bytes)))
  fabSecOf (if x < k then datas.getD x (zeros 4112) else parityOf (x - k) datas)

/-! ### Routes (R404, R408) -/

/-- FAB_ID at the far end of link `l` of member `id` (R404). -/
def Dev.neighbour (d : Dev) (id l : Nat) : Nat :=
  let s := d.sides
  let c := coordsOf s id
  let step (x n : Nat) : Nat := if l % 2 = 0 then (x + 1) % n else (x + n - 1) % n
  fabIdOf s (if l / 2 = 0 then (step c.1 s.1, c.2.1, c.2.2) else if l / 2 = 1 then (c.1, step c.2.1 s.2.1, c.2.2)
    else (c.1, c.2.1, step c.2.2 s.2.2))

/-- MEMBER state of a FAB_ID (R71, R410). -/
def Dev.memberState (d : Dev) (id : Nat) : Nat := match mget d.fab.members id with
  | some m => m.state
  | none => 0

/-- Links of a member that are UP: this device's own, or as the table says. -/
def Dev.upMask (d : Dev) (id : Nat) : Nat :=
  if id = d.fabId then (d.usedLinks.filter (fun l => d.linkState l == 5)).foldl bitSet 0
  else match mget d.fab.members id with
    | some m => m.links
    | none => 0

/-- Members that may carry routes: JOINING or ACTIVE. -/
def Dev.carries (d : Dev) (id : Nat) : Bool := d.memberState id == 1 || d.memberState id == 2

/-- Members one hop away from `id` over UP links to members that satisfy `p`. -/
def Dev.onward (d : Dev) (p : Nat → Bool) (id : Nat) : List Nat :=
  (d.usedLinks.filter (fun l => nbit (d.upMask id) l)).map (d.neighbour id) |>.filter p

/-- Breadth-first distances: members found with their hops. -/
def Dev.spread (d : Dev) (p : Nat → Bool) : Nat → Nat → List Nat → List (Nat × Nat) → List (Nat × Nat)
  | 0, _, _, found => found
  | n + 1, dist, front, found =>
    let next := ((front.flatMap (d.onward p)).eraseDups).filter (fun x => !found.any (fun f => f.1 == x))
    if next.isEmpty then found else d.spread p n (dist + 1) next (found ++ next.map (fun x => (x, dist + 1)))

/-- Hops from a member to every member it reaches (R408). -/
def Dev.hopsFrom (d : Dev) (src : Nat) : List (Nat × Nat) := d.spread d.carries 64 0 [src] [(src, 0)]

/-- This device reaches a member. -/
def Dev.reaches (d : Dev) (n : Nat) : Bool := n == d.fabId || ((d.hopsFrom d.fabId).any (fun e => e.1 == n))

/-- D_live (R408). -/
def Dev.dLive (d : Dev) : Nat := (d.hopsFrom 0).foldl (fun m e => max m e.2) 0

/-- FAB.REACH and FAB_STS.D_LIVE follow the link map (R408). -/
def Dev.routes (d : Dev) : Dev :=
  if d.fabState = 0 then d
  else
    let mask := (d.hopsFrom d.fabId).foldl (fun m e => bitSet m e.1) 0
    (d.setReg64 .FAB 0 Reg.FAB_REACH mask).setRegF .FAB 0 Reg.FAB_FAB_STS 10 4 (min 15 d.dLive)

/-! ### Messages sent (R415 to R417) -/

/-- Membership epoch. -/
def Dev.epoch (d : Dev) : Nat := d.regN .FAB 0 Reg.FAB_EPOCH

/-- Send a message: FLAGS, EPOCH and SEQ, then the payload's fields. `ack` asks for an answer, which is waited for. -/
def Dev.sendF (d : Dev) (ty dst flags : Nat) (body : List Nat) (ack : Bool) : Dev :=
  let seq := (d.fab.seq + 1) % 2 ^ 32
  let d := { d with fab := { d.fab with
    seq := seq
    unacked := if ack then d.fab.unacked ++ [Unacked.mk ty dst seq body d.life.usUp 0] else d.fab.unacked } }
  let fl := b2n ack ||| flags
  d.emit (.filush ty dst ([fl, d.epoch, seq] ++ body) (wireBytes ty fl d.fabId dst d.epoch seq body))

/-- Send without tree flags. -/
def Dev.send (d : Dev) (ty dst : Nat) (body : List Nat) (ack : Bool) : Dev := d.sendF ty dst 0 body ack

/-- The answer to messages that satisfy `p` has come. -/
def Dev.answered (d : Dev) (p : Unacked → Bool) : Dev :=
  { d with fab := { d.fab with unacked := d.fab.unacked.filter (fun u => !p u) } }

/-- A sector in a message: its stored bytes and PI as numbers. -/
def FabSec.words (x : FabSec) : List Nat := [leNat x.stored.bytes, x.guard, x.app, x.ref]

/-- Next XID. -/
def Dev.nextXid (d : Dev) : Nat × Dev := (d.fab.xid + 1, { d with fab := { d.fab with xid := d.fab.xid + 1 } })

/-! ### Layout as it acts (R420, R428, R437) -/

/-- Members of a fabric volume's set, ascending. -/
def Store.setIds (v : Store) : List Nat := bitList v.fabSet 64

/-- Member `n` of the set, modulo its width. -/
def Store.setAt (v : Store) (n : Nat) : Nat := v.setIds.getD (n % max 1 v.width) 0

/-- Holder of shard `j`, owner and buddy of stripe `i` (R420). -/
def Store.holder (v : Store) (i j : Nat) : Nat := v.setAt (i + j)
def Store.ownerOf (v : Store) (i : Nat) : Nat := v.setAt (i + v.fabK)
def Store.buddyOf (v : Store) (i : Nat) : Nat := v.setAt (i + v.fabK + 1)

/-- A member takes part: reachable and listed ACTIVE or JOINING, or this device. -/
def Dev.takesPart (d : Dev) (n : Nat) : Bool := n == d.fabId || d.reaches n

/-- Who acts as owner of stripe `i` (R428). -/
def Dev.acting (d : Dev) (v : Store) (i : Nat) : Option Nat :=
  if d.takesPart (v.ownerOf i) then some (v.ownerOf i) else if d.takesPart (v.buddyOf i) then some (v.buddyOf i) else none

/-- Who mirrors for the acting owner of stripe `i`: the next member after it in set order that takes part. -/
def Dev.mirrorFor (d : Dev) (v : Store) (i : Nat) : Option Nat :=
  let from_ := if d.fabId = v.ownerOf i then v.fabK + 1 else v.fabK + 2
  ((List.range (v.width - 1)).map (fun n => v.setAt (i + from_ + n))).find? (fun m => m != d.fabId && d.takesPart m)

/-- Holders of stripe `i` that do not take part. -/
def Dev.awayHolders (d : Dev) (v : Store) (i : Nat) : Nat :=
  ((List.range (v.fabK + v.fabM)).filter (fun j => !d.takesPart (v.holder i j))).length

/-- DETAIL of FENCED for an access to stripe `i`: 3 OWNER_UNREACHABLE, 2 UNREACHABLE, 0 where it can be served (R428, R437). -/
def Dev.stripeFenced (d : Dev) (v : Store) (i : Nat) : Nat :=
  if (d.acting v i).isNone then 3 else if v.fabM < d.awayHolders v i then 2 else 0

/-- Stripes that a command's sectors touch: stripe, first sector of the stripe, indexes of the command. -/
def stripeParts (v : Store) (addr count : Nat) : List (Nat × Nat × List Nat) :=
  let n := 16 * max 1 v.fabK
  let lo := addr / n
  let hi := (addr + count + n - 1) / n
  (List.range (hi - lo)).map (fun t =>
    let i := lo + t
    let idx := (List.range count).filter (fun x => (addr + x) / n == i)
    (i, (addr + idx.headD 0) % n, idx))

/-! ### INTENT (R437, R438) -/

/-- A shard band (volume × 2^24 + band) missed by a member: an INTENT record unless one exists; past 262,144 entries the member becomes FULL. -/
def Dev.addIntent (d : Dev) (member band : Nat) : Dev :=
  match mget d.fab.members member with
  | none => d
  | some m =>
    if m.full ∨ d.fab.intents.contains (member, band) then d
    else if d.fab.intents.length < 262144 then ({ d with fab := { d.fab with intents := d.fab.intents ++ [(member, band)] } }).jrec
        [.stripe 0x33 0 (band / 2 ^ 24) (band % 2 ^ 24) 0 0 member 0 0 0]
    else ({ d with fab := { d.fab with
        intents := d.fab.intents.filter (fun e => e.1 != member)
        members := mput d.fab.members member { m with full := true } } }).raiseErr .FAB 0 1 noDetail

/-! ### Requests for shards held here -/

/-- A shard request taken up: a read (0x100) or write (0x101) of `count` sectors from index `idx` of the shard range, for member
`who` under `xid`. -/
def Dev.shardFlight (d : Dev) (op vol idx count who xid snap aux : Nat) (secs : List FabSec) : Dev :=
  let t := d.nextXid
  let staged : List SectorIn := secs.map (fun s => ⟨s.stored.bytes, s.guard, s.app, s.ref⟩)
  let cmd : Cmd := { opcode := op, flags := 0, rsv := false, target := vol, addr := idx, count := count, appTag := 0, appMask := 0
                     dataAddr := snap, piAddr := 0, refTag := 0, arg0 := xid, arg1 := who }
  { t.2 with flights := t.2.flights ++ [
    { q := fabQ, tag := t.1, cmd := cmd, qe := 0, tint := ((d.store vol).map (·.owner)).getD 0, stage := .run, gate := 9, charge := 0
      moved := 0, jobs := [], staged := staged, name := [], obj := none, bands := [], resv := aux, result := 0, order := 0, descs := [] }] }

/-! ### Sectors from other members -/

/-- Ask member `dst` for a sector of a shard (R425). -/
def Dev.askShard (d : Dev) (vol i j s snap dst : Nat) (part : Bool) (use : FabUse) : Dev :=
  let t := d.nextXid
  let d := { t.2 with fab := { t.2.fab with reads := t.2.fab.reads ++ [FabRead.mk t.1 vol i j s snap dst part use] } }
  if dst = d.fabId then match d.store vol with
    | some v => d.shardFlight 0x100 vol (v.shardIdx i j s) 1 d.fabId t.1 snap 0 []
    | none => d
  else d.send 0x34 dst [vol, j, i, s, 1, d.fabId, t.1, snap] true

/-- Shards of stripe `i` that a rebuild may still ask: not yet tried, on members that take part. -/
def Dev.untried (d : Dev) (v : Store) (r : Rebuild) : Option Nat :=
  (List.range (v.fabK + v.fabM)).find? (fun j => j != r.shard && !r.tried.contains j && d.takesPart (v.holder r.stripe j))

/-- Replace a rebuild. -/
def Dev.setRebuild (d : Dev) (r : Rebuild) (x : Option Rebuild) : Dev :=
  let same (y : Rebuild) : Bool := y.use == r.use && y.shard == r.shard && y.sec == r.sec
  { d with fab := { d.fab with rebuilds := d.fab.rebuilds.filter (fun y => !same y) ++ x.toList } }

/-- What is known of sector `idx` of a command. -/
def Dev.putJob (d : Dev) (q tag idx : Nat) (st : SecSt) : Dev :=
  { d with flights := d.flights.map (fun f => if f.q = q ∧ f.tag = tag then
      { f with jobs := f.jobs.map (fun j => if j.idx = idx then { j with st := st } else j) } else f) }

/-- A sector of a command comes from the fabric: PI checked at checkpoint 5 and decrypted at the ingress (R425). -/
def Dev.fabSector (d : Dev) (q tag idx : Nat) (x : FabSec) : Dev :=
  match d.flight q tag with
  | none => d
  | some f => match f.key, f.key.bind d.store with
    | some k, some v => d.putJob q tag idx (d.openSec k v f idx (f.place v idx) 0 x.stored x.guard x.app x.ref)
    | _, _ => d

/-- An old sector for a stripe that is being written. -/
def Dev.fabOld (d : Dev) (vol i j s : Nat) (x : FabSec) : Dev :=
  { d with fab := { d.fab with stripes := d.fab.stripes.map (fun r =>
      if r.volume = vol ∧ r.stripe = i ∧ !r.mirror ∧ r.jseq ≠ 0 then { r with old := mput r.old (16 * j + s) x } else r) } }

/-- Give a sector to its use. -/
def Dev.deliver (d : Dev) (vol i j s : Nat) (use : FabUse) (x : FabSec) : Dev :=
  match use with
  | .cmd q tag idx => d.fabSector q tag idx x
  | .old _ _ => d.fabOld vol i j s x

/-- A use whose sector cannot be had fails with the holder's status. -/
def Dev.undeliver (d : Dev) (use : FabUse) (status : Nat) : Dev :=
  match use with
  | .cmd q tag idx => d.putJob q tag idx (.failed status (if status = St.fenced then 2 else 0) 0 0)
  | .old _ _ => d

/-- Ask `n` more shards for a rebuild. -/
def Dev.askMore (d : Dev) (v : Store) : Nat → Rebuild → Dev
  | 0, _ => d
  | n + 1, r => match d.untried v r with
    | none => d
    | some j =>
      let r' := { r with tried := j :: r.tried }
      ((d.setRebuild r (some r')).askShard r.volume r.stripe j r.sec r.snap (v.holder r.stripe j) true r.use).askMore v n r'

/-- A sector that its holder cannot give is rebuilt from k other shards (R425). -/
def Dev.startRebuild (d : Dev) (vol i j s snap : Nat) (use : FabUse) (status : Nat) : Dev :=
  match d.store vol with
  | none => d.undeliver use status
  | some v =>
    let have_ := ((List.range (v.fabK + v.fabM)).filter (fun x => x != j && d.takesPart (v.holder i x))).length
    if have_ < v.fabK then d.undeliver use status
    else
      let r : Rebuild := ⟨vol, i, j, s, snap, status, use, [], []⟩
      (d.setRebuild r (some r)).askMore v v.fabK r

/-- A member answers for one sector: SUCCESS with its content, or a status (R425). -/
def Dev.fabGot (d : Dev) (xid status : Nat) (x : Option FabSec) : Dev :=
  match d.fab.reads.find? (fun r => r.xid == xid) with
  | none => d
  | some r =>
    let d := { d with fab := { d.fab with reads := d.fab.reads.filter (fun y => y.xid != xid) } }
    if !r.part then
      match status, x with
      | 0, some x => d.deliver r.volume r.stripe r.shard r.sec r.use x
      | _, _ =>
        if status = St.mediaUncorr ∨ status = St.stripeLost then d.startRebuild r.volume r.stripe r.shard r.sec r.snap r.use status
        else d.undeliver r.use status
    else
      match d.fab.rebuilds.find? (fun y => y.use == r.use && y.stripe == r.stripe && y.sec == r.sec && y.tried.contains r.shard), d.store r.volume with
      | some b, some v =>
        match status, x with
        | 0, some x =>
          let b' := { b with got := b.got ++ [(r.shard, x)] }
          if v.fabK ≤ b'.got.length then
            (d.setRebuild b none).deliver b.volume b.stripe b.shard b.sec b.use (rebuildShard v.fabK b.shard b'.got)
          else d.setRebuild b (some b')
        | _, _ =>
          match d.untried v b with
          | some _ => d.askMore v 1 b
          | none => (d.setRebuild b none).undeliver b.use b.status
      | _, _ => d

/-! ### Reads at the ingress (R425) -/

/-- Open record of a stripe that this device keeps as owner. -/
def Dev.openRecord (d : Dev) (vol i : Nat) : Option FStripe :=
  d.fab.stripes.find? (fun r => r.volume == vol && r.stripe == i && !r.mirror && r.jseq != 0)

/-- A sector of a fabric volume for a command at this ingress: what is known at once, and the device after asking for it. -/
def Dev.fabFind (d : Dev) (k : Nat) (v : Store) (f : Flight) (snap i : Nat) : SecSt × Dev :=
  let a := f.cmd.addr + i
  let t := v.stripeOf a
  let holder := v.holder t.1 t.2.1
  let use := FabUse.cmd f.q f.tag i
  let here : SecSt := if snap = 0 then d.findSec k v f i else d.findSnap v f snap i
  let ask (d : Dev) (dst : Nat) : SecSt × Dev := (.far, d.askShard k t.1 t.2.1 t.2.2 snap dst false use)
  let fetch : SecSt × Dev :=
    if holder = d.fabId then (here, d)
    else if d.takesPart holder then ask d holder
    else (.far, d.startRebuild k t.1 t.2.1 t.2.2 snap use St.stripeLost)
  if snap ≠ 0 then fetch
  else match d.acting v t.1 with
    | none => (.failed St.fenced 3 0 0, d)
    | some o =>
      if o ≠ d.fabId then ask d o
      else match (d.openRecord k t.1).bind (fun r => mget r.secs (a % (16 * max 1 v.fabK))) with
        | some x => (d.openSec k v f i (f.place v i) 0 x.stored x.guard x.app x.ref, d)
        | none => fetch

/-! ### Writes at the owner (R424, R426, R428) -/

/-- Replace the stripe record at hand (same volume, stripe and XID of the same ingress). -/
def Dev.setStripe (d : Dev) (r : FStripe) (x : Option FStripe) : Dev :=
  let same (y : FStripe) : Bool := y.volume == r.volume && y.stripe == r.stripe && y.ingress == r.ingress && y.xid == r.xid && y.mirror == r.mirror
  { d with fab := { d.fab with stripes := (d.fab.stripes.map (fun y => if same y then x else some y)).filterMap id } }

/-- Record words of R426. -/
def FStripe.record (r : FStripe) (ty : Nat) : List Nat :=
  [ty, b2n r.mirror + b2n r.acting * 2 + b2n r.degraded * 4, r.volume, r.stripe, r.first, r.count - 1, r.owner, r.buddy, r.pending,
    r.wseq, r.jseq]

/-- Cache lines in use: the cache's own, and the sectors of stripe records (R426). -/
def Dev.cacheUsed (d : Dev) : Nat := d.cache.length + d.fab.stripes.foldl (fun n r => n + r.secs.length) 0

/-- Columns (sectors of a shard) that a write touches, as a hull. -/
def FStripe.cols (r : FStripe) : Nat × Nat :=
  if r.first / 16 = (r.first + r.count - 1) / 16 then (r.first % 16, (r.first + r.count - 1) % 16) else (0, 15)

/-- Old data sectors that the parity of a write needs: 16 × shard + sector. -/
def FStripe.needs (r : FStripe) (k : Nat) : List Nat :=
  let c := r.cols
  (List.range k).flatMap (fun j => ((List.range 16).filter (fun s => decide (c.1 ≤ s ∧ s ≤ c.2) && !mhas r.secs (16 * j + s))).map (16 * j + ·))

/-- Shards that a write changes, as a mask. -/
def FStripe.shards (r : FStripe) (k m : Nat) : Nat :=
  ((List.range k).filter (fun j => r.secs.any (fun e => e.1 / 16 == j))).foldl bitSet 0 |> fun x =>
    (List.range m).foldl (fun x p => bitSet x (k + p)) x

/-- STRIPE_ACK at the ingress: the part is done, or its failure is kept with the command. -/
def Dev.fabAcked (d : Dev) (xid status detail : Nat) : Dev :=
  match d.fab.writes.find? (fun w => w.xid == xid) with
  | none => d
  | some w =>
    let d := { d with fab := { d.fab with writes := d.fab.writes.filter (fun y => y.xid != xid) } }
    if status = 0 then d
    else { d with flights := d.flights.map (fun f => if f.q = w.q ∧ f.tag = w.tag ∧ f.result = 0 then
        { f with result := status + detail * 256 } else f) }

/-- The stripe's part of a write is acknowledged to its ingress: here, or by STRIPE_ACK (R424). -/
def Dev.stripeAck (d : Dev) (r : FStripe) (status detail : Nat) : Dev :=
  if r.ingress = d.fabId then d.fabAcked r.xid status detail
  else d.send 0x31 r.ingress [r.xid, status, detail] false

/-- The journal record of a stripe record (R426). -/
def FStripe.jrec (r : FStripe) (ty : Nat) : JRec :=
  .stripe ty (b2n r.mirror + 2 * b2n r.acting + 4 * b2n r.degraded) r.volume r.stripe r.first (r.count - 1) r.owner r.buddy r.pending r.wseq

/-- Send a record, with its sectors when it opens, to the mirror (R424). -/
def Dev.mirrorSend (d : Dev) (r : FStripe) (ty : Nat) : Dev :=
  d.send 0x36 r.buddy (r.record ty ++ (if ty = 0x30 then r.secs.flatMap (fun e => e.2.words) else [])) (ty == 0x30)

/-- The volume's stripes take no new write while a fabric snapshot holds (R432). -/
def Dev.stripeHeld (d : Dev) (vol : Nat) : Bool := match d.fab.snapHold with
  | some x => x.volume == vol
  | none => false

/-- Start a waiting write of a stripe: its sectors are installed with an FSTRIPE_OPEN record and go to the mirror (R424). -/
def Dev.stripeStart (d : Dev) (r : FStripe) : Dev :=
  match d.store r.volume with
  | none => (d.setStripe r none).stripeAck r St.notFound 0
  | some v => match d.mirrorFor v r.stripe with
    | none => (d.setStripe r none).stripeAck r St.fenced 2
    | some m =>
      let wseq := d.fab.wseq + 1
      let r' := { r with
        acting := d.fabId != v.ownerOf r.stripe, owner := v.ownerOf r.stripe, buddy := m, pending := r.shards v.fabK v.fabM
        wseq := wseq, jseq := d.reg64 .JNL 0 Reg.JNL_JSEQ + 1, degraded := d.awayHolders v r.stripe != 0 }
      let d := { d with fab := { d.fab with wseq := wseq } }.jrec [r'.jrec 0x30]
      (d.setStripe r (some r')).mirrorSend r' 0x30

/-- A waiting record may start: no earlier write to its stripe is open, no hold, and the cache has room. -/
def Dev.stripeReady (d : Dev) (r : FStripe) : Bool :=
  r.jseq == 0 && !r.mirror && (d.openRecord r.volume r.stripe).isNone && !d.stripeHeld r.volume &&
    decide (d.cacheUsed ≤ d.cacheLines) && !d.installHeld

/-- Start every write that may start, in order of arrival. -/
def Dev.fabKick (d : Dev) : Dev :=
  d.fab.stripes.foldl (fun d r => if d.stripeReady r then d.stripeStart r else d) d

/-- A stripe's part of a write comes to its acting owner (R424). -/
def Dev.stripeTake (d : Dev) (vol i first : Nat) (secs : List FabSec) (ingress xid : Nat) : Dev :=
  let r : FStripe :=
    { mirror := false, acting := false, degraded := false, volume := vol, stripe := i, first := first, count := secs.length, owner := 0
      buddy := 0, pending := 0, wseq := 0, jseq := 0, acked := false, built := false, ingress := ingress, xid := xid
      secs := secs.zipIdx.map (fun (e : FabSec × Nat) => (first + e.2, e.1)), old := [] }
  match d.store vol with
  | none => d.stripeAck r St.notFound 0
  | some v =>
    if d.fabFenced then d.stripeAck r St.fenced 0
    else if v.ro ∨ d.life.mode = .readonly then d.stripeAck r St.readOnly 0
    else if d.stripeFenced v i ≠ 0 then d.stripeAck r St.fenced (d.stripeFenced v i)
    else ({ d with fab := { d.fab with stripes := d.fab.stripes ++ [r] } }).fabKick

/-- Change the open record of a stripe. -/
def Dev.mapOpen (d : Dev) (vol i : Nat) (f : FStripe → FStripe) : Dev :=
  match d.openRecord vol i with
  | some y => d.setStripe y (some (f y))
  | none => d

/-- Send one shard of a write to its holder, or take it here; a holder that is away gets an INTENT record (R424, R437). -/
def Dev.shardSend (d : Dev) (v : Store) (r : FStripe) (j first : Nat) (secs : List FabSec) : Dev :=
  let h := v.holder r.stripe j
  let x := v.shardIdx r.stripe j first
  if h = d.fabId then d.shardFlight 0x101 r.volume x secs.length d.fabId (r.stripe * 32 + j) 0 r.wseq secs
  else if d.takesPart h then d.send 0x32 h ([r.volume, j, r.stripe, first, secs.length, r.wseq] ++ secs.flatMap FabSec.words) true
  else Dev.mapOpen (d.addIntent h (r.volume * 2 ^ 24 + x / 4096)) r.volume r.stripe (fun y => { y with pending := bitClr y.pending j, degraded := true })

/-- An open record whose shards have all been acknowledged is DONE: the mirror drops its copy, and the next write starts (R424). -/
def Dev.stripeDone (d : Dev) (vol i : Nat) : Dev :=
  match d.openRecord vol i with
  | none => d
  | some r =>
    if r.built ∧ r.pending = 0 then (((d.jrec [r.jrec 0x32]).setStripe r none).mirrorSend r 0x32).fabKick else d

/-- Sectors of shard `j` that a write sends, from its first to its last: new content, or old content between. -/
def FStripe.dataRun (r : FStripe) (j : Nat) : Nat × List FabSec :=
  let mine := (r.secs.filter (fun e => e.1 / 16 == j)).map (fun e => (e.1 % 16, e.2))
  (((mine.head?).map (·.1)).getD 0, mine.map (·.2))

/-- Newest content of a data sector: new, or old. -/
def FStripe.newest (r : FStripe) (a : Nat) : FabSec := ((mget r.secs a).orElse (fun _ => mget r.old a)).getD ⟨.zero, 0, 0, 0⟩

/-- Parity sectors of parity shard `p` over the columns of a write (R422). -/
def FStripe.parityRun (r : FStripe) (k p : Nat) : List FabSec :=
  let c := r.cols
  (List.range (c.2 + 1 - c.1)).map (fun s => fabSecOf (parityOf p ((List.range k).map (fun j => (r.newest (16 * j + c.1 + s)).bytes))))

/-- The owner sends the new shards once it has the old sectors it needs (R424). -/
def Dev.stripeShards (d : Dev) (vol i : Nat) : Dev :=
  match d.openRecord vol i, d.store vol with
  | some r, some v =>
    if !r.acked ∨ r.built ∨ !(r.needs v.fabK).all (fun a => mhas r.old a) then d
    else
      let d := d.setStripe r (some { r with built := true })
      let d := (List.range v.fabK).foldl (fun d j => if nbit r.pending j then
        d.shardSend v r j (r.dataRun j).1 (r.dataRun j).2 else d) d
      let d := (List.range v.fabM).foldl (fun d p => if nbit r.pending (v.fabK + p) then
        d.shardSend v r (v.fabK + p) r.cols.1 (r.parityRun v.fabK p) else d) d
      d.stripeDone vol i
  | _, _ => d

/-- JNL_ACK: the ingress is answered, and the shards are built (R424). -/
def Dev.mirrored (d : Dev) (vol i : Nat) : Dev :=
  match d.openRecord vol i, d.store vol with
  | some r, some v =>
    if r.acked then d
    else
      let d := (d.setStripe r (some { r with acked := true })).stripeAck r 0 0
      let d := (r.needs v.fabK).foldl (fun d a =>
        let h := v.holder i (a / 16)
        if h = d.fabId ∨ d.takesPart h then d.askShard vol i (a / 16) (a % 16) 0 h false (.old vol i)
        else d.startRebuild vol i (a / 16) (a % 16) 0 (.old vol i) St.stripeLost) d
      d.stripeShards vol i
  | _, _ => d

/-- SHARD_ACK: the shard's PENDING bit clears with FSTRIPE_PROGRESS (R424); a holder that failed keeps the bit set. -/
def Dev.shardAcked (d : Dev) (vol i j status wseq : Nat) : Dev :=
  match d.openRecord vol i with
  | none => d
  | some r =>
    if r.wseq ≠ wseq ∨ status ≠ 0 ∨ !nbit r.pending j then d
    else
      let r' := { r with pending := bitClr r.pending j }
      ((d.jrec [r'.jrec 0x31]).setStripe r (some r')).stripeDone vol i

/-- A request for a shard held here has ended (R424, R425): the member that asked is answered. -/
def Dev.shardEnd (d : Dev) (f : Flight) (status first : Nat) : Dev :=
  let d := { d with flights := d.flights.filter (fun x => !(x.q == f.q && x.tag == f.tag)) }
  let who := f.cmd.arg1
  let xid := f.cmd.arg0
  if f.cmd.opcode = 0x100 then
    let secs : List FabSec := f.jobs.map (fun j => match j.st with
      | .got data g a r => if data.all (· == 0#8) && g == 0 && a == 0 && r == 0 then ⟨.zero, 0, 0, 0⟩ else ⟨.plain data, g, a, r⟩
      | _ => ⟨.zero, 0, 0, 0⟩)
    if who = d.fabId then
      let d := (d.answered (fun u => u.ty == 0x34 && u.body.getD 6 0 == xid)).fabGot xid status (secs.head?)
      d.fab.stripes.foldl (fun d r => d.stripeShards r.volume r.stripe) d
    else d.send 0x35 who ([xid, status, if status = 0 then secs.length else 0, first] ++
      (if status = 0 then secs.flatMap FabSec.words else [])) false
  else if who = d.fabId then d.shardAcked f.cmd.target (xid / 32) (xid % 32) status f.resv
  else d.send 0x33 who [f.cmd.target, xid % 32, status, xid / 32, f.resv] false

/-- Key of the new layout of a volume under reshape (R444): the model keeps it as a record of a kind of its own. -/
def shadowKey (k : Nat) : Nat := 3 * 65536 + k % 65536

/-- Send each stripe's part of a write under one layout to the stripe's acting owner (R424). `secs` gives the sectors in order. -/
def Dev.fabParts (d : Dev) (f : Flight) (k : Nat) (v : Store) (secs : List FabSec) (count : Nat) (newer : Bool) : Dev :=
  (stripeParts v f.cmd.addr count).foldl (fun d p =>
    let t := d.nextXid
    let part := p.2.2.map (fun i => secs.getD i ⟨.zero, 0, 0, 0⟩)
    let dst := (t.2.acting v p.1).getD 64
    let d := { t.2 with fab := { t.2.fab with
      writes := t.2.fab.writes ++ [FabWrite.mk t.1 f.q f.tag k p.1 p.2.1 part dst newer] } }
    if dst = d.fabId then d.stripeTake k p.1 p.2.1 part d.fabId t.1
    else d.send 0x30 dst ([k, p.1, p.2.1, part.length - 1, t.1] ++ part.flatMap FabSec.words) true) d

/-- A write to a volume under reshape: below the cursor it goes through the new layout too; while the reshape is paused, the bands
already copied that it touches are noted (R444, R445). -/
def Dev.fabNewer (d : Dev) (f : Flight) (k : Nat) (secs : List FabSec) : Dev :=
  let cur := d.regN .FAB 0 Reg.FAB_RSHP_CURSOR * 4096
  match d.fab.reshape, d.store (shadowKey k) with
  | some r, some v =>
    if r.volume ≠ k ∨ cur ≤ f.cmd.addr then d
    else
      let n := min f.cmd.count (cur - f.cmd.addr)
      if d.regB .FAB 0 Reg.FAB_RSHP_STS 1 then
        let bands := (List.range ((f.cmd.addr + n + 4095) / 4096 - f.cmd.addr / 4096)).map (fun i => f.cmd.addr / 4096 + i)
        { d with fab := { d.fab with reshape := some { r with again := (r.again ++ bands).eraseDups } } }
      else d.fabParts f (shadowKey k) v secs n true
  | _, _ => d

/-- Begin a write of a fabric volume at its ingress: each stripe's part goes to the stripe's acting owner (R424). `secs` gives the
sectors of the command in order. -/
def Dev.fabWrite (d : Dev) (f : Flight) (k : Nat) (v : Store) (secs : List FabSec) : Dev :=
  ((d.setFlight { f with stage := .fab, result := 0 }).fabParts f k v secs f.cmd.count false).fabNewer f k secs

/-- The highest DETAIL of FENCED over the stripes of an access; 0 where every stripe can be served (R437). -/
def Dev.fabFencedFor (d : Dev) (v : Store) (addr count : Nat) : Nat :=
  if !v.fabric then 0 else (stripeParts v addr count).foldl (fun m p => max m (d.stripeFenced v p.1)) 0

end Sys2Proof.Machine
end

