-- ==== Sys2Proof/Machine/Codeword.lean ====
section
/-! DEFINITION. What the media holds byte by byte: information parts, parity, scrambling, and where a page's codewords stand
(spec/05_band_translation.md R146, spec/07_media_codes.md R233 to R238, spec/08_stripes_rebuild.md R267, R268). -/
namespace Sys2Proof.Machine
open Sys2Proof

/-! ### The codeword (R233 to R235) -/

/-- Offsets 0x0000 to 0x102B of a codeword at media key `key`: data, PI in extended form, metadata up to CHECK. -/
def Cw.head (x : Cw) (key : Nat) : List Byte :=
  x.stored.bytes ++ leBytes 8 x.guard ++ leBytes 2 x.app ++ leBytes 6 x.ref ++ leBytes 3 x.band ++ leBytes 1 (x.gen % 64) ++
    leBytes 2 (x.sector % 4096 + b2n x.pad * 4096) ++ leBytes 1 (b2n x.logged + x.poison % 4 * 2) ++ leBytes 1 0 ++ leBytes 6 x.install ++
    leBytes 2 (if x.logged then key % 4096 else x.sector % 4096) ++ leBytes 4 x.target ++ leBytes 4 x.ageS ++ leBytes 4 0

/-- The 4,144 bytes of the information part, CHECK at their end. -/
def Cw.info (x : Cw) (key : Nat) : List Byte := x.head key ++ leBytes 4 (crc32c (x.head key))

/-! ### Scrambling (R237) -/

/-- One shift of the Galois register, and the bit it gives. DEDUCED: the register shifts towards bit 0, which is the bit taken. -/
def lfsrShift (s : BitVec 32) : BitVec 32 × Bool := (if s.getLsbD 0 then (s >>> 1) ^^^ 0x80200003#32 else s >>> 1, s.getLsbD 0)

/-- Eight shifts: the register after them and the byte, bit 0 first. -/
def lfsrByte (s : BitVec 32) : BitVec 32 × Byte :=
  (List.range 8).foldl (fun (r : BitVec 32 × Byte) i =>
    let t := lfsrShift r.1
    (t.1, if t.2 then r.2 ||| (1#8 <<< i) else r.2)) (s, 0#8)

/-- XOR bytes with the register's output. -/
def scramble : BitVec 32 → List Byte → List Byte
  | _, [] => []
  | s, b :: bs => (b ^^^ (lfsrByte s).2) :: scramble (lfsrByte s).1 bs

/-- The seed of a codeword's place. -/
def scrambleSeed (die plane block page pos : Nat) : BitVec 32 :=
  BitVec.ofNat 32 (0x80000000 + die % 16 * 2 ^ 27 + plane % 4 * 2 ^ 25 + block % 8192 * 2 ^ 12 + page % 1024 * 4 + pos % 4)

/-! ### Parity (R267, R268) -/

/-- Information part of data die `dd` at position `c` of the row whose first key is `row`. -/
def Dev.dataPart (d : Dev) (row dd c : Nat) : Option (List Byte) :=
  let k := row + dd * 16 + c
  (mget d.media k).map (fun x => x.info k)

/-- The 16 information parts at position `c` of a row, when every data die holds one. -/
def Dev.dataParts (d : Dev) (row c : Nat) : Option (List (List Byte)) := (List.range 16).mapM (fun dd => d.dataPart row dd c)

/-- P: the sum of the parts. -/
def parityP (parts : List (List Byte)) : List Byte := parts.foldl gfAdd (zeros 4144)

/-- g^d for g = 0x02. -/
def gfPow : Nat → BitVec 8
  | 0 => 1#8
  | n + 1 => gfX (gfPow n)

/-- Q: the sum of g^d · D_d. -/
def parityQ (parts : List (List Byte)) : List Byte :=
  parts.zipIdx.foldl (fun q (e : List Byte × Nat) => gfAdd q (gfScale (gfPow e.2) e.1)) (zeros 4144)

/-- What the parity member of a row holds at position `c`: P, or Q where `q`; nothing while the row has no parity (R271, R273). -/
def Dev.parityPart (d : Dev) (row c : Nat) (q : Bool) : Option (List Byte) :=
  if d.rowCause row ≠ 1 then none else (d.dataParts row c).map (if q then parityQ else parityP)

/-! ### Where a page stands (R146, R238, R267) -/

/-- First media key of the row that page `p` of block `b` of die `n` belongs to, and which member of it the die is: 0 to 15 a data die, 16 P,
17 Q. -/
def Dev.pageRow (d : Dev) (n b p : Nat) : Option (Nat × Nat) :=
  match d.sbOfBlock n b with
  | none => none
  | some (sb, m) => match d.group (sbGroup sb) with
    | none => none
    | some g =>
      let w := g.members.length
      some (mediaKey sb (p / 16) (p % 16 * 256), (m + w - memberOf w p (sb % 8192) 0) % w)

/-- Media key of position `c` of a page of a superblock; none of a parity page. -/
def Dev.keyAt (d : Dev) (n b p c : Nat) : Option Nat :=
  (d.pageRow n b p).bind (fun e => if e.2 < 16 then some (e.1 + e.2 * 16 + c) else none)

/-- Bits that an injection on the LDP page inverted in the codeword at position `c` of a page (R249). -/
def Dev.injectedAt (d : Dev) (n b p c target : Nat) : Nat := ((d.keyAt n b p c).map (fun k => d.cwInjected k target)).getD 0

/-- Invert the bits of a mask in two bytes from offset `o`. -/
def invertAt (o mask : Nat) (bs : List Byte) : List Byte :=
  (bs.modify o (· ^^^ BitVec.ofNat 8 mask)).modify (o + 1) (· ^^^ BitVec.ofNat 8 (mask / 256))

/-- Information part of position `c` (4 × plane + codeword position) of a page of a superblock. -/
def Dev.infoAt (d : Dev) (n b p c : Nat) : Option (List Byte) :=
  match d.pageRow n b p with
  | none => none
  | some (row, i) =>
    (if i < 16 then d.dataPart row i c else d.parityPart row c (i == 17)).map (invertAt 0x102c (d.injectedAt n b p c 2))

/-- The 18,432 bytes of a plane page of a superblock as the die holds them: four scrambled codewords. -/
def Dev.planeBytes (d : Dev) (n b p plane : Nat) : Option (List Byte) :=
  ((List.range 4).mapM (fun c => (d.infoAt n b p (4 * plane + c)).map (fun i =>
    scramble (scrambleSeed (n % 16) plane b p c) (i ++ invertAt 0 (d.injectedAt n b p (4 * plane + c) 1) (Config.ldpcParity i))))).map List.flatten

/-- Media keys that stand on page `p` of a die's block: none for a parity page. -/
def Dev.onPage (d : Dev) (n b p k : Nat) : Bool := match d.pageRow n b p with
  | some (row, i) => decide (i < 16 ∧ row + i * 16 ≤ k ∧ k < row + i * 16 + 16)
  | none => false

/-! ### Raw pages (R221 to R223) -/

/-- Key of a plane page in `Dev.raw`. -/
def rawKey (n plane b p : Nat) : Nat := ((n * 4 + plane) * 8192 + b) * 1024 + p

/-- Bytes of a plane page as the die gives them. Where the model knows what stands there, `given` is the pattern of bits that read inverted;
elsewhere it is what is read. -/
def Dev.rawPlane (d : Dev) (n b p plane : Nat) (given : List Byte) : List Byte :=
  match (mget d.raw (rawKey n plane b p)).orElse (fun _ => d.planeBytes n b p plane) with
  | some bs => List.zipWith (· ^^^ ·) bs given
  | none => given

/-- The information part that a decode of position `c` of a page gives, where the model knows it: of a page that RAW_PROGRAM wrote, or of a
row. -/
def Dev.rawInfo (d : Dev) (n b p c : Nat) : Option (List Byte) :=
  match mget d.raw (rawKey n (c / 4) b p) with
  | some bs => some ((scramble (scrambleSeed (n % 16) (c / 4) b p c) ((bs.drop (4608 * (c % 4))).take 4608)).take 4144)
  | none => d.infoAt n b p c

/-- A raw program of a page of die `n`: the four plane pages hold the bytes given, and what the row held there is gone. -/
def Dev.rawPut (d : Dev) (n b p : Nat) (bytes : List Byte) : Dev :=
  { d with
    raw := (List.range 4).foldl (fun m plane => mput m (rawKey n plane b p) ((bytes.drop (18432 * plane)).take 18432)) d.raw
    media := d.media.filter (fun e => !d.onPage n b p e.1) }

/-- A raw erase of a block of die `n`: its raw pages and its part of the rows are gone. -/
def Dev.rawWipe (d : Dev) (n b : Nat) : Dev :=
  { d.dropRaw n b with
    media := match d.sbOfBlock n b with
      | some (sb, _) => d.media.filter (fun e => !(keySb e.1 == sb && d.cwDie e.1 == some n))
      | none => d.media }

end Sys2Proof.Machine
end

