-- ==== Sys2Proof/Machine/Decoders.lean ====
section
/-! DEFINITION. Reads of media pages for decoding, and the hard and soft decoders that codewords are granted to
(spec/07_media_codes.md R239 to R242, R250). -/
namespace Sys2Proof.Machine
open Sys2Proof

/-! ### Page reads (R241, R242) -/

/-- PSLC_FEATURE of a channel's record. -/
def Dev.pslcFeature (d : Dev) (ch : Nat) : Nat := ((d.chan ch).map (fun c => c.puevo.pslcFeature)).getD 0

/-- A READ of planes of a page on die `n`, in pSLC or native mode, at retry index `i` with every threshold shifted by `s` steps. -/
def Dev.dieRead (d : Dev) (n block page planes : Nat) (pslc : Bool) (i : Nat) (s : Int) : Dev :=
  let r := d.retryIndex i
  ((r.2.dieMode n (d.pslcFeature (n / 16)) pslc).dieOffsets n r.1 s pslc).emit (.nand 1 n (page + 1024 * block + planes * 2 ^ 23))

/-- SOFT_DELTA of a RETRY_CFG value; 0 acts as 1 (R249). -/
def softDelta (cfg : W32) : Nat := max 1 (fld cfg 16 5)

/-- The two further reads of a soft decode, around index `i` (R241). -/
def Dev.softReads (d : Dev) (n block page planes : Nat) (pslc : Bool) (i : Nat) (cfg : W32) : Dev :=
  let delta : Int := softDelta cfg
  (d.dieRead n block page planes pslc i (-delta)).dieRead n block page planes pslc i delta

/-- Where a codeword stands: its die, block, page and plane mask, and whether in pSLC. -/
def Dev.cwPage (d : Dev) (key : Nat) : Option (Nat × Nat × Nat × Nat × Bool) :=
  (d.cwDie key).bind (fun n => (d.die n).map (fun x =>
    (n, x.blockOf (keySb key % 8192), keyPage key, 2 ^ keyPlane key, (d.sb (keySb key)).pslc)))

/-- Read the page of a codeword at index `i` (R244, steps 1 and 3). -/
def Dev.cwRead (d : Dev) (key i : Nat) : Dev := match d.cwPage key with
  | some (n, b, p, planes, pslc) => d.dieRead n b p planes pslc i 0
  | none => d

/-- The further reads for a soft decode of a codeword (R244, steps 2 and 4). -/
def Dev.cwSoftReads (d : Dev) (key i : Nat) (cfg : W32) : Dev := match d.cwPage key with
  | some (n, b, p, planes, pslc) => d.softReads n b p planes pslc i cfg
  | none => d

/-! ### The pool of soft decoders (R240) -/

/-- Hard decoders of a channel that are FENCED. -/
def Dev.hardFenced (d : Dev) (ch : Nat) : List Nat := ((d.chan ch).map (fun c => c.fenced)).getD []

/-- Both hard decoders of a channel are FENCED: its hard decodes go to the soft pool (R250). -/
def Dev.noHard (d : Dev) (ch : Nat) : Bool := (d.hardFenced ch).contains 0 && (d.hardFenced ch).contains 1

/-- Channel of a codeword whose next decode needs a soft decoder. -/
def Dev.asksSoft (d : Dev) (key : Nat) (e : Esc) : Option Nat := match d.cwDie key with
  | none => none
  | some n =>
    if e.step = 2 ∨ e.step = 4 ∨ ((e.step = 1 ∨ e.step = 3) ∧ d.noHard (n / 16)) then some (n / 16) else none

/-- Requests that the commands in flight have, oldest command first. -/
def Dev.softWants (d : Dev) : List SoftReq :=
  d.flights.flatMap (fun f => if f.stage = .media then f.jobs.filterMap (fun j => match j.st with
    | .media k e => (d.asksSoft k e).map (fun ch => ⟨ch, f.q, f.tag, j.idx, 0⟩)
    | _ => none) else [])

/-- Two requests are for the same codeword. -/
def SoftReq.same (r x : SoftReq) : Bool := r.ch == x.ch && r.q == x.q && r.tag == x.tag && r.idx == x.idx

/-- Requests go to the pool in arrival order, `m` of a channel at once. -/
def poolEntry (m : Nat) (rs : List SoftReq) : List SoftReq :=
  rs.foldl (fun acc r => acc ++ [if r.place = 0 ∧ acc.countP (fun x => x.ch == r.ch && x.place != 0) < m then { r with place := 1 } else r]) []

/-- Free decoders are granted by R39 over the channels (arbiter key 0x340), at most `n` of them. -/
def Dev.softGrant : Nat → Dev → Dev
  | 0, d => d
  | n + 1, d =>
    if 32 - d.softFenced.length ≤ d.soft.countP (fun r => r.place == 2) then d
    else match rrPick 128 (d.arbPtr 0x340) (fun ch => d.soft.any (fun r => r.ch == ch && r.place == 1)) with
      | none => d
      | some ch =>
        Dev.softGrant n ({ d with
          soft := updFirst (fun r => r.ch == ch && r.place == 1) (fun r => { r with place := 2 }) d.soft }.arbWin 0x340 128 ch)

/-- The pool follows the commands in flight: requests that ended go, new ones come, and free decoders are granted. -/
def Dev.softSettle (d : Dev) : Dev :=
  let wants := d.softWants
  let kept := d.soft.filter (fun r => wants.any r.same)
  let m := max 1 (d.regF .LDP 0 Reg.LDP_LDP_CFG 16 3)
  Dev.softGrant 32 { d with soft := poolEntry m (kept ++ wants.filter (fun w => !kept.any w.same)) }

/-- POOL_STS (R249): decoders busy, and the requests at the pool. DEDUCED: a request stays at the pool until its decode ends. -/
def Dev.poolSts (d : Dev) : Nat :=
  let rs := d.softSettle.soft
  rs.countP (fun r => r.place == 2) + 256 * rs.countP (fun r => r.place != 0)

/-! ### A decoder for a codeword (R239, R240) -/

/-- The request of a codeword leaves the pool. -/
def Dev.softDrop (d : Dev) (q tag idx : Nat) : Dev := { d with soft := d.soft.filter (fun r => !(r.q == q && r.tag == tag && r.idx == idx)) }

/-- A decoder is granted to the codeword of sector `idx` of command (q, tag): a soft one that the pool has granted, or one of the channel's two
hard ones by R39 (arbiter key 0x1900 + channel). -/
def Dev.decoder (d : Dev) (q tag idx key : Nat) (e : Esc) : Option Dev := match d.cwDie key with
  | none => some d
  | some n =>
    if (d.asksSoft key e).isSome then
      let d := d.softSettle
      if d.soft.any (fun r => r.q == q && r.tag == tag && r.idx == idx && r.place == 2) then some (d.softDrop q tag idx) else none
    else
      let ch := n / 16
      (rrPick 2 (d.arbPtr (0x1900 + ch)) (fun k => !(d.hardFenced ch).contains k)).map (fun k => d.arbWin (0x1900 + ch) 2 k)

end Sys2Proof.Machine
end

