-- ==== Sys2Proof/Machine/Flash.lean ====
section
/-! DEFINITION. Meanings of the flash channel commands (spec/06_flash_channels.md). -/
namespace Sys2Proof.Machine
open Sys2Proof

/-! ### Discovery and training (R201 to R209) -/

/-- State of a die that discovery finds with page `pg` (R224). One that was FAILED, or that a channel fault kept out, stays so (R231). -/
def Dev.foundDie (d : Dev) (n : Nat) (pg ident : List Byte) : DieSt :=
  match d.die n with
  | some x =>
    if x.state = 8 then { x with keptOut := x.keptOut || (x.cause == 4 && ident == x.ident) }
    else { x with
      state := 9, blocks := pageBlocks pg, geo := geoOf pg, rated := pageRated pg, ident := ident, cur := none, held := none, susp := 0
      sinceUs := d.life.usUp, retry := 0, shift := 0, pslc := false }
  | none =>
    { state := 9, susp := 0, cause := 0, data := false, geo := geoOf pg, rated := pageRated pg, ident := ident, block := 0, pslc := false
      blocks := pageBlocks pg, spares := [], factoryBad := [], grownBad := [], subst := [], resv := [], erases := [], lastTimeout := none
      cur := none, held := none, reads := 0, sinceUs := d.life.usUp, runUs := d.life.usUp, retry := 0, shift := 0, resetFor := 0
      keptOut := false }

/-- The dies of a package with the page and READ ID of their chip enable (R196, R201): LUNs of the enables whose page has a good copy. -/
def pkgDies (f : PkgFound) : List (Nat × List Byte × List Byte) :=
  (f.filter CeFound.present).flatMap (fun c => match c.page with
    | some pg => (List.range (pageLuns pg)).map (fun l => (4 * c.ce + l, pg, c.ident))
    | none => [])

/-- What the sequencer puts on the bus in discovery (R201): RESET and READ ID on every chip enable; on the present ones the parameter page
and ZQ CALIBRATION LONG. -/
def Dev.discoverBus (d : Dev) (ch : Nat) (f : PkgFound) : Dev :=
  let on (d : Dev) (op arg : Nat) (ces : List Nat) : Dev := ces.foldl (fun d k => d.emit (.nand op (ch * 16 + 4 * k) arg)) d
  let there := (f.filter CeFound.present).map (·.ce)
  on (on (on (on d 7 0 [0, 1, 2, 3]) 8 0x20 [0, 1, 2, 3]) 9 0 there) 0x0a 1 there

/-- CHANNEL_DISCOVERY: the channel's page is STARTING and the sequencer reads the package (R201 to R203). DESIGN CHOICE: the channel's record
and identification are those of its lowest chip enable with a good page. -/
def Dev.discover (ch : Nat) (f : PkgFound) (d : Dev) : Dev :=
  if 128 ≤ ch ∨ d.page .CH ch ≠ .starting then d
  else
    let d := d.discoverBus ch f
    let found := pkgDies f
    let d := found.foldl (fun d e => { d with dies := mput d.dies (ch * 16 + e.1) (d.foundDie (ch * 16 + e.1) e.2.1 e.2.2) }) d
    let old := d.chan ch
    let pg := (found.head?.map (·.2.1)).getD []
    let c : ChSt :=
      { puevo := puevoOf pg, modes := Config.nvModes pg, tR := fieldAt pg 137 2, tProg := fieldAt pg 133 2, tBers := fieldAt pg 135 2
        lists := (old.map (·.lists)).getD [], ready := false, below := none, trainS := d.nowS, trainTemp := (old.map (·.trainTemp)).getD 0
        fenced := (old.map (·.fenced)).getD [], rated := pageRated pg, bits := fieldAt pg 102 1, jedec := fieldAt pg 64 1
        manuf := (pg.drop 32).take 12, model := (pg.drop 44).take 20, trainRd := [] }
    let d := { d with chans := mput d.chans ch c }
    let d := d.setRegF .CH ch Reg.CH_CH_STS 8 5 (d.presentOf ch).length
    if f.any (fun c => c.present && c.page.isNone) then d.raiseErr .CH ch 8 noDetail else d

def execChannelDiscovery (ch : Nat) (found : PkgFound) (s : State) : Host.Outcome State Fault Refusal :=
  run (Dev.discover ch found) s

/-- RATE_MAX as it acts (R229). -/
def Dev.rateMax (d : Dev) (ch : Nat) : Nat := min 7 (d.regF .CH ch Reg.CH_CH_CFG 0 4)

/-- An extended rate code is allowed on a channel (R207). -/
def Dev.extAllowed (d : Dev) (ch : Nat) (c : ChSt) (rate : Nat) : Bool :=
  d.regB .CH ch Reg.CH_CH_CFG 4 && c.puevo.valid && nbit c.puevo.flags (if rate = 7 then 0 else 1) &&
    decide (rate ≤ d.rateMax ch ∧ rate ≤ c.puevo.maxRate)

/-- The rates that training tries, fastest first (R207); a full training that follows a failed retrain starts below the rate it had (R209). -/
def Dev.trainRates (d : Dev) (ch : Nat) (c : ChSt) : List Nat :=
  let nv := min (d.rateMax ch) c.nvRate
  ([7, 6].filter (d.extAllowed ch c) ++ (List.range (nv + 1)).reverse).filter (fun r => match c.below with
    | some b => decide (r < b)
    | none => true)

/-- The eye that a rate shows (R207): at DDR800 and below it reports as 63. -/
def eyeAt (rate eye : Nat) : Nat := if rate ≤ 4 then 63 else min 63 eye

/-- A training passes at a rate (R207): a narrowest eye of at least EYE_MIN, or any at DDR800 and below. -/
def Dev.eyePasses (d : Dev) (ch rate : Nat) : Option Nat → Bool
  | none => false
  | some e => decide (rate ≤ 4) || decide (d.regF .CH ch Reg.CH_PHY_CFG 16 6 ≤ e)

/-- The walk of R207 down the rates with the eyes found: the rates tried, and the rate that passed with its eye. `none` while the eyes give no
end to it. -/
def Dev.trainWalk (d : Dev) (ch : Nat) : List Nat → List (Option Nat) → Option (List Nat × Option (Nat × Nat))
  | [], _ => some ([], none)
  | _ :: _, [] => none
  | r :: rs, e :: es =>
    if d.eyePasses ch r e then some ([r], some (r, eyeAt r (e.getD 0)))
    else (d.trainWalk ch rs es).map (fun t => (r :: t.1, t.2))

/-- CHANNEL_TRAINING: training of the channel begins (R207). -/
def Dev.trainStart (ch : Nat) (d : Dev) : Dev :=
  match d.chan ch with
  | none => d
  | some _ =>
    if d.page .CH ch ≠ .starting then d
    else d.setRegF .CH ch Reg.CH_CH_STS 13 1 1

def execChannelTraining (ch : Nat) (s : State) : Host.Outcome State Fault Refusal := run (Dev.trainStart ch) s

/-- A die enters data service after training at `rate` (R203): its geometry fits and is that of the channel's first die. DESIGN CHOICE: where no
die 0 is present, the lowest die stands for it. -/
def Dev.dataDie (d : Dev) (ch : Nat) (x : DieSt) (rate : Nat) : Bool :=
  x.geo.fits && (match d.presentOf ch with
    | (_, y) :: _ => x.geo == y.geo
    | [] => false) && decide (x.blocks ≤ 8192) && decide (3 ≤ rate) && !d.regB .CH ch Reg.CH_CH_CFG 5 && !x.keptOut && x.state != 8

/-- PHY_STS after a training (R229). -/
def Dev.phySts (d : Dev) (ch eye : Nat) (t : Trained) (first : Bool) : Dev :=
  let cnt := d.regF .CH ch Reg.CH_PHY_STS 16 16
  d.setRegN .CH ch Reg.CH_PHY_STS (min 63 eye + t.bit % 16 * 64 + b2n t.write * 1024 + t.die % 16 * 2048 +
    b2n first * 32768 + (cnt + 1) % 65536 * 65536)

/-- A change of a die's data service changes the unassigned pool: a die in data service that no group holds belongs to it. -/
def Dev.poolDie (d : Dev) (n : Nat) : Dev :=
  if d.formatted ∧ (d.dieGroup n).isNone ∧ !d.ftl.pool.contains n then d.mapFtl (fun f => { f with pool := f.pool ++ [n] }) else d

/-- Every rate tried is set on every present die (R207, step 2). -/
def Dev.triedRates (d : Dev) (ch : Nat) (c : ChSt) (rates : List Nat) : Dev :=
  rates.foldl (fun d r => (d.presentOf ch).foldl (fun d e => d.rateFeature c e.1 r) d) d

/-- TRAINING_DONE (R207 to R209): the walk down the rates ends; the channel's rate and the dies' service follow. A full training after a retrain
that lands at a lower rate sets RATE_DROP, and a drop below DDR400 takes the channel's dies out of data service as failed dies. -/
def Dev.trainDone (ch : Nat) (t : Trained) (d : Dev) : Dev :=
  match d.chan ch with
  | none => d
  | some c => match d.trainWalk ch (d.trainRates ch c) t.eyes with
    | none => d
    | some (tried, won) =>
      if !d.regB .CH ch Reg.CH_CH_STS 13 then d
      else
        let was := d.regF .CH ch Reg.CH_CH_STS 0 4
        let had := d.regB .CH ch Reg.CH_CH_STS 5
        let rate := (won.map (·.1)).getD 0
        let d := (d.triedRates ch c tried).mapChan ch (fun c => { c with
          trainS := d.nowS, trainTemp := t.temp, trainRd := t.rd, ready := true, below := none })
        let d := (d.phySts ch ((won.map (·.2)).getD 0) t (won.isSome && tried.length == 1)).setReg64 .CH ch Reg.CH_TRAIN_WR (t.wr % 2 ^ 60)
        let service := if (d.presentOf ch).any (fun e => e.2.data) then d.presentOf ch else []
        let d := (d.diesOf ch).foldl (fun d e => d.mapDie e.1 (fun x => { x with
          state := if x.state = 9 then 1 else x.state
          data := d.dataDie ch x rate })) d
        let d := d.setRegF .CH ch Reg.CH_CH_STS 0 6 (rate + b2n (decide (6 ≤ rate)) * 16 + b2n won.isSome * 32)
        let d := (d.setRegF .CH ch Reg.CH_CH_STS 13 1 0).setIrq .CH ch 0
        let d := if rate < 3 then d.raiseErr .CH ch 4 noDetail else d
        let d := if had ∧ rate < was ∧ d.page .CH ch = .serving then d.setIrq .CH ch 1 else d
        let d := if had ∧ 3 ≤ was ∧ rate < 3 then service.foldl (fun d e => d.dieFail e.1 4) d else d
        (d.diesOf ch).foldl (fun d e => if e.2.data then d.poolDie e.1 else d) d

def execTrainingDone (ch : Nat) (t : Trained) (s : State) : Host.Outcome State Fault Refusal := run (Dev.trainDone ch t) s

/-- Difference of two signed 12-bit temperatures in 1/8 °C. -/
def tempGap (a b : Nat) : Nat := ((signed 12 a) - (signed 12 b)).natAbs

/-- RETRAIN (R209): RETRAIN_S has passed, or the channel's zone has moved by RETRAIN_DT; `eye` is the narrowest eye at the rate in use, in taps. A
failing eye holds the channel's entries and starts a full training from the next lower rate. -/
def Dev.retrain (ch : Nat) (eye : Option Nat) (t : Trained) (d : Dev) : Dev :=
  match d.chan ch with
  | none => d
  | some c =>
    let period := d.regF .CH ch Reg.CH_PHY_CFG 0 16
    let dt := d.regF .CH ch Reg.CH_PHY_CFG 22 5
    let due := (period != 0 && decide (period ≤ d.nowS - c.trainS)) || (dt != 0 && decide (8 * dt ≤ tempGap t.temp c.trainTemp))
    let rate := d.regF .CH ch Reg.CH_CH_STS 0 4
    if d.page .CH ch ≠ .serving ∨ d.regB .CH ch Reg.CH_CH_STS 13 ∨ !due then d
    else if d.eyePasses ch rate eye then
      let d := d.mapChan ch (fun c => { c with trainS := d.nowS, trainTemp := t.temp, trainRd := t.rd })
      ((d.phySts ch (eyeAt rate (eye.getD 0)) t true).setReg64 .CH ch Reg.CH_TRAIN_WR (t.wr % 2 ^ 60)).setIrq .CH ch 0
    else (d.mapChan ch (fun c => { c with below := some rate })).setRegF .CH ch Reg.CH_CH_STS 13 1 1

def execRetrain (ch : Nat) (eye : Option Nat) (t : Trained) (s : State) : Host.Outcome State Fault Refusal := run (Dev.retrain ch eye t) s

/-! ### Lists and entries (R210 to R214) -/

/-- Entries of a lane that have not ended. -/
def ChSt.queued (c : ChSt) (lane : Nat) : Nat :=
  (c.lists.filter (fun l => l.lane == lane)).foldl (fun n l => n + (l.entries.filter (fun e => match e.2 with
    | .ended _ => false
    | _ => true)).length) 0

/-- An ERASE entry of an allocation carries PSLC exactly when the superblock is allocated for pSLC use (R168). -/
def Dev.eraseMode (d : Dev) (ch : Nat) (e : Entry) : Bool :=
  e.op != 3 || nbit e.flags 5 || (match d.sbOfBlock (ch * 16 + e.die) e.block with
    | some (sb, _) => (d.sb sb).state != 1 || nbit e.flags 1 == (d.sb sb).pslc
    | none => true)

/-- Lowest number of the model's own that no list of the channel has, nor a record of one. -/
def Dev.freeList (d : Dev) (ch : Nat) : Nat :=
  let used := ((d.chan ch).map (fun c => c.lists.map (·.id))).getD [] ++ (d.listsDone.filter (fun l => l.ch == ch)).map (·.id)
  ((List.range (used.length + 1)).find? (fun i => !used.contains i)).getD 0

/-- Put a list at the end of a lane. -/
def Dev.pushList (d : Dev) (ch lane lid : Nat) (entries : List Entry) : Dev :=
  let id := d.freeList ch
  d.mapChan ch (fun c => { c with lists := c.lists ++ [⟨id, lid, lane, entries.map (fun e => (e, EntryRun.queued)), 0, none, 0⟩] })

/-- LIST_SUBMIT (R210, R212): a list with LIST_ID `lid` goes to a lane that has room for it; queue engines place only READ entries. -/
def Dev.listSubmit (ch lane lid : Nat) (entries : List Entry) (d : Dev) : Dev :=
  match d.chan ch with
  | none => d
  | some c =>
    let open_ := d.page .CH ch == .serving || d.page .CH ch == .starting
    let ok := decide (lane < 4 ∧ 1 ≤ entries.length ∧ entries.length ≤ 64 ∧ c.queued lane + entries.length ≤ 128) &&
      (lane != 0 || entries.all (fun e => e.op == 1)) && (d.life.mode != .flush || lane == 3) && entries.all (d.eraseMode ch)
    if open_ && ok then d.pushList ch lane lid entries else d

def execListSubmit (ch lane lid : Nat) (entries : List Entry) (s : State) : Host.Outcome State Fault Refusal :=
  run (Dev.listSubmit ch lane lid entries) s

/-- The entry is malformed (R212) for a die of `blocks` blocks per plane. -/
def entryInvalid (e : Entry) (blocks : Nat) : Bool :=
  e.op == 0 || decide (0x0c < e.op) || e.rsv || ((e.op == 2 || e.op == 3) && e.planes != 15) || (e.op == 1 && e.planes == 0) ||
    decide ((if nbit e.flags 1 then 191 else 767) < e.page) || decide (blocks ≤ e.block)

/-- SUSP_READS as it acts (R229). -/
def Dev.suspReads (d : Dev) (ch : Nat) : Nat := max 1 (d.regF .CH ch Reg.CH_SUSP_CFG 26 3)

/-- An entry is ready for a die as it stands (R213): to a suspended die only a READ within SUSP_READS, STATUS, GET_FEATURE (R216), and the RESET
of R218 and R224 go. -/
def Dev.entryReady (d : Dev) (n : Nat) (x : DieSt) (e : Entry) : Bool :=
  !(x.state == 5 || x.state == 6) || e.op == 4 || e.op == 6 || e.op == 7 || (e.op == 1 && decide (x.reads < d.suspReads (n / 16)))

/-- The oldest unissued entry for a die on a lane: list and index (R213). -/
def ChSt.nextOn (c : ChSt) (lane die : Nat) : Option (Nat × Nat × Entry) :=
  (c.lists.filter (fun l => l.lane == lane)).findSome? (fun l =>
    ((List.range l.entries.length).find? (fun i => match l.entries[i]? with
      | some (e, .queued) => e.die == die
      | _ => false)).bind (fun i => (l.entries[i]?).map (fun e => (l.id, i, e.1))))

/-- The next entry chosen for a die by R39 over the lanes whose oldest unissued entry for it is ready (arbiter key 0x1000 + die number). -/
def Dev.nextEntry (d : Dev) (n : Nat) : Option (Nat × Nat × Nat × Entry) :=
  match d.chan (n / 16) with
  | none => none
  | some c =>
    let ready (lane : Nat) : Bool := match c.nextOn lane (n % 16), d.die n with
      | some (_, _, e), some x => d.entryReady n x e
      | some _, none => true
      | none, _ => false
    match rrPick 4 (d.arbPtr (0x1000 + n)) ready with
    | some lane => (c.nextOn lane (n % 16)).map (fun e => (lane, e))
    | none => none

/-- The block under erase on a die: its running or suspended ERASE's (R219). -/
def Dev.erasing (d : Dev) (n : Nat) : Option Nat := match d.die n with
  | some x => if x.state = 4 ∨ x.state = 6 then some x.block else none
  | none => none

/-- Mark an entry issued. -/
def Dev.markIssued (d : Dev) (ch id i : Nat) : Dev :=
  d.mapChan ch (fun c => { c with lists := updFirst (fun l => l.id == id) (fun l => { l with
    firstUs := some (l.firstUs.getD d.life.usUp)
    entries := l.entries.modify i (fun e => (e.1, .issued d.life.usUp)) }) c.lists })

/-- What a sequencer sends before and with an entry (R212, R242): the mode, the offsets of a READ, the features of a SET_FEATURE, the
operation. -/
def Dev.entryBus (d : Dev) (n : Nat) (e : Entry) : Dev :=
  let d := if e.op ≤ 3 then d.dieMode n (d.pslcFeature (n / 16)) (nbit e.flags 1) else d
  let d := if e.op = 1 then (let r := d.retryIndex e.idx; r.2.dieOffsets n r.1 0 (nbit e.flags 1)) else d
  if e.op = 5 then
    let d := d.emit (.feature n (e.arg % 256) e.params)
    if e.arg % 256 = d.pslcFeature (n / 16) then d.mapDie n (fun x => { x with pslc := e.params.headD 0#8 == 1#8 }) else d
  else d.emit (.nand e.op n e.busArg)

/-- Send an entry to its die (R212, R213, R224). -/
def Dev.issue (d : Dev) (n id i : Nat) (e : Entry) : Dev :=
  ((d.markIssued (n / 16) id i).entryBus n e).mapDie n (fun x => { x with
    cur := some (id, i)
    block := if x.state = 1 ∧ e.op ≤ 3 then e.block else x.block
    sinceUs := if x.state = 1 then d.life.usUp else x.sinceUs
    runUs := if x.state = 1 ∨ e.op = 7 then d.life.usUp else x.runUs
    susp := if x.state = 1 then 0 else x.susp
    reads := if x.state ≠ 1 ∧ e.op = 1 then x.reads + 1 else x.reads
    resetFor := if e.op = 7 then 2 else x.resetFor
    state := if e.op = 7 then 7 else if x.state ≠ 1 then x.state else if e.op = 1 then 2 else if e.op = 2 then 3 else if e.op = 3 then 4 else 1 })

/-- Entries leave the channel only while its page serves or discovers; a held channel (R209) issues none. -/
def Dev.mayIssue (d : Dev) (ch : Nat) : Bool :=
  (match d.page .CH ch with
    | .serving => !d.regB .CH ch Reg.CH_CH_STS 13
    | .starting => true
    | _ => false)

/-- The next entry of die `n` can go out or end at once (R213). -/
def Dev.entryActs (d : Dev) (n : Nat) : Bool := match d.nextEntry n with
  | none => false
  | some (_, _, _, e) => d.seqMayIssue (n / 16) e.op e.die && (match d.die n with
    | none => true
    | some x => x.state == 0 || x.state == 8 || entryInvalid e x.blocks || (e.op == 1 && d.erasing n == some e.block) ||
        (x.cur.isNone && (x.state == 1 || x.state == 5 || x.state == 6)))

/-- The die that the channel's bus is granted to by R39 (arbiter key 0x1800 + channel, R213). -/
def Dev.busDie (d : Dev) (ch : Nat) : Option Nat := rrPick 16 (d.arbPtr (0x1800 + ch)) (fun k => d.entryActs (ch * 16 + k))

/-- ENTRY_ISSUE (R212, R213, R216, R219, R220): the bus is granted to die `n`, and its next entry goes to it or fails at once. DEDUCED: an absent
die has no blocks, so that an entry that names one is malformed (R212). -/
def Dev.entryIssue (n : Nat) (d : Dev) : Dev :=
  match d.nextEntry n with
  | some (lane, id, i, e) =>
    let ch := n / 16
    let won := ((d.arbWin (0x1000 + n) 4 lane).arbWin (0x1800 + ch) 16 (n % 16)).seqIssued ch
    let malformed := (won.endEntry ch id i 8).raiseErr .CH ch 6 noDetail
    if !d.mayIssue ch ∨ d.busDie ch ≠ some (n % 16) then d
    else match d.die n with
      | none => malformed
      | some x =>
        if x.state = 0 then malformed
        else if x.state = 8 then won.endEntry ch id i 4
        else if entryInvalid e x.blocks then malformed
        else if e.op = 1 ∧ d.erasing n = some e.block then
          (if nbit e.flags 5 then won.endEntry ch id i 5 else (won.endEntry ch id i 6).raiseErr .CH ch 5 noDetail)
        else won.issue n id i e
  | none => d

def execEntryIssue (n : Nat) (s : State) : Host.Outcome State Fault Refusal := run (Dev.entryIssue n) s

/-- The entry a die runs. -/
def Dev.curEntry (d : Dev) (n : Nat) : Option (Nat × Nat × Entry) :=
  match d.die n, d.chan (n / 16) with
  | some x, some c => match x.cur with
    | some (id, i) => ((c.lists.find? (fun l => l.id == id)).bind (fun l => l.entries[i]?)).map (fun e => (id, i, e.1))
    | none => none
  | _, _ => none

/-- The block an entry named is handled as failed under R177, unless the entry was raw (R223). -/
def Dev.entryBlockFail (d : Dev) (n : Nat) (e : Entry) : Dev :=
  if nbit e.flags 5 then d
  else match d.sbOfBlock n e.block with
    | some (sb, m) => d.blockFail sb m
    | none => d

/-- When the entry a die runs was issued. -/
def Dev.curSince (d : Dev) (n : Nat) : Nat := match d.die n, d.chan (n / 16) with
  | some x, some c => match x.cur with
    | some (id, i) => (match (c.lists.find? (fun l => l.id == id)).bind (fun l => l.entries[i]?) with
      | some (_, .issued t) => t
      | _ => 0)
    | none => 0
  | _, _ => 0

/-- ENTRY_COMPLETE (R214, R224, R230): the die reports ready with a status of R214, and STATUS or GET_FEATURE give VALUE.
A WAIT holds the die ARG microseconds (R212). -/
def Dev.entryComplete (n status value : Nat) (d : Dev) : Dev :=
  match d.die n, d.curEntry n with
  | some x, some (id, i, e) =>
    let ch := n / 16
    let fits := status = 0 ∨ (status = 1 ∧ e.op = 2) ∨ (status = 2 ∧ e.op = 3) ∨ (status = 0xa ∧ e.op = 1 ∧ !nbit e.flags 3)
    if !decide fits || x.state == 7 || x.state == 8 || (e.op == 0x0c && decide (d.life.usUp - d.curSince n < e.arg)) then d
    else
      let d := d.mapDie n (fun x => { x with cur := none, state := if x.state ≤ 4 then 1 else x.state })
      let d := if e.op = 4 ∨ e.op = 6 then d.mapChan ch (fun c => { c with
          lists := updFirst (fun l => l.id == id) (fun l => { l with value := value % 2 ^ 32 }) c.lists }) else d
      let d := if status = 1 then ((d.incWrap .CH ch Reg.CH_PGM_FAIL_CNT 1).raiseErr .CH ch 0 noDetail).entryBlockFail n e
        else if status = 2 then ((d.incWrap .CH ch Reg.CH_ERS_FAIL_CNT 1).raiseErr .CH ch 1 noDetail).entryBlockFail n e
        else d
      d.endEntry ch id i status
  | _, _ => d

def execEntryComplete (n status value : Nat) (s : State) : Host.Outcome State Fault Refusal :=
  run (Dev.entryComplete n status value) s

/-- Longest time declared for an operation, in µs (R215): of the Puevo record, or of the ONFI page where the channel has no valid one.
DEDUCED: a time that neither names (STATUS, features, RESET, READ_ID, READ_PARAM, ZQ_CAL, TRAIN, WAIT) is no busy time. -/
def ChSt.declared (c : ChSt) (e : Entry) : Nat :=
  if !c.puevo.valid then (if e.op = 1 then c.tR else if e.op = 3 then c.tBers else c.tProg)
  else if e.op = 1 then c.puevo.tR else if e.op = 3 then c.puevo.tBers
  else if nbit e.flags 1 then c.puevo.tProgSlc else c.puevo.tProgQlc

/-- Time that the operation of a die has run: that of a READ on a suspended die from its issue, else without the time it was suspended. -/
def Dev.busyUs (d : Dev) (n : Nat) (x : DieSt) : Nat :=
  d.life.usUp - (if x.state = 5 ∨ x.state = 6 then d.curSince n else x.sinceUs)

/-- A die is busy with a READ, PROGRAM or ERASE: one of its states, or a READ served in a suspend (R216, R224). -/
def DieSt.busy (x : DieSt) (e : Entry) : Bool := decide (2 ≤ x.state ∧ x.state ≤ 4) || ((x.state == 5 || x.state == 6) && e.op == 1)

/-- ENTRY_TIMEOUT (R224, R226): the die has been busy past tTIMEOUT. -/
def Dev.entryTimeout (n : Nat) (d : Dev) : Dev :=
  match d.die n, d.curEntry n, d.chan (n / 16) with
  | some x, some (_, _, e), some c =>
    if x.busy e && decide (4 * c.declared e < d.busyUs n x) then
      let again := match x.lastTimeout with
        | some t => decide (d.life.usUp - t ≤ 60000000)
        | none => false
      let d := d.mapDie n (fun x => { x with lastTimeout := some d.life.usUp })
      if again then d.dieFail n 1
      else d.mapDie n (fun x => { x with state := 7, resetFor := 1, runUs := d.life.usUp })
    else d
  | _, _, _ => d

def execEntryTimeout (n : Nat) (s : State) : Host.Outcome State Fault Refusal := run (Dev.entryTimeout n) s

/-- The operation suspended on a die that was reset (R218): a PROGRAM ends TIMEOUT with its block failed, an ERASE is issued again from its
start. -/
def Dev.settleHeld (d : Dev) (n : Nat) : Dev :=
  match d.die n, d.chan (n / 16) with
  | some x, some c => match x.held with
    | some (id, i) =>
      let d := d.mapDie n (fun x => { x with held := none, susp := 0 })
      match (c.lists.find? (fun l => l.id == id)).bind (fun l => l.entries[i]?) with
      | some (e, _) =>
        if e.op = 2 then (d.endEntry (n / 16) id i 3).entryBlockFail n e
        else d.issue n id i e
      | none => d
    | none => d
  | _, _ => d

/-- DIE_RESET_DONE (R218, R224, R226): the reset ends; `ident` is what READ ID returns, which must match the stored ID. -/
def Dev.dieResetDone (n : Nat) (ident : List Byte) (d : Dev) : Dev :=
  match d.die n with
  | none => d
  | some x =>
    if x.state ≠ 7 then d
    else if ident ≠ x.ident then d.dieFail n 3
    else
      let ch := n / 16
      let e := d.curEntry n
      let d := d.mapDie n (fun x => { x with state := 1, cur := none, resetFor := 0, retry := 0, shift := 0, pslc := false })
      let d := match e with
        | some (id, i, e) =>
          if x.resetFor = 1 then
            let d := (d.incWrap .CH ch Reg.CH_TIMEOUT_CNT 1).raiseErr .CH ch 2 noDetail
            let d := if e.op = 2 ∨ e.op = 3 then d.entryBlockFail n e else d
            d.endEntry ch id i 3
          else if x.resetFor = 3 then d
          else d.endEntry ch id i 0
        | none => d
      d.settleHeld n

def execDieResetDone (n : Nat) (ident : List Byte) (s : State) : Host.Outcome State Fault Refusal := run (Dev.dieResetDone n ident) s

/-- DIE_RESET_TIMEOUT: a reset not done within 4 × tRST (R224, R673). `runUs` holds the time the reset began. -/
def execDieResetTimeout (n : Nat) (s : State) : Host.Outcome State Fault Refusal :=
  run (fun d => match d.die n with
    | some x => if x.state = 7 ∧ 4000 < d.life.usUp - x.runUs then d.dieFail n 2 else d
    | none => d) s

/-! ### Suspend and resume (R216, R217) -/

/-- Suspends an operation may undergo (R216, R229). -/
def Dev.maxSusp (d : Dev) (ch : Nat) (c : ChSt) : Nat :=
  let m := d.regF .CH ch Reg.CH_SUSP_CFG 22 4
  min (if m = 0 then 1 else min 8 m) c.puevo.suspMax

/-- SUSPEND (R216): the running operation of die `n` makes way for a READ of another block. -/
def Dev.suspend (n : Nat) (d : Dev) : Dev :=
  match d.die n, d.curEntry n, d.chan (n / 16), d.nextEntry n with
  | some x, some (id, _, e), some c, some (_, _, _, r) =>
    let ch := n / 16
    let ers := x.state == 4
    let minRun := if ers then d.regF .CH ch Reg.CH_SUSP_CFG 0 12 else d.regF .CH ch Reg.CH_SUSP_CFG 12 10
    let en := if ers then d.regB .CH ch Reg.CH_SUSP_CFG 29 else d.regB .CH ch Reg.CH_SUSP_CFG 30
    let declared := c.puevo.valid && nbit c.puevo.flags (if ers then 4 else 3)
    if (x.state = 3 ∨ x.state = 4) ∧ r.op = 1 ∧ r.block ≠ x.block ∧ nbit e.flags 4 ∧ declared ∧ en ∧
        minRun ≤ d.life.usUp - x.runUs ∧ x.susp < d.maxSusp ch c ∧ d.mayIssue ch then
      let d := d.mapDie n (fun x => { x with
        state := x.state + 2, held := x.cur, cur := none, susp := x.susp + 1, reads := 0, sinceUs := d.life.usUp - x.sinceUs })
      (d.mapChan ch (fun c => { c with lists := updFirst (fun l => l.id == id) (fun l => { l with suspends := l.suspends + 1 }) c.lists })).incWrap
        .CH ch Reg.CH_SUSP_CNT 1
    else d
  | _, _, _, _ => d

def execSuspend (n : Nat) (s : State) : Host.Outcome State Fault Refusal := run (Dev.suspend n) s

/-- A READ of die `n` waits on a lane of its channel. -/
def Dev.readWaits (d : Dev) (n : Nat) : Bool := match d.chan (n / 16) with
  | some c => (List.range 4).any (fun lane => match c.nextOn lane (n % 16) with
    | some (_, _, r) => r.op == 1
    | none => false)
  | none => false

/-- RESUME (R216): SUSP_READS reads have been served, or no READ waits for the die. -/
def Dev.resume (n : Nat) (d : Dev) : Dev :=
  match d.die n with
  | none => d
  | some x =>
    if !d.xHalted (n / 16) ∧ (x.state = 5 ∨ x.state = 6) ∧ x.cur.isNone ∧ (d.suspReads (n / 16) ≤ x.reads ∨ d.readWaits n = false) then
      d.mapDie n (fun x => { x with
        state := x.state - 2, cur := x.held, held := none, sinceUs := d.life.usUp - x.sinceUs, runUs := d.life.usUp })
    else d

def execResume (n : Nat) (s : State) : Host.Outcome State Fault Refusal := run (Dev.resume n) s

/-! ### Drain and containment of a channel (R228, R231) -/

/-- Discard the unissued entries of a channel (R227, R228). -/
def Dev.discardEntries (d : Dev) (ch : Nat) : Dev :=
  (d.mapChan ch (fun c => { c with lists := c.lists.map (fun l => { l with entries := l.entries.map (fun e =>
    match e.2 with
    | .queued => (e.1, EntryRun.ended 9)
    | _ => e) }) })).reapLists ch

/-- Every die of the channel is IDLE, FAILED or ABSENT, so that a drain may complete (R228). -/
def Dev.chIdle (d : Dev) (ch : Nat) : Bool :=
  (d.diesOf ch).all (fun e => (e.2.state == 1 && e.2.cur.isNone) || e.2.state == 8)

end Sys2Proof.Machine
end

