-- ==== Sys2Proof/Machine/FlowOps.lean ====
section
/-! DEFINITION. The ends of reads and writes: sectors known, installation, completion (spec/01_architecture.md R15 to R20). -/
namespace Sys2Proof.Machine
open Sys2Proof

/-! ### Ends of commands -/

/-- Post a command's completion; a request for a shard answers the member that asked. -/
def Dev.finish (d : Dev) (f : Flight) (status first detail expected actual addr result : Nat) : Dev :=
  if f.q = fabQ then d.shardEnd f status first else d.post f status first detail expected actual addr result

/-- Finish with SUCCESS. -/
def Dev.finishOk (d : Dev) (f : Flight) (result : Nat) : Dev := d.finish f St.success 0 0 0 0 f.cmd.addr result

/-! ### Ends of a read (R20, R128) -/

/-- Lowest sector that failed. -/
def firstFailed (js : List SecJob) : Option (SecJob × Nat × Nat × Nat × Nat) :=
  js.findSome? (fun j => match j.st with
    | .failed s d e a => some (j, s, d, e, a)
    | _ => none)

/-- Every sector is known. -/
def settledJobs (js : List SecJob) : Bool := js.all (fun j => match j.st with
  | .media _ _ | .far | .held => false
  | _ => true)

/-- Data of one known sector. -/
def SecSt.data : SecSt → List Byte
  | .got d _ _ _ => d
  | _ => Sys2Proof.Machine.zeros 4096

/-- The digest message that an ATTEST opens once its sectors are known (R365, R476). -/
def Flight.attest (f : Flight) : DigCtx :=
  { req := f.qe, alg := f.cmd.arg0 % 256, key := f.cmd.arg0 / 256 % 4096, mode := 0, composed := false
    msg := f.jobs.flatMap (fun j => j.st.data), done := 0, final := true, expected := f.name, q := f.q, tag := f.tag, fresh := true }

/-- Opcodes whose `.media` stage looks up sectors: READ, VERIFY, STREAM_READ, GET, SNAP_READ, ATTEST, a shard read. -/
def readsSectors (op : Nat) : Bool := [0x01, 0x06, 0x11, 0x21, 0x32, 0x40, 0x100].contains op

/-- A read whose sectors are all known goes on: a failure completes it, VERIFY completes, ATTEST opens its digest, a shard read is
answered, others wait for their data to be written. -/
def Dev.readOn (d : Dev) (f : Flight) : Dev :=
  if f.stage ≠ .media ∨ !readsSectors f.cmd.opcode ∨ !settledJobs f.jobs then d
  else match firstFailed f.jobs with
    | some (j, s, dt, e, a) => d.finish f s j.idx dt e a j.key 0
    | none =>
      if f.cmd.opcode = 0x06 ∨ f.q = fabQ then d.finishOk f 0
      else if f.cmd.opcode = 0x40 then (d.setFlight { f with stage := .xfer }).digOpen f.attest
      else d.setFlight { f with stage := .xfer }

/-- Let every read go on whose sectors are known: requests of members first, whose answers other reads may wait for. -/
def Dev.readsOn (d : Dev) : Dev :=
  let d := (d.flights.filter (fun f => f.q == fabQ)).foldl (fun d f => d.readOn f) d
  (d.flights.filter (fun f => f.q != fabQ)).foldl (fun d f => d.readOn f) d

/-- Snapshot that a read names: SNAP_READ's ARG0, or SNAP_ID of a shard read; 0 none. -/
def Flight.snap (f : Flight) : Nat :=
  if f.cmd.opcode = 0x32 then f.cmd.arg0 % 2 ^ 32 else if f.cmd.opcode = 0x100 then f.cmd.dataAddr else 0

/-- Look up every sector of a read that this device serves itself (R154, R362). -/
def Dev.lookUp (d : Dev) (k : Nat) (v : Store) (f : Flight) : Dev :=
  let snap := f.snap
  let jobs : List SecJob := (List.range f.cmd.count).map (fun i =>
    { idx := i, key := (f.place v i).addr, st := if snap = 0 then d.findSec k v f i else d.findSnap v f snap i })
  let five := jobs.filterMap (fun j => match j.st with
    | .media m e => if e.step = 5 then some m else none
    | _ => none)
  (d.setFlight { f with jobs := jobs, stage := .media }).reach5 five

/-- Look up every sector of a read on a fabric volume: here, or by asking the members that have it (R425). -/
def Dev.lookFar (d : Dev) (k : Nat) (v : Store) (f : Flight) : Dev :=
  let jobs : List SecJob := (List.range f.cmd.count).map (fun i => { idx := i, key := (f.place v i).addr, st := .far })
  let f := { f with jobs := jobs, stage := .media }
  (List.range f.cmd.count).foldl (fun d i =>
    let r := d.fabFind k v f f.snap i
    let d := r.2.putJob f.q f.tag i r.1
    match r.1 with
    | .media m e => if e.step = 5 then d.reach5 [m] else d
    | _ => d) (d.setFlight f)

/-- Begin a read. -/
def Dev.startRead (d : Dev) (f : Flight) : Dev :=
  match f.key, f.key.bind d.store with
  | some k, some v =>
    let far := v.fabric && f.q != fabQ
    let away := if far then d.fabFencedFor v f.cmd.addr f.cmd.count else 0
    if away ≠ 0 then d.finish f St.fenced 0 away 0 0 f.cmd.addr 0
    else
      let d := if v.enc && f.q != fabQ then d.cipherJobs f.cmd.count else d
      (if far then d.lookFar k v f else d.lookUp k v f).readsOn
  | _, _ => d

/-- Cut a byte string along a descriptor list. -/
def cutDescs : List Desc → List Byte → List (Nat × List Byte)
  | [], _ => []
  | x :: xs, bs => (x.addr, bs.take x.len) :: cutDescs xs (bs.drop x.len)

/-- Device Control of a function; a VF has the PF's (R74). Its reset value is PCIe's with relaxed ordering and no-snoop enabled. -/
def Dev.devCtl (d : Dev) (fn : Fn) : Nat :=
  let f := match fn with
    | .vf _ => Fn.pf
    | f => f
  ((mget (d.fn f).cfg 0x78).map (·.toNat)).getD 0x2810

/-- Max payload size in bytes: 128, 256 or 512 (R74). -/
def Dev.maxPayload (d : Dev) (fn : Fn) : Nat := 128 * 2 ^ min 2 (d.devCtl fn / 32 % 8)

/-- Data bytes cut at addresses that are multiples of `m`, up to `n` pieces. -/
def cutAt (m : Nat) : Nat → Nat → List Byte → List (Nat × List Byte)
  | 0, _, _ => []
  | n + 1, a, bs =>
    let k := m - a % m
    if bs.length ≤ k then [(a, bs)] else (a, bs.take k) :: cutAt m n (a + k) (bs.drop k)

/-- A DMA write of data: requests of at most the max payload size, each cut at multiples of it, with the attributes that Device Control
enables (R74, R79). -/
def Dev.dmaWrite (d : Dev) (fn : Fn) (addr : Nat) (bs : List Byte) : Dev :=
  let attr := d.devCtl fn / 16 % 2 + 2 * (d.devCtl fn / 2048 % 2)
  (cutAt (d.maxPayload fn) bs.length addr bs).foldl (fun d e => d.emit (.dma fn e.1 e.2 attr)) d

/-- Write a data buffer of a command (R79, R117). -/
def Dev.dmaOut (d : Dev) (f : Flight) (bs : List Byte) : Dev :=
  let fn := d.qOwner f.q
  if f.descs.isEmpty then d.dmaWrite fn f.cmd.dataAddr bs
  else (cutDescs f.descs bs).foldl (fun d e => d.dmaWrite fn e.1 e.2) d

/-- The PI buffer of a read (R118). -/
def Dev.piDma (d : Dev) (f : Flight) : Dev :=
  match f.key, f.key.bind d.store with
  | some k, some v =>
    if nbit f.cmd.flags 2 then
      d.dmaWrite (d.qOwner f.q) f.cmd.piAddr (f.jobs.flatMap (fun j => piOut k v f j.idx (f.place v j.idx) j.st))
    else d
  | _, _ => d

/-! ### Installation (R15, R129, R311, R358) -/

/-- Lines of `keys` that the cache does not hold yet. -/
def Dev.newLines (d : Dev) (keys : List Nat) : Nat := (keys.filter (fun k => !mhas d.cache k)).length

/-- Install one line with the next install sequence number (R311, R324). -/
def Dev.putLine (d : Dev) (key : Nat) (l : Line) : Dev :=
  { d with cache := mput d.cache key { l with install := d.install, atUs := d.life.usUp, placed := false }, install := d.install + 1 }

/-- A line of a command. -/
def Flight.line (f : Flight) (k : Nat) (stored : Stored) (guard app ref : Nat) (zero : Bool) : Line :=
  { stored := stored, guard := guard, app := app, ref := ref, zero := zero, poison := 0, install := 0, target := k % 65536
    tint := f.tint, gate := f.gate, atUs := 0, placed := false }

/-- Key of a namespace's directory sector in the cache. -/
def Store.dirKey (v : Store) (dir : Nat) : Nat := v.base * 4096 + dir

/-- Cache keys that a command installs. -/
def Flight.lineKeys (f : Flight) (v : Store) : List Nat :=
  let key (p : Place) : Nat := p.band * 4096 + p.sec
  match f.cmd.opcode, f.obj with
  | 0x05, _ => if f.cmd.count = 4096 ∧ f.cmd.addr % 4096 = 0 then [] else (List.range f.cmd.count).map (fun i => key (f.place v i))
  | 0x20, some o => v.dirKey o.dir :: (List.range (extentLen o.sects)).map (fun i => key (o.place i))
  | 0x22, some o => [v.dirKey o.dir]
  | 0x22, none => []
  | 0x04, _ => []
  | _, _ => (List.range f.cmd.count).map (fun i => key (f.place v i))

/-- Rewrite a directory sector (R353, R455): its content stands in `Store.objs`, so the line is a marker; an encrypted namespace seals it. -/
def Dev.dirWrite (d : Dev) (f : Flight) (k : Nat) (v : Store) (dir : Nat) : Option Dev :=
  let ln := f.line k (.plain []) 0 0 0 false
  if v.enc then match d.recordSlot v with
    | none => none
    | some slot => match d.gcmCount slot, d.key slot with
      | some d, some x => some { d.putLine (v.dirKey dir) ln with
          seals := mput d.seals (k % 65536 * 2 ^ 20 + dir) (slot * 256 + x.gen) }
      | _, _ => none
  else some (d.putLine (v.dirKey dir) ln)

/-- Install the data sectors of a command. -/
def Dev.installData (d : Dev) (f : Flight) (k : Nat) (v : Store) : Dev :=
  let d := f.staged.zipIdx.foldl (fun (d : Dev) (e : SectorIn × Nat) =>
    let p := f.place v e.2
    d.putLine (p.band * 4096 + p.sec) (f.line k (d.encrypt k v p e.1.data) e.1.guard e.1.app e.1.ref false)) d
  d.cipherJobs (if v.enc then f.staged.length else 0)

/-- Sectors of an extent past COUNT: zeros (R351). -/
def Dev.installPad (d : Dev) (f : Flight) (k : Nat) (v : Store) (o : Obj) : Dev :=
  ((List.range (extentLen o.sects - o.sects)).map (o.sects + ·)).foldl (fun d i =>
    let p := o.place i
    d.putLine (p.band * 4096 + p.sec) (f.line k (d.encrypt k v p (zeros 4096)) (guard64 (zeros 4096)) 0 (lbaTag k p) false)) d

/-- Live objects of a namespace without a name. -/
def Store.drop (v : Store) (name : List Byte) : Store :=
  { v with objs := v.objs.filter (fun o => o.name != name), old := v.old ++ v.objs.filter (fun o => o.name == name) }

/-- The reserved extent of a PUT that ends without installing becomes pad sectors, which count as dead (R352). -/
def Dev.padExtent (d : Dev) (f : Flight) : Dev :=
  match f.key, f.key.bind d.store, f.obj with
  | some k, some _, some o =>
    if f.cmd.opcode ≠ 0x20 ∨ extentLen o.sects = 4096 then d
    else
      let keys := (List.range (extentLen o.sects)).map (fun i => o.band * 4096 + (o.start + i))
      if d.cacheLines < d.cacheUsed + d.newLines keys then d
      else keys.foldl (fun d key => d.putLine key (f.line k .zero 0 0 0 false)) d
  | _, _, _ => d

/-- End a command with a failure, giving back what it reserved (R121, R181, R352). -/
def Dev.failWrite (d : Dev) (f : Flight) (status firstFail detail expected actual addr : Nat) : Dev :=
  (d.finish f status firstFail detail expected actual addr 0).padExtent f

/-- Install a command whose checks have passed (R15): its sectors, its object or its zeroes in one step, then its completion. -/
def Dev.installNow (d : Dev) (f : Flight) (k : Nat) (v : Store) : Dev :=
  match f.cmd.opcode, f.obj with
  | 0x05, _ =>
    let p := f.place v 0
    let d := if f.cmd.count = 4096 ∧ p.sec = 0 then d.unmapBand p.band
      else (f.lineKeys v).foldl (fun d key => d.putLine key (f.line k .zero 0 0 0 true)) d
    d.postOk f 0
  | 0x04, _ => ((List.range (f.cmd.arg0 % 2 ^ 25)).foldl (fun d b => d.unmapBand (v.base + f.cmd.addr / 4096 + b)) d).postOk f 0
  | 0x10, _ =>
    let d := (d.installData f k v).setFlight { f with stage := .installed, bands := [] }
    d.appendRelease d.flights.length k
  | 0x20, some o =>
    match d.dirWrite f k v o.dir with
    | none => d.failWrite f St.keyExhausted 0 ((d.recordSlot v).getD 0) 0 0 f.cmd.addr
    | some d =>
      let d := (d.installData f k v).installPad f k v o
      let o := { o with created := if d.bak.valid then d.bak.sec else 0 }
      (d.mapStore k (fun w =>
        { w.drop o.name with objs := (w.drop o.name).objs ++ [o] })).postOk f o.gen
  | 0x22, some o =>
    match d.dirWrite f k v o.dir with
    | none => d.failWrite f St.keyExhausted 0 ((d.recordSlot v).getD 0) 0 0 f.cmd.addr
    | some d => (d.mapStore k (fun v => v.drop o.name)).postOk f 0
  | 0x101, _ =>
    let d := f.staged.zipIdx.foldl (fun (d : Dev) (e : SectorIn × Nat) =>
      let p := f.place v e.2
      let x := fabIn e.1
      d.putLine (p.band * 4096 + p.sec) (f.line k x.stored x.guard x.app x.ref (x.stored == .zero))) d
    d.finishOk f 0
  | _, _ => (d.installData f k v).postOk f 0

/-- READ_ONLY of a command (R121, R129, R339, mode table): READONLY for writes, appends, puts and relocates; a read-only volume; a
sealed stream. -/
def Dev.readOnlyNow (d : Dev) (op : Nat) (v : Store) : Bool :=
  (d.readonlyC && [0x02, 0x05, 0x10, 0x20, 0x50].contains op) || (v.ro && [0x02, 0x05, 0x04, 0x30, 0x10].contains op)

/-- FENCED of a command (mode table): a fabric volume while the condition holds. -/
def Dev.fencedNow (d : Dev) (v : Store) : Bool := v.fabric && d.fabFenced

/-- Next place in the order of waiting at installation (R311). -/
def Dev.waitOrder (d : Dev) : Nat := d.flights.foldl (fun m f => max m (f.order + 1)) 1

/-- Sectors that a write of a fabric volume sends: ciphertext with extended PI, or sectors never written for zeroed ones (R423). -/
def Dev.fabSecs (d : Dev) (k : Nat) (v : Store) (f : Flight) : List FabSec :=
  if f.cmd.opcode = 0x02 then f.staged.zipIdx.map (fun (e : SectorIn × Nat) =>
    ⟨d.encrypt k v (f.place v e.2) e.1.data, e.1.guard, e.1.app, e.1.ref⟩)
  else List.replicate f.cmd.count ⟨.zero, 0, 0, 0⟩

/-- A write whose data stands ready on a fabric volume: to its stripes' owners, or FENCED (R424, R437). -/
def Dev.fabOut (d : Dev) (f : Flight) (k : Nat) (v : Store) : Dev :=
  let away := d.fabFencedFor v f.cmd.addr f.cmd.count
  if away ≠ 0 then d.failWrite f St.fenced 0 away 0 0 f.cmd.addr
  else
    let d := if v.enc && f.cmd.opcode == 0x02 then d.cipherJobs f.cmd.count else d
    d.fabWrite f k v (d.fabSecs k v f)

/-- Bring a command to installation (R129, R311, R358): the FENCED and READ_ONLY checks again, the snapshot hold, an armed flush area
and superblocks to spare, free lines in the order of waiting (R171, R309). -/
def Dev.atInstall (d : Dev) (f : Flight) : Dev :=
  match f.key, f.key.bind d.store with
  | some k, some v =>
    let mine := f.q != fabQ
    if mine && d.fencedNow v then d.failWrite f St.fenced 0 0 0 0 f.cmd.addr
    else if mine && d.readOnlyNow f.cmd.opcode v then d.failWrite f St.readOnly 0 0 0 0 f.cmd.addr
    else if mine && v.fabric then d.fabOut f k v
    else if mine && v.hold then d.setFlight { f with stage := .held, order := d.waitOrder }
    else
      let room := decide (d.cacheUsed + d.newLines (f.lineKeys v) ≤ d.cacheLines)
      let behind := d.flights.any (fun x => x.stage == .lines && !(x.q == f.q && x.tag == f.tag))
      if f.stage ≠ .lines ∧ (!room ∨ d.installHeld ∨ behind) ∧ !(f.lineKeys v).isEmpty then
        d.setFlight { f with stage := .lines, order := d.waitOrder }
      else if f.stage = .lines ∧ (!room ∨ d.installHeld) then d
      else d.installNow f k v
  | _, _ => d

/-- The hold of a volume ends: the commands that waited for it go on in their order (R358). -/
def Dev.releaseHold (d : Dev) (k : Nat) : Dev :=
  let d := d.mapStore k (fun v => { v with hold := false })
  let waiting := (d.onRecord k).filter (fun f => f.stage == .held)
  (sortBy (fun i => (waiting[i]?.map (·.order)).getD 0) (List.range waiting.length)).foldl (fun d i => match waiting[i]? with
    | some f => d.atInstall f
    | none => d) d

/-! ### Data that arrives (R15, R292, R385) -/

/-- A sequence cut into runs of 4,096 bytes, the last padded with zeros (R119). -/
def sectorsOf : Nat → List Byte → List (List Byte)
  | 0, _ => []
  | n + 1, bs => (bs.take 4096 ++ zeros (4096 - (bs.take 4096).length)) :: sectorsOf n (bs.drop 4096)

/-- Bytes that a write declares: COUNT sectors, or for PUT the object's length rounded up to 4 (R135, R385). -/
def Flight.declared (f : Flight) : Nat := if f.cmd.opcode = 0x20 then (f.cmd.addr + 3) / 4 * 4 else f.cmd.count * 4096

/-- Data of a write as stored: past the length of an object, zeros (R119). -/
def Flight.trim (f : Flight) (ss : List SectorIn) : List SectorIn :=
  if f.cmd.opcode ≠ 0x20 then ss
  else ss.zipIdx.map (fun (e : SectorIn × Nat) =>
    { e.1 with data := (e.1.data.take (f.cmd.addr - 4096 * e.2)) ++ zeros (4096 - min 4096 (f.cmd.addr - 4096 * e.2)) })

/-- The data of a write has arrived: checkpoint 1 on every sector, then installation (R15, R292). -/
def Dev.dataIn (d : Dev) (f : Flight) (ss : List SectorIn) : Dev :=
  match f.key, f.key.bind d.store with
  | some k, some v =>
    if ss.length ≠ f.cmd.count ∨ ss.any (fun s => s.data.length != 4096) then d
    else
      let rs := (f.trim ss).zipIdx.map (fun (e : SectorIn × Nat) => (e.2, piIngress k v f e.2 (f.place v e.2) e.1))
      match rs.findSome? (fun r => match r.2 with
          | .inl e => some (r.1, e)
          | .inr _ => none) with
      | some (i, e) => d.failWrite f e.status i e.detail e.expected e.actual (f.place v i).addr
      | none => d.atInstall { f with staged := rs.filterMap (fun r => match r.2 with
          | .inr s => some s
          | .inl _ => none) }
  | _, _ => d

/-- The command takes its data from frames (R383). -/
def Dev.pushes_ (d : Dev) (f : Flight) : Bool := d.pushQs.contains f.q && [0x02, 0x10, 0x20].contains f.cmd.opcode

/-- A pushed write whose last byte is here goes on, but with PI_BUF it waits for its PI (R383, R385). -/
def Dev.pushOn (d : Dev) (f : Flight) : Dev :=
  if f.stage = .data && d.pushes_ f && !nbit f.cmd.flags 2 then
    match mget d.pushes (f.q * 32 + f.tag) with
    | some bs =>
      if bs.length = f.declared then
        { d with pushes := mdel d.pushes (f.q * 32 + f.tag) }.dataIn f ((sectorsOf f.cmd.count bs).map (fun b => { data := b }))
      else d
    | none => d
  else d

/-! ### Gates and ceilings (R19 to R25, R132, R393) -/

/-- A ceiling bucket after reset: full, in units of 1/4,096 token (R24, R393). -/
def tintFull : Bucket := { level := 1024 * 4096, rate := 0, waiters := [] }

/-- Ceiling bucket of a tint. -/
def Dev.tintBucket (d : Dev) (t : Nat) : Bucket := (mget d.tints t).getD tintFull

/-- The tint has a ceiling (R393). -/
def Dev.ceiled (d : Dev) (t : Nat) : Bool := d.regF .TNT t Reg.TNT_CEIL 0 20 != 0

/-- The command waits for its tint's bucket: it moves sectors under a ceiling (R393). -/
def Dev.underCeiling (d : Dev) (f : Flight) : Bool := f.q != fabQ && f.moved != 0 && d.ceiled f.tint

/-- The tint's bucket admits a command. -/
def Dev.tintOpen (d : Dev) (f : Flight) : Bool := !d.underCeiling f || decide (4096 ≤ (d.tintBucket f.tint).level)

/-- Both charges of an admission (R24, R393). -/
def Dev.chargeFor (d : Dev) (f : Flight) : Dev :=
  let d := if f.charge = 0 then d else d.charge f.gate f.charge
  if d.underCeiling f then
    let b := d.tintBucket f.tint
    { d with tints := mput d.tints f.tint { b with level := max (-4096 * 4096) (b.level - 4096 * f.moved) } }
  else d

/-- Opcodes with a data buffer at DATA_ADDR (R116, R119, R221). -/
def opBuffer (op : Nat) : Bool := [0x01, 0x02, 0x10, 0x11, 0x20, 0x21, 0x23, 0x32, 0x61, 0x62, 0x70, 0x71].contains op

/-- Past its gate (R129): the FENCED and READ_ONLY checks again, then the descriptor list, the data, or the read. -/
def Dev.passed (d : Dev) (f : Flight) : Dev :=
  let op := f.cmd.opcode
  match f.key.bind d.store with
  | none =>
    if op = 0x61 then d.setFlight { f with stage := if nbit f.cmd.flags 1 then .list else .xfer }
    else if op = 0x71 then d.setFlight { f with stage := if nbit f.cmd.flags 1 then .list else .data }
    else if op = 0x70 then d.setFlight { f with stage := if nbit f.cmd.flags 1 then .list else .xfer }
    else if op = 0x72 then d.setFlight { f with stage := .xfer }
    else d
  | some v =>
    if f.q != fabQ && d.fencedNow v then d.failWrite f St.fenced 0 0 0 0 f.cmd.addr
    else if f.q != fabQ && d.readOnlyNow op v then d.failWrite f St.readOnly 0 0 0 0 f.cmd.addr
    else if nbit f.cmd.flags 1 ∧ opBuffer op then d.setFlight { f with stage := .list }
    else if op = 0x02 ∨ op = 0x10 ∨ op = 0x20 then
      let f := { f with stage := .data }
      (d.setFlight f).pushOn f
    else if op = 0x04 ∨ op = 0x05 ∨ op = 0x22 ∨ op = 0x101 then d.atInstall f
    else if op = 0x23 then d.setFlight { f with stage := .xfer }
    else d.startRead f

/-- Bring a command to its gate (R25): one without charge and ceiling passes at once. -/
def Dev.toGate (d : Dev) (f : Flight) : Dev :=
  if f.charge = 0 ∧ !d.underCeiling f then d.passed { f with stage := .gate }
  else
    { d.setFlight { f with stage := .gate } with
        gates := d.gates.modify f.gate (fun x => { x with waiters := x.waiters ++ [(f.q, f.tag)] }) }

/-- The waiter of a gate that passes next (R132): the first whose tint's bucket admits, where no earlier waiter of its tint is held, and
which the gate admits. -/
def Dev.nextWaiter (d : Dev) (g : Nat) : List (Nat × Nat) → List Nat → Option Flight
  | [], _ => none
  | (q, t) :: ws, held =>
    match d.flight q t with
    | none => d.nextWaiter g ws held
    | some f =>
      if f.stage ≠ .gate ∨ f.gate ≠ g then d.nextWaiter g ws held
      else if held.contains f.tint ∧ f.q ≠ fabQ then d.nextWaiter g ws held
      else if !d.tintOpen f then d.nextWaiter g ws (f.tint :: held)
      else if f.charge = 0 ∨ d.gateOpen g then some f
      else none

/-! ### Work for other members -/

/-- Tokens of a read: its sectors that neither the cache serves nor an unmapped band answers (R19). -/
def Dev.readCharge (d : Dev) (v : Store) (f : Flight) : Nat :=
  ((List.range f.cmd.count).filter (fun i =>
    let p := f.place v i
    !mhas d.cache (p.band * 4096 + p.sec) && (d.band p.band).isSome)).length

/-- Take up a request for a shard held here (R421, R423): its bands reserved, its charge at G9. -/
def Dev.shardRun (d : Dev) (f : Flight) : Dev :=
  match f.key.bind d.store with
  | none => d.shardEnd f St.notFound 0
  | some v =>
    if f.cmd.opcode = 0x100 then d.toGate { f with charge := d.readCharge v f }
    else
      let bands := ((List.range f.cmd.count).map (fun i => (f.place v i).band)).eraseDups
      if d.quotaTest v.owner bands ≠ 0 then d.shardEnd f St.quota 0
      else d.toGate { f with charge := f.cmd.count, bands := bands.filter (fun b => (d.band b).isNone) }

/-- Writes of fabric volumes whose every part is acknowledged complete, with SUCCESS or the failure kept (R424). -/
def Dev.fabDone (d : Dev) : Dev :=
  (d.flights.filter (fun f => f.stage == .fab && [0x02, 0x04, 0x05].contains f.cmd.opcode &&
      !d.fab.writes.any (fun w => w.q == f.q && w.tag == f.tag))).foldl (fun d f =>
    if f.result = 0 then d.postOk f 0 else d.post f (f.result % 256) 0 (f.result / 256) 0 0 f.cmd.addr 0) d

/-- Take up the requests that stand, let reads go on and writes complete, until nothing new stands. -/
def Dev.fabOn : Nat → Dev → Dev
  | 0, d => d
  | n + 1, d =>
    match d.flights.filter (fun f => f.q == fabQ && f.stage == .run) with
    | [] => d.readsOn.fabDone
    | fs => Dev.fabOn n ((fs.foldl (fun d f => d.shardRun f) d).readsOn)

/-- Run a command that may move commands in flight, with the work for the fabric that follows. -/
def runCmd (f : Dev → Dev) (s : State) : Host.Outcome State Fault Refusal := run (fun d => Dev.fabOn 64 (f d)) s

end Sys2Proof.Machine
end

