-- ==== Sys2Proof/Machine/Media.lean ====
section
/-! DEFINITION. Meanings of the band translation commands (spec/05_band_translation.md). -/
namespace Sys2Proof.Machine
open Sys2Proof

/-- Placement and its programs run: a formatted device in BOOT after replay, MAINT or a serving mode, with room in the
journal and no C4 halt (R27, R188, R276, R556). -/
def Dev.mayPlace (d : Dev) : Bool :=
  (match d.life.mode with
    | .boot | .maint => true
    | m => backgroundMode m) && !d.life.fatal && !d.jnlFull && d.formatted

/-- The lines of one write in a band's order: `count` sectors from `start`, all in the cache, none placed, all data or
all zeroed. -/
def Dev.writeRun (d : Dev) (b start count : Nat) : Option (List (Nat × Line)) :=
  let ls := d.linesOf b ((List.range count).map (start + ·))
  match ls with
  | [] => none
  | (_, l0) :: _ =>
    if ls.length = count ∧ start + count ≤ 4096 ∧ ls.all (fun e => !e.2.placed && e.2.zero == l0.zero) then some ls else none

/-- Put a write that covers a whole band into a new slot (R157): `bad` names the member whose program fails. -/
def Dev.placeWhole (d : Dev) (b dst : Nat) (bad : Option Nat) (ls : List (Nat × Line)) : Dev :=
  let fast := !d.fastShort
  if !d.destOk dst fast then d
  else match bad with
    | some m => d.abandonSlot b dst m
    | none =>
      let cws := ls.map (fun e => (e.1, d.cwOf b e.1 false e.2))
      (d.newSlot b dst fast cws).dropLines b (ls.map (·.1))

/-- Append a write to the log band or direct fill the band has (R157). -/
def Dev.placeLog (d : Dev) (l : Nat) (bad : Option Nat) (ls : List (Nat × Line)) : Dev :=
  match d.logBand l with
  | none => d
  | some x =>
    if x.state = 3 ∨ !x.more then d
    else if ls.all (·.2.zero) && !x.direct then d.appendZeroes l ls
    else d.appendLines l bad ls

/-- Full merges write a pSLC fast band (R190). -/
def Dev.mergeFast (d : Dev) : Bool := d.regB .LOG 0 Reg.LOG_LOG_MODE 0

/-- DIRECT_MAX as it acts (R190). DESIGN CHOICE: a value above 64, to which the table gives no meaning, acts as 64. -/
def Dev.directMax (d : Dev) : Nat := min 64 (d.regF .LOG 0 Reg.LOG_LOG_MODE 16 7)

/-- Start a forced merge on the victim (R161): FORCED while it runs, and FORCED_MERGE. -/
def Dev.forceMerge (d : Dev) : Dev :=
  if d.forced then d
  else match d.mergeVictim with
    | some l => (match d.logBand l with
      | some x => (d.setLog l { x with forced := true }).setIrq .LOG 0 0
      | none => d)
    | none => d

/-- Attach a log band or direct fill for a write and append it (R157, R158): in pSLC after a direct fill that the write did not continue. -/
def Dev.placeNew (d : Dev) (b start dst : Nat) (bad : Option Nat) (ls : List (Nat × Line)) : Dev :=
  let direct := decide (start = 0) && d.fastShort && decide (d.directInUse < d.directMax) && !d.ftl.noDirect.contains b
  if d.logLimit ≤ d.logInUse then d.forceMerge
  else if !d.destOk dst (!direct) then d
  else
    let d := d.attachLog b dst direct
    match d.band b with
    | some e => if e.logged then d.placeLog e.logIdx bad ls else d
    | none => d

/-- A stream's sectors leave the cache in offset order (R345): no line of the stream before sector `start` of band `b` waits. -/
def Dev.streamTurn (d : Dev) (b start : Nat) : Bool := match d.storeOfBand b with
  | some (k, v) => k / 65536 != 1 || !d.cache.any (fun e => !e.2.placed && decide (v.base * 4096 ≤ e.1 ∧ e.1 < b * 4096 + start))
  | none => true

/-- The direct fill of a band is partial-merged for a write that does not continue it (R157); the band's next log band lies in pSLC. R174 lets
no merge run outside the background modes. -/
def Dev.endDirect (d : Dev) (b l dst : Nat) : Dev :=
  if !d.mayRelocate then d
  else (d.mapFtl (fun f => { f with noDirect := if f.noDirect.contains b then f.noDirect else b :: f.noDirect })).endLog l dst d.mergeFast false []

/-- DESTAGE (R157): `count` sectors of band `b` from `start` leave the cache by the first matching row; `dst` is the
superblock that gives a new slot, `bad` the member whose program fails. They stay while a job moves the band (R158) and while FREE_SB stands at
the reserve (R171). -/
def Dev.destage (b start count dst : Nat) (bad : Option Nat) (d : Dev) : Dev :=
  if !d.mayPlace || !d.streamTurn b start || d.jobOn b || d.atReserve then d
  else match d.writeRun b start count with
    | none => d
    | some ls =>
      let zero := ls.all (·.2.zero)
      if count = 4096 then (if zero then d.unmapBand b else d.placeWhole b dst bad ls)
      else match d.band b with
        | some e =>
          if e.logged then
            match d.logBand e.logIdx with
            | some x =>
              if x.direct && !(x.fill == start) then d.endDirect b e.logIdx dst
              else d.placeLog e.logIdx bad ls
            | none => d
          else d.placeNew b start dst bad ls
        | none => d.placeNew b start dst bad ls

def execDestage (b start count dst : Nat) (bad : Option Nat) (s : State) : Host.Outcome State Fault Refusal :=
  run (Dev.destage b start count dst bad) s

/-- The write cache needs lines: a command waits for them (R153, R311). -/
def Dev.linesWanted (d : Dev) : Bool := d.flights.any (fun f => f.stage == .lines)

/-- LOG_UNIT_HOLD_EXPIRY (R153): the oldest sector of log band `l`'s unit has waited the HOLD_US that the unit began with (R194), or the write
cache needs the lines. -/
def Dev.holdExpiry (l : Nat) (bad : Option Nat) (d : Dev) : Dev :=
  match d.logBand l with
  | none => d
  | some x =>
    if !d.mayPlace || x.unit.isEmpty || !x.more || !(decide (x.holdUs ≤ d.life.usUp - x.unitUs) || d.linesWanted) then d
    else match bad with
      | none => d.programUnit l
      | some m => d.unitFail l m

def execLogUnitHoldExpiry (l : Nat) (bad : Option Nat) (s : State) : Host.Outcome State Fault Refusal :=
  run (Dev.holdExpiry l bad) s

/-- Merges and folds run ahead of their gates while CUR_SB exceeds TARGET_SB (R163). -/
def Dev.ahead (d : Dev) : Bool := decide (d.pslTarget < d.curSb)

/-- Log band `l` belongs to a volume that waits for its merge under a snapshot hold (R358). -/
def Dev.heldLog (d : Dev) (l : Nat) : Bool := match d.logBand l with
  | some x => match d.storeOfBand x.band with
    | some (_, v) => v.hold
    | none => false
  | none => false

/-- MERGE (R159 to R161): log band `l` ends, by a full merge into `dst` when it is not in order, as far as its rows pass G12; `lost` are the
sectors that stay undecodable. A forced merge or one ahead of the rates makes no level test. -/
def Dev.merge (l dst : Nat) (lost : List Nat) (d : Dev) : Dev :=
  if d.mayRelocate && d.mergeDue l then d.endLog l dst d.mergeFast (d.forcedLog l || d.heldLog l || d.ahead) lost
  else d

def execMerge (l dst : Nat) (lost : List Nat) (s : State) : Host.Outcome State Fault Refusal := run (Dev.merge l dst lost) s

/-- FOLD (R162): the fast band switched longest ago, or with none left a pSLC slot held by a snapshot, is copied to a QLC slot. -/
def Dev.fold (dst : Nat) (lost : List Nat) (d : Dev) : Dev :=
  if !d.mayRelocate then d
  else match d.ftl.fastOrder with
    | b :: _ => d.relocateBand b dst 11 d.ahead lost id
    | [] => match d.ftl.held.find? (fun h => !h.none && h.fast) with
      | some h => d.relocateHeld h dst 11 d.ahead lost
      | none => d

def execFold (dst : Nat) (lost : List Nat) (s : State) : Host.Outcome State Fault Refusal := run (Dev.fold dst lost) s

/-- While the pSLC region shrinks, OPEN superblocks of it in which no log band fills close (R167). DESIGN CHOICE: those that hold no valid slot,
which so become FREE. -/
def Dev.shrinkClose (d : Dev) : Dev :=
  if !d.ahead then d
  else (d.ftl.sbs.filter (fun e => e.2.state == 2 && e.2.pslc && e.2.valid == 0)).foldl (fun d e => d.sbClose e.1) d

/-- PSLC_TARGET_RECOMPUTE: the 100 ms recomputation of R164. -/
def execPslcTargetRecompute (s : State) : Host.Outcome State Fault Refusal :=
  run (fun d => if d.life.booted then d.pslRecompute.shrinkClose else d) s

/-- Victim of R170: the CLOSED QLC superblock with the fewest VALID slots, below 48, then the lower RELEASE_SEQ. -/
def Dev.gcVictim (d : Dev) : Option Nat :=
  ((d.ftl.sbs.filter (fun e => d.sbActive e.1 && e.2.state == 3 && !e.2.pslc && decide (e.2.valid < 48) &&
      e.2.purpose != 6)).foldl (fun best e => match best with
    | none => some e
    | some y => if e.2.valid < y.2.valid ∨ (e.2.valid = y.2.valid ∧ e.2.relSeq < y.2.relSeq) then some e else best)
    (none : Option (Nat × Sb))).map (·.1)

/-- The superblock under collection, or else the next victim. -/
def Dev.gcNext (d : Dev) : Option Nat :=
  match d.ftl.sbs.find? (fun e => e.2.state == 4 && e.2.kind == 2) with
  | some e => some e.1
  | none => d.gcVictim

/-- A job under gate `g` stands in progress. -/
def Dev.jobAt (d : Dev) (g : Nat) : Bool := d.jobRows.any (fun e => e.1 / 2 ^ 32 == g)

/-- GC_COLLECT (R170, R172): while PRESSURE is above 0, and until the band in progress has moved, the victim's bands move to QLC slots of `dsts`
row by row under G10. -/
def Dev.gcCollect (dsts lost : List Nat) (d : Dev) : Dev :=
  if !(d.mayRelocate && (decide (0 < d.gcPressure) || d.jobAt 10)) then d
  else match d.gcNext with
    | none => d
    | some v =>
      let d := d.setRegN .GC 0 Reg.GC_VICTIM (v % 2 ^ 20 + (d.sb v).valid % 64 * 2 ^ 20 + 2 ^ 26)
      let d := d.toReclaim v 2
      if (d.sb v).valid = 0 then d.sbSettle v
      else d.emptySb v 10 dsts lost (fun d => d.inc64 .GC 0 Reg.GC_RELOCATED 1)

def execGcCollect (dsts lost : List Nat) (s : State) : Host.Outcome State Fault Refusal := run (Dev.gcCollect dsts lost) s

/-- A superblock index that may be allocated in group `g`: FREE and not reserved (R166, R307). -/
def Dev.allocable (d : Dev) (n : Nat) : Bool := (d.sb n).state == 0 && (d.sb n).purpose != 6 && d.sbActive n

/-- The FREE superblock of a group released longest ago (R169). -/
def Dev.oldestFree (d : Dev) (g : Nat) : Option Nat :=
  match d.group g with
  | none => none
  | some x =>
    (((List.range x.sbCount).map (g * 8192 + ·)).filter d.allocable).foldl (fun best n => match best with
      | none => some n
      | some m => if (d.sb n).relSeq < (d.sb m).relSeq then some n else best) none

/-- The width that allocation prefers while a reshape runs (R295): the target's. -/
def Dev.newWidth (d : Dev) : Option Nat :=
  if d.regB .REB 0 Reg.REB_REB_CTL 0 then some (17 + d.regF .REB 0 Reg.REB_REB_CTL 1 1) else none

/-- The group the allocator takes next by R39 (arbiter key 0x320), new-width groups first during a reshape (R169, R295). -/
def Dev.allocGroup (d : Dev) : Option Nat :=
  let ok (w : Option Nat) (g : Nat) : Bool := match d.group g with
    | some x => (w.isNone || w == some x.width) && (d.oldestFree g).isSome
    | none => false
  match d.newWidth with
  | some w => match rrPick 128 (d.arbPtr 0x320) (ok (some w)) with
    | some g => some g
    | none => rrPick 128 (d.arbPtr 0x320) (ok none)
  | none => rrPick 128 (d.arbPtr 0x320) (ok none)

/-- SB_ALLOCATE (R163, R167 to R169, R171, R318): a superblock for PURPOSE `purpose` (R319) goes to ERASING behind its erase
intent. `forHost` says that foreground placement asks for it, which stops at the reserve. -/
def Dev.sbAllocate (pslc : Bool) (purpose : Nat) (forHost : Bool) (d : Dev) : Dev :=
  if !d.mayPlace || (forHost && d.atReserve) || (pslc && decide (d.pslTarget ≤ d.curSb + d.pslcComing)) || !decide (1 ≤ purpose ∧ purpose ≤ 4) then d
  else match d.allocGroup with
    | none => d
    | some g => match d.oldestFree g with
      | none => d
      | some n =>
        if d.lookupOpen n then d
        else
          let d := (d.arbWin 0x320 128 g).setRegF .REB 0 Reg.REB_REB_STS 3 1 0
          let d := d.setSb n { d.sb n with state := 1, pslc := pslc, purpose := purpose, valid := 0, next := 0, failed := [], kind := 0 }
          (d.ledgerIntent n).pslRecompute

def execSbAllocate (pslc : Bool) (purpose : Nat) (forHost : Bool) (s : State) : Host.Outcome State Fault Refusal :=
  run (Dev.sbAllocate pslc purpose forHost) s

/-- One more erase of every member block of a superblock, but for `bad` members (R166). -/
def Dev.countErases (d : Dev) (n : Nat) (bad : List Nat) : Dev :=
  match d.group (sbGroup n) with
  | none => d
  | some g => (List.range g.members.length).foldl (fun d i =>
      if bad.contains i then d
      else
        let m := g.members.getD i 0
        match d.die m with
        | none => d
        | some x =>
          let b := x.blockOf (n % 8192)
          (d.dropRaw m b).mapDie m (fun x => { x with erases := mput x.erases b ((mget x.erases b).getD 0 + 1) })) d

/-- A pSLC superblock may not open: CUR_SB stands at TARGET_SB (R163). -/
def Dev.openHeld (d : Dev) (n : Nat) : Bool := (d.sb n).pslc && decide (d.pslTarget ≤ d.curSb)

/-- ERASE_DONE (R167, R318, R319): the erases of superblock `n` end; `bad` are the members whose erase failed. The header page goes to dies `a` and
`b` before the superblock is OPEN. One that may not open waits in ERASING. -/
def Dev.eraseDone (n : Nat) (bad : List Nat) (a b : Nat) (d : Dev) : Dev :=
  if (d.sb n).state ≠ 1 ∨ (bad.isEmpty ∧ (d.openHeld n ∨ !d.copyOk a b ∨ d.life.fatal)) then d
  else
    let d := { d with
      media := d.media.filter (fun e => keySb e.1 != n)
      injected := d.injected.filter (fun x => !(x.page == PT.LDP.code && keySb x.addr == n)) }
    let d := (d.countErases n bad).ledgerClose n bad
    if bad.isEmpty then (d.copyPage a b 7 (headerPage (d.headerRec n))).setSb n { d.sb n with state := 2 }
    else ((bad.foldl (fun d m => d.blockFail n m) d)).sbSettle n

def execEraseDone (n : Nat) (out : EraseEnd) (s : State) : Host.Outcome State Fault Refusal := run (Dev.eraseDone n out.bad out.a out.b) s

/-- When a superblock was last programmed first or visited (R179). -/
def Sb.touched (x : Sb) : Nat := max x.progS x.visitS

/-- The CLOSED superblock that patrol visits next: the one programmed or visited longest ago (R179). -/
def Dev.patrolNext (d : Dev) : Option Nat :=
  ((d.ftl.sbs.filter (fun e => e.2.state == 3 && e.2.purpose != 6)).foldl (fun best e => match best with
    | none => some e
    | some y => if e.2.touched < y.2.touched then some e else best) (none : Option (Nat × Sb))).map (·.1)

/-- Rows of a superblock that hold codewords, ascending. -/
def Dev.rowsOf (d : Dev) (n : Nat) : List Nat := ((d.media.filter (fun e => keySb e.1 == n)).map (fun e => keyRow e.1)).eraseDups

/-- The rows that the next visit of a superblock reads: the first programmed one, and one of the others in turn over the visits (R179). -/
def Dev.visitRows (d : Dev) (n : Nat) : List Nat := match d.rowsOf n with
  | [] => []
  | r :: rs => r :: (rs[(d.sb n).visits % rs.length]?).toList

/-- What a codeword of a visit shows is a finding (R179, R246): soft decoding (steps 2 and 4), a hard decode of at least the
threshold, or no accepted decode. -/
def Dev.visitFinds (d : Dev) (step : Nat) : Decoded → Bool
  | .ok bits => step == 2 || step == 4 || decide (d.patrolBits ≤ bits)
  | _ => true

/-- Counters of the decodes of a visit (R249): `outs` are the codewords that need more than a clean hard decode. -/
def Dev.visitCounts (d : Dev) (total : Nat) (outs : List (Nat × Nat × Decoded)) : Dev :=
  let ok (e : Nat × Nat × Decoded) : Bool := match e.2.2 with
    | .ok _ => true
    | _ => false
  let d := d.inc64 .LDP 0 Reg.LDP_CW_DECODED (total - outs.countP (fun e => !ok e))
  let d := d.inc64 .LDP 0 Reg.LDP_SOFT_USED (outs.countP (fun e => ok e && (e.2.1 == 2 || e.2.1 == 4)))
  d.inc64 .LDP 0 Reg.LDP_RETRY_USED (outs.countP (fun e => ok e && (e.2.1 == 3 || e.2.1 == 4)))

/-- PATROL_VISIT (R179, R180): two rows of the next CLOSED superblock are read under G13; `outs` gives the codewords of them that do not decode
cleanly at step 1: media key, the step at which the decoding ended and its outcome. On a finding the superblock's bands move to QLC slots of `dsts`
and count in REFRESHED. A refresh in progress goes on first. -/
def Dev.patrolVisit (outs : List (Nat × Nat × Decoded)) (dsts lost : List Nat) (d : Dev) : Dev :=
  if !d.mayRelocate then d
  else
    let refresh (d : Dev) (n : Nat) : Dev :=
      (d.emptySb n 13 dsts lost (fun d => d.incWrap .WEAR 0 Reg.WEAR_REFRESHED 1)).sbSettle n
    match d.ftl.sbs.find? (fun e => e.2.state == 4 && e.2.kind == 1) with
    | some e => refresh d e.1
    | none => match d.patrolNext with
      | none => d
      | some n =>
        if !d.gateOpen 13 then d else
        let rows := d.visitRows n
        let seen := (d.media.filter (fun e => rows.contains (keyRow e.1))).length
        let mine := outs.filter (fun e => rows.contains (keyRow e.1) && mhas d.media e.1)
        let found := mine.any (fun e => d.visitFinds e.2.1 e.2.2)
        let d := (d.charge 13 (256 * rows.length)).visitCounts seen mine
        let d := d.setSb n { d.sb n with visitS := d.nowS, visits := (d.sb n).visits + 1 }
        if found then refresh (d.finding n) n else d

def execPatrolVisit (outs : List (Nat × Nat × Decoded)) (dsts lost : List Nat) (s : State) : Host.Outcome State Fault Refusal :=
  run (Dev.patrolVisit outs dsts lost) s

/-- DELTA_MAX as it acts (R189). -/
def Dev.deltaMax (d : Dev) : Nat := max 0x1000 (d.regF .MAP 0 Reg.MAP_CKPT_CFG 0 24)

/-- CHECKPOINT_PASS (R184, R275, R320): a pass starts with a root page and the records of groups, unprotected rows and open rows; while it is in
progress, its next chunk is written (R189). -/
def Dev.checkpointPass (d : Dev) : Dev :=
  if d.regB .MAP 0 Reg.MAP_CKPT_STS 8 then
    (if d.life.fatal then d else d.setRegF .MAP 0 Reg.MAP_CKPT_STS 0 8 (min 192 (d.regF .MAP 0 Reg.MAP_CKPT_STS 0 8 + 1)))
  else if !d.mayPlace || !decide (d.deltaMax ≤ d.jnl.deltas.length) || d.plp.rootPages = 0 then d
  else
    let recs := d.ftl.groups.flatMap (fun e => d.groupRecs e.1) ++ d.ftl.unprot.map (fun k => d.rowRec rowUnprot k true (d.bandOfSlot (k / 1024) (k / 16 % 64)) 16) ++
      d.ftl.rows.map (fun e => d.rowRec rowProgress e.1 true (d.bandOfSlot (e.1 / 1024) (e.1 / 16 % 64)) e.2.units)
    let d := { d with
      plp := { d.plp with rootPages := d.plp.rootPages - 1 }
      jnl := { d.jnl with rootSeq := d.jnl.rootSeq + 1, passSeq := d.reg64 .JNL 0 Reg.JNL_JSEQ } }
    (d.setRegN .MAP 0 Reg.MAP_CKPT_STS 0x100).jrec recs

def execCheckpointPass (s : State) : Host.Outcome State Fault Refusal := run Dev.checkpointPass s

end Sys2Proof.Machine
end

