-- ==== Sys2Proof/Machine/Stripes.lean ====
section
/-! DEFINITION. Meanings of the stripe, journal, rebuild and reshape commands (spec/08_stripes_rebuild.md). -/
namespace Sys2Proof.Machine
open Sys2Proof

/-! ### Log rows (R271, R272) -/

/-- Drop an open row. -/
def Dev.closeRow (d : Dev) (k : Nat) : Dev := d.mapFtl (fun f => { f with rows := mdel f.rows k })

/-- Mark a row UNPROTECTED with its record (R271, R274). -/
def Dev.unprotect (d : Dev) (k : Nat) : Dev :=
  let units := ((mget d.ftl.rows k).map (·.units)).getD 0
  ((d.closeRow k).mapFtl (fun f => { f with unprot := if f.unprot.contains k then f.unprot else k :: f.unprot })).jrec
    [d.rowRec rowUnprot k true (d.bandOfSlot (k / 1024) (k / 16 % 64)) units]

/-- Queue a full merge of log band `l` ahead of other G12 work; `stop` ends its positions (R271). -/
def Dev.urge (d : Dev) (l : Nat) (stop : Bool) : Dev :=
  match d.logBand l with
  | none => d
  | some x => d.setLog l { x with urgent := if x.urgent = 0 then d.nextUrgent else x.urgent, more := x.more && !stop }

/-- Parity of row `row` of log band `l` (R271): 240 tokens of G12 for the read-back, then ROW_CLOSED or ROW_UNPROTECTED. -/
def Dev.rowParity (d : Dev) (l row : Nat) (res : Parity) : Dev :=
  match d.logBand l with
  | none => d
  | some x =>
    let k := (x.sb * 64 + x.slot) * 16 + row
    let d := d.charge 12 240
    match res with
    | .ok => (d.closeRow k).jrec [d.rowRec rowClosed k true x.band 17]
    | .undecodable => ((d.unprotect k).raiseErr .STR 0 2 noDetail).urge l false
    | .programFail m => (((d.blockFail x.sb m).unprotect k).raiseErr .STR 0 2 noDetail).urge l true

/-- LOG_ROW_PARITY: the 16th unit of a row of log band `l` has programmed. -/
def Dev.logRowParity (l row : Nat) (res : Parity) (d : Dev) : Dev :=
  match d.logBand l with
  | none => d
  | some x => match mget d.ftl.rows ((x.sb * 64 + x.slot) * 16 + row) with
    | some r => if d.mayPlace && decide (16 ≤ r.units ∧ row < 16) then d.rowParity l row res else d
    | none => d

def execLogRowParity (l row : Nat) (res : Parity) (s : State) : Host.Outcome State Fault Refusal :=
  run (Dev.logRowParity l row res) s

/-- ROW_CLOSE_S as it acts, in µs (R298). -/
def Dev.rowCloseUs (d : Dev) : Nat := max 1 (d.regF .STR 0 Reg.STR_STR_CFG 0 16) * 1000000

/-- The open row of log band `l` is completed with pad units and closed: when its time is over (R272), or at once (R261). -/
def Dev.rowPad (l : Nat) (res : Parity) (now : Bool) (d : Dev) : Dev :=
  let d1 := match d.logBand l with
    | some x => if x.unit.isEmpty || !x.more then d else d.programUnit l
    | none => d
  match d.logBand l, d1.logBand l with
  | some x0, some x =>
    let row := (x0.fill - x0.unit.length) / 256
    match mget d.ftl.rows ((x0.sb * 64 + x0.slot) * 16 + row) with
    | some r =>
      let late := decide (d.rowCloseUs < d.life.usUp - r.firstUs) || d.life.entry == .patrolEntering
      if x.more && x.state != 3 && (now || (d.mayPlace && late)) && decide (r.units < 16) then
        let stop := (row + 1) * 256
        let pads := stop - x.fill
        let d := (d1.programAt x.sb x.slot (d1.padCws x x.fill stop)).inc64 .LOG 0 Reg.LOG_PAD_SECT pads
        let d := d.charge 12 pads
        let d := d.setLog l { x with
          fill := stop, inOrder := x.inOrder && decide (pads = 0), state := if stop = 4096 then 2 else x.state }
        (d.jrec ((List.range (pads / 16)).map (fun i =>
          d.rowRec rowProgress ((x.sb * 64 + x.slot) * 16 + row) true x.band (r.units + i + 1)))).rowParity l row res
      else d
    | none => d
  | _, _ => d

/-- ROW_CLOSE_TIMEOUT (R272). -/
def Dev.rowClose (l : Nat) (res : Parity) (d : Dev) : Dev := Dev.rowPad l res false d

def execRowCloseTimeout (l : Nat) (res : Parity) (s : State) : Host.Outcome State Fault Refusal := run (Dev.rowClose l res) s

/-! ### Journal pages (R276, R277) -/

/-- JOURNAL_PAGE_WRITE: the oldest filled page is written to dies `a` and `b` (R276, R677). -/
def Dev.journalPage (a b : Nat) (d : Dev) : Dev :=
  match d.jnl.waiting with
  | [] => d
  | p :: rest =>
    if !(d.copyOk a b) || d.life.fatal then d
    else
      let d := { d with jnl := { d.jnl with
        waiting := rest, media := p.state, copies := (a, b) :: d.jnl.copies, seqMedia := d.jnl.seqMedia + 2048 } }
      (d.copyPage a b 2 p.bytes).inc64 .JNL 0 Reg.JNL_PAGES 1

def execJournalPageWrite (a b : Nat) (s : State) : Host.Outcome State Fault Refusal := run (Dev.journalPage a b) s

/-- A pair of copies of which exactly one die is gone. -/
def Dev.oneCopy (d : Dev) (c : Nat × Nat) : Bool := d.dieGone c.1 != d.dieGone c.2

/-- JOURNAL_COPY_RESTORE: a page left with one copy is written again to die `n` (R277). -/
def Dev.journalRestore (n : Nat) (d : Dev) : Dev :=
  match d.jnl.copies.find? d.oneCopy with
  | none => d
  | some c =>
    let keep := if d.dieGone c.1 then c.2 else c.1
    if d.copyOk keep n then
      { d with jnl := { d.jnl with copies := updFirst (fun x => x == c) (fun _ => (keep, n)) d.jnl.copies } }
    else d

def execJournalCopyRestore (n : Nat) (s : State) : Host.Outcome State Fault Refusal := run (Dev.journalRestore n) s

/-! ### Rebuild (R283 to R288) -/

/-- A row of band `b`'s slots is UNPROTECTED, or open with a FAILED member (R284). -/
def Dev.atRisk (d : Dev) (b : Nat) : Bool :=
  match d.band b with
  | none => false
  | some e =>
    let slots := (if e.slot = noSlot then [] else [e.sb * 64 + e.slot]) ++ (if e.logged then (match d.logBand e.logIdx with
      | some x => [x.sb * 64 + x.slot]
      | none => []) else [])
    d.ftl.unprot.any (fun k => slots.contains (k / 16)) ||
      d.ftl.rows.any (fun r => slots.contains (r.1 / 16) && d.sbDegraded (r.1 / 16 / 64))

/-- Rank of R284 of a band in group `g`, and its place within the rank. -/
def Dev.rebuildRank (d : Dev) (g b : Nat) : Nat × Nat :=
  match d.band b with
  | none => (4, 0)
  | some e =>
    let home := e.logged && (match d.logBand e.logIdx with
      | some x => sbGroup x.sb == g
      | none => false)
    if d.atRisk b then (0, b) else if home then (1, b) else if e.fast then (2, b) else (3, e.sb * 64 + e.slot)

/-- The band of group `g` that the rebuild moves next (R284). -/
def Dev.rebuildNext (d : Dev) (g : Nat) : Option Nat :=
  ((d.bandsOfGroup g).map (fun b => (d.rebuildRank g b, b))).foldl (fun best x => match best with
    | none => some x
    | some y => if x.1.1 < y.1.1 ∨ (x.1.1 = y.1.1 ∧ x.1.2 < y.1.2) then some x else best) none |>.map (·.2)

/-- A reshape is paused (R297). -/
def Dev.reshapePaused (d : Dev) : Bool :=
  d.regB .REB 0 Reg.REB_REB_CTL 2 || d.regB .REB 0 Reg.REB_REB_STS 2 ||
    d.ftl.groups.any (fun e => e.2.state == 2 && e.2.cause == 1)

/-- RETIRING groups whose bands may move now, ascending: those of a failed die first (R288, R297). -/
def Dev.leaving (d : Dev) : List Nat :=
  ((d.ftl.groups.filter (fun e => e.2.state == 2 && e.2.cause == 1)).map (·.1)) ++
    (if d.reshapePaused then [] else (d.ftl.groups.filter (fun e => e.2.state == 2 && e.2.cause == 2)).map (·.1))

/-- No superblock is FREE for a rebuild (R285): STALLED, STALL and a WARN event, once. -/
def Dev.rebuildStall (d : Dev) : Dev :=
  if d.regB .REB 0 Reg.REB_REB_STS 3 then d
  else ((d.setRegF .REB 0 Reg.REB_REB_STS 3 1 1).setIrq .REB 0 2).note 2 .REB none none

/-- The band under a job of G14 among those of a group (R297: a pause acts after the band in progress). -/
def Dev.rebuildHere (d : Dev) (g : Nat) : Option Nat := (d.bandsOfGroup g).find? (d.jobHere 14)

/-- REBUILD_RELOCATE: the next band or held slot of a RETIRING group moves to a QLC slot of `dst` under G14; emptied groups
become UNUSED and their dies form new groups (R284 to R288). A band in progress is finished first. DESIGN CHOICE: MOVED counts bands; the move of a
held slot, of which R300 says nothing, does not count. -/
def Dev.rebuildRelocate (dst : Nat) (lost : List Nat) (d : Dev) : Dev :=
  if !d.mayRelocate then d
  else
    let out := (d.ftl.groups.filter (fun e => e.2.state == 2)).map (·.1)
    match out with
    | [] => d
    | _ =>
      let gs := d.leaving
      let next := match out.findSome? d.rebuildHere with
        | some b => some b
        | none => gs.findSome? (fun g => d.rebuildNext g)
      let held := gs.findSome? (fun g => (d.heldOfGroup g).head?)
      let d :=
        if !d.destOk dst false ∧ (next.isSome ∨ held.isSome) then (if d.freeSb = 0 then d.rebuildStall else d)
        else match next, held with
          | some b, _ => d.relocateBand b dst 14 false lost (fun d => d.inc64 .REB 0 Reg.REB_MOVED 1)
          | none, some h => d.relocateHeld h dst 14 false lost
          | none, none => d
      (gs.foldl (fun d g => d.groupDone g) d).formFromPool

def execRebuildRelocate (dst : Nat) (lost : List Nat) (s : State) : Host.Outcome State Fault Refusal :=
  run (Dev.rebuildRelocate dst lost) s

/-- REPAIR_RELOCATION: the bands of a REPAIR superblock, or those of unprotected rows of superblock `n`, move under G14 (R167, R278). -/
def Dev.repairRelocation (n : Nat) (dsts lost : List Nat) (d : Dev) : Dev :=
  if !d.mayRelocate then d
  else if (d.sb n).state = 5 ∨ d.ftl.unprot.any (fun k => k / 16 / 64 == n) then
    (d.emptySb n 14 dsts lost id).sbSettle n
  else d

def execRepairRelocation (n : Nat) (dsts lost : List Nat) (s : State) : Host.Outcome State Fault Refusal :=
  run (Dev.repairRelocation n dsts lost) s

/-! ### Reshape (R294 to R297) -/

/-- Superblock counts of the ACTIVE groups. -/
def Dev.activeCounts (d : Dev) : List Nat := (d.ftl.groups.filter (fun e => e.2.state == 1)).map (·.2.sbCount)

/-- SB_MAX of R294. -/
def Dev.sbMax (d : Dev) : Nat := d.activeCounts.foldl max 0

/-- SB_MIN of R294. -/
def Dev.sbMin (d : Dev) : Nat := match d.activeCounts with
  | [] => 0
  | c :: cs => cs.foldl min c

/-- RESHAPE_CAP of R294 for a target level. -/
def Dev.reshapeCap (d : Dev) (target : Nat) : Nat :=
  let dies := (d.dies.filter (fun e => e.2.data && e.2.state != 8)).length
  let g := dies / (17 + target)
  let r := d.regF .GC 0 Reg.GC_GC_CFG 0 20
  let rsv := if r = 0 then max (2 * g) (g * d.sbMin / 256) else r
  min 16777216 (48 * (g * d.sbMin - rsv - d.minSb))

/-- RESHAPE_NEED of R294. -/
def Dev.reshapeNeed (d : Dev) : Nat := d.mapped + d.heldSlots + 48 * d.sbMax

/-- RESHAPE_CAP_UPDATE: the 100 ms update of both registers. -/
def Dev.reshapeUpdate (d : Dev) : Dev :=
  (d.setRegN .REB 0 Reg.REB_RESHAPE_CAP (d.reshapeCap (d.regF .REB 0 Reg.REB_REB_CTL 1 1) % 2 ^ 25)).setRegN .REB 0
    Reg.REB_RESHAPE_NEED (d.reshapeNeed % 2 ^ 25)

def execReshapeCapUpdate (s : State) : Host.Outcome State Fault Refusal :=
  run (fun d => if d.life.booted then d.reshapeUpdate else d) s

/-- A write of REB_CTL (R294, R300): TARGET and PAUSE, then START. -/
def Dev.reshapeWrite (value : W32) (d : Dev) : Dev :=
  let runs := d.regB .REB 0 Reg.REB_REB_CTL 0
  let d := if runs then d else d.setRegF .REB 0 Reg.REB_REB_CTL 1 1 (fld value 1 1)
  let d := d.setRegF .REB 0 Reg.REB_REB_CTL 2 1 (fld value 2 1)
  let target := d.regF .REB 0 Reg.REB_REB_CTL 1 1
  if fld value 0 1 = 0 then d
  else if runs then d.raiseErr .REB 0 1 noDetail
  else if target = d.regF .STR 0 Reg.STR_STR_STS 0 1 then d
  else if d.ftl.groups.any (fun e => e.2.state == 2) then d.raiseErr .REB 0 1 noDetail
  else if d.reshapeCap target < d.reshapeNeed then d.raiseErr .REB 0 0 noDetail
  else (d.setRegF .REB 0 Reg.REB_REB_CTL 0 1 1).setRegF .REB 0 Reg.REB_REB_STS 2 2 0

def execReshapeStart (req : Requester) (value : W32) (s : State) : Host.Outcome State Fault Refusal :=
  run (fun d => d.regWrite req .REB 0 Reg.REB_REB_CTL (Dev.reshapeWrite value)) s

/-- The ACTIVE old-width group with the fewest valid bands (R295). -/
def Dev.oldestWidth (d : Dev) (w : Nat) : Option Nat :=
  ((d.ftl.groups.filter (fun e => e.2.state == 1 && e.2.width != w)).foldl (fun best e => match best with
    | none => some e.1
    | some g => if d.groupValid e.1 < d.groupValid g then some e.1 else best) (none : Option Nat))

/-- RESHAPE_STEP: new-width groups form, then the next old-width group begins retirement, or the reshape ends (R295, R296). -/
def Dev.reshapeStep (d : Dev) : Dev :=
  if !d.regB .REB 0 Reg.REB_REB_CTL 0 || d.reshapePaused || !d.mayRelocate then d
  else
    let d := d.formFromPool
    let w := d.formWidth
    if d.ftl.groups.all (fun e => e.2.width == w) then
      let d := (d.setRegF .STR 0 Reg.STR_STR_STS 0 1 (w - 17)).jrec [.prot (w - 17)]
      ((d.setRegF .REB 0 Reg.REB_REB_CTL 0 1 0).setRegF .REB 0 Reg.REB_REB_STS 2 2 0).setIrq .REB 0 1
    else if d.ftl.groups.any (fun e => e.2.state == 2) then d
    else match d.oldestWidth w with
      | some g => ((d.retireGroup g 2).groupDone g).formFromPool
      | none => d

def execReshapeStep (s : State) : Host.Outcome State Fault Refusal := run Dev.reshapeStep s

/-- RESHAPE_PAUSE: the causes of R297 are tested after the band in progress; PAUSED and STALLED follow. DESIGN CHOICE: STALLED, which sets with
the reserve, sets IRQ_STS[2] STALL too; the spec gives that bit no trigger of its own. -/
def Dev.reshapePause (d : Dev) : Dev :=
  if !d.regB .REB 0 Reg.REB_REB_CTL 0 then d
  else
    let was := d.regB .REB 0 Reg.REB_REB_STS 3
    let stall := if d.freeSb ≤ d.effReserve then true else if d.effReserve + d.sbMax ≤ d.freeSb then false else was
    let paused := stall || d.regB .REB 0 Reg.REB_REB_CTL 2 || d.ftl.groups.any (fun e => e.2.state == 2 && e.2.cause == 1)
    let d := (d.setRegF .REB 0 Reg.REB_REB_STS 2 1 (b2n paused)).setRegF .REB 0 Reg.REB_REB_STS 3 1 (b2n stall)
    if stall && !was then d.setIrq .REB 0 2 else d

def execReshapePause (s : State) : Host.Outcome State Fault Refusal := run Dev.reshapePause s

end Sys2Proof.Machine
end

