-- ==== Sys2Proof/Machine/Codes.lean ====
section
/-! DEFINITION. Meanings of the decoding and on-chip memory commands (spec/07_media_codes.md, spec/08_stripes_rebuild.md R280 to R291). -/
namespace Sys2Proof.Machine
open Sys2Proof

/-! ### Escalation (R243 to R247) -/

/-- SOFT_EN, RETRY_EN, RETRY_MAX and REFRESH_RETRY that a codeword started with. -/
def Esc.soft (e : Esc) : Bool := fld e.cfg 19 1 == 1
def Esc.retries (e : Esc) : Nat := if fld e.cfg 20 1 = 1 then fld e.retry 0 5 else 0
def Esc.refresh (e : Esc) : Nat := max 1 (fld e.cfg 24 5)

/-- The step after a failed one (R244, R675). -/
def Esc.next (e : Esc) : Esc :=
  if e.erased then { e with step := 5 }
  else if e.step = 1 ∧ e.soft then { e with step := 2 }
  else if e.step ≤ 2 ∧ 0 < e.retries then { e with step := 3, idx := 1 }
  else if e.step = 3 ∧ e.idx < e.retries then { e with idx := e.idx + 1 }
  else if e.step = 3 ∧ e.soft then { e with step := 4 }
  else { e with step := 5 }

/-- What a failed decode leaves: the erased mark, a MISDIRECT at step 1, the best index of step 3. -/
def Esc.note (e : Esc) (out : Decoded) : Esc :=
  let e := match out with
    | .erased => { e with erased := true }
    | _ => e
  if e.step = 1 then { e with misdirect := out == .misdirect }
  else if e.step = 3 then
    let n := match out with
      | .fail u => u
      | _ => 0
    if e.best = 0 ∨ n < e.bestUnsat then { e with best := e.idx, bestUnsat := n } else e
  else e

/-- The job of sector `idx` of a command, and where its codeword stands. -/
def Flight.job (f : Flight) (idx : Nat) : Option (SecJob × Nat × Esc) :=
  match f.jobs.find? (fun j => j.idx == idx) with
  | some j => match j.st with
    | .media k e => some (j, k, e)
    | _ => none
  | none => none

/-- Replace what is known of sector `idx`, then let the command go on (R20); the soft pool follows (R240). -/
def Dev.setJob (d : Dev) (f : Flight) (idx : Nat) (st : SecSt) : Dev :=
  let f := { f with jobs := f.jobs.map (fun j => if j.idx = idx then { j with st := st } else j) }
  (d.setFlight f).readsOn.softSettle

/-- An accepted decode: counted, a finding from REFRESH_RETRY on (R245), the sector's content taken. -/
def Dev.accept (d : Dev) (f : Flight) (idx key : Nat) (e : Esc) : Dev :=
  let d := d.inc64 .LDP 0 Reg.LDP_CW_DECODED 1
  let d := if e.step = 2 ∨ e.step = 4 then d.inc64 .LDP 0 Reg.LDP_SOFT_USED 1 else d
  let d := if e.step = 3 ∨ e.step = 4 then d.inc64 .LDP 0 Reg.LDP_RETRY_USED 1 else d
  let at_ := if e.step = 4 then e.best else e.idx
  let d := if (e.step = 3 ∨ e.step = 4) ∧ e.refresh ≤ at_ then d.finding (keySb key) else d
  match f.key, f.key.bind d.store with
  | some k, some v => d.setJob f idx (d.cwSec k v f idx key)
  | _, _ => d

/-- What a decode gives on a codeword that an injection struck (R249): its parity bits count as corrected, a wrong CHECK fails R243. -/
def Dev.struck (d : Dev) (key : Nat) (out : Decoded) : Decoded := match out with
  | .ok n => if d.cwInjected key 2 ≠ 0 then .miscorrect else .ok (n + (bitList (d.cwInjected key 1) 16).length)
  | o => o

/-- One decode of the codeword of sector `idx` ends (R243, R244). -/
def Dev.decoded (d : Dev) (f : Flight) (idx key : Nat) (e : Esc) (out : Decoded) : Dev :=
  match d.struck key out with
  | .ok _ => d.accept f idx key e
  | o =>
    let d := match o with
      | .miscorrect => d.inc64 .LDP 0 Reg.LDP_MISCORRECT 1
      | .misdirect => d.inc64 .LDP 0 Reg.LDP_MISDIRECT 1
      | _ => d
    let e := (e.note o).next
    let d := if e.step = 5 then d.reach5 [key] else d
    d.setJob f idx (.media key e)

/-- Act on sector `idx` of command (q, tag) while its codeword stands at a step that `p` accepts and the media can be read. -/
def Dev.atStep (d : Dev) (q tag idx : Nat) (p : Esc → Bool) (act : Dev → Flight → Nat → Esc → Dev) : Dev :=
  if d.life.fatal then d
  else match d.flight q tag with
    | some f =>
      if f.stage = .media then
        match f.job idx with
        | some (_, k, e) => if p e then act d f k e else d
        | none => d
      else d
    | none => d

/-- One decode at a step, once a decoder is granted: `read` is what the sequencer reads for it. -/
def Dev.decodeAt (q tag idx : Nat) (p : Esc → Bool) (read : Dev → Nat → Esc → Dev) (out : Decoded) (d : Dev) : Dev :=
  d.atStep q tag idx p (fun d f k e => match d.decoder q tag idx k e with
    | some d => (read d k e).decoded f idx k e out
    | none => d)

/-- HARD_DECODE: step 1 of R244, the read at index 0 (R239). -/
def Dev.hardDecode (q tag idx : Nat) (out : Decoded) (d : Dev) : Dev :=
  Dev.decodeAt q tag idx (fun e => e.step == 1) (fun d k _ => d.cwRead k 0) out d

def execHardDecode (q tag idx : Nat) (out : Decoded) (s : State) : Host.Outcome State Fault Refusal :=
  runCmd (Dev.hardDecode q tag idx out) s

/-- SOFT_DECODE: step 2 or 4 of R244 (R240), with two further reads around index 0 or the best index of step 3 (R241). -/
def Dev.softDecode (q tag idx : Nat) (out : Decoded) (d : Dev) : Dev :=
  Dev.decodeAt q tag idx (fun e => e.step == 2 || e.step == 4)
    (fun d k e => d.cwSoftReads k (if e.step = 4 then e.best else 0) e.retry) out d

def execSoftDecode (q tag idx : Nat) (out : Decoded) (s : State) : Host.Outcome State Fault Refusal :=
  runCmd (Dev.softDecode q tag idx out) s

/-- READ_RETRY: step 3 of R244 at the next index (R242). -/
def Dev.readRetry (q tag idx : Nat) (out : Decoded) (d : Dev) : Dev :=
  Dev.decodeAt q tag idx (fun e => e.step == 3) (fun d k e => d.cwRead k e.idx) out d

def execReadRetry (q tag idx : Nat) (out : Decoded) (s : State) : Host.Outcome State Fault Refusal :=
  runCmd (Dev.readRetry q tag idx out) s

/-! ### Degraded reads (R280 to R282, R289, R290) -/

/-- Band and sector whose map entry, or a delta entry, names a media key. -/
def Dev.namedAt (d : Dev) (key : Nat) : Option (Nat × Nat) :=
  let slot := key / 4096
  let pos := key % 4096
  match d.ftl.bands.find? (fun e => e.2.slot != noSlot && e.2.sb * 64 + e.2.slot == slot && d.lookup e.1 pos == .at key) with
  | some e => some (e.1, pos)
  | none => match d.ftl.logs.findSome? (fun l => if l.2.sb * 64 + l.2.slot = slot then
        (l.2.map.find? (fun m => d.lookup l.2.band m.1 == .at key)).map (fun m => (l.2.band, m.1)) else none) with
    | some r => some r
    | none => (d.ftl.held.find? (fun h => !h.none && h.sb * 64 + h.slot == slot)).map (fun h => (h.band, pos))

/-- Media keys of the row of a codeword that are lost: positions `c` whose unavailable members exceed the parity, on the data
dies among them (R289). In a row without parity every unavailable data die is lost. -/
def lostKeys (w key page b : Nat) (parity : Bool) (masks : Nat → Nat) : List Nat :=
  let row := key / 256 * 256
  (List.range 16).flatMap (fun dd => ((List.range 16).filter (fun c =>
    nbit (masks c) (memberOf w page b dd) && (!parity || decide (w - 16 < maskCount (masks c) w)))).map (fun c => row + dd * 16 + c))

/-- Log every lost sector of a row (R290), band by band. -/
def Dev.lostRow (d : Dev) (cause unavail : Nat) (keys : List Nat) : Dev :=
  let named := keys.filterMap (fun k => (d.namedAt k).map (fun r => (r.1, r.2, k)))
  ((named.map (·.1)).eraseDups).foldl (fun d b =>
    let secs := (named.filter (fun r => r.1 == b)).map (·.2)
    let order := sortBy (fun i => (secs[i]?.map (·.1)).getD 0) (List.range secs.length)
    d.lostFound b cause unavail (order.filterMap (fun i => secs[i]?))) d

/-- DEGRADED_READ: step 5 of R244 (R280). `unav` gives by position 0 to 15 of the row the members that stay undecodable, `mismatch`
says that the rebuilt part fails CHECK or its identity (R269). -/
def Dev.degradedRead (q tag idx : Nat) (unav : List Nat) (mismatch : Bool) (d : Dev) : Dev :=
  d.atStep q tag idx (fun e => e.step == 5) (fun d f key e =>
    match d.group (sbGroup (keySb key)) with
    | none => d.setJob f idx (.failed St.mediaUncorr 1 0 0)
    | some g =>
      let w := g.members.length
      let page := 16 * (key / 4096 % 64) + key % 4096 / 256
      let b := keySb key % 8192
      let gone := d.goneMask g
      let own := memberOf w page b (key % 256 / 16)
      let masks (c : Nat) : Nat := (unav.getD c 0 % 2 ^ w) ||| gone ||| (if c = key % 16 then 2 ^ own else 0)
      let cause := d.rowCause key
      let parity := cause == 1
      let mine := masks (key % 16)
      let d := if mismatch && parity then d.raiseErr .STR 0 1 noDetail else d
      if parity && !mismatch && decide (maskCount mine w ≤ w - 16) then d.accept f idx key e
      else if gone ≠ 0 then
        let keys := lostKeys w key page b parity masks
        let keys := if keys.contains key then keys else key :: keys
        (d.lostRow cause mine keys).setJob f idx (.failed St.stripeLost 0 0 0)
      else d.setJob f idx (.failed St.mediaUncorr (if e.erased then 5 else if e.misdirect then 2 else 1) 0 0))

def execDegradedRead (q tag idx : Nat) (unav : List Nat) (mismatch : Bool) (s : State) : Host.Outcome State Fault Refusal :=
  runCmd (Dev.degradedRead q tag idx unav mismatch) s

/-! ### On-chip memory (R251 to R261) -/

/-- SRAM_CORRECTED (R251 to R253): a port reads the word at `addr`, where the bits `upset` are in error beside what the word holds; one symbol is
in error, and it is corrected. -/
def Dev.sramCorrected (d : Dev) (addr upset port : Nat) : Dev :=
  if d.busUp && regionUsed (regionAt addr) then d.memServe addr upset port false else d

/-- The word that a row names lies in the region that it names. -/
def wordIn (region word : Nat) : Bool := regionAt (regionWord region word) == region

/-- SRAM_CORRECTED: `bits` of symbol `symbol` of word `word` of a region are in error. -/
def execSramCorrected (region word symbol bits port : Nat) (s : State) : Host.Outcome State Fault Refusal :=
  run (fun d => if wordIn region word then d.sramCorrected (regionWord region word) (bits % 256 * 256 ^ symbol) port else d) s

/-- A sector of a command whose on-chip copy stays unreadable: INTERNAL_MEMORY with DETAIL 0x10 + region (R261). -/
def Dev.memSector (d : Dev) (q tag idx region : Nat) : Dev :=
  match d.flight q tag with
  | some f =>
    if f.jobs.any (fun j => j.idx == idx) ∧ (f.stage = .media ∨ f.stage = .xfer) then
      let f := { f with stage := .media }
      d.setJob f idx (.failed St.internalMemory (0x10 + region) 0 0)
    else if f.stage = .data then d.failWrite f St.internalMemory idx (0x10 + region) 0 0 f.cmd.addr
    else d
  | none => d

/-- A write-cache line that cannot be read (R261): its sector becomes zero data with POISON = MEMORY, and a CRITICAL event names it. -/
def Dev.memLine (d : Dev) (key : Nat) : Dev :=
  match mget d.cache key with
  | none => d
  | some l =>
    let bad : Line := { l with stored := .zero, guard := 0, app := 0, ref := 0, zero := false, poison := 2 }
    let lba := match d.storeOfBand (key / 4096) with
      | some (_, v) => key - v.base * 4096
      | none => key
    { d with cache := mput d.cache key bad }.note 4 .MEM (some (lba % 2 ^ 32)) (some (lba / 2 ^ 32))

/-- A word of the band map, or of the log map, of band `b` cannot be read (R185): it is rebuilt from the newest delta record of the band, or the
checkpoint; when that fails too, the commands that need it stay held. -/
def Dev.entryLost (d : Dev) (region b : Nat) (again : Bool) : Dev :=
  if again then { d with lostEnts := if d.lostEnts.contains b then d.lostEnts else b :: d.lostEnts }.raiseErr .MAP 0 1 noDetail
  else
    let d := if region = 0 then d.rebuildEntry b else d
    d.raiseErr .MAP 0 0 noDetail

/-- The region's action (R261). `unit` is the band of regions 0 and 1, the cache line of region 2, the queue of region 4, or queue × 32 + tag of regions 10 to
12 with the sector `idx`; `again` says that the rebuild of regions 0, 1 and 3 fails, or that the second try fails too. -/
def Dev.memAction (d : Dev) (region unit idx : Nat) (again : Bool) : Dev :=
  match region with
  | 0 | 1 => d.entryLost region unit again
  | 2 => d.memLine unit
  | 3 => if again then d.fixedEvent .MEM 0 3 noDetail
      else d.ftl.logs.foldl (fun (d : Dev) (e : Nat × LogBand) => Dev.rowPad e.1 .ok true d) d
  | 4 => if unit < 2560 then d.fixedEvent (qPage unit).1 (qPage unit).2 2 noDetail else d
  | 7 => d
  | 10 | 12 => if again then d.memSector (unit / 32) (unit % 32) idx region else d
  | 11 =>
    if again then d.atStep (unit / 32) (unit % 32) idx (fun e => e.step == 2 || e.step == 4)
      (fun d f k e => d.decoded f idx k e (.fail 0))
    else d
  | _ => d.fixedEvent .MEM 0 3 noDetail

/-- SRAM_UNCORRECTABLE (R261): a port, or the scrubber, reads a word that its code cannot correct. Where the action gives the region fresh
content the word is whole again; a queue's word stays as it is until it is written. -/
def Dev.memUncorrectable (addr upset port : Nat) (scrub : Bool) (unit idx : Nat) (again : Bool) (d : Dev) : Dev :=
  let region := regionAt addr
  if !d.busUp || !regionUsed region || d.wordClass addr upset != .uncorr then d
  else
    let left := if region = 4 then d.wordErr addr ^^^ upset else 0
    ((d.setWordErr addr left).memBad addr port scrub).memAction region ((slotAddr addr).elim unit (· / 2048)) idx again

def execSramUncorrectable (region word upset port unit idx : Nat) (again : Bool) (s : State) : Host.Outcome State Fault Refusal :=
  runCmd (fun d => if wordIn region word then Dev.memUncorrectable (regionWord region word) upset port false unit idx again d else d) s

/-- SYM2 words in error that a scrub pass meets (R254). -/
def Dev.scrubWords (d : Dev) : List Nat := (d.sram.map (·.1)).filter (fun a => regionUsed (regionAt a) && !d.sym1 (regionAt a))

/-- The scrubber meets a word whose check bits do not fit: it corrects it, or raises it as a read would, port 0. -/
def Dev.scrubWord (d : Dev) (h : ScrubHit) : Dev :=
  if d.sym1 (regionAt h.addr) then d
  else match d.wordClass h.addr h.upset with
    | .uncorr => d.memUncorrectable h.addr h.upset 0 true h.unit h.idx h.again
    | _ => d.memServe h.addr h.upset 0 true

/-- SCRUB_PASS (R254): every word of the SYM2 regions is read in ascending address order. `hits` are the words that are not clean, with what an
uncorrectable one's action needs; they name every word that holds an error. DESIGN CHOICE: the scrubber has no port number; LAST_INFO.PORT reads
0 for what it finds. -/
def Dev.scrub (hits : List ScrubHit) (d : Dev) : Dev :=
  if d.busUp && d.regB .MEM 0 Reg.MEM_MEM_STS 0 && d.regF .MEM 0 Reg.MEM_MEM_CFG 0 16 != 0 &&
      d.scrubWords.all (fun a => hits.any (fun h => h.addr / 8 * 8 == a)) then
    let order := sortBy (fun i => (hits[i]?.map (·.addr)).getD 0) (List.range hits.length)
    (order.filterMap (fun i => hits[i]?)).foldl Dev.scrubWord d
  else d

def execScrubPass (hits : List ScrubHit) (s : State) : Host.Outcome State Fault Refusal := runCmd (Dev.scrub hits) s

/-- MERGE_BUFFER_TIMEOUT (R258, R260): the entry for 64-bit word `word` of slot memory is evicted; the read of its read-modify-write meets the
bits `upset` in error. -/
def Dev.mergeTimeout (word upset : Nat) (d : Dev) : Dev :=
  if d.mbuf.any (fun e => e.2.1 == word) then d.evictWord word upset else d

def execMergeBufferTimeout (word upset : Nat) (s : State) : Host.Outcome State Fault Refusal := run (Dev.mergeTimeout word upset) s

/-- A CODE write before INIT_DONE (R256): a region that refuses SYM1 keeps SYM2. -/
def Dev.codeWrite (region code : Nat) (d : Dev) : Dev :=
  if code % 2 = 1 ∧ d.regB .MEM 0 (regionOff region) 27 then d
  else d.setRegF .MEM 0 (regionOff region) 26 1 code

/-- REGION_CODE_WRITE: after INIT_DONE the write is discarded with CODE_LATE (R256). -/
def Dev.codeWriteBy (req : Requester) (region code : Nat) (d : Dev) : Dev :=
  if region < 16 then
    d.regWriteElse req .MEM 0 (regionOff region) (!d.regB .MEM 0 Reg.MEM_MEM_STS 0) (Dev.codeWrite region code)
      (fun d => d.raiseErr .MEM 0 2 noDetail)
  else d

def execRegionCodeWrite (req : Requester) (region code : Nat) (s : State) : Host.Outcome State Fault Refusal :=
  run (Dev.codeWriteBy req region code) s

end Sys2Proof.Machine
end

