-- ==== Sys2Proof/Machine/Queues.lean ====
section
/-! DEFINITION. Doorbells, slots, admission, descriptor lists, gates, data (spec/04_command_queues.md, spec/03_host_endpoint.md R79,
R88, R103, spec/01_architecture.md R15 to R25). -/
namespace Sys2Proof.Machine
open Sys2Proof

/-! ### Doorbells and slots -/

/-- New doorbell bits are set and take their place in the order of R130. -/
def Dev.ring (d : Dev) (q : Nat) (ts : List Nat) : Dev :=
  { ts.foldl (fun d t => d.setQF q Reg.HQ_DOORBELL t 1 1) d with dbOrder := d.dbOrder ++ ts.map (fun t => (q, t)) }

/-- The slot is taken: its DOORBELL bit reads 1. -/
def Dev.rung (d : Dev) (q t : Nat) : Bool := d.qF q Reg.HQ_DOORBELL t 1 == 1

/-- A doorbell write takes effect: the queue serves and is not frozen (R114). -/
def Dev.doorOpen (d : Dev) (q : Nat) : Bool := d.qSt q == .serving && !d.frozen q

/-- DOORBELL (R113, R114): new bits are set, a bit that is set already reports DB_BUSY. -/
def Dev.doorbell (req : Requester) (q : Nat) (bits : W32) (d : Dev) : Dev :=
  let p := qPage q
  d.regWriteElse req p.1 p.2 Reg.HQ_DOORBELL (d.doorOpen q)
    (fun d =>
      let ts := bitList bits.toNat 32
      let d := if ts.any (d.rung q) then d.raiseErr p.1 p.2 1 noDetail else d
      d.ring q (ts.filter (fun t => !d.rung q t)))
    (fun d => d.raiseErr p.1 p.2 2 noDetail)

def execDoorbell (req : Requester) (q : Nat) (bits : W32) (s : State) : Host.Outcome State Fault Refusal :=
  run (Dev.doorbell req q bits) s

/-- Merge buffer of a queue's slot memory (R257): 0 the host port, 1 + p tenant port p. -/
def mergePort (q : Nat) : Nat := if q < 2048 then 0 else 1 + (q - 2048) / 64

/-- A write to the bytes `lo` to `hi` − 1 of word `w` passes the merge buffer of a port (R257, R258): another port's entry is evicted,
a whole word is written at once, a part merges or takes an entry, the oldest going when 16 are held, and a full entry is evicted. -/
def Dev.mergeWrite (d : Dev) (port w lo hi : Nat) : Dev :=
  let d := if d.mbuf.any (fun e => e.2.1 == w && e.1 != port) then d.evictWord w 0 else d
  if lo = 0 ∧ hi = 8 then
    { d with mbuf := d.mbuf.filter (fun e => e.2.1 != w) }.freshWord (slotWord w)
  else
    let bits := 2 ^ hi - 2 ^ lo
    let d :=
      if d.mbuf.any (fun e => e.2.1 == w) then
        { d with mbuf := updFirst (fun e => e.2.1 == w) (fun e => (e.1, e.2.1, e.2.2 ||| bits)) d.mbuf }
      else
        let mine := d.mbuf.filter (fun e => e.1 == port)
        let d := if 16 ≤ mine.length then (match mine.head? with
          | some e => d.evictWord e.2.1 0
          | none => d) else d
        { d with mbuf := d.mbuf ++ [(port, w, bits)] }
    if d.mbuf.any (fun e => e.2.1 == w && e.2.2 == 255) then d.evictWord w 0 else d

/-- Words touched by `n` bytes from address `a`, with the first and last byte in each. -/
def wordsOf (a n : Nat) : List (Nat × Nat × Nat) :=
  ((List.range (n / 8 + 2)).map (fun i => a / 8 + i)).filterMap (fun w =>
    let lo := max a (8 * w)
    let hi := min (a + n) (8 * w + 8)
    if lo < hi then some (w, lo - 8 * w, hi - 8 * w) else none)

/-- Store bytes into slot memory at offset `o` of queue `q` (R110). -/
def Dev.slotStore (d : Dev) (q o : Nat) (data : List Byte) : Dev :=
  let a := q * 2048 + o
  let d := (wordsOf a data.length).foldl (fun d (e : Nat × Nat × Nat) => d.mergeWrite (mergePort q) e.1 e.2.1 e.2.2) d
  { d with mem := putBytes d.mem a data }

/-- A write form that slot memory accepts (R110). -/
def slotForm (o n : Nat) : Bool :=
  decide (4 ≤ n ∧ n ≤ 64 ∧ n % 4 = 0 ∧ o % 4 = 0 ∧ o / 64 = (o + n - 1) / 64 ∧ o + n ≤ 2048)

/-- SLOT_WRITE (R110, R113): `offset` counts from 0x800 of the queue page; in COMPAT the host reaches the slots of queue 0 at 0x1000 of
its own BAR0 (R101). -/
def Dev.slotWrite (req : Requester) (q offset : Nat) (data : List Byte) (d : Dev) : Dev :=
  let p := qPage q
  if !slotForm offset data.length then d
  else
    let busy := d.rung q (offset / 64)
    let put (d : Dev) : Dev := if busy then d.raiseErr p.1 p.2 0 noDetail else d.slotStore q offset data
    if d.life.mode = .compat ∧ req.dom = .host ∧ !req.i3c ∧ q = 0 then (if d.fnOpen .pf then put d else d)
    else d.regWriteElse req p.1 p.2 (0x800 + offset) (!busy) put put

def execSlotWrite (req : Requester) (q offset : Nat) (data : List Byte) (s : State) : Host.Outcome State Fault Refusal :=
  run (Dev.slotWrite req q offset data) s

/-! ### Admission (R112, R125, R130, R131) -/

/-- Modes and states in which a queue engine fetches commands (mode table, R31, R35, R27, R447). -/
def Dev.fetching (d : Dev) : Bool :=
  (servingMode d.life.mode || d.life.mode == .maint) && !d.life.fatal && !d.life.shutting && !d.life.shutDone &&
    !d.fab.preparing && (!d.life.maintReq || d.life.mode == .maint)

/-- FENCE of a tag: of its flight, or of its slot (R116, R130). -/
def Dev.fenceOf (d : Dev) (q t : Nat) : Bool := match d.flight q t with
  | some f => nbit f.cmd.flags 0
  | none => nbit (d.slotField q t 1 1) 0

/-- The order of a queue lets tag `t` be admitted (R130): no FENCE precedes it, and a FENCE has nothing before it. -/
def Dev.orderLets (d : Dev) (q t : Nat) : Bool :=
  let before := ((d.dbOrder.filter (fun e => e.1 == q)).map (·.2)).takeWhile (· != t)
  if d.fenceOf q t then before.isEmpty else !before.any (d.fenceOf q)

/-- Bus mastering of the function that owns a queue, whose DMA a command needs (R88). -/
def Dev.masters (d : Dev) (q : Nat) : Bool := (d.fn (d.qOwner q)).bme

/-- Queue `q` is served by engine `qe` and may take commands (R111, R114, R125). -/
def Dev.queueOpen (d : Dev) (qe q : Nat) : Bool :=
  d.doorOpen q && d.qF q Reg.HQ_Q_STS 20 2 == qe && d.page .QE qe == .serving &&
    (match d.qOwner q with
      | .pf => true
      | .vf n => (d.vf n).st == .serving
      | .tp p => d.page .TP p == .serving && d.portTrained p) && d.page .TNT (d.qTint q) == .serving && d.masters q &&
    decide (d.unconsumed q + (d.inflight q).length < 63)

/-- Tags of a queue that engine `qe` may take. -/
def Dev.admissible (d : Dev) (qe q : Nat) : List Nat :=
  if d.queueOpen qe q then (d.unadmitted q).filter (d.orderLets q) else []

/-- Queues with a doorbell bit not yet admitted. -/
def Dev.rungQueues (d : Dev) : List Nat := (d.dbOrder.map (·.1)).eraseDups

/-- Arbiter keys of R131's three levels. -/
def arbTint (qe : Nat) : Nat := 0x2000 + qe
def arbQueue (qe tint : Nat) : Nat := 0x10000 + qe * 1024 + tint
def arbTag (q : Nat) : Nat := 0x4000000 + q

/-- The tint, queue and tag that engine `qe` grants next. -/
def Dev.choose (d : Dev) (qe : Nat) : Option (Nat × Nat × Nat) :=
  let open_ := d.rungQueues.filter (fun q => !(d.admissible qe q).isEmpty)
  match rrPick 1024 (d.arbPtr (arbTint qe)) (fun t => open_.any (fun q => d.qTint q == t)) with
  | none => none
  | some t => match rrPick 2560 (d.arbPtr (arbQueue qe t)) (fun q => open_.contains q && d.qTint q == t) with
    | none => none
    | some q => (rrPick 32 (d.arbPtr (arbTag q)) (fun g => (d.admissible qe q).contains g)).map (fun g => (t, q, g))

/-- Volume of the forerunner view (R101, OPT_FAB identity field). -/
def Dev.compatVolume (d : Dev) : Nat := d.optField 0x1a 2 0 % 4096

/-- Opcode of a forerunner slot as a native one (R103); 0xff where it is none. -/
def foreOp (o : Nat) : Nat := if 1 ≤ o ∧ o ≤ 4 then o else if o = 5 then 0x61 else 0xff

/-- A forerunner slot as a command entry (R103, R104). -/
def Dev.foreCmd (d : Dev) (t : Nat) : Cmd :=
  let f := d.slotField 0 t
  let pi := nbit (f 1 1) 1
  let list := nbit (f 1 1) 2
  { opcode := foreOp (f 0 1), flags := f 1 1 % 2 + 2 * b2n list + 4 * b2n pi + 256
    rsv := decide (8 ≤ f 1 1 ∨ f 2 2 ≠ 0 ∨ 2 ^ 36 ≤ f 8 8 ∨ f 40 24 ≠ 0 ∨ f 4 4 < 1 ∨ 4096 < f 4 4)
    target := d.compatVolume, addr := f 8 8, count := f 4 4, appTag := f 32 2, appMask := f 34 2, dataAddr := f 16 8, piAddr := f 24 8
    refTag := if pi then f 36 4 else f 8 8 % 2 ^ 32, arg0 := 0, arg1 := 0 }

/-- The command that a slot holds, in the format of its queue. -/
def Dev.cmdOf (d : Dev) (q t : Nat) : Cmd := if d.life.mode = .compat ∧ q = 0 then d.foreCmd t else d.slotCmd q t

/-- Opcodes of R119. -/
def knownOp (o : Nat) : Bool :=
  [0x00, 0x01, 0x02, 0x03, 0x04, 0x05, 0x06, 0x10, 0x11, 0x12, 0x13, 0x20, 0x21, 0x22, 0x23, 0x30, 0x31, 0x32, 0x40, 0x50, 0x60, 0x61,
    0x62, 0x70, 0x71, 0x72].contains o

/-- Gate of a queue's commands (R22). -/
def gateOf (q : Nat) : Nat := if q < 2048 then 0 else 1 + (q - 2048) / 64

/-- Take tag `t` of queue `q`: the engine copies the slot, and from then on the command is in flight (R112). A word in error is corrected on the
way (R253); one that reads uncorrectable contains the queue (R261, region 4). -/
def Dev.admitTag (d : Dev) (qe tint q t : Nat) : Dev :=
  let ws := (List.range 8).map (fun i => q * 256 + t * 8 + i)
  let d := ws.foldl (fun d w => (d.evictWord w 0).memServe (slotWord w) 0 (mergePort q) false) d
  match ws.find? (fun w => d.wordClass (slotWord w) 0 == .uncorr) with
  | some w => d.memUncorrectable (slotWord w) 0 (mergePort q) false q 0 false
  | none =>
    let c := d.cmdOf q t
    let f : Flight := { q := q, tag := t, cmd := c, qe := qe, tint := tint, stage := .run, gate := gateOf q, charge := 0, moved := 0, jobs := []
                        staged := [], name := [], obj := none, bands := [], resv := 0, result := 0, order := 0, descs := [] }
    let d := { d with flights := d.flights ++ [f] }
    if knownOp c.opcode then d else d.postFail f St.invalidField 0

/-- ADMIT (R112, R131): engine `qe` makes one grant. -/
def Dev.grantOne (qe : Nat) (d : Dev) : Dev :=
  if 4 ≤ qe ∨ !d.fetching then d
  else match d.choose qe with
    | none => d
    | some (t, q, g) =>
      ((((d.arbWin (arbTint qe) 1024 t).arbWin (arbQueue qe t) 2560 q).arbWin (arbTag q) 32 g).admitTag qe t q g)

def execAdmit (qe : Nat) (s : State) : Host.Outcome State Fault Refusal := runCmd (Dev.grantOne qe) s

/-! ### Descriptor lists (R117, R135, R136) -/

/-- How a list ends: good, or LENGTH_MISMATCH with its DETAIL and the bytes counted. -/
inductive ListEnd where
  | ok
  | more
  | bad (detail counted : Nat)
deriving DecidableEq, Repr

/-- Read entries in turn: `sum` bytes counted, `n` entries read, of `total` declared. -/
def walkList (total : Nat) : Nat → Nat → List Desc → ListEnd
  | _, _, [] => .more
  | sum, n, x :: xs =>
    let s := sum + x.len
    if x.len = 0 ∨ x.len % 4 ≠ 0 ∨ 2 ≤ x.flags then .bad 3 s
    else if x.flags = 1 then (if s < total then .bad 1 s else if s = total then .ok else .bad 2 s)
    else if total ≤ s then .bad 2 s
    else if n + 1 = 4096 then .bad 3 s
    else walkList total s (n + 1) xs

/-- Entries of a list up to the one that ends it. -/
def listUsed (total : Nat) : Nat → List Desc → List Desc
  | _, [] => []
  | sum, x :: xs => if x.flags = 1 ∨ total ≤ sum + x.len then [x] else x :: listUsed total (sum + x.len) xs

/-- Bytes of a command's data buffer in either direction. -/
def Flight.buffer (f : Flight) : Nat :=
  match f.cmd.opcode with
  | 0x20 => f.declared
  | 0x61 => 4096
  | 0x23 => 4096
  | 0x62 => 65536
  | 0x70 => if f.cmd.target / 65536 % 4 = 0 then f.cmd.count * 4144 else f.cmd.count * 18432
  | 0x71 => f.cmd.count * 18432
  | _ => f.cmd.count * 4096

/-- After its list is read, a command moves its data: the data of a write comes in, a read begins. -/
def Dev.listGood (d : Dev) (f : Flight) : Dev :=
  let op := f.cmd.opcode
  if [0x02, 0x10, 0x20, 0x62, 0x71].contains op then d.setFlight { f with stage := .data }
  else if op = 0x23 ∨ op = 0x61 ∨ op = 0x70 then d.setFlight { f with stage := .xfer }
  else (d.setFlight { f with stage := .media }).startRead { f with stage := .media }

/-- Entries of a list, of `got` read so far, in the next 4 KiB-aligned block from DATA_ADDR on (R117). -/
def listBlock (addr got : Nat) : Nat := (4096 - (addr + 16 * got) % 4096) / 16

/-- DESCRIPTOR_FETCH (R117, R135, R136): the next 4 KiB-aligned block of the list, in its entries' order, behind the blocks already read. A block
that does not end the list waits for the next one; entries beyond the block are not read. A forerunner list is COUNT page addresses (R103). -/
def Dev.listFetch (q tag : Nat) (list : List Desc) (d : Dev) : Dev :=
  match d.flight q tag with
  | none => d
  | some f =>
    if f.stage ≠ .list then d
    else if nbit f.cmd.flags 8 then
      (if list.length = f.cmd.count then d.listGood { f with descs := list.map (fun x => { x with len := 4096 }) } else d)
    else
      let n := listBlock f.cmd.dataAddr f.descs.length
      let all := f.descs ++ list.take n
      match walkList f.buffer 0 0 all with
      | .more => if list.length < n then d else d.setFlight { f with descs := all }
      | .ok => d.listGood { f with descs := listUsed f.buffer 0 all }
      | .bad detail counted =>
        (d.post f St.lengthMismatch 0 detail f.buffer counted f.cmd.addr 0).padExtent f |>.freeze q Fz.length (some (tag, f.cmd.shownOp)) []

def execDescriptorFetch (q tag : Nat) (list : List Desc) (s : State) : Host.Outcome State Fault Refusal :=
  runCmd (Dev.listFetch q tag list) s

/-! ### Gates and ceilings (R24, R25, R132, R393, R394) -/

/-- GATE_ADMIT: the next waiter of a gate passes it (R132). -/
def Dev.gateAdmit (g : Nat) (d : Dev) : Dev :=
  match d.gates[g]? with
  | none => d
  | some b => match d.nextWaiter g b.waiters [] with
    | none => d
    | some f =>
      let d := { d with gates := d.gates.modify g (fun x => { x with waiters := x.waiters.filter (fun e => !(e.1 == f.q && e.2 == f.tag)) }) }
      (d.chargeFor f).passed f

def execGateAdmit (gate : Nat) (s : State) : Host.Outcome State Fault Refusal := runCmd (Dev.gateAdmit gate) s

/-! ### Data (R15, R20, R79) -/

/-- Pushed data that waits for its PI takes the PI that was read with it (R383, R385). -/
def Dev.withPushed (d : Dev) (f : Flight) (ss : List SectorIn) : Option (List SectorIn × Dev) :=
  if d.pushes_ f then
    match mget d.pushes (f.q * 32 + f.tag) with
    | some bs =>
      if bs.length = f.declared ∧ nbit f.cmd.flags 2 then
        some ((sectorsOf f.cmd.count bs).zipIdx.map (fun (e : List Byte × Nat) =>
          { (ss.getD e.2 { data := [] }) with data := e.1 }), { d with pushes := mdel d.pushes (f.q * 32 + f.tag) })
      else none
    | none => none
  else some (ss, d)

/-- DATA_ARRIVED: the data of a write, with its PI where PI_BUF is set, is here (R15). -/
def Dev.dataArrived (q tag : Nat) (sectors : List SectorIn) (d : Dev) : Dev :=
  match d.flight q tag with
  | none => d
  | some f =>
    if f.stage ≠ .data ∨ !([0x02, 0x10, 0x20].contains f.cmd.opcode) then d
    else match d.withPushed f sectors with
      | some (ss, d) => d.dataIn f ss
      | none => d

def execDataArrived (q tag : Nat) (sectors : List SectorIn) (s : State) : Host.Outcome State Fault Refusal :=
  runCmd (Dev.dataArrived q tag sectors) s

/-- INSTALL_WAIT_LINES: a command that waits for free lines goes on when it is the first in their order and they are there (R311). -/
def Dev.linesFree (q tag : Nat) (d : Dev) : Dev :=
  match d.flight q tag with
  | none => d
  | some f =>
    if f.stage ≠ .lines ∨ d.flights.any (fun x => x.stage == .lines && decide (x.order < f.order)) then d
    else d.atInstall f

def execInstallWaitLines (q tag : Nat) (s : State) : Host.Outcome State Fault Refusal :=
  runCmd (fun d => (d.linesFree q tag).fabKick) s

/-- RESULT of a read once its data is written. -/
def Flight.readResult (f : Flight) : Nat := if f.cmd.opcode = 0x21 ∨ f.cmd.opcode = 0x23 then f.result % 2 ^ 48 else 0

/-- READ_DATA_WRITTEN (R20): the last byte of a read is written, then its completion. -/
def Dev.readWritten (q tag : Nat) (d : Dev) : Dev :=
  match d.flight q tag with
  | none => d
  | some f =>
    if f.stage = .xfer ∧ settledJobs f.jobs ∧ [0x01, 0x11, 0x21, 0x23, 0x32, 0x61].contains f.cmd.opcode then
      ((d.dmaOut f (f.jobs.flatMap (fun j => j.st.data))).piDma f).postOk f f.readResult
    else d

def execReadDataWritten (q tag : Nat) (s : State) : Host.Outcome State Fault Refusal := runCmd (Dev.readWritten q tag) s

/-- Stages in which a command has a DMA read request of its own: its list, its data, or what its opcode reads from ARG1. -/
def Flight.reads (f : Flight) : Bool :=
  f.stage == .list || f.stage == .data || (f.stage == .run && [0x20, 0x21, 0x22, 0x23, 0x40, 0x62, 0x71].contains f.cmd.opcode)

/-- A DMA read of a command failed (R79, R137): DMA_FAULT, nothing installed, the queue frozen. -/
def Dev.dmaFail (q tag detail : Nat) (d : Dev) : Dev :=
  match d.flight q tag with
  | none => d
  | some f => if f.reads then ((d.failFreeze f St.dmaFault Fz.dma detail 0 0).padExtent f).aerLog (d.qOwner q) (dmaAerBit detail) true detail else d

def execDmaReadError (q tag : Nat) (err : DmaError) (s : State) : Host.Outcome State Fault Refusal :=
  runCmd (Dev.dmaFail q tag (dmaDetail err)) s

def execMalformedCompletion (q tag : Nat) (s : State) : Host.Outcome State Fault Refusal := runCmd (Dev.dmaFail q tag 5) s

end Sys2Proof.Machine
end

