-- ==== Sys2Proof/Machine/CheckOps.lean ====
section
/-! DEFINITION. The checks of a command at admission, in the order of R128 (spec/04_command_queues.md R116 to R129, spec/10_services.md,
spec/11_tenant_ports.md R388 to R392). -/
namespace Sys2Proof.Machine
open Sys2Proof

/-- A failed check: status, DETAIL, and the RESULT that CONFLICT returns. -/
structure Deny where
  status : Nat
  detail : Nat
  result : Nat
deriving DecidableEq, Repr

/-- A check that fails while `b`. -/
def denyIf (b : Bool) (status detail : Nat) : Option Deny := if b then some ⟨status, detail, 0⟩ else none

/-- The first check that fails. -/
def firstDeny (l : List (Option Deny)) : Option Deny := l.findSome? id

/-! ### Fields (R116, R119) -/

/-- Native opcodes that carry a PI buffer (R118). -/
def opPi (op : Nat) : Bool := [0x01, 0x02, 0x10, 0x11, 0x20, 0x21, 0x32].contains op

/-- COUNT as the opcode table gives it (R119); RAW opcodes check their own. -/
def countBad (c : Cmd) : Bool :=
  if [0x01, 0x02, 0x05, 0x06, 0x10, 0x11, 0x21, 0x32, 0x40].contains c.opcode then decide (c.count < 1 ∨ 4096 < c.count)
  else if c.opcode = 0x20 then decide (c.count ≠ (c.addr + 4095) / 4096)
  else if c.opcode = 0x23 ∨ c.opcode = 0x61 then c.count != 1
  else if c.opcode = 0x62 then c.count != 16
  else if c.opcode = 0x70 ∨ c.opcode = 0x71 then false
  else c.count != 0

/-- Buffer addresses (R116); a push queue takes neither DATA_ADDR nor LIST (R383). -/
def Dev.bufBad (d : Dev) (f : Flight) : Bool :=
  let c := f.cmd
  (opBuffer c.opcode && (if d.pushes_ f then c.dataAddr != 0 || nbit c.flags 1
    else c.dataAddr % (if nbit c.flags 1 then 16 else 4) != 0)) ||
  (opPi c.opcode && nbit c.flags 2 && c.piAddr % 8 != 0)

/-- Name length, expected generation, ANY of an object command (R121). -/
def Cmd.nameLen (c : Cmd) : Nat := c.arg0 / 2 ^ 48 % 256
def Cmd.expectGen (c : Cmd) : Nat := c.arg0 % 2 ^ 48
def Cmd.any (c : Cmd) : Bool := nbit c.arg0 63

/-- Band count of DEALLOCATE and RELOCATE (R119, R368). -/
def Cmd.bandCount (c : Cmd) : Nat := c.arg0 % 2 ^ 25

/-- Values of an opcode's own fields that its rules do not allow, whatever its record: band ranges (R119), names and lengths of objects (R121,
R355), the algorithm, key and PI of ATTEST (R365). -/
def Cmd.ownBad (c : Cmd) : Bool := match c.opcode with
  | 0x04 | 0x50 => c.addr % 4096 != 0 || decide (c.bandCount < 1 ∨ 16777216 < c.bandCount)
  | 0x20 => decide (c.addr < 1 ∨ 16777216 < c.addr ∨ c.nameLen = 0 ∨ c.arg0 / 2 ^ 56 % 128 ≠ 0 ∨ c.refTag ≠ 0)
  | 0x21 => c.nameLen == 0 || c.addr % 4096 != 0
  | 0x22 => c.nameLen == 0 || c.arg0 / 2 ^ 56 % 128 != 0 || (!c.any && c.expectGen == 0)
  | 0x23 => c.nameLen == 0
  | 0x40 =>
    let alg := c.arg0 % 256
    nbit c.flags 2 || decide (2 ^ 20 ≤ c.arg0) || (algBlock alg).isNone || (!algKeyed alg && c.arg0 / 256 % 4096 != 0)
  | _ => false

/-- Fields that no record decides: zero bits, COUNT, buffers, REF_TAG, the opcode's own. A forerunner slot has only its own reserved fields
(R104). -/
def Dev.fieldsBad (d : Dev) (f : Flight) : Bool :=
  if nbit f.cmd.flags 8 then f.cmd.rsv
  else f.cmd.rsv || decide (2 ^ 48 ≤ f.cmd.refTag) || countBad f.cmd || d.bufBad f || f.cmd.ownBad

/-- REF_TAG wider than the record's tag (R116), or in mode LBA not the address at ingress (R293); a forerunner command's is compared with the
tags that come with its data instead (R104). -/
def Flight.refBad (f : Flight) (k : Nat) (v : Store) : Bool :=
  let T := (f.piView v).tagBits
  decide (2 ^ T ≤ f.cmd.refTag) ||
    (!nbit f.cmd.flags 8 && v.refMode (k / 65536) == 0 && (f.cmd.opcode == 0x02 || (f.cmd.opcode == 0x10 && !nbit f.cmd.arg0 63)) &&
      f.cmd.refTag != f.cmd.addr % 2 ^ T)

/-- The sectors of a volume command reach beyond its end (R339). -/
def Flight.beyond (f : Flight) (v : Store) : Bool := decide (v.bands * 4096 < f.cmd.addr + f.cmd.count)

/-- A band range beyond the volume's end (R339). -/
def Flight.bandsBad (f : Flight) (v : Store) : Bool := decide (v.bands < f.cmd.addr / 4096 + f.cmd.bandCount)

/-! ### ACCESS_DENIED (R120, R388, R390) -/

/-- Opcodes that MAINT allows (R120). -/
def maintOp (op : Nat) : Bool := [0x00, 0x60, 0x61, 0x62, 0x70, 0x71, 0x72].contains op

/-- RAW opcodes. -/
def rawOp (op : Nat) : Bool := op == 0x70 || op == 0x71 || op == 0x72

/-- The queue or the mode excludes the opcode (R108, R120). -/
def Dev.opDenied (d : Dev) (f : Flight) : Bool :=
  let op := f.cmd.opcode
  let pf := d.qOwner f.q == .pf
  ((op == 0x50 || op == 0x62 || rawOp op) && !(pf && f.tint == 0)) ||
  (rawOp op && !(d.qF f.q Reg.HQ_Q_CFG 22 1 == 1 && d.life.mode == .maint)) ||
  (d.life.mode == .maint && !maintOp op)

/-- Opcodes that need the record's data or directory under its key (R388). -/
def opData (op : Nat) : Bool := [0x01, 0x02, 0x06, 0x10, 0x11, 0x20, 0x21, 0x22, 0x23, 0x32, 0x40].contains op

/-- The tint has no right, or the record no key (R388, R390). -/
def Dev.recordDenied (d : Dev) (f : Flight) (k : Nat) (v : Store) : Bool :=
  let op := f.cmd.opcode
  (opRight op != 0 && d.rights f.tint k v &&& opRight op == 0) || (opData op && d.keyDenied v)

/-! ### The whole order (R128, R129) -/

/-- What one opcode adds to the checks: INVALID_FIELD, NOT_FOUND, ACCESS_DENIED on its record, and QUOTA, KEY_EXHAUSTED and CONFLICT. -/
structure OpChecks where
  bad : Bool
  absent : Bool
  denied : Bool
  late : Option Deny

/-- Nothing added. -/
def OpChecks.none : OpChecks := { bad := false, absent := false, denied := false, late := Option.none }

/-- Checks 1 to 8 of a command on a record. -/
def Dev.denyRecord (d : Dev) (f : Flight) (g : Nat → Store → OpChecks) : Option Deny :=
  if d.fieldsBad f then some ⟨St.invalidField, 0, 0⟩
  else match f.key.bind (fun k => (d.liveStore k).map (fun v => (k, v))) with
    | none => some ⟨St.notFound, 0, 0⟩
    | some (k, v) =>
      let x := g k v
      let away := if f.cmd.opcode = 0x04 ∨ f.cmd.count = 0 then 0 else d.fabFencedFor v f.cmd.addr f.cmd.count
      firstDeny [denyIf (f.refBad k v || x.bad) St.invalidField 0, denyIf x.absent St.notFound 0,
        denyIf (d.opDenied f || d.recordDenied f k v || x.denied) St.accessDenied 0,
        denyIf (d.fencedNow v) St.fenced 0, denyIf (away != 0) St.fenced away,
        denyIf (d.readOnlyNow f.cmd.opcode v) St.readOnly 0, x.late]

/-- Checks of a command that names no record. -/
def Dev.denyPlain (d : Dev) (f : Flight) (bad : Bool) : Option Deny :=
  firstDeny [denyIf (d.fieldsBad f || bad) St.invalidField 0, denyIf (d.opDenied f) St.accessDenied 0]

/-- Failure statuses of the forerunner view that freeze nothing (R104). -/
def foreStatuses : List Nat := [0x01, 0x02, 0x04, 0x05, 0x06, 0x07, 0x08, 0x09, 0x0d, 0x0f]

/-- Status with which a refused command completes: a forerunner command whose failure the list of R104 does not name (its volume is absent, say)
takes a free one of that list, for the spec states none. -/
def Flight.refusal (f : Flight) (status : Nat) : Nat :=
  if nbit f.cmd.flags 8 && !foreStatuses.contains status then foreStatuses.getD (Config.freeNat (2 ^ 41 + status) % 10) 0x0d else status

/-- Complete a command whose check failed; TINT_QUOTA tells the owner's tint page (R392). -/
def Dev.refuse (d : Dev) (f : Flight) (x : Deny) : Dev :=
  let d := d.post f (f.refusal x.status) 0 x.detail 0 0 f.cmd.addr x.result
  if x.status = St.quota ∧ x.detail = 1 then
    (match f.key.bind d.store with
      | some v => d.setIrq .TNT v.owner 1
      | none => d)
  else d

/-- Opcodes with a stream, object, snapshot or attestation step that Glaze carries out (R42): all of these services but the sector reads of
streams and snapshots. -/
def glazeStep (op : Nat) : Bool := [0x10, 0x12, 0x13, 0x20, 0x21, 0x22, 0x23, 0x30, 0x31, 0x40].contains op

/-- The command waits for Glaze, which a C3 restarts (R42, R555). -/
def Dev.awaitsGlaze (d : Dev) (op : Nat) : Bool := glazeStep op && d.life.glaze == .restarting

/-- Take up a command just admitted: of this opcode, from a slot of this format. One with a step of Glaze's waits for Glaze (R42). -/
def Dev.take (d : Dev) (q tag op : Nat) (fore : Bool) (go : Dev → Flight → Dev) : Dev :=
  match d.flight q tag with
  | none => d
  | some f => if f.stage = .run ∧ f.cmd.opcode = op ∧ nbit f.cmd.flags 8 = fore ∧ d.awaitsGlaze op = false then go d f else d

/-- Check a command on a record, then carry it on or complete it. -/
def Dev.onChecked (d : Dev) (f : Flight) (g : Nat → Store → OpChecks) (go : Dev → Nat → Store → Dev) : Dev :=
  match d.denyRecord f g with
  | some x => d.refuse f x
  | none => match f.key.bind (fun k => (d.store k).map (fun v => (k, v))) with
    | some (k, v) => go d k v
    | none => d

/-! ### Capacity (R181, R392) -/

/-- Bands from LBA `a` for `n` sectors of a local record. -/
def Store.bandsAt (v : Store) (a n : Nat) : List Nat :=
  if n = 0 then [] else (List.range ((a + n - 1) / 4096 + 1 - a / 4096)).map (fun i => v.base + a / 4096 + i)

/-- QUOTA of the bands that a command would map; on a fabric volume the holders test (R421). -/
def Dev.quotaDeny (d : Dev) (v : Store) (bands : List Nat) : Option Deny :=
  if v.fabric then none
  else match d.quotaTest v.owner bands with
    | 0 => none
    | n => some ⟨St.quota, n, 0⟩

/-- Bands of a list that a command reserves: those not mapped (R181). -/
def Dev.unmappedOf (d : Dev) (v : Store) (bands : List Nat) : List Nat :=
  if v.fabric then [] else bands.filter (fun b => (d.band b).isNone)

/-- Tokens of a read (R19): its sectors on media; at the ingress of a fabric volume every sector (R423). -/
def Dev.readTokens (d : Dev) (v : Store) (f : Flight) : Nat :=
  if v.fabric then f.cmd.count
  else if f.cmd.opcode = 0x32 then
    ((List.range f.cmd.count).filter (fun i => match d.findSnap v f f.snap i with
      | .media _ _ => true
      | _ => false)).length
  else d.readCharge v f

end Sys2Proof.Machine
end

