-- ==== Sys2Proof/Machine/RecordOps.lean ====
section
/-! DEFINITION. Record images, their checks and what CREATE, DELETE and MODIFY do on one device, and local snapshots
(spec/10_services.md R330 to R364). -/
namespace Sys2Proof.Machine
open Sys2Proof

/-! ### Record images (R333, R337, R343, R349) -/

/-- The 256-bit image in REC_0 to REC_7 of a kind's page. -/
def Dev.recImage (d : Dev) (kind : Nat) : Nat :=
  (List.range 8).foldl (fun m i => m + d.regN (kindPage kind) 0 (Reg.VOL_REC_0 + 4 * i) * 2 ^ (32 * i)) 0

/-- Load an image into REC_0 to REC_7. -/
def Dev.setImage (d : Dev) (kind img : Nat) : Dev :=
  (List.range 8).foldl (fun d i => d.setRegN (kindPage kind) 0 (Reg.VOL_REC_0 + 4 * i) (img / 2 ^ (32 * i) % 2 ^ 32)) d

/-- Field of an image: `n` bits from byte `o`. -/
def imgF (img o n : Nat) : Nat := img / 2 ^ (8 * o) % 2 ^ n

/-- An image with the `n` bits from byte `o` replaced. -/
def imgSet (img o n v : Nat) : Nat := img - imgF img o n * 2 ^ (8 * o) + v % 2 ^ n * 2 ^ (8 * o)

/-- Bands of a record's range with VALID = 1. -/
def Dev.mappedOf (d : Dev) (v : Store) : Nat :=
  (d.ftl.bands.filter (fun (e : Nat × BandEnt) => decide (v.base ≤ e.1 ∧ e.1 < v.base + v.span))).length

/-- The image of a record, with its RO fields. -/
def Dev.imageOf (d : Dev) (kind : Nat) (v : Store) : Nat :=
  let head := v.base % 2 ^ 24 + v.flags % 256 * 2 ^ 24 + v.bands * 2 ^ 32 + v.owner * 2 ^ 64 + v.keyRef * 2 ^ 80
  if kind = 0 then
    head + v.fabK * 2 ^ 88 + v.fabM * 2 ^ 96 + d.mappedOf v * 2 ^ 128 + v.snaps.length * 2 ^ 160 + v.snapNewest * 2 ^ 192
  else if kind = 1 then head + v.committed * 2 ^ 128 + v.floor * 2 ^ 192
  else
    head + v.dirBands * 2 ^ 88 + v.compact * 2 ^ 96 + v.objs.length * 2 ^ 128 +
      ((v.objs.map (fun (o : Obj) => o.band)).eraseDups).length * 2 ^ 160 +
      v.objs.foldl (fun n (o : Obj) => n + extentLen o.sects) 0 * 2 ^ 192

/-- Fields that every kind checks: BANDS, OWNER_TINT and KEY_REF. -/
def headOk (img : Nat) : Bool :=
  decide (1 ≤ imgF img 4 32 ∧ imgF img 4 32 ≤ 16777216) && decide (imgF img 8 16 < 1024) && decide (imgF img 10 8 < 4)

/-- A CREATE image of a volume that R337 allows. -/
def volOk (img : Nat) : Bool :=
  let fl := imgF img 3 8
  let k := imgF img 11 8
  let m := imgF img 12 8
  decide (fl < 64) && fl / 4 % 4 != 3 && imgF img 13 152 == 0 &&
    (if nbit fl 5 then decide (1 ≤ k ∧ k ≤ 16 ∧ 1 ≤ m ∧ m ≤ 4) else k == 0 && m == 0)

/-- A CREATE image of a stream that R343 allows: SEALED, COMMITTED and FLOOR start at zero. -/
def strOk (img : Nat) : Bool := (imgF img 3 8 &&& 0xe9) == 0 && imgF img 11 168 == 0

/-- A CREATE image of a namespace that R349 allows. -/
def nsOk (img : Nat) : Bool :=
  (imgF img 3 8 &&& 0xed) == 0 && decide (1 ≤ imgF img 11 8 ∧ imgF img 11 8 ≤ 32) && decide (imgF img 11 8 + 1 ≤ imgF img 4 32) &&
    decide (imgF img 12 16 ≤ 4095) && imgF img 14 144 == 0

/-- A CREATE image that its record format allows. -/
def imageOk (kind img : Nat) : Bool :=
  headOk img && (if kind = 0 then volOk img else if kind = 1 then strOk img else nsOk img)

/-- The record of an image, at a base, with a member set. -/
def storeFrom (kind img base set : Nat) : Store :=
  { base := base, bands := imgF img 4 32, flags := imgF img 3 8, owner := imgF img 8 16, keyRef := imgF img 10 8
    fabK := if kind = 0 then imgF img 11 8 else 0, fabM := if kind = 0 then imgF img 12 8 else 0, fabSet := set
    dirBands := if kind = 2 then imgF img 11 8 else 0, compact := if kind = 2 then imgF img 12 16 else 0
    committed := 0, floor := 0, snaps := [], snapNewest := 0, deleting := false, oldBands := 0, hold := false, objs := [], extents := 0
    fill := none, old := [] }

/-! ### What each command does here (R331, R334 to R338, R347, R419) -/

/-- RESULT codes of R334. -/
abbrev provOk : Nat := 0
abbrev provExists : Nat := 1
abbrev provNotFound : Nat := 2
abbrev provNoRange : Nat := 3
abbrev provInvalid : Nat := 4
abbrev provInUse : Nat := 5
abbrev provMode : Nat := 6

/-- The volume with this key is being reshaped (R443). -/
def Dev.reshaping (d : Dev) (k : Nat) : Bool := match d.fab.reshape with
  | some r => r.volume == k
  | none => false

/-- CREATE on this device: the range it takes, and the record. A device outside a fabric volume's set keeps the record without a range. -/
def Dev.createLocal (d : Dev) (k img set : Nat) : Nat × Dev :=
  let v := storeFrom (k / 65536) img 0xffffff set
  if (d.store k).isSome then (provExists, d)
  else if v.fabK ≠ 0 ∧ !nbit set d.fabId then (provOk, (d.setStore k v).jrec [.service])
  else match d.takeRange (imgF img 0 24) (if v.fabK = 0 then v.bands else v.shardBands) with
    | none => (provNoRange, d)
    | some b => (provOk, (d.setStore k { v with base := b }).jrec [.service])

/-- Something depends on the record, so that DELETE is refused (R336). -/
def Dev.deleteBlocked (d : Dev) (k : Nat) (v : Store) : Bool :=
  !v.snaps.isEmpty || (d.life.mode == .compat && k == d.compatVolume) || d.reshaping k

/-- DELETE on this device begins: new commands find no record. -/
def Dev.deleteLocal (d : Dev) (k : Nat) : Nat × Dev :=
  match d.liveStore k with
  | none => (provNotFound, d)
  | some v => if d.deleteBlocked k v then (provInUse, d) else (provOk, (d.mapStore k (fun v => { v with deleting := true })).jrec [.service])

/-- Bands that a record of this size takes on this device. -/
def Store.rangeFor (v : Store) (bands : Nat) : Nat :=
  if v.fabK = 0 then bands else if v.base = 0xffffff then 0 else ({ v with bands := bands } : Store).shardBands

/-- MODIFY of a volume's RO and BANDS (R338). -/
def Dev.modifyVol (d : Dev) (k : Nat) (v : Store) (img : Nat) : Nat × Dev :=
  let n := imgF img 4 32
  let was := v.rangeFor v.bands
  let now := v.rangeFor n
  let v' := { v with flags := v.flags / 2 * 2 + imgF img 3 1, bands := n, oldBands := if now < was then was else 0 }
  if n ≠ v.bands ∧ (d.reshaping k ∨ (n < v.bands ∧ !v.snaps.isEmpty)) then (provInUse, d)
  else if was < now ∧ !d.rangeFree (v.base + was) (now - was) then (provNoRange, d)
  else (provOk, (d.setStore k v').jrec [.service])

/-- The fields that MODIFY may change hold allowed values, and every other field equals the record (R334, R337, R343, R349). -/
def Dev.modifyOk (d : Dev) (kind : Nat) (v : Store) (img : Nat) : Bool :=
  let now := d.imageOf kind v
  if kind = 0 then
    imgSet (imgSet img 3 1 (v.flags % 2)) 4 32 v.bands == now && decide (1 ≤ imgF img 4 32 ∧ imgF img 4 32 ≤ 16777216) &&
      (v.fabK == 0 || imgF img 4 32 % max 1 v.fabK == 0)
  else if kind = 1 then
    let fl := imgF img 24 64
    imgSet img 24 64 v.floor == now && fl % 4096 == 0 && decide (v.floor ≤ fl ∧ fl ≤ v.committed)
  else imgSet img 12 16 v.compact == now && decide (imgF img 12 16 ≤ 4095)

/-- MODIFY on this device. -/
def Dev.modifyLocal (d : Dev) (k img : Nat) : Nat × Dev :=
  match d.liveStore k with
  | none => (provNotFound, d)
  | some v =>
    if !d.modifyOk (k / 65536) v img then (provInvalid, d)
    else if k / 65536 = 0 then d.modifyVol k v img
    else if k / 65536 = 1 then
      let fl := imgF img 24 64
      (provOk, ((d.setStore k { v with floor := fl }).jrec [.service]).unmapRange v.base (v.base + fl / 4096))
    else (provOk, (d.setStore k { v with compact := imgF img 12 16 }).jrec [.service])

/-- Take back what a record broadcast changed here (R419): a creation removes the record, a modification puts RO and BANDS back. -/
def Dev.undoRecord (d : Dev) (op k img : Nat) : Dev :=
  if op = 1 then ({ d with stores := mdel d.stores k }).jrec [.service]
  else (d.mapStore k (fun v =>
    { v with flags := v.flags / 2 * 2 + imgF img 3 1, bands := imgF img 4 32, oldBands := 0 })).jrec [.service]

/-! ### Snapshots here (R357 to R363) -/

/-- Installation on a volume is held for a snapshot (R358 step 2). -/
def Dev.holdStart (d : Dev) (k : Nat) : Dev :=
  (d.mapStore k (fun v => { v with hold := true })).setRegN .SNP 0 Reg.SNP_HOLD_VOL (k % 65536 + 2 ^ 31)

/-- The hold ends: HOLD_VOL.ACTIVE clears, and the commands that waited go on. -/
def Dev.holdEnd (d : Dev) (k : Nat) : Dev :=
  (d.setRegF .SNP 0 Reg.SNP_HOLD_VOL 31 1 0).releaseHold k

/-- Step 3 of R358 is done: no line of the volume in the write cache, no band of it logged. -/
def Dev.snapReady (d : Dev) (v : Store) : Bool :=
  let mine (b : Nat) : Bool := decide (v.base ≤ b ∧ b < v.base + v.span)
  !d.cache.any (fun (e : Nat × Line) => mine (e.1 / 4096)) && !d.ftl.bands.any (fun (e : Nat × BandEnt) => mine e.1 && e.2.logged)

/-- Mapped bands of a volume with SNAP = 0. -/
def Dev.unmarked (d : Dev) (v : Store) : Nat :=
  (d.ftl.bands.filter (fun (e : Nat × BandEnt) => decide (v.base ≤ e.1 ∧ e.1 < v.base + v.span) && !e.2.snap)).length

/-- Live snapshots of the device. -/
def Dev.snapLive (d : Dev) : Nat := d.stores.foldl (fun n (e : Nat × Store) => n + e.2.snaps.length) 0

/-- QUOTA DETAIL of a new snapshot of a volume; 0 where it fits (R363, R369). -/
def Dev.snapQuota (d : Dev) (v : Store) : Nat :=
  if 256 ≤ v.snaps.length ∨ 16384 ≤ d.snapLive then 6
  else if Sys2Proof.Machine.deltaMax < d.deltaUsed + d.deltaRsv + d.unmarked v then 3
  else 0

/-- Steps 4 and 5 of R358: SNAP on every mapped band, and the snapshot recorded. `startUs` is when its hold began. -/
def Dev.snapMark (d : Dev) (k id time reqId tint startUs : Nat) : Dev :=
  match d.store k with
  | none => d
  | some v =>
    let mine := d.ftl.bands.filter (fun (e : Nat × BandEnt) => decide (v.base ≤ e.1 ∧ e.1 < v.base + v.span))
    let d := mine.foldl (fun (d : Dev) (e : Nat × BandEnt) => d.setBand e.1 (some { e.2 with snap := true })) d
    let d := (d.mapStore k (fun v => { v with snaps := v.snaps ++ [Snap.mk id time reqId tint], snapNewest := id })).jrec [.service]
    d.setRegN .SNP 0 Reg.SNP_HOLD_US (min 0xffffffff (d.life.usUp - startUs))

/-- SNAP_DELETE here (R363): the ID goes, and so does every delta entry that covers no live snapshot, with its slot. -/
def Dev.snapDrop (d : Dev) (k id : Nat) : Dev :=
  let d := (d.mapStore k (fun v => { v with snaps := v.snaps.filter (fun s => s.id != id) })).jrec [.service]
  match d.store k with
  | none => d
  | some v =>
    let gone (h : SnapEnt) : Bool := decide (v.base ≤ h.band ∧ h.band < v.base + v.span) &&
      !v.snaps.any (fun s => decide (h.lo ≤ s.id ∧ s.id ≤ h.hi))
    let out := d.ftl.held.filter gone
    let d := d.mapFtl (fun f => { f with held := f.held.filter (fun h => !gone h) })
    out.foldl (fun d h => if h.none then d else d.releaseSlot h.sb) d

/-- The newest live snapshot of a volume (R122): the one with the highest ID. -/
def Store.newestSnap (v : Store) : Option Snap := v.snaps.find? (fun s => v.snaps.all (fun t => decide (t.id ≤ s.id)))

/-- A hold that no SNAP_CREATE in flight and no fabric snapshot needs any more ends. -/
def Dev.holdsFinish (d : Dev) : Dev :=
  d.stores.foldl (fun d (e : Nat × Store) =>
    if !e.2.hold || (d.onRecord e.1).any (fun f => f.cmd.opcode == 0x30 && f.stage == .xfer) ||
        (match d.fab.snapHold with
          | some h => h.volume == e.1
          | none => false) then d
    else d.holdEnd e.1) d

end Sys2Proof.Machine
end

