-- ==== Sys2Proof/Machine/Admin.lean ====
section
/-! DEFINITION. ATTEST, RELOCATE, ABORT, SNAP_READ and the RAW opcodes (spec/10_services.md R362 to R368, spec/04_command_queues.md R133,
R134, spec/06_flash_channels.md R221 to R223). -/
namespace Sys2Proof.Machine
open Sys2Proof

/-! ### SNAP_READ -/

/-- The snapshot is live. -/
def Store.snapLive (v : Store) (id : Nat) : Bool := v.snaps.any (fun s => s.id == id)

/-- SNAP_READ (R362). -/
def execSnapRead (q tag : Nat) (s : State) : Host.Outcome State Fault Refusal :=
  runCmd (fun d => d.take q tag 0x32 false (fun d f => d.onChecked f
    (fun _ v => { OpChecks.none with bad := f.beyond v, absent := !v.snapLive (f.cmd.arg0 % 2 ^ 32) })
    (fun d _ v => d.toGate { f with charge := d.readTokens v f, moved := f.cmd.count }))) s

/-! ### ATTEST (R365, R366) -/

/-- ATTEST: its own fields are checked with the others (R128); `expected` is the digest read from ARG1, at the algorithm's length. -/
def execAttest (q tag : Nat) (expected : List Byte) (s : State) : Host.Outcome State Fault Refusal :=
  runCmd (fun d => d.take q tag 0x40 false (fun d f =>
    let alg := f.cmd.arg0 % 256
    let slot := f.cmd.arg0 / 256 % 4096
    d.onChecked f
      (fun _ v => { OpChecks.none with
        bad := f.beyond v
        denied := algKeyed alg && !d.tintHoldsKey f.tint slot 2 })
      (fun d _ v => if expected.length = algLen alg then d.toGate { f with name := expected, charge := d.readTokens v f } else d))) s

/-! ### RELOCATE (R368) -/

/-- Device bands of a volume's bands `b` to `b + n` − 1 that this device holds: of a fabric volume, those of its shards (DESIGN CHOICE). -/
def Store.localBands (v : Store) (b n : Nat) : List Nat :=
  if v.fabric then
    let m := 16 * v.fabK
    let lo := b * 4096 / m
    let hi := ((b + n) * 4096 + m - 1) / m
    ((List.range (hi - lo)).flatMap (fun i => (List.range (v.fabK + v.fabM)).map (fun j =>
      v.base + v.shardIdx (lo + i) j 0 / 4096))).eraseDups
  else (List.range n).map (fun i => v.base + b + i)

/-- The next band of a RELOCATE with VALID = 1, at or after its cursor. -/
def Dev.nextReloc (d : Dev) (f : Flight) (v : Store) : Option (Nat × Nat) :=
  let bs := v.localBands (f.cmd.addr / 4096) f.cmd.bandCount
  (List.range bs.length).findSome? (fun i =>
    if i < f.resv then none else (bs[i]?).bind (fun b => if (d.band b).isSome then some (i, b) else none))

/-- The band of a RELOCATE has moved: its cursor and its count advance. -/
def Dev.relocNext (q tag i : Nat) (d : Dev) : Dev := match d.flight q tag with
  | some f => d.setFlight { f with resv := i + 1, result := f.result + 1 }
  | none => d

/-- A band of a RELOCATE is under its job now (R133: a caught one stops after it). -/
def Dev.relocBusy (d : Dev) (f : Flight) : Bool := match f.key.bind d.store with
  | some v => (match d.nextReloc f v with
    | some (_, b) => d.jobHere 14 b
    | none => false)
  | none => false

/-- RELOCATE: the checks, then one band after another, row by row under G14, into a slot of `dst`; `lost` lists the sectors of the band that its
reads do not recover. The last step completes it with the bands moved; one that an ABORT caught ends ABORTED after the band in progress. -/
def Dev.relocStep (q tag dst : Nat) (lost : List Nat) (d : Dev) : Dev :=
  match d.flight q tag with
  | none => d
  | some f =>
    if f.cmd.opcode ≠ 0x50 then d
    else if f.stage = .run then
      d.onChecked f (fun _ v => { OpChecks.none with bad := f.bandsBad v }) (fun d _ _ => d.setFlight { f with stage := .media })
    else match f.key.bind d.store with
      | none => d
      | some v =>
        if f.stage ≠ .media then d
        else if f.order = 1 ∧ d.relocBusy f = false then d.post f St.aborted 0 0 0 0 f.cmd.addr f.result
        else match d.nextReloc f v with
          | none => d.postOk f f.result
          | some (i, b) =>
            if d.jnlFull || !d.destOk dst false then d
            else d.relocateBand b dst 14 false lost (Dev.relocNext q tag i)

def execRelocate (q tag dst : Nat) (lost : List Nat) (s : State) : Host.Outcome State Fault Refusal :=
  runCmd (Dev.relocStep q tag dst lost) s

/-! ### ABORT (R133, R134) -/

/-- A command in flight has reached its point of no return: a write has installed or gone to the owners of its stripes, a raw command's
list is out. -/
def Flight.committed (f : Flight) : Bool :=
  f.stage == .installed || f.stage == .fab || (rawOp f.cmd.opcode && f.stage == .media)

/-- The same, for a fabric snapshot too, whose operation is on its way to the members once it is sent. -/
def Dev.committed (d : Dev) (f : Flight) : Bool :=
  f.committed || ((f.cmd.opcode == 0x30 || f.cmd.opcode == 0x31) && f.stage == .xfer && (match f.key.bind d.store with
    | some v => v.fabric
    | none => false))

/-- The target of an ABORT, by tag, still stands before it among the commands in flight. -/
def Dev.targetRuns (d : Dev) (f : Flight) (t : Nat) : Bool :=
  (d.flights.takeWhile (fun x => !(x.q == f.q && x.tag == f.tag))).any (fun x => x.q == f.q && x.tag == t)

/-- End a caught command with ABORTED: a relocate returns the bands moved, a push command's further frames are discarded, a snapshot
hold ends. -/
def Dev.caught (d : Dev) (f : Flight) : Dev :=
  let bytes := (mget d.pushes (f.q * 32 + f.tag)).getD []
  let skip := d.pushes_ f && decide (bytes.length < f.declared)
  let d := { d with pushes := mdel d.pushes (f.q * 32 + f.tag) }
  let d := if skip then { d with pushSkip := (f.q * 32 + f.tag) :: d.pushSkip } else d
  let d := (d.post f St.aborted 0 0 0 0 f.cmd.addr f.result).padExtent f
  if f.cmd.opcode = 0x30 ∧ f.stage = .xfer then (match f.key with
    | some k => (d.setRegF .SNP 0 Reg.SNP_HOLD_VOL 31 1 0).releaseHold k
    | none => d)
  else d

/-- An ABORT just admitted: its result (R133). -/
def Dev.abortTake (d : Dev) (q tag : Nat) : Dev :=
  d.take q tag 0x60 false (fun d f =>
    let t := f.cmd.arg0 % 32
    let target := d.flight q t
    let bad := decide (32 ≤ f.cmd.arg0) || t == tag || (match target with
      | some x => x.cmd.opcode == 0x60
      | none => false)
    match d.denyPlain f bad with
    | some x => d.refuse f x
    | none => match target with
      | none => d.postOk f 2
      | some x =>
        if d.committed x then d.setFlight { f with stage := .xfer, result := 1 }
        else if x.cmd.opcode = 0x50 ∧ d.relocBusy x then (d.setFlight { x with order := 1 }).setFlight { f with stage := .xfer, result := 0 }
        else (d.caught x).postOk f 0)

/-- ABORT: the target's completion comes before the ABORT's own (R134): of a target that is caught at once, of one for which it is TOO_LATE, or of
a relocate with a band in progress, when the ABORT is invoked again. -/
def Dev.abortCmd (q tag : Nat) (d : Dev) : Dev :=
  match d.flight q tag with
  | some f => if f.cmd.opcode = 0x60 ∧ f.stage = .xfer then (if d.targetRuns f (f.cmd.arg0 % 32) then d else d.postOk f f.result) else d.abortTake q tag
  | none => d

def execAbort (q tag : Nat) (s : State) : Host.Outcome State Fault Refusal := runCmd (fun d => (Dev.abortCmd q tag d).holdsFinish) s

/-! ### RAW (R221 to R223) -/

/-- Fields of TARGET and ADDR (R221). -/
def Cmd.rawChan (c : Cmd) : Nat := c.target % 128
def Cmd.rawDie (c : Cmd) : Nat := c.target / 128 % 16
def Cmd.rawPlanes (c : Cmd) : Nat := c.target / 2048 % 16
def Cmd.rawPslc (c : Cmd) : Bool := nbit c.target 15
def Cmd.rawMode (c : Cmd) : Nat := c.target / 65536 % 4
def Cmd.rawRetry (c : Cmd) : Nat := c.target / 2 ^ 18 % 32
def Cmd.rawPage (c : Cmd) : Nat := c.addr % 1024
def Cmd.rawBlock (c : Cmd) : Nat := c.addr / 1024 % 8192
def Cmd.rawMask (c : Cmd) : Nat := c.arg0 % 65536

/-- One bits of a number. -/
def ones (n w : Nat) : Nat := (bitList w n).length

/-- Fields that R221 does not allow. -/
def Cmd.rawBad (c : Cmd) : Bool :=
  let zero := c.target / 2 ^ 23 != 0 || c.addr / 2 ^ 23 != 0 || c.arg0 / 65536 != 0 || c.arg1 != 0 || c.appTag != 0 || c.appMask != 0 ||
    c.piAddr != 0 || c.refTag != 0 || nbit c.flags 2
  zero || (match c.opcode with
    | 0x70 =>
      if c.rawMode = 0 then decide (c.count ≠ ones 16 c.rawMask ∨ c.count = 0)
      else c.rawMode != 1 || decide (c.count ≠ ones 4 c.rawPlanes ∨ c.count = 0) || c.rawMask != 0
    | 0x71 => c.rawMode != 1 || c.count != 4 || c.rawPlanes != 15 || c.rawMask != 0 || c.rawRetry != 0
    | _ => c.rawMode != 0 || c.rawPlanes != 15 || c.rawMask != 0 || c.rawRetry != 0 || c.dataAddr != 0 || c.rawPage != 0)

/-- RAW_PROGRAM and RAW_ERASE may take the block (R223): of a FREE superblock, a spare, a factory-bad one, or of a raw-only die. -/
def Dev.rawBlockOk (d : Dev) (n b : Nat) : Bool := match d.die n with
  | none => false
  | some x => !x.data || x.spares.contains b || x.factoryBad.contains b || (match d.sbOfBlock n b with
    | some (sb, _) => (d.sb sb).state == 0
    | none => false)

/-- Checks of a raw command. -/
def Dev.rawDeny (d : Dev) (f : Flight) : Option Deny :=
  let c := f.cmd
  let n := c.rawChan * 16 + c.rawDie
  let gone := match d.die n with
    | none => true
    | some x => x.state == 8 || x.state == 0
  firstDeny [denyIf (d.fieldsBad f || c.rawBad) St.invalidField 0, denyIf gone St.notFound 0, denyIf (d.opDenied f) St.accessDenied 0,
    denyIf (c.opcode != 0x70 && !d.rawBlockOk n c.rawBlock) St.accessDenied 0]

/-- The list entry of a raw command (R211). -/
def Flight.rawEntry (f : Flight) : Entry :=
  let c := f.cmd
  let planes := if c.opcode = 0x70 ∧ c.rawMode = 0 then (bitList c.rawMask 16).foldl (fun m i => bitSet m (i / 4)) 0 else c.rawPlanes
  { op := c.opcode - 0x6f, flags := 1 + 2 * b2n c.rawPslc + 8 * b2n (c.rawMode == 1) + 16 * b2n (c.opcode == 0x72) + 32
    diePl := c.rawDie + 16 * planes, retry := c.rawRetry, row := c.rawPage + 1024 * c.rawBlock, cwMask := c.rawMask, buf := 0, arg := 0 }

/-- Hand the raw list to LANE3 of the channel, where its lane has room (R210). -/
def Dev.rawIssue (d : Dev) (f : Flight) : Dev :=
  let ch := f.cmd.rawChan
  match d.chan ch with
  | none => d
  | some c =>
    if 128 ≤ c.queued 3 then d
    else (d.pushList ch 3 (f.tag % 65536) [f.rawEntry]).setFlight { f with stage := .media, resv := d.freeList ch }

/-- The record of a raw command's completed list. -/
def Dev.rawDone (d : Dev) (f : Flight) : Option ListDone := d.listsDone.find? (fun l => l.ch == f.cmd.rawChan && l.id == f.resv)

/-- Checks of a raw command just admitted, then its gate: a read charges the codewords it moves across the media interface, a program
sixteen (R22). -/
def Dev.rawTake (q tag op : Nat) (d : Dev) : Dev :=
  d.take q tag op false (fun d f => match d.rawDeny f with
    | some x => d.refuse f x
    | none => d.toGate { f with
        charge := if op = 0x70 then (if f.cmd.rawMode = 0 then f.cmd.count else 4 * f.cmd.count) else if op = 0x71 then 16 else 0 })

/-- Complete a raw command whose list ended: the die failed, or the block was under erase (R214, R220); else by `go`. DESIGN CHOICE: R223 gives
NOT_FOUND to a command that names a FAILED die; one whose die becomes FAILED while the command waits or runs completes with it too. -/
def Dev.rawEnd (d : Dev) (f : Flight) (go : Dev → ListDone → Dev) : Dev := match d.rawDone f with
  | none => d
  | some l =>
    let d := { d with listsDone := d.listsDone.filter (fun x => !(x == l)) }
    if l.status = 5 then d.post f St.eraseInProgress 0 0 0 0 f.cmd.addr 0
    else if l.status = 4 then d.post f St.notFound 0 0 0 0 f.cmd.addr 0
    else if l.status = 8 then d.post f St.invalidField 0 0 0 0 f.cmd.addr 0
    else if l.status = 9 then d.post f St.discarded 0 0 0 0 f.cmd.addr 0
    else go d l

/-- Data of a raw read: in MODE 0 each codeword's information part where its decode in `outs` is accepted, as stored (R222), else as read. -/
def Dev.rawData (d : Dev) (c : Cmd) (outs : List Decoded) (given : List Byte) : List Byte :=
  let n := c.rawChan * 16 + c.rawDie
  if c.rawMode = 0 then
    (bitList c.rawMask 16).zipIdx.flatMap (fun (e : Nat × Nat) =>
      let as_ := (given.drop (4144 * e.2)).take 4144
      match outs[e.2]? with
      | some (.ok _) => (d.rawInfo n c.rawBlock c.rawPage e.1).getD as_
      | _ => as_)
  else (bitList c.rawPlanes 4).zipIdx.flatMap (fun (e : Nat × Nat) =>
    d.rawPlane n c.rawBlock c.rawPage e.1 ((given.drop (18432 * e.2)).take 18432))

/-- RAW_READ (R222): its checks; its list; then, in MODE 0, `outs` says how each codeword of the mask decodes and `soft` whether a soft decoder was
used (with its two further reads, R241), and `given` is the data as read and corrected where the model does not know it (MODE 1: the bits that read
inverted where it does), `status` the die's status byte. -/
def Dev.rawRead (q tag : Nat) (outs : List Decoded) (soft : Bool) (given : List Byte) (status : Nat) (d : Dev) : Dev :=
  match d.flight q tag with
  | none => d
  | some f =>
    if f.cmd.opcode ≠ 0x70 then d
    else if f.stage = .run then Dev.rawTake q tag 0x70 d
    else if f.stage = .xfer then d.rawIssue f
    else if f.stage ≠ .media ∨ given.length ≠ f.buffer ∨ (f.cmd.rawMode = 0 ∧ outs.length ≠ f.cmd.count) then d
    else d.rawEnd f (fun d _ =>
      let c := f.cmd
      let d := if soft ∧ c.rawMode = 0 then
          d.softReads (c.rawChan * 16 + c.rawDie) c.rawBlock c.rawPage f.rawEntry.planes c.rawPslc c.rawRetry (d.reg .LDP 0 Reg.LDP_RETRY_CFG)
        else d
      let d := d.dmaOut f (d.rawData f.cmd outs given)
      if f.cmd.rawMode = 1 then d.postOk f (status % 256)
      else
        let bits := bitList f.cmd.rawMask 16
        let oks := outs.zipIdx.filterMap (fun (e : Decoded × Nat) => match e.1 with
          | .ok n => some (bits.getD e.2 0, n)
          | _ => none)
        match (List.range outs.length).find? (fun i => match outs[i]? with
          | some (.ok _) => false
          | _ => true) with
        | some i => d.post f St.mediaUncorr i 0 0 0 f.cmd.addr 0
        | none => d.postOk f (tagMask (oks.map (fun e => e.1)) + oks.foldl (fun m e => max m e.2) 0 % 65536 * 65536 + b2n soft * 2 ^ 32))

def execRawRead (q tag : Nat) (outs : List Decoded) (soft : Bool) (given : List Byte) (status : Nat) (s : State) :
    Host.Outcome State Fault Refusal :=
  runCmd (Dev.rawRead q tag outs soft given status) s

/-- RAW_PROGRAM (R223): its checks; its data, written unchanged; its list; then SUCCESS with the die's status byte. -/
def Dev.rawProgram (q tag : Nat) (data : List Byte) (status : Nat) (d : Dev) : Dev :=
  match d.flight q tag with
  | none => d
  | some f =>
    if f.cmd.opcode ≠ 0x71 then d
    else if f.stage = .run then Dev.rawTake q tag 0x71 d
    else if f.stage = .data then
      (if data.length = f.buffer then d.rawIssue { f with staged := [{ data := data }] } else d)
    else if f.stage ≠ .media then d
    else d.rawEnd f (fun d _ =>
      let bytes := (f.staged.head?.map (fun x => x.data)).getD []
      let c := f.cmd
      (d.rawPut (c.rawChan * 16 + c.rawDie) c.rawBlock c.rawPage bytes).postOk f (status % 256))

def execRawProgram (q tag : Nat) (data : List Byte) (status : Nat) (s : State) : Host.Outcome State Fault Refusal :=
  runCmd (Dev.rawProgram q tag data status) s

/-- RAW_ERASE (R223). -/
def Dev.rawErase (q tag status : Nat) (d : Dev) : Dev :=
  match d.flight q tag with
  | none => d
  | some f =>
    if f.cmd.opcode ≠ 0x72 then d
    else if f.stage = .run then Dev.rawTake q tag 0x72 d
    else if f.stage = .xfer then d.rawIssue f
    else if f.stage ≠ .media then d
    else d.rawEnd f (fun d _ =>
      let c := f.cmd
      (d.rawWipe (c.rawChan * 16 + c.rawDie) c.rawBlock).postOk f (status % 256))

def execRawErase (q tag status : Nat) (s : State) : Host.Outcome State Fault Refusal := runCmd (Dev.rawErase q tag status) s

end Sys2Proof.Machine
end

