-- ==== Sys2Proof/Machine/Cipher.lean ====
section
/-! DEFINITION. Meanings of the cipher, key and random-number commands (spec/13_cipher_cells.md). -/
namespace Sys2Proof.Machine
open Sys2Proof

/-! ### Lanes -/

/-- Lanes of a group that are free: not fenced, no job (R448, R449). -/
def Dev.freeLane (d : Dev) (group : Nat) : Option Nat :=
  ((List.range 80).map (fun i => 80 * group + i)).find? (fun n => !(d.cip.fenced.contains n) && !(mhas d.cip.busy n))

/-- DRBG instantiated (R473). -/
def Dev.seeded (d : Dev) : Bool := d.regB .RNG 0 Reg.RNG_RNG_STS 0

/-- Why a job is refused before any output (R465, R466): 1 CTR_WRAP, 2 no key or no encryption under the slot, 0 not refused. -/
def Dev.jobRefusal (d : Dev) (j : CipherJob) : Nat :=
  if j.mode = 1 ∧ j.ctr + j.blocks - 1 > 0xffffffff then 1
  else if j.mode = 2 ∧ j.blocks > 0xfffffffe then 1
  else match d.key j.slot with
    | none => 2
    | some k => if k.state = 2 ∧ j.mode = 2 ∧ j.enc then 2 else 0

/-- A requester's job is dealt to the groups in turn (R449). -/
def Dev.dealJob (d : Dev) (j : CipherJob) : Dev :=
  let g := (mget d.cip.deal j.req).getD 0
  { d with cip := { d.cip with
      waiting := d.cip.waiting ++ [(g, j)]
      deal := mput d.cip.deal j.req ((g + 1) % 8) } }

/-- Grant a lane to a job (R449, R458, R465): its expander is seeded by the DRBG when it awaits a seed. -/
def Dev.grantLane (d : Dev) (lane : Nat) (j : CipherJob) : Dev :=
  let used := (mget d.cip.seeds lane).getD 0
  let used := if used ≥ 4096 then 0 else used
  let d := if j.mode = 2 ∧ j.enc then (d.gcmCount j.slot).getD d else d
  { d with cip := { d.cip with busy := mput d.cip.busy lane j, seeds := mput d.cip.seeds lane (used + 1) },
             rng := { requests := d.rng.requests + b2n (used == 0) } }

/-- A group grants its lowest free lane by R39 over the five requesters (R449). Arbiter keys 0x310 to 0x317. -/
def Dev.groupGrant (d : Dev) (group : Nat) : Dev :=
  if d.cip.alarm || !d.seeded then d
  else match d.freeLane group, rrPick 5 (d.arbPtr (0x310 + group))
      (fun r => d.cip.waiting.any (fun e => e.1 == group && e.2.req == r)) with
    | some lane, some r =>
      match d.cip.waiting.find? (fun e => e.1 == group && e.2.req == r) with
      | some e =>
        let d := { d with cip := { d.cip with waiting := d.cip.waiting.eraseP (fun e => e.1 == group && e.2.req == r) } }
        let d := d.arbWin (0x310 + group) 5 r
        let x := d.jobRefusal e.2
        if x = 0 then d.grantLane lane e.2 else { d with cip := { d.cip with results := d.cip.results ++ [x] } }
      | none => d
    | _, _ => d

/-- CIPHER_JOB_GRANT: a requester presents a job, if any, and the group grants a lane to a waiting job (R449). -/
def Dev.cipherJobGrant (group : Nat) (job : Option CipherJob) (d : Dev) : Dev :=
  let d := match job with
    | some j => if j.req < 5 ∧ !d.cip.alarm then d.dealJob j else d
    | none => d
  d.groupGrant (group % 8)

def execCipherJobGrant (group : Nat) (job : Option CipherJob) (s : State) : Host.Outcome State Fault Refusal :=
  run (Dev.cipherJobGrant group job) s

/-- CIPHER_JOB_DONE: the lane's last output byte leaves (R449); JOBS counts. -/
def Dev.cipherJobDone (lane : Nat) (d : Dev) : Dev :=
  if mhas d.cip.busy lane then
    ({ d with cip := { d.cip with busy := mdel d.cip.busy lane, results := d.cip.results ++ [0] } }).cipherJobs 1
  else d

def execCipherJobDone (lane : Nat) (s : State) : Host.Outcome State Fault Refusal := run (Dev.cipherJobDone lane) s

/-- LANE_FAULT: the lane is fenced with a C2 event and its job is re-run on another lane (R470). -/
def Dev.laneFault (lane : Nat) (d : Dev) : Dev :=
  if lane < 640 ∧ !(d.cip.fenced.contains lane) then
    ({ d with cip := d.cip.fence lane }).raiseErrAs .CIP 0 0 2 noDetail lane
  else d

def execLaneFault (lane : Nat) (s : State) : Host.Outcome State Fault Refusal := run (Dev.laneFault lane) s

/-! ### Key commands -/

/-- Little-endian bytes of the KEY_DATA registers from index `k`, `n` registers. -/
def Dev.keyData (d : Dev) (n : Nat) : List Byte :=
  (List.range n).flatMap (fun k => leBytes 4 (d.regN .KEY 0 (Reg.KEY_KEY_DATA_0 + 4 * k)))

/-- KEY_DATA clears after each command (R472). -/
def Dev.clearKeyData (d : Dev) : Dev := (List.range 16).foldl (fun d k => d.setRegN .KEY 0 (Reg.KEY_KEY_DATA_0 + 4 * k) 0) d

/-- Whether a USE fits a slot number (R459). -/
def useFits (use slot : Nat) : Bool := if use = 0 then decide (4032 ≤ slot) else decide (slot < 4032)

/-- Load a slot from key material under KEY_ATTR (R461). -/
def Dev.loadSlot (d : Dev) (n : Nat) (ab : List Byte) : Dev :=
  let u := d.regF .KEY 0 Reg.KEY_KEY_ATTR 0 2
  let use := if u = 3 then 0 else u
  let bits := if d.regB .KEY 0 Reg.KEY_KEY_ATTR 2 then 256 else 128
  if !useFits use n then d.keyResult 8
  else if (d.key n).isSome then d.keyResult 1
  else ((d.setKey n (freshSlot use bits 0 0 ab)).sealRecord n).keyResult 0

/-- Little-endian field of a byte string. -/
def bytesAt (b : List Byte) (o n : Nat) : Nat := leNat ((b.drop o).take n)

/-- The fields of a key blob are in range and name this device (R462, RESULT FORMAT). -/
def Dev.blobOk (d : Dev) (b : List Byte) : Bool :=
  b.length == 224 && bytesAt b 0 4 == 0x424b5650 && bytesAt b 4 1 == 1 &&
    (bytesAt b 5 1 == 1 || bytesAt b 5 1 == 2) && (bytesAt b 6 2 == 128 || bytesAt b 6 2 == 256) &&
    decide (bytesAt b 8 2 < 1024) && decide (bytesAt b 10 1 < 4) && decide (bytesAt b 11 1 < 2) &&
    bytesAt b 12 8 == d.serial && bytesAt b 28 4 == 0 && bytesAt b 0x81 3 == 0

/-- Open a key blob into slot `n` and set the tint's reference (R461 UNWRAP, R462). -/
def Dev.unwrapBlob (d : Dev) (n : Nat) (blob : List Byte) : Dev :=
  if !useFits 1 n then d.keyResult 8
  else if (d.key n).isSome then d.keyResult 1
  else if !d.blobOk blob then d.keyResult 3
  else match Config.openBlob Config.uniqueSecret blob with
    | none => d.keyResult 4
    | some ab =>
      let use := bytesAt blob 5 1
      let tint := bytesAt blob 8 2
      if d.page .TNT tint ≠ .off then d.keyResult 6
      else
        let slot := freshSlot use (bytesAt blob 6 2) (bytesAt blob 0x14 8) tint ab
        let d := (d.setKey n slot).sealRecord n
        (d.setRegN .TNT tint (Reg.TNT_KEY_0 + 4 * bytesAt blob 10 1) (n + use * 0x1000 + 0x80000000)).keyResult 0

/-- ROLL (R461): refused for an EMPTY slot, at GEN 0xFF and while sectors sealed under GEN − 1 remain. -/
def Dev.rollKey (d : Dev) (n : Nat) : Dev :=
  match d.key n with
  | none => d.keyResult 2
  | some k =>
    if k.gen = 0xff ∨ (0 < k.gen ∧ !(d.sealedBy n (k.gen - 1)).isEmpty) then d.keyResult 5
    else ((d.setKey n (rollSlot k)).sealRecord n).keyResult 0

/-- Zeroise a slot: its messages end, its record is deleted (R461, R463, R483). -/
def Dev.eraseKey (d : Dev) (n : Nat) : Dev :=
  ({ d with keys := mdel d.keys n, reseal := d.reseal.filter (· != n) }.sealRecord n).digKeyErased n

/-- ERASE_ALL: every slot zeroised (R461). -/
def Dev.eraseAllKeys (d : Dev) : Dev := (d.keys.map (·.1)).foldl (fun d n => d.eraseKey n) d

/-- What KEY_CMD.OP does on slot KEY_SEL (R461), and after it KEY_DATA is clear; `blob` is what stands at BLOB_ADDR. -/
def Dev.keyAct (d : Dev) (op : Nat) (blob : List Byte) : Dev :=
  let n := d.regF .KEY 0 Reg.KEY_KEY_SEL 0 12
  let done : Dev :=
    if d.cip.alarm then d.keyResult 7
    else match op with
      | 1 => d.loadSlot n (d.keyData 16)
      | 2 => d.loadSlot n (Config.kdf Config.uniqueSecret (d.keyData 8))
      | 3 => d.unwrapBlob n blob
      | 4 => d.rollKey n
      | 5 => (d.eraseKey n).keyResult 0
      | 6 => d.eraseAllKeys.keyResult 0
      | _ => d.keyResult 8
  done.clearKeyData

/-- A write of KEY_CMD by `r`: carried out at once, or, BUSY, when the halted secure pair runs again (R461, R650). -/
def Dev.keyCmd (r : Requester) (op : Nat) (blob : List Byte) (d : Dev) : Dev :=
  d.regWrite r .KEY 0 Reg.KEY_KEY_CMD (fun d =>
    if d.sxHalted then
      ({ d with dbg := { d.dbg with sxWait := d.dbg.sxWait ++ [SxWait.key op blob] } }).setRegF .KEY 0 Reg.KEY_KEY_STS 0 1 1
    else d.keyAct op blob)

/-- KEY_LOAD: LOAD of KEY_DATA_0 to 15. -/
def execKeyLoad (req : Requester) (s : State) : Host.Outcome State Fault Refusal := run (Dev.keyCmd req 1 []) s

/-- DERIVE from the device unique secret under a label. -/
def execDerive (req : Requester) (s : State) : Host.Outcome State Fault Refusal := run (Dev.keyCmd req 2 []) s

/-- UNWRAP of a blob (R462). -/
def execUnwrap (req : Requester) (blob : List Byte) (s : State) : Host.Outcome State Fault Refusal := run (Dev.keyCmd req 3 blob) s

/-- ROLL. -/
def execRoll (req : Requester) (s : State) : Host.Outcome State Fault Refusal := run (Dev.keyCmd req 4 []) s

/-- KEY_ERASE: ERASE. -/
def execKeyErase (req : Requester) (s : State) : Host.Outcome State Fault Refusal := run (Dev.keyCmd req 5 []) s

/-- ERASE_ALL. -/
def execEraseAll (req : Requester) (s : State) : Host.Outcome State Fault Refusal := run (Dev.keyCmd req 6 []) s

/-- RESEAL_DONE: the directory sectors sealed under GEN − 1 are sealed again under GEN, two G10 tokens each, and once
none remains the slot rolls (R465). A slot that becomes EXHAUSTED leaves the rest as they are. -/
def Dev.resealDone (slot : Nat) (d : Dev) : Dev :=
  match d.key slot with
  | none => d
  | some k =>
    if !d.reseal.contains slot then d
    else
      let old := if k.gen = 0 then [] else d.sealedBy slot (k.gen - 1)
      let d := old.foldl (fun d sec => match d.gcmCount slot with
        | some d => { d with
            seals := mput d.seals sec (slot * 256 + k.gen)
            gates := d.gates.modify 10 (fun g => { g with level := max (-4096 * 512) (g.level - 1024) }) }
        | none => d) d
      let left := if k.gen = 0 then [] else d.sealedBy slot (k.gen - 1)
      let d := { d with reseal := d.reseal.filter (· != slot) }
      if left.isEmpty ∧ k.gen ≠ 0xff then
        match d.key slot with
        | some k => (d.setKey slot (rollSlot k)).sealRecord slot
        | none => d
      else d

def execResealDone (slot : Nat) (s : State) : Host.Outcome State Fault Refusal := run (Dev.resealDone slot) s

/-! ### Entropy -/

/-- DRBG_RESEED: a tested seed (re)instantiates the DRBG (R467, R468). A seed takes 1,536 samples that passed, so WARN ends. -/
def Dev.drbgReseed (d : Dev) : Dev :=
  if d.cip.alarm then d
  else
    let d := d.setRegF .RNG 0 Reg.RNG_RNG_STS 0 3 3
    { (d.incWrap .RNG 0 Reg.RNG_RESEEDS 1) with rng := { requests := 0 } }

def execDrbgReseed (s : State) : Host.Outcome State Fault Refusal := run Dev.drbgReseed s

/-- HEALTH_FAIL: `apt` names the test that failed and `samples` counts the samples since the failure before; a second
failure within the next 1,024 samples raises the alarm (R469). -/
def Dev.healthFail (apt : Bool) (samples : Nat) (d : Dev) : Dev :=
  let second := d.regB .RNG 0 Reg.RNG_RNG_STS 2 && decide (samples ≤ 1024)
  let d := d.incSat .RNG 0 (if apt then Reg.RNG_APT_FAIL else Reg.RNG_RCT_FAIL) 1
  let d := (d.raiseErr .RNG 0 0 noDetail).setRegF .RNG 0 Reg.RNG_RNG_STS 2 1 1
  if second then d.cipherAlarm 0 else d

def execHealthFail (apt : Bool) (samples : Nat) (s : State) : Host.Outcome State Fault Refusal :=
  run (Dev.healthFail apt samples) s

/-- FORCE_ALARM: a secure write of KEY.FORCE[0], which clears itself (R470, R570). -/
def execForceAlarm (req : Requester) (s : State) : Host.Outcome State Fault Refusal :=
  run (fun d => d.forceWrite req .KEY 0 (fun d => d.cipherAlarm 2)) s

end Sys2Proof.Machine
end

