-- ==== Sys2Proof/Machine/Madder.lean ====
section
/-! DEFINITION. Meanings of the Madder commands (spec/15_madder_control.md). -/
namespace Sys2Proof.Machine
open Sys2Proof

/-- Modes in which Madder computes (R499), while the debug port does not halt it. -/
def Dev.madderRuns (d : Dev) : Bool :=
  (match d.life.mode with
    | .boot | .maint | .compat | .active | .degraded | .fenced | .readonly => true
    | _ => false) && (d.xDbg madUnit).hit.isNone && (!d.xHalted madUnit || (d.xDbg madUnit).step)

/-- Period of a loop in µs: 10 to 1,000, other values act as the nearer end (R503). -/
def Dev.loopPeriod (d : Dev) (n : Nat) : Nat := max 10 (min 1000 (d.regF .MLP n Reg.MLP_LOOP_CFG 16 10))

/-- Loops due at this microsecond (R493). -/
def Dev.loopsDue (d : Dev) : List Nat :=
  (List.range 16).filter (fun n => d.page .MLP n == .serving && d.us % d.loopPeriod n == 0)

/-- Input of loop `n` at its tick (R492). `power` is what the supply monitors read in mW, `readLat n` the 99th percentile
of the media read times in the loop's last period, both measured outside the model. -/
def Dev.loopInput (d : Dev) (n : Nat) (power : Nat) (readLat : List Nat) : Int :=
  let src := d.regF .MLP n Reg.MLP_LOOP_CFG 0 8
  if 0x01 ≤ src ∧ src ≤ 0x04 then signed 12 (d.regF .THM 0 (Reg.THM_TEMP_0 + 4 * (src - 1)) 0 12)
  else if src = 0x05 then power
  else if src = 0x06 then d.gcPressure
  else if src = 0x07 then readLat.getD n 0
  else if src = 0x08 then
    let target := d.pslTarget
    let den := 12 * (target - d.pslRsv)
    if den = 0 then 131071 else min 131071 (65536 * d.pslcHeld / den)
  else if src = 0x09 then (d.logLimit : Int) - d.logInUse
  else if 0x10 ≤ src ∧ src ≤ 0x1e then d.gateAdm.getD (src - 0x10) 0 - (d.loop n).gateSnap
  else if src = 0x20 then signed 32 (d.regN .MLP n Reg.MLP_HOST_IN)
  else if 0x30 ≤ src ∧ src ≤ 0x3f then d.regF .MLP (src - 0x30) Reg.MLP_OUT 0 17
  else 0

/-- Signal of a trace buffer (R501, R504). -/
def traceSignal (sel : Nat) (input : Int) (r : LoopOut) : Int :=
  match sel with
  | 0 => input * q30
  | 1 => r.err
  | 2 => r.y
  | 3 => r.i
  | _ => r.o * q30

/-- The trigger condition of a buffer holds at this sample (R502, R504). -/
def Dev.traceTrig (d : Dev) (b : Nat) (sig : Int) (r : LoopOut) : Bool :=
  let t := d.trace b
  let th := signed 32 (d.regN .MAD 0 (Reg.MAD_TRC_THRESH + 0x10 * b))
  match d.regF .MAD 0 (Reg.MAD_TRC_CFG + 0x10 * b) 16 3 with
  | 1 => decide (sig / q30 > th) && (match t.prev with
    | some p => decide (p ≤ th)
    | none => false)
  | 2 => decide (sig / q30 < th) && (match t.prev with
    | some p => decide (p ≥ th)
    | none => false)
  | 3 => r.atMin || r.atMax
  | 4 => t.fault
  | _ => t.fire

/-- One sample of a traced loop reaches buffer `b` (R502). -/
def Dev.traceStep (d : Dev) (b n : Nat) (input : Int) (r : LoopOut) (seq : Nat) : Dev :=
  let cfg := Reg.MAD_TRC_CFG + 0x10 * b
  let sts := Reg.MAD_TRC_STS + 0x10 * b
  let sel := d.regF .MAD 0 cfg 4 3
  let sig := traceSignal sel input r
  let word := unsigned 48 sig + n * 2 ^ 48 + min sel 4 * 2 ^ 52 +
    b2n (r.atMin || r.atMax || r.slewed) * 2 ^ 55 + seq % 256 * 2 ^ 56
  let decim := d.regF .MAD 0 cfg 8 8
  let t := d.trace b
  let d := if d.trcState b = 1 then
      if d.traceTrig b sig r then
        let post := d.regF .MAD 0 cfg 20 12
        let d := d.setRegF .MAD 0 sts 4 12 (d.regF .MAD 0 sts 16 12)
        let d := (d.setRegN .MAD 0 (Reg.MAD_TRC_TIME + 4 * b) d.us).setRegF .MAD 0 sts 0 2 2
        let d := (d.setTrace b { t with post := post, fire := false, fault := false, skip := decim }).traceWrite b word
        if post = 0 then d.traceDone b false else d
      else if t.skip = 0 then (d.setTrace b { t with skip := decim, fault := false }).traceWrite b word
      else d.setTrace b { t with skip := t.skip - 1, fault := false }
    else if d.trcState b = 2 then
      if t.skip = 0 then
        let d := (d.setTrace b { t with skip := decim, post := t.post - 1 }).traceWrite b word
        if t.post ≤ 1 then d.traceDone b false else d
      else d.setTrace b { t with skip := t.skip - 1 }
    else d
  d.setTrace b { d.trace b with prev := some (sig / q30) }

/-- Signed shadow registers KP, KI and COEF in loop order. -/
def Dev.shadowCoef (d : Dev) (n : Nat) : List Int :=
  (List.range 20).map (fun k => signed 32 (d.regN .MLP n (Reg.MLP_COEF + 4 * k)))

/-- The loop's tick takes the waiting writes and COMMIT (R498). -/
def Dev.loopTick (d : Dev) (n : Nat) : Dev :=
  let l := d.loopTake n (d.loop n)
  let l := if l.commit then
      { l with
          kp := signed 32 (d.regN .MLP n Reg.MLP_KP)
          ki := signed 32 (d.regN .MLP n Reg.MLP_KI)
          coef := d.shadowCoef n
          commit := false }
    else l
  d.setLoop n l

/-- An I_LO or I_HI register as it acts (R503). -/
def Dev.iBound (d : Dev) (n off : Nat) : Int := clampI (signed 32 (d.regN .MLP n off)) (-131072) 131071

/-- Section states of a loop from the STATE registers. -/
def Dev.loopSecs (d : Dev) (n : Nat) : List (Int × Int) :=
  (List.range (min 4 (d.regF .MLP n Reg.MLP_LOOP_CFG 9 3))).map (fun j =>
    (signed 48 (d.reg64 .MLP n (Reg.MLP_STATE + 0x10 * j)), signed 48 (d.reg64 .MLP n (Reg.MLP_STATE + 0x10 * j + 8))))

/-- Compute one due loop from its latched input (R488 to R491) and store what its page shows. -/
def Dev.loopRun (d : Dev) (n : Nat) (input : Int) (delay : Nat) : Dev :=
  let l := d.loop n
  let iLo := d.iBound n Reg.MLP_I_LO
  let iHi := d.iBound n Reg.MLP_I_HI
  let i0 := clampI (signed 48 (d.reg64 .MLP n Reg.MLP_I_VAL)) (iLo * q30) (iHi * q30)
  let r := loopSample input (signed 32 (d.regN .MLP n Reg.MLP_SETPOINT)) (d.regB .MLP n Reg.MLP_LOOP_CFG 8) l.coef
    (d.loopSecs n) l.kp l.ki i0 iLo iHi (d.outMin n) (d.outMax n) (d.regF .MLP n Reg.MLP_SLEW 0 17) l.outPrev
  let was := d.regF .MLP n Reg.MLP_OUT 17 2 != 0
  let d := (List.range r.secs.length).foldl (fun d j => match r.secs[j]? with
    | some (s1, s2) => (d.setReg64 .MLP n (Reg.MLP_STATE + 0x10 * j) (unsigned 48 s1)).setReg64 .MLP n
        (Reg.MLP_STATE + 0x10 * j + 8) (unsigned 48 s2)
    | none => d) d
  let d := d.setReg64 .MLP n Reg.MLP_I_VAL (unsigned 48 r.i)
  let d := d.setRegN .MLP n Reg.MLP_INPUT_VAL (unsigned 32 input)
  let d := d.setRegN .MLP n Reg.MLP_OUT (unsigned 17 r.o + b2n r.atMin * 2 ^ 17 + b2n r.atMax * 2 ^ 18 +
    b2n r.slewed * 2 ^ 19 + b2n r.held * 2 ^ 20)
  let d := d.incWrap .MLP n Reg.MLP_SAMPLES 1
  let d := d.setRegF .MLP n Reg.MLP_LOOP_STS 0 11 (max (d.regF .MLP n Reg.MLP_LOOP_STS 0 11) (min 2047 delay))
  let src := d.regF .MLP n Reg.MLP_LOOP_CFG 0 8
  let snap := if 0x10 ≤ src ∧ src ≤ 0x1e then d.gateAdm.getD (src - 0x10) 0 else l.gateSnap
  let d := d.setLoop n { d.loop n with outPrev := r.o, acted := true, gateSnap := snap }
  let d := if (r.atMin || r.atMax) && !was then d.setIrq .MLP n 0 else d
  let d := if r.sat then d.raiseErr .MLP n 0 noDetail else d
  (List.range 4).foldl (fun d b =>
    if d.regF .MAD 0 (Reg.MAD_TRC_CFG + 0x10 * b) 0 4 = n then
      d.traceStep b n input r (d.regN .MLP n Reg.MLP_SAMPLES)
    else d) d

/-- The due loops in R39's order from the engine's pointer (arbiter key 0x330), as MCLK computation cycles run up: the
delay in ns is 2.5 ns per cycle and the wait for the FCLK edge, `edge` ns (R493, R494). -/
def Dev.loopsRun (d : Dev) (edge : Nat) : List (Nat × Int) → Nat → Dev
  | [], _ => d
  | (n, input) :: rest, cycles =>
    let c := cycles + 12 + 8 * min 4 (d.regF .MLP n Reg.MLP_LOOP_CFG 9 3)
    ((d.loopRun n input ((c * 5 + 1) / 2 + edge)).arbWin 0x330 16 n).loopsRun edge rest c

/-- Madder's debug block after a tick: the loop computed last, a step used up, a breakpoint reached (R651). -/
def Dev.madComputed (d : Dev) (order : List Nat) : Dev :=
  match order.getLast? with
  | none => d
  | some n =>
    let x := d.xDbg madUnit
    d.setX madUnit { x with
      pc := n
      step := false
      reason := if x.reason = 0 then 0 else 2
      hit := (order.find? (fun k => (d.madBreak k).isSome)).bind (fun k => d.madBreak k) }

/-- LOOP_SAMPLE (R488, R493): every due loop latches its inputs, then the loops are computed in turn and the gates take
the new rates. `edge` is the wait for the FCLK edge in ns, 0 or 1 (R494). -/
def Dev.loopSampleAll (power : Nat) (readLat : List Nat) (edge : Nat) (d : Dev) : Dev :=
  if !d.madderRuns then d
  else
    let due := d.loopsDue
    let ptr := d.arbPtr 0x330
    let order := ((List.range 16).map (fun i => (ptr + i) % 16)).filter due.contains
    let d := order.foldl (fun d n => d.loopTick n) d
    let latched := order.map (fun n => (n, d.loopInput n power readLat))
    ((d.loopsRun (min 1 edge) latched 0).setRates).madComputed order

def execLoopSample (power : Nat) (readLat : List Nat) (edge : Nat) (s : State) : Host.Outcome State Fault Refusal :=
  run (Dev.loopSampleAll power readLat edge) s

/-- LOOP_COMMIT: LOOP_CTL.COMMIT ← 1, taken at the loop's next tick (R498). -/
def Dev.loopCommit (n : Nat) (d : Dev) : Dev := d.setLoop n { d.loop n with commit := true }

def execLoopCommit (req : Requester) (n : Nat) (s : State) : Host.Outcome State Fault Refusal :=
  run (fun d => if 16 ≤ n then d else d.regWrite req .MLP n Reg.MLP_LOOP_CTL (Dev.loopCommit n)) s

/-- DELAY_CLR: LOOP_CTL.DELAY_CLR ← 1 zeroes DELAY_MAX (R494, R503). -/
def Dev.delayClr (n : Nat) (d : Dev) : Dev := d.setRegN .MLP n Reg.MLP_LOOP_STS 0

def execDelayClr (req : Requester) (n : Nat) (s : State) : Host.Outcome State Fault Refusal :=
  run (fun d => if 16 ≤ n then d else d.regWrite req .MLP n Reg.MLP_LOOP_CTL (Dev.delayClr n)) s

/-- LOOP_MEM_UNCORR: an uncorrectable read of a loop's memory contains the loop under C2 (R500). -/
def execLoopMemUncorr (n : Nat) (s : State) : Host.Outcome State Fault Refusal :=
  run (fun d => if 16 ≤ n then d else d.raiseErrAs .MLP n 2 2 noDetail n) s

/-- TRACE_ARM: TRC_CTL.ARM ← 1 in IDLE or DONE enters ARMED with WR_INDEX 0 (R502). -/
def Dev.traceArm (d : Dev) (b : Nat) : Dev :=
  if d.trcState b = 0 ∨ d.trcState b = 3 then
    (d.setRegN .MAD 0 (Reg.MAD_TRC_STS + 0x10 * b) 1).setTrace b { traceReset with prev := (d.trace b).prev }
  else d

def execTraceArm (req : Requester) (b : Nat) (s : State) : Host.Outcome State Fault Refusal :=
  run (fun d => if 4 ≤ b then d else d.regWrite req .MAD 0 (Reg.MAD_TRC_CTL + 0x10 * b) (fun d => d.traceArm b)) s

/-- TRACE_FIRE: TRC_CTL.FIRE ← 1 triggers a MANUAL buffer at the traced loop's next sample (R502, R504). -/
def Dev.traceFire (b : Nat) (d : Dev) : Dev := if d.trcState b = 1 then d.setTrace b { d.trace b with fire := true } else d

def execTraceFire (req : Requester) (b : Nat) (s : State) : Host.Outcome State Fault Refusal :=
  run (fun d => if 4 ≤ b then d else d.regWrite req .MAD 0 (Reg.MAD_TRC_CTL + 0x10 * b) (Dev.traceFire b)) s

/-- TRACE_STOP: TRC_CTL.STOP ← 1 ends an ARMED or TRIGGERED buffer, STOPPED (R502). -/
def Dev.traceStop (b : Nat) (d : Dev) : Dev := if d.trcState b = 1 ∨ d.trcState b = 2 then d.traceDone b true else d

def execTraceStop (req : Requester) (b : Nat) (s : State) : Host.Outcome State Fault Refusal :=
  run (fun d => if 4 ≤ b then d else d.regWrite req .MAD 0 (Reg.MAD_TRC_CTL + 0x10 * b) (Dev.traceStop b)) s

end Sys2Proof.Machine
end

