-- ==== Sys2Proof/Machine/Boot.lean ====
section
/-! DEFINITION. Meanings of the start-up, shutdown and device reset commands (spec/01_architecture.md R27 to R35,
spec/16_firmware_domains.md R511 to R514, spec/17_field_update.md R544, R548, spec/21_supplies_clocks_reset.md). -/
namespace Sys2Proof.Machine
open Sys2Proof

/-! ### RESET and BOOT entry (R27, R614, R617) -/

/-- MAIN_RAILS_RISING: BACKUP to RESET with a cold DEVICE reset (R27, R614). -/
def execMainRailsRising (s : State) : Host.Outcome State Fault Refusal :=
  run (fun d => if d.life.mode ≠ .backup then d
    else ({ d with life := { d.life with rails := true } }).deviceReset true 0 false) s

/-- What BOOT entry does (R34, R406, R511, R513, R616): straps sampled, ports by role, and the update state of the boot control
record. -/
def Dev.bootEntry (headSel testN : Bool) (d : Dev) : Dev :=
  if d.life.mode ≠ .reset || !testN then d
  else
    let d := { d with life := { d.life with
      rstN := true, pgood := true, pfailN := true, pllLocked := true, refclk := true, strapHead := headSel, strapTest := testN
      bootUs := d.life.usUp } }
    let d := (d.setRegN .CLK 0 Reg.CLK_STRAP_STS (b2n headSel + 2)).setMode .boot
    let d := d.fabBoot
    if d.hostPort && d.life.perstN then { d with ep := { d.ep with termination := true, cfgReady := true } } else d

/-- BOOT_ENTRY: RST_N, every PGOOD input and PFAIL_N are high and the root PLL has locked; TEST_N low keeps the device in RESET
(R27, R617). -/
def execBootEntry (headSel testN : Bool) (s : State) : Host.Outcome State Fault Refusal := run (Dev.bootEntry headSel testN) s

/-! ### Mordant (R511 to R514, R544) -/

/-- Set OWNER of the pages that the overrides name (R58): WR_S and RD_S ignored. -/
def Dev.applyOwners (d : Dev) : Dev :=
  d.ownerOverrides.foldl (fun d e => match PT.ofCode e.1 with
    | none => d
    | some p =>
      let set (d : Dev) (i : Nat) : Dev := d.setOwner p i e.2.2
      if e.2.1 = 0xffff then (List.range p.count).foldl set d
      else if e.2.1 < p.count then set d e.2.1 else d) d

/-- Region codes from SYM1_MASK, but for regions that refuse SYM1; then the regions are initialised (R256). -/
def Dev.applyCodes (d : Dev) : Dev :=
  let mask := d.regF .OPT 0 Reg.OPT_OPT_MISC 16 16
  let d := (List.range 16).foldl (fun d n =>
    let off := Reg.MEM_REGION0 + 8 * n
    d.setRegF .MEM 0 off 26 1 (b2n (nbit mask n && !d.regB .MEM 0 off 27))) d
  d.setRegF .MEM 0 Reg.MEM_MEM_STS 0 1 1

/-- Mordant starts with a version: keys, DRBG, overrides, codes, in the order of R511 step 4. -/
def Dev.mordantStart (d : Dev) (version : Nat) : Dev :=
  let d := { d with life := { d.life with mordant := true } }
  let d := (d.setRegN .SX 0 Reg.SX_MORDANT_VER version).setRegN .SX 0 Reg.SX_SVN (d.otpSvn 0x100 + d.otpSvn 0x120 * 256)
  let d := if d.regF .OPT 0 Reg.OPT_OPT_STS 0 2 = 2 then d.noteBy 1 2 .OPT none none else d
  d.reloadKeys.applyOwners.applyCodes

/-- Banks that the boot control record names, whether it is a trial, and whether its tries have run out (R511, R544): then the
retained banks are named instead. -/
def Dev.namedBanks (d : Dev) : Nat × Nat × Bool × Bool × Nat :=
  match d.bootInForce with
  | none => (0, 0, false, false, 0)
  | some (_, r) =>
    let m := r.flags % 2
    let g := r.flags / 2 % 2
    let trial := nbit r.flags 2
    if trial ∧ 3 ≤ r.tries then (1 - m, 1 - g, false, true, 0) else (m, g, trial, false, if trial then r.tries + 1 else r.tries)

/-- Result field of a bank in BOOT_STS. -/
def Dev.bootResult (d : Dev) (lo res : Nat) : Dev := d.setRegF .SX 0 Reg.SX_BOOT_STS lo 3 res

/-- A result code of the checks: 1 OK to 6 DIGEST (R527). -/
def checkCode (r : Nat) : Bool := decide (1 ≤ r ∧ r ≤ 6)

/-- MORDANT_VERIFIED: `resA` and `resB` are what the check of each bank finds (R513); the bank named is tried first (R511, R514). -/
def Dev.mordantVerified (resA resB : Nat) (d : Dev) : Dev :=
  if d.life.mode ≠ .boot || d.life.fatal || d.life.mordant || d.regB .SX 0 Reg.SX_BOOT_STS 14 || !checkCode resA || !checkCode resB then d
  else
    let n := d.namedBanks
    let res (i : Nat) : Nat := if i = 0 then resA else resB
    let lo (i : Nat) : Nat := if i = 0 then 1 else 4
    let d := d.bootResult (lo n.1) (res n.1)
    let other := 1 - n.1
    let d := if res n.1 = 1 then d else d.bootResult (lo other) (res other)
    if res n.1 ≠ 1 ∧ res other ≠ 1 then d.setRegF .SX 0 Reg.SX_BOOT_STS 14 1 1
    else
      let m := if res n.1 = 1 then n.1 else other
      let fell := decide (m ≠ n.1) || n.2.2.2.1
      let d := (d.setRegF .SX 0 Reg.SX_BOOT_STS 0 1 m).setRegF .SX 0 Reg.SX_BOOT_STS 15 1 (b2n fell)
      let d := d.mordantStart (d.flashNat (mordantBank m + 8) 4)
      let d := if fell || n.2.2.1 then d.writeBoot (m + n.2.1 * 2 + b2n n.2.2.1 * 4) n.2.2.2.2 true else d
      if m ≠ n.1 then d.noteBy 1 4 .SX none none else d

def execMordantVerified (resA resB : Nat) (s : State) : Host.Outcome State Fault Refusal := run (Dev.mordantVerified resA resB) s

/-! ### Settings copies (R547, R548) -/

/-- Page types whose RW fields are operator settings (R547). -/
def settingsTypes : List PT := [.PWR, .THM, .PLP, .WC, .LOG, .GC, .PSL, .WEAR, .STR, .JNL, .LDP, .CIP, .MAD, .CH, .FL, .MLP, .FAB]

/-- Base of settings copy `i` (R509). -/
def setCopy (i : Nat) : Nat := 0x3e00000 + 0x10000 * i

/-- Settings copy `i` passes SIG, COUNT and CHECK. -/
def Dev.setValid (d : Dev) (i : Nat) : Bool :=
  let a := setCopy i
  let n := d.flashNat (a + 6) 2
  let body := d.flashBytes a 0x1c ++ zeros 4 ++ d.flashBytes (a + 0x20) (16 * n)
  d.flashNat a 4 == 0x54535650 && decide (n ≤ 4094) && d.flashNat (a + 0x1c) 4 == crc32c body

/-- SETTINGS_FMT of the running Glaze (R531). -/
def Dev.settingsFmt (d : Dev) : Nat := d.flashNat (glazeBank (d.regF .SX 0 Reg.SX_BOOT_STS 7 1) + 0x1a) 2

/-- The copy that BOOT applies: valid, of the running FORMAT, with the highest SEQ (R548). -/
def Dev.setInForce (d : Dev) : Option Nat :=
  let ok (i : Nat) : Bool := d.setValid i && d.flashNat (setCopy i + 4) 2 == d.settingsFmt
  let seq (i : Nat) : Nat := d.flashNat (setCopy i + 8) 8
  if ok 0 then (if ok 1 && decide (seq 0 < seq 1) then some 1 else some 0) else if ok 1 then some 1 else none

/-- A register of 64 bits: its low word is followed by the row of its high word (R46). -/
def isWide (p : PT) (off : Nat) : Bool := match p.desc off, p.desc (off + 4) with
  | some a, some b => a.stride == 8 && b.off == a.off + 4
  | _, _ => false

/-- Write the RW bits of one register from a setting. -/
def Dev.applyWord (d : Dev) (p : PT) (i off v : Nat) : Dev := match p.desc off with
  | none => d
  | some r => d.setRegN p i off ((d.regN p i off &&& (0xffffffff - r.rw)) ||| (v &&& r.rw))

/-- Apply one settings entry (R547). -/
def Dev.applySetting (d : Dev) (a : Nat) : Dev := match PT.ofCode (d.flashNat a 2) with
  | none => d
  | some p =>
    let i := d.flashNat (a + 2) 2
    let off := d.flashNat (a + 4) 2
    let v := d.flashNat (a + 8) 8
    if settingsTypes.contains p ∧ i < p.count ∧ 0x40 ≤ off ∧ off < 0x1000 then
      let d := d.applyWord p i off (v % 2 ^ 32)
      if isWide p off then d.applyWord p i (off + 4) (v / 2 ^ 32) else d
    else d

/-- Glaze applies the settings copy, or runs with defaults and says so (R548). -/
def Dev.applySettings (d : Dev) : Dev := match d.setInForce with
  | none => d.setRegF .UPD 0 Reg.UPD_UPD_STS 15 1 1
  | some c => (List.range (d.flashNat (setCopy c + 6) 2)).foldl (fun d k => d.applySetting (setCopy c + 0x20 + 16 * k)) d

/-! ### Glaze (R497, R511, R514) -/

/-- A default loop of R497: input, POL, setpoint, GATES, PERIOD_US, OUT_MIN, OUT_MAX, INIT, FAIL_OPEN. -/
def defaultLoop (temp n : Nat) : List Nat :=
  match n with
  | 4 => [5, 0, 62000, 0x7fff, 100, 125, 102400, 1, 0]
  | 5 => [6, 1, 0, 0x1400, 1000, 250, 51200, 0, 1]
  | 6 => [7, 0, 400, 0x7c00, 100, 250, 102400, 1, 1]
  | 7 => [8, 1, 32768, 0x0800, 1000, 0, 20000, 0, 1]
  | n => [1 + n, 0, temp, 0x7fff, 1000, 125, 102400, 1, 0]

/-- Configure one default loop from the Madder tables. NSEC, KP, KI and the section coefficients of the shipped tables are free values. -/
def Dev.loadLoop (d : Dev) (n : Nat) : Dev :=
  let v := defaultLoop (if d.gradeE then 800 else 720) n
  let g (k : Nat) : Nat := v.getD k 0
  let f := d.free
  let d := { d with free := f + 23 }
  let d := d.setRegN .MLP n Reg.MLP_LOOP_CFG
    (g 0 + g 1 * 2 ^ 8 + Config.freeNat f % 8 * 2 ^ 9 + g 7 * 2 ^ 12 + g 8 * 2 ^ 13 + g 4 * 2 ^ 16)
  let d := d.setRegN .MLP n Reg.MLP_SETPOINT (g 2)
  let d := d.setRegN .MLP n Reg.MLP_GATES (g 3)
  let d := (d.setRegN .MLP n Reg.MLP_OUT_MIN (g 5)).setRegN .MLP n Reg.MLP_OUT_MAX (g 6)
  let d := (d.setRegN .MLP n Reg.MLP_KP (Config.freeNat (f + 1) % 2 ^ 32)).setRegN .MLP n Reg.MLP_KI (Config.freeNat (f + 2) % 2 ^ 32)
  (List.range 20).foldl (fun d k => d.setRegN .MLP n (Reg.MLP_COEF + 4 * k) (Config.freeNat (f + 3 + k) % 2 ^ 32)) d

/-- The shadow of a loop moves into use (R498). -/
def Dev.commitLoop (d : Dev) (n : Nat) : Dev :=
  d.setLoop n { d.loop n with
    kp := signed 32 (d.regN .MLP n Reg.MLP_KP), ki := signed 32 (d.regN .MLP n Reg.MLP_KI), coef := d.shadowCoef n }

/-- Glaze's configuration during BOOT: default loops, settings, instanced pages enabled, the domains that have no use disabled (R52, R446,
R497, R548, R606). -/
def Dev.glazeConfig (d : Dev) : Dev :=
  let d := (List.range 8).foldl (fun d n => d.loadLoop n) d
  let d := d.applySettings
  let d := (List.range 16).foldl (fun d n => d.commitLoop n) d
  let d := (List.range 8).foldl (fun d n => (d.setPage .MLP n .starting).loopClean n) d
  let d := (List.range 128).foldl (fun d n => d.setPage .CH n .starting) d
  let off (d : Dev) (n : Nat) : Dev := d.setDom n { d.dom n with st := (d.dom n).st.enClear }
  let d := if d.isMember then off d 1 else d
  if d.fabState = 0 then off d 10 else d.usedLinks.foldl (fun d n => (d.setPage .FL n .starting).setLink n 1) d

/-- Enter MAINT, which the request led to (R27). -/
def Dev.toMaint (d : Dev) : Dev :=
  ({ d with life := { d.life with maintReq := false, booted := true } }).setMode .maint

/-- GLAZE_RELEASE: `resA` and `resB` are what the check of each bank finds (R511, R514). With no verified bank, or with
unformatted media, which has nothing to replay, MAINT follows (R27, R188). -/
def Dev.glazeRelease (resA resB : Nat) (d : Dev) : Dev :=
  if d.life.mode ≠ .boot || d.life.fatal || !d.life.mordant || d.life.glaze != .stopped || !checkCode resA || !checkCode resB then d
  else
    let rec0 := d.bootInForce
    let flags := match rec0 with
      | some (_, r) => r.flags
      | none => d.regF .SX 0 Reg.SX_BOOT_STS 0 1
    let tries := match rec0 with
      | some (_, r) => r.tries
      | none => 0
    let named := flags / 2 % 2
    let res (i : Nat) : Nat := if i = 0 then resA else resB
    let lo (i : Nat) : Nat := if i = 0 then 8 else 11
    let d := d.bootResult (lo named) (res named)
    let other := 1 - named
    let d := if res named = 1 then d else d.bootResult (lo other) (res other)
    if res named ≠ 1 ∧ res other ≠ 1 then d.toMaint
    else
      let g := if res named = 1 then named else other
      let d := d.setRegF .SX 0 Reg.SX_BOOT_STS 7 1 g
      let d := if g = named then d else
        ((d.setRegF .SX 0 Reg.SX_BOOT_STS 15 1 1).writeBoot (flags % 2 + g * 2 + flags / 4 % 2 * 4) tries true).noteBy 1 4 .SX none none
      let d := if nbit flags 2 then (d.setRegF .UPD 0 Reg.UPD_UPD_STS 0 4 5).setReg64 .UPD 0 Reg.UPD_PKG_ID (d.flashNat (glazeBank g + 8) 8)
        else d
      let d := { d with upd := { d.upd with trialUs := d.life.usUp }, life := { d.life with glaze := .running } }
      let d := (d.setRegN .SX 0 Reg.SX_BOOT_TIME d.us).kickAll.glazeConfig
      if d.formatted then d
      else ({ d with life := { d.life with replayed := true } }).toMaint

def execGlazeRelease (resA resB : Nat) (s : State) : Host.Outcome State Fault Refusal := run (Dev.glazeRelease resA resB) s

/-! ### End of BOOT (R27, R324) -/

/-- COMPAT in effect (R27): selected, and the device is in no fabric. -/
def Dev.compatWanted (d : Dev) : Bool := d.regB .OPT 0 Reg.OPT_OPT_DEV 11

/-- The BOOT transition taken (R27). -/
def Dev.bootLeave (d : Dev) : Dev :=
  if d.regB .OPT 0 Reg.OPT_OPT_DEV 10 || d.life.maintReq then d.toMaint
  else
    let d := { d with life := { d.life with booted := true } }
    if d.compatWanted && d.fabState == 0 then d.setMode .compat
    else
      let d := if d.compatWanted then d.note 2 .OPT none none else d
      d.setMode d.condMode

/-- REPLAY_COMPLETE: `scanLost` lists the sectors that a scan does not recover; the first matching BOOT transition follows. -/
def Dev.replayComplete (scanLost : List Nat) (d : Dev) : Dev :=
  if d.life.mode ≠ .boot || d.life.fatal || d.life.glaze != .running || d.life.replayed then d
  else
    let d := d.replay scanLost
    let d := ({ d with life := { d.life with replayed := true } }).pslRecompute
    d.bootLeave

def execReplayComplete (scanLost : List Nat) (s : State) : Host.Outcome State Fault Refusal := run (Dev.replayComplete scanLost) s

/-! ### Reset inputs (R27, R30, R304, R615, R616) -/

/-- RST_N_ASSERT: a warm source, ignored in FLUSH (R27, R303). -/
def execRstNAssert (s : State) : Host.Outcome State Fault Refusal :=
  run (fun d => ({ d with life := { d.life with rstN := false } }).warmReset 2) s

/-- PERST_N_ASSERT: a device reset on a standalone device or the head only (R30). -/
def execPerstNAssert (s : State) : Host.Outcome State Fault Refusal :=
  run (fun d => if d.isMember then d else ({ d with life := { d.life with perstN := false } }).warmReset 3) s

/-- PERST_N_RISE: the host port presents termination and answers configuration requests (R616). -/
def execPerstNRise (s : State) : Host.Outcome State Fault Refusal :=
  run (fun d =>
    if d.isMember then d
    else
      let d := { d with life := { d.life with perstN := true } }
      if d.life.mode = .backup ∨ d.life.mode = .reset then d
      else { d with ep := { d.ep with termination := true, cfgReady := true } }) s

/-- RAIL_MONITOR_TRIP: a main rail with a monitor falls below its operating minimum (R304). -/
def execRailMonitorTrip (rail : Rail) (s : State) : Host.Outcome State Fault Refusal :=
  run (fun d => match rail with
    | .core | .nand | .io18 => if d.life.mode = .backup then d else d.toBackup) s

/-! ### Shutdown, MAINT, RESTART (R34, R35) -/

/-- Fetching stops, and the destage toward SHUT_DONE begins (R35). -/
def Dev.shutdown (d : Dev) : Dev :=
  if d.life.shutDone then d
  else { d with life := { d.life with shutting := true }, recd := { d.recd with due := true } }

/-- MAINT is requested, now or at the next restart (R34). -/
def Dev.askMaint (d : Dev) : Dev := { d with life := { d.life with maintReq := true } }

/-- The journal's unfinished page is on media too, and the records that it holds are what a replay reads. Before replay (R324) nothing of the
media has been read, so that nothing is destaged and the records on media stand (R16, R35). -/
def Dev.journalDown (d : Dev) : Dev :=
  if !d.life.replayed then d
  else { d with jnl := { d.jnl with recs := [], waiting := [], media := d.ftl, seqMedia := d.reg64 .JNL 0 Reg.JNL_JSEQ } }

/-- RESTART is ignored until SHUT_DONE is 1 or the mode is MAINT (R34), and outside the modes of its row of R27; its write wakes a sleeping
device first (R596). It leads to RESET (R27): the cache is empty by then, and the unfinished journal page is written first; only open
fabric stripe records make it pass through FLUSH. -/
def Dev.restart (d : Dev) : Dev :=
  let d := d.wakes
  if (!d.life.shutDone && d.life.mode != .maint) || !restartMode d.life.mode then d
  else if !d.cache.isEmpty || !d.fab.stripes.isEmpty then d.warmReset 4
  else d.journalDown.deviceReset false 4 false

/-- A value written to MODE_CTL: [0] SHUTDOWN, [1] MAINT_REQ, [2] RESTART (R34). -/
def Dev.modeCtl (v : W32) (d : Dev) : Dev :=
  let d := if fld v 0 1 = 1 then d.shutdown else d
  let d := if fld v 1 1 = 1 then d.askMaint else d
  if fld v 2 1 = 1 then d.restart else d

/-- SHUTDOWN (R35). -/
def execShutdown (req : Requester) (s : State) : Host.Outcome State Fault Refusal :=
  run (fun d => d.regWrite req .DEV 0 Reg.DEV_MODE_CTL Dev.shutdown) s

/-- A shutdown closes the OPEN superblocks in which no log band or direct fill stands (R167). -/
def Dev.closeOpen (d : Dev) : Dev := (d.ftl.sbs.filter (fun e => e.2.state == 2)).foldl (fun d e => d.sbClose e.1) d

/-- SHUTDOWN_COMPLETE: everything is destaged, and the clean-shutdown marker is written (R35, R326). In BOOT it waits for replay; in a MAINT
that was entered without replay there is nothing to destage, and no marker is written over content that a later replay still needs. -/
def Dev.shutdownComplete (d : Dev) : Dev :=
  if !d.life.shutting || !d.flights.isEmpty || !d.cache.isEmpty || !d.fab.stripes.isEmpty || d.ftl.logs.any (fun e => !e.2.unit.isEmpty) ||
      (d.ringReady && !d.recd.pending.isEmpty) || (!d.life.replayed && d.life.mode != .maint) then d
  else if !d.life.replayed then { d with life := { d.life with shutting := false, shutDone := true } }
  else
    let d := d.closeOpen.journalDown.newGen true
    let d := d.mapGen (fun g => { g with done := g.plan.map List.length, ended := true })
    let d := match d.plp.gens.getLast? with
      | some g => d.showFlush g
      | none => d
    { d with life := { d.life with shutting := false, shutDone := true } }

def execShutdownComplete (s : State) : Host.Outcome State Fault Refusal := run Dev.shutdownComplete s

/-- MAINT_REQ (R34). -/
def execMaintReq (req : Requester) (s : State) : Host.Outcome State Fault Refusal :=
  run (fun d => d.regWrite req .DEV 0 Reg.DEV_MODE_CTL Dev.askMaint) s

/-- MAINT_ENTRY: the work in flight is complete and the write cache is destaged (R27). -/
def Dev.maintEntry (d : Dev) : Dev :=
  let from_ := d.life.mode == .active || d.life.mode == .degraded || d.life.mode == .fenced || d.life.mode == .readonly
  if d.life.maintReq && from_ && !d.life.fatal && d.flights.isEmpty && d.cache.isEmpty && d.fab.stripes.isEmpty then
    { d.toMaint with recd := { d.recd with due := true } } else d

def execMaintEntry (s : State) : Host.Outcome State Fault Refusal := run Dev.maintEntry s

/-- RESTART (R34, R614). -/
def execRestart (req : Requester) (s : State) : Host.Outcome State Fault Refusal :=
  run (fun d => d.regWrite req .DEV 0 Reg.DEV_MODE_CTL Dev.restart) s

end Sys2Proof.Machine
end

