-- ==== Sys2Proof/Machine/Ddt.lean ====
section
/-! DEFINITION. The Device Description Table of each view (R66 to R72, R205). DESIGN CHOICE: entries stand in the order of their TYPE values
with WINDOW before MEMBER; the spec fixes only that END is last. -/
namespace Sys2Proof.Machine
open Sys2Proof

/-- Views of the DDT (R66). -/
inductive View where
  | pf
  | vf (n : Nat)
  | tp (p : Nat)
  | i3c
deriving DecidableEq, Repr

/-- VIEW code. -/
def View.code : View → Nat
  | .pf => 0 | .vf _ => 1 | .tp _ => 2 | .i3c => 3

/-- Instance state of R69. DESIGN CHOICE: a page in STARTING, whose EN is 1 and which does not serve yet, shows DISABLED, as one in DRAINING
does; R69 gives neither a value. -/
def PageSt.ddt : PageSt → Nat
  | .serving => 0
  | .faulted _ => 2
  | _ => 1

/-- Instance state of a page: one without HAS_DRAIN is in service. -/
def Dev.pageDdt (d : Dev) (p : PT) (i : Nat) : Nat := if p.hasDrain then (d.page p i).ddt else 0

/-- States packed four to a byte, padded to a multiple of 4 bytes. -/
def packStates (ss : List Nat) : List Byte :=
  let n := (ss.length + 15) / 16 * 4
  (List.range n).map (fun i =>
    BitVec.ofNat 8 (ss.getD (4 * i) 0 + ss.getD (4 * i + 1) 0 * 4 + ss.getD (4 * i + 2) 0 * 16 + ss.getD (4 * i + 3) 0 * 64))

/-- An entry: TYPE, VER 1, LEN and the body. PRESUMED: VER is 1. -/
def ddtEntry (ty : Nat) (body : List Byte) : List Byte := leBytes 1 ty ++ leBytes 1 1 ++ leBytes 2 (body.length + 4) ++ body

/-- PAGES entry. -/
def pagesEntry (code count base : Nat) (states : List Nat) : List Byte :=
  ddtEntry 1 (leBytes 2 code ++ leBytes 2 count ++ leBytes 4 base ++ leBytes 4 0x1000 ++ packStates states)

/-- BLOCK entry. -/
def blockEntry (code : Nat) (states : List Nat) : List Byte :=
  ddtEntry 2 (leBytes 2 code ++ zeros 2 ++ leBytes 4 states.length ++ packStates states)

/-- WINDOW entry. -/
def windowEntry (p : PT) (base size : Nat) : List Byte := ddtEntry 6 (leBytes 2 p.code ++ zeros 2 ++ leBytes 4 base ++ leBytes 4 size)

/-- States of a block's instances in the order of the block table. -/
def Dev.blockStates (d : Dev) (code : Nat) : List Nat :=
  let pages (p : PT) : List Nat := (List.range p.count).map (d.pageDdt p)
  match code with
  | 0x02 => pages .TP
  | 0x03 => pages .QE
  | 0x04 => pages .HQ
  | 0x05 => pages .TQ
  | 0x06 => pages .CH
  | 0x07 => (List.range 256).map (fun i => match d.chan (i / 2) with
    | some c => if c.fenced.contains (i % 2) then 2 else 0
    | none => 0)
  | 0x08 => (List.range 32).map (fun i => if d.softFenced.contains i then 2 else 0)
  | 0x09 => (List.range 10240).map (fun i => if d.cip.fenced.contains (i / 16) then 2 else 0)
  | 0x0a => (List.range 4096).map (fun n => if (d.key n).isSome then 0 else 1)
  | 0x0d => List.replicate 32 0
  | 0x0f => [0, 0]
  | 0x11 => pages .FL
  | _ => [0]

/-- State of a die in its MEDIA entry (R205): an absent one reads DISABLED, a FAILED one FAILED. DESIGN CHOICE: the spec does not say which
instance state a present die in raw-only service shows; it shows DISABLED here, as not configured for data. -/
def Dev.dieDdt (d : Dev) (ch i : Nat) : Nat := match d.die (ch * 16 + i) with
  | none => 1
  | some x => if x.state = 8 then 3 else if x.data && x.state != 0 then 0 else 1

/-- `n` bytes of a string, zero padded. -/
def padTo (n : Nat) (bs : List Byte) : List Byte := bs.take n ++ zeros (n - (bs.take n).length)

/-- MEDIA entry of a channel (R205). -/
def Dev.mediaEntry (d : Dev) (ch : Nat) : List Byte :=
  let sts := d.reg .CH ch Reg.CH_CH_STS
  let states := (List.range 16).foldl (fun n i => n + d.dieDdt ch i * 4 ^ i) 0
  let blocks := match d.die (ch * 16) with
    | some x => if x.state = 0 then 0 else x.blocks
    | none => 0
  let flags := fld sts 4 2 + 4 * d.chService ch
  let c := d.chan ch
  ddtEntry 3 (leBytes 1 ch ++ leBytes 1 (d.presentOf ch).length ++ leBytes 1 (fld sts 0 4) ++ leBytes 1 flags ++ leBytes 4 states ++ leBytes 2 blocks ++
    leBytes 1 4 ++ leBytes 1 ((c.map (·.bits)).getD 0) ++ leBytes 4 ((c.map (·.rated)).getD 0) ++
    leBytes 1 ((c.map (·.jedec)).getD 0) ++ zeros 3 ++ padTo 12 ((c.map (·.manuf)).getD []) ++ padTo 20 ((c.map (·.model)).getD []))

/-- HOLDUP entry (R70), of the cache size in force (R311). -/
def Dev.holdupEntry (d : Dev) : List Byte :=
  ddtEntry 4 (leBytes 2 d.budgetMib ++ leBytes 2 d.plp.dies.length ++ leBytes 4 d.flushUs ++ leBytes 4 d.holdupUs ++ leBytes 4 d.holdupMw ++
    leBytes 4 (d.holdupUs * d.holdupMw / 1000))

/-- MORDANT_VER of a FAB_ID: this device's own, or what its last HELLO or AUTH_HELLO carried (R417); a free value where none has come. -/
def Dev.memberMordant (d : Dev) (id : Nat) : Nat :=
  if id = d.fabId then d.mordantVer else (mget d.fab.versions id).getD (Config.freeNat (2 ^ 40 + 2 * id) % 2 ^ 32)

/-- SERIAL of a FAB_ID: this device's own, the one that the head's table holds, or on a member, of the head, what its HELLO carried. -/
def Dev.memberSerial (d : Dev) (id : Nat) (m : Member) : Nat :=
  if id = d.fabId then d.serial else if id = 0 then d.fab.headSerial else m.serial

/-- MEMBER entry of a FAB_ID (R71). The Glaze version that another member runs is a free value: no message carries it. -/
def Dev.memberEntry (d : Dev) (id : Nat) : List Byte :=
  let me := id == d.fabId
  let m := (mget d.fab.members id).getD ⟨0, 0, 0, false, 0, none⟩
  let c := coordsOf d.sides id
  let links := d.upMask id
  ddtEntry 5 (leBytes 1 id ++ leBytes 1 (if me ∧ d.fabState = 3 then 2 else m.state) ++ leBytes 1 c.1 ++ leBytes 1 c.2.1 ++
    leBytes 1 c.2.2 ++ leBytes 1 links ++ zeros 2 ++ leBytes 8 (d.memberSerial id m) ++ leBytes 4 (id * 0x1000000) ++
    leBytes 4 (d.memberMordant id) ++
    leBytes 4 (if me then d.glazeVer else Config.freeNat (2 ^ 40 + 2 * id + 1)))

/-- Entries of a view, END excluded (R69 to R72, R373). -/
def Dev.ddtEntries (d : Dev) (v : View) : List (List Byte) :=
  let blocks := (List.range 0x16).map (fun c => blockEntry (c + 1) (d.blockStates (c + 1)))
  match v with
  | .pf =>
    (if d.life.mode = .compat then [] else
      (PT.all.filter (fun p => p != .TQ)).map (fun p => pagesEntry p.code p.count p.base ((List.range p.count).map (d.pageDdt p)))) ++
    blocks ++ (List.range 128).map d.mediaEntry ++ [d.holdupEntry] ++
    (if d.life.mode = .compat then [] else
      [windowEntry .ERRW 0x1000000 0x800000, windowEntry .RECW 0x1800000 0x400000, windowEntry .TRCW 0x1c00000 0x400000,
        windowEntry .DDTX 0x2000000 0x100000]) ++
    (if d.isHead then (List.range 64).map d.memberEntry else if d.isMember then [d.memberEntry d.fabId, d.memberEntry 0] else [])
  | .vf n =>
    let x := d.vf n
    if x.valid then
      [pagesEntry PT.HQ.code x.qcount 0x10000 ((List.range x.qcount).map (fun i => d.pageDdt .HQ (x.qbase + i))),
        pagesEntry PT.ERRW.code 1 0x80000 [0], windowEntry .ERRW 0x80000 0x10000]
    else []
  | .tp p =>
    let t := d.regF .TP p Reg.TP_TP_BIND 0 10
    pagesEntry PT.TQ.code 64 0x10000 ((List.range 64).map (fun i => d.pageDdt .TQ (p * 64 + i))) ::
      (if d.regB .TP p Reg.TP_TP_BIND 31 then [pagesEntry PT.TNT.code 1 0x50000 [d.pageDdt .TNT t]] else []) ++
      [pagesEntry PT.ERRW.code 1 0x80000 [0], windowEntry .ERRW 0x80000 0x10000]
  | .i3c => blocks ++ [d.holdupEntry]

/-- Whether a view shows the fabric fields and SERIAL (R72). -/
def View.named : View → Bool
  | .pf | .i3c => true
  | _ => false

/-- Header with CHECK at `chk` (R66). -/
def Dev.ddtHead (d : Dev) (v : View) (total count chk : Nat) : List Byte :=
  let n := b2n v.named
  let fab := d.fabState ≠ 0
  leBytes 4 0x54444852 ++ leBytes 2 2 ++ leBytes 2 0x40 ++ leBytes 4 total ++ leBytes 2 count ++ leBytes 1 (b2n d.life.booted) ++
  leBytes 1 v.code ++ leBytes 4 0x6400 ++ leBytes 1 0xb0 ++ leBytes 1 (if d.gradeE then 0x45 else 0x43) ++ leBytes 2 2 ++
  leBytes 8 (n * d.serial) ++ leBytes 1 (n * (if fab then d.fabId else 0)) ++ leBytes 1 (n * (if d.isHead then 1 else if d.isMember then 2 else 0)) ++
  leBytes 1 (n * (if fab then d.fabSize else 1)) ++ leBytes 1 (n * (if fab then d.topo else 0)) ++ leBytes 4 d.ddtGen ++
  leBytes 4 d.mordantVer ++ leBytes 4 d.glazeVer ++ leBytes 4 (if 0x10000 < total then 0x2001000 else 0) ++ zeros 8 ++ leBytes 4 chk

/-- The whole DDT of a view: header, entries, END. -/
def Dev.ddt (d : Dev) (v : View) : List Byte :=
  let es := d.ddtEntries v ++ [ddtEntry 0 []]
  let body := es.foldr (· ++ ·) []
  let total := 64 + body.length
  d.ddtHead v total es.length (crc32c (d.ddtHead v total es.length 0 ++ body)) ++ body

/-- Byte `a` of the DDT of a view: 64 KiB at offset 0, the rest in the extension window from 0x0200_1000 (R66). -/
def Dev.ddtByte (d : Dev) (v : View) (a : Nat) : Byte :=
  let i := if a < 0x10000 then a else a - 0x2001000 + 0x10000
  (d.ddt v).getD i 0#8

/-- The view that owns a queue. -/
def Dev.queueView (d : Dev) (q : Nat) : View := match d.qOwner q with
  | .pf => .pf
  | .vf n => .vf n
  | .tp p => .tp p

end Sys2Proof.Machine
end

