-- ==== Sys2Proof/Machine/Commands.lean ====
section
/-! DEFINITION. Volume and stream commands (spec/04_command_queues.md R119 to R122, spec/10_services.md R337 to R348) and their forerunner
forms (spec/03_host_endpoint.md R103 to R105). -/
namespace Sys2Proof.Machine
open Sys2Proof

/-! ### NOP, FLUSH, STREAM_INFO -/

/-- NOP completes at once. -/
def execNop (q tag : Nat) (s : State) : Host.Outcome State Fault Refusal :=
  runCmd (fun d => d.take q tag 0x00 false (fun d f => match d.denyPlain f false with
    | some x => d.refuse f x
    | none => d.postOk f 0)) s

/-- FLUSH: completed writes are durable, so no media work (R16, R119). -/
def Dev.flushCmd (q tag : Nat) (fore : Bool) (d : Dev) : Dev :=
  d.take q tag 0x03 fore (fun d f => d.onChecked f (fun _ _ => OpChecks.none) (fun d _ _ => d.postOk f 0))

def execFlushCmd (q tag : Nat) (s : State) : Host.Outcome State Fault Refusal := runCmd (Dev.flushCmd q tag false) s

/-- STREAM_INFO: committed length and SEALED. -/
def execStreamInfo (q tag : Nat) (s : State) : Host.Outcome State Fault Refusal :=
  runCmd (fun d => d.take q tag 0x13 false (fun d f => d.onChecked f (fun _ _ => OpChecks.none) (fun d _ v =>
    d.postOk f (v.committed % 2 ^ 48 + b2n (nbit v.flags 0) * 2 ^ 63)))) s

/-! ### Reads -/

/-- A read goes to its gate: tokens for media sectors, `moved` sectors for the tint's ceiling (R19, R393). -/
def Dev.readGo (d : Dev) (f : Flight) (v : Store) (moved : Nat) : Dev :=
  d.toGate { f with charge := d.readTokens v f, moved := moved }

/-- A read of a volume. -/
def Dev.readCmd (q tag op : Nat) (fore : Bool) (d : Dev) : Dev :=
  d.take q tag op fore (fun d f => d.onChecked f (fun _ v => { OpChecks.none with bad := f.beyond v })
    (fun d _ v => d.readGo f v (if op = 0x06 then 0 else f.cmd.count)))

/-- READ (R19, R20). -/
def execRead (q tag : Nat) (s : State) : Host.Outcome State Fault Refusal := runCmd (Dev.readCmd q tag 0x01 false) s

/-- VERIFY: decode and PI check without a transfer. -/
def execVerify (q tag : Nat) (s : State) : Host.Outcome State Fault Refusal := runCmd (Dev.readCmd q tag 0x06 false) s

/-- STREAM_READ: from FLOOR up to the committed length (R121, R347). -/
def execStreamRead (q tag : Nat) (s : State) : Host.Outcome State Fault Refusal :=
  runCmd (fun d => d.take q tag 0x11 false (fun d f => d.onChecked f
    (fun _ v => { OpChecks.none with bad := decide (f.cmd.addr < v.floor ∨ v.committed < f.cmd.addr + f.cmd.count) })
    (fun d _ v => d.readGo f v f.cmd.count))) s

/-! ### Writes -/

/-- WRITE (R15, R181): its bands reserved, its sectors charged. -/
def Dev.writeCmd (q tag : Nat) (fore : Bool) (d : Dev) : Dev :=
  d.take q tag 0x02 fore (fun d f => d.onChecked f
    (fun _ v => { OpChecks.none with bad := f.beyond v, late := d.quotaDeny v (v.bandsAt f.cmd.addr f.cmd.count) })
    (fun d _ v => d.toGate { f with
      charge := f.cmd.count, moved := f.cmd.count, bands := d.unmappedOf v (v.bandsAt f.cmd.addr f.cmd.count) }))

def execWrite (q tag : Nat) (s : State) : Host.Outcome State Fault Refusal := runCmd (Dev.writeCmd q tag false) s

/-- WRITE_ZEROES: no tokens and no transfer (R19); a whole band reserves nothing (R181). -/
def execWriteZeroes (q tag : Nat) (s : State) : Host.Outcome State Fault Refusal :=
  runCmd (fun d => d.take q tag 0x05 false (fun d f =>
    let bands (v : Store) : List Nat :=
      if f.cmd.count = 4096 ∧ f.cmd.addr % 4096 = 0 then [] else v.bandsAt f.cmd.addr f.cmd.count
    d.onChecked f (fun _ v => { OpChecks.none with bad := f.beyond v, late := d.quotaDeny v (bands v) })
      (fun d _ v => d.toGate { f with bands := d.unmappedOf v (bands v) }))) s

/-- DEALLOCATE of whole bands (R182); on a fabric volume zeroed sectors go to the holders. -/
def Dev.deallocGo (d : Dev) (f : Flight) (v : Store) : Dev :=
  d.toGate (if v.fabric then { f with cmd := { f.cmd with count := f.cmd.bandCount * 4096 } } else f)

/-- DEALLOCATE. -/
def execDeallocate (q tag : Nat) (s : State) : Host.Outcome State Fault Refusal :=
  runCmd (fun d => d.take q tag 0x04 false (fun d f => d.onChecked f
    (fun _ v => { OpChecks.none with bad := f.bandsBad v }) (fun d _ v => d.deallocGo f v))) s

/-- APPEND (R121, R344, R348): reserved at the stream's reserve mark. -/
def execAppend (q tag : Nat) (s : State) : Host.Outcome State Fault Refusal :=
  runCmd (fun d => d.take q tag 0x10 false (fun d f => d.onChecked f
    (fun k v =>
      let mark := d.reserveMark k v
      let any := nbit f.cmd.arg0 63
      { OpChecks.none with
        bad := any && nbit f.cmd.flags 2 && v.refMode 1 == 0
        late := firstDeny [denyIf (decide (v.bands * 4096 < mark + f.cmd.count)) St.quota 4, d.quotaDeny v (v.bandsAt mark f.cmd.count),
          if !any && f.cmd.addr != mark then some ⟨St.conflict, 0, mark⟩ else none] })
    (fun d k v =>
      let mark := d.reserveMark k v
      let refTag := if nbit f.cmd.arg0 63 && v.refMode 1 == 0 then mark % 2 ^ v.tagBits else f.cmd.refTag
      d.toGate { f with
        cmd := { f.cmd with refTag := refTag }
        resv := mark, charge := f.cmd.count, moved := f.cmd.count
        bands := d.unmappedOf v (v.bandsAt mark f.cmd.count) }))) s

/-- The tail band of a sealed stream merges at once when its sectors have left the cache (R346); else its merge is due as soon as they
have. -/
def Dev.sealTail (d : Dev) (v : Store) (dst : Nat) (lost : List Nat) : Dev :=
  let b := v.base + (v.committed - 1) / 4096
  match d.band b with
  | some e => if e.logged && d.mergeNow b && d.mayRelocate then d.endLog e.logIdx dst false false lost else d
  | none => d

/-- SEAL (R121, R346); a sealed stream answers SUCCESS again. `dst` takes the tail band of a full merge, `lost` lists the sectors that
its reads do not recover. -/
def execSeal (q tag dst : Nat) (lost : List Nat) (s : State) : Host.Outcome State Fault Refusal :=
  runCmd (fun d => d.take q tag 0x12 false (fun d f => d.onChecked f (fun _ _ => OpChecks.none) (fun d k v =>
    if nbit v.flags 0 then d.postOk f v.committed
    else
      let d := (d.mapStore k (fun v => { v with flags := v.flags ||| 1 })).jrec [.service]
      (d.sealTail v dst lost).postOk f v.committed))) s

/-! ### IDENTIFY -/

/-- The 4,096 bytes of IDENTIFY (R119). -/
def Dev.identify (d : Dev) (f : Flight) : List Byte :=
  padTo 4096 ((d.ddt (d.queueView f.q)).take 64 ++ leBytes 2 (if f.q < 2048 then f.q else (f.q - 2048) % 64) ++ leBytes 2 f.tint ++
    leBytes 1 f.qe)

/-- Sectors of the forerunner volume (R101). -/
def Dev.compatSectors (d : Dev) : Nat := match d.liveStore (storeKey 0 d.compatVolume) with
  | some v => v.bands * 4096
  | none => 0

/-- The 4,096 bytes of forerunner IDENTIFY (R105). -/
def Dev.foreIdentify (d : Dev) : List Byte :=
  padTo 4096 (leBytes 4 0x3200 ++ leBytes 4 0xa2 ++ leBytes 8 d.serial ++ leBytes 8 d.compatSectors ++ leBytes 4 4096 ++ leBytes 4 1 ++
    leBytes 4 d.glazeVer)

/-- IDENTIFY: its block stands ready, and goes out without tokens. -/
def Dev.identifyCmd (q tag : Nat) (fore : Bool) (d : Dev) : Dev :=
  d.take q tag 0x61 fore (fun d f => match d.denyPlain f false with
    | some x => d.refuse f x
    | none => d.toGate { f with jobs := [⟨0, 0, .got (if fore then d.foreIdentify else d.identify f) 0 0 0⟩] })

def execIdentify (q tag : Nat) (s : State) : Host.Outcome State Fault Refusal := runCmd (Dev.identifyCmd q tag false) s

/-! ### The forerunner's commands (R103 to R105) -/

/-- FORERUNNER_DOORBELL: new bits of C_DOORBELL; nothing is reported for the others. -/
def Dev.foreDoorbell (bits : W32) (d : Dev) : Dev :=
  if d.life.mode ≠ .compat ∨ !d.fnOpen .pf ∨ !d.doorOpen 0 then d else d.ring 0 ((bitList bits.toNat 32).filter (fun t => !d.rung 0 t))

def execForerunnerDoorbell (bits : W32) (s : State) : Host.Outcome State Fault Refusal := run (Dev.foreDoorbell bits) s

/-- FORERUNNER_READ. -/
def execForerunnerRead (tag : Nat) (s : State) : Host.Outcome State Fault Refusal := runCmd (Dev.readCmd 0 tag 0x01 true) s

/-- FORERUNNER_WRITE. -/
def execForerunnerWrite (tag : Nat) (s : State) : Host.Outcome State Fault Refusal := runCmd (Dev.writeCmd 0 tag true) s

/-- FORERUNNER_FLUSH. -/
def execForerunnerFlush (tag : Nat) (s : State) : Host.Outcome State Fault Refusal := runCmd (Dev.flushCmd 0 tag true) s

/-- FORERUNNER_DEALLOCATE: every whole band in the range is unmapped (R103). -/
def Dev.foreDealloc (tag : Nat) (d : Dev) : Dev :=
  d.take 0 tag 0x04 true (fun d f => d.onChecked f (fun _ v => { OpChecks.none with bad := f.beyond v }) (fun d _ _ =>
    let lo := (f.cmd.addr + 4095) / 4096
    let n := (f.cmd.addr + f.cmd.count) / 4096 - lo
    d.toGate { f with cmd := { f.cmd with addr := lo * 4096, count := 0, arg0 := n } }))

def execForerunnerDeallocate (tag : Nat) (s : State) : Host.Outcome State Fault Refusal := runCmd (Dev.foreDealloc tag) s

/-- FORERUNNER_IDENTIFY. -/
def execForerunnerIdentify (tag : Nat) (s : State) : Host.Outcome State Fault Refusal := runCmd (Dev.identifyCmd 0 tag true) s

end Sys2Proof.Machine
end

