-- ==== Sys2Proof/Machine/Digest.lean ====
section
/-! DEFINITION. Meanings of the digest-engine commands (spec/14_digest_engine.md). -/
namespace Sys2Proof.Machine
open Sys2Proof

/-- The context of the SEC interface's open message. -/
def Dev.secCtx (d : Dev) : Option (Nat × DigCtx) := d.dig.ctxs.find? (fun e => e.2.req == 4)

/-- A command of the SEC interface runs: a message waits for its context or for its digest (R486 BUSY). -/
def Dev.secBusy (d : Dev) : Bool := d.dig.waiting.any (fun c => c.req == 4) || d.dig.ctxs.any (fun e => e.2.req == 4 && e.2.final)

/-- A write of SEC_CMD by `r`, discarded while BUSY (R486). -/
def Dev.secCmd (d : Dev) (r : Requester) (f : Dev → Dev) : Dev :=
  d.regWriteIf r .DIG 0 Reg.DIG_SEC_CMD (!d.secBusy) f

/-- Key allowed for an open of the SEC interface (R475, R477): an unkeyed code needs key zero; COMPARE takes an ATTEST or
MORDANT key, DIGEST a MORDANT key. -/
def Dev.secKeyOk (d : Dev) (alg key out : Nat) : Bool :=
  (algBlock alg).isSome && decide (out < 2) &&
    (if algKeyed alg then
      match d.key key with
      | some k => k.use == 0 || (out == 0 && k.use == 2)
      | none => false
    else key == 0)

/-- OPEN (R477, R487): OUT clears; INVALID, or a context under R480. An OPEN while a message is open ends INVALID. -/
def Dev.secOpen (d : Dev) (alg key out : Nat) (compose : Bool) : Dev :=
  let d := (List.range 16).foldl (fun d k => d.setRegN .DIG 0 (Reg.DIG_OUT_0 + 4 * k) 0) d
  if !d.secKeyOk alg key out || d.secCtx.isSome then d.setRegF .DIG 0 Reg.DIG_SEC_STS 1 3 4
  else
    let c : DigCtx := {
      req := 4, alg := alg, key := key, mode := out, composed := compose && algKeyed alg, msg := [],
      done := 0, final := false, expected := [], q := 0, tag := 0, fresh := true }
    let d := d.digOpen c
    if d.secCtx.isSome then d else d.setRegF .DIG 0 Reg.DIG_SEC_STS 0 1 1

def execSecOpen (req : Requester) (alg key out : Nat) (compose : Bool) (s : State) : Host.Outcome State Fault Refusal :=
  run (fun d => d.secCmd req (fun d => d.secOpen alg key out compose)) s

/-- UPDATE (R487): `bytes` are the SEC_LEN bytes the engine reads from SEC_ADDR. -/
def Dev.secUpdate (d : Dev) (bytes : List Byte) : Dev :=
  match d.secCtx with
  | some (n, c) =>
    let len := d.regF .DIG 0 Reg.DIG_SEC_LEN 0 25
    if len = 0 ∨ c.msg.length + len > 2 ^ 48 - 1 then d.setRegF .DIG 0 Reg.DIG_SEC_STS 1 3 4
    else
      ({ d with dig := { d.dig with ctxs := mput d.dig.ctxs n { c with msg := c.msg ++ bytes.take len } } }).setRegF
        .DIG 0 Reg.DIG_SEC_STS 1 3 0
  | none => d.setRegF .DIG 0 Reg.DIG_SEC_STS 1 3 4

def execSecUpdate (req : Requester) (bytes : List Byte) (s : State) : Host.Outcome State Fault Refusal :=
  run (fun d => d.secCmd req (fun d => d.secUpdate bytes)) s

/-- FINAL (R487): `expected` are the bytes read from SEC_ADDR in COMPARE; the message ends with its last block. -/
def Dev.secFinal (d : Dev) (expected : List Byte) : Dev :=
  match d.secCtx with
  | some (n, c) =>
    ({ d with dig := { d.dig with
        ctxs := mput d.dig.ctxs n { c with final := true, expected := expected.take (algLen c.alg) } } }).setRegF
      .DIG 0 Reg.DIG_SEC_STS 0 1 1
  | none => d.setRegF .DIG 0 Reg.DIG_SEC_STS 1 3 4

def execSecFinal (req : Requester) (expected : List Byte) (s : State) : Host.Outcome State Fault Refusal :=
  run (fun d => d.secCmd req (fun d => d.secFinal expected)) s

/-- ABORT (R487): zeroes and frees the context. -/
def Dev.secAbort (d : Dev) : Dev :=
  match d.secCtx with
  | some (n, _) => (d.digClose n).secEnd 0
  | none => d.setRegF .DIG 0 Reg.DIG_SEC_STS 1 3 4

def execSecAbort (req : Requester) (s : State) : Host.Outcome State Fault Refusal :=
  run (fun d => d.secCmd req Dev.secAbort) s

/-- DIGEST_CONTEXT_GRANT (R480). -/
def execDigestContextGrant (s : State) : Host.Outcome State Fault Refusal := run Dev.digGrant s

/-- The context the core serves at this block boundary (R479): a first block by R39 over context numbers (arbiter key
0x301), else the next ready context after the last served. -/
def Dev.digPick (d : Dev) : Option (Nat × Bool) :=
  let ready (fresh : Bool) (n : Nat) : Bool := match mget d.dig.ctxs n with
    | some c => c.ready && (c.fresh || !fresh)
    | none => false
  match rrPick 16 (d.arbPtr 0x301) (ready true) with
  | some n => some (n, true)
  | none => (rrPick 16 ((d.dig.last + 1) % 16) (ready false)).map (fun n => (n, false))

/-- DIGEST_BLOCK (R479): the core takes one block, and the last one finishes its message (R484). -/
def Dev.digestBlock (d : Dev) : Dev :=
  match d.digPick with
  | some (n, fresh) =>
    match mget d.dig.ctxs n with
    | some c =>
      let c := { c with done := c.done + 1, fresh := false }
      let d := (if fresh then d.arbWin 0x301 16 n else d).inc64 .DIG 0 Reg.DIG_BLOCKS 1
      let d := { d with dig := { d.dig with ctxs := mput d.dig.ctxs n c, last := n } }
      if c.final ∧ c.total ≤ c.done then d.digFinish n c else d
    | none => d
  | none => d

def execDigestBlock (s : State) : Host.Outcome State Fault Refusal := run Dev.digestBlock s

/-- DIGEST_CLEARED (R485): a bus error ends every message; an uncorrectable read ends its context's message, or frees
its cache entry and runs the messages that used it composed. -/
def Dev.digestCleared (what : DigClear) (d : Dev) : Dev :=
  match what with
  | .bus =>
    let open_ := d.dig.ctxs.map (·.2) ++ d.dig.waiting
    let d := d.digZero false
    let d := open_.foldl (fun d c =>
      if c.req < 4 then d.attestFail c St.internalMemory 0x30 else if c.req = 4 then d.secEnd 3 else d) d
    d.raiseErr .DIG 0 0 noDetail
  | .ctx n =>
    match mget d.dig.ctxs n with
    | some c => (d.digAbort n c St.internalMemory 0x30 3).raiseErr .DIG 0 1 noDetail
    | none => d
  | .cache n =>
    match mget d.dig.cache n with
    | some pair =>
      let used := (d.dig.ctxs.filter (fun e => e.2.usesPair pair)).length
      let d := { d with dig := { d.dig with
          cache := mdel d.dig.cache n
          ctxs := d.dig.ctxs.map (fun (e : Nat × DigCtx) => (e.1, if e.2.usesPair pair then { e.2 with composed := true } else e.2)) } }
      (d.incWrap .DIG 0 Reg.DIG_COMPOSED used).raiseErr .DIG 0 2 noDetail
    | none => d

def execDigestCleared (what : DigClear) (s : State) : Host.Outcome State Fault Refusal := run (Dev.digestCleared what) s

end Sys2Proof.Machine
end

