-- ==== Sys2Proof/Machine/CfgOps.lean ====
section
/-! DEFINITION. What configuration space and BAR4 hold, and where the BARs lie (spec/03_host_endpoint.md R74 to R81, R90, R91, R95, R100,
spec/11_tenant_ports.md R371 to R373). What the spec leaves to PCIe (register places inside a capability, identifiers, defaults) is PRESUMED of
PCIe 6.0. -/
namespace Sys2Proof.Machine
open Sys2Proof

/-- A word made of fields: lowest bit and value of each. -/
def packF (fs : List (Nat × Nat)) : Nat := fs.foldl (fun m f => m + f.2 * 2 ^ f.1) 0

/-! ### Capabilities (R78) -/

/-- The configuration spaces: the PF's, the PF's in COMPAT, a VF's, a tenant function's. -/
inductive CfgKind where
  | pf | compat | vf | tenant
deriving DecidableEq, Repr

/-- The configuration space of a function now. -/
def Dev.cfgKind (d : Dev) : Fn → CfgKind
  | .pf => if d.life.mode = .compat then .compat else .pf
  | .vf _ => .vf
  | .tp _ => .tenant

/-- A capability: offset and size of R78, with PCIe's identifier and, of an extended one, its version. -/
structure Cap where
  off : Nat
  size : Nat
  id : Nat
  ver : Nat
deriving DecidableEq, Repr

/-- The capabilities of R78 by ascending offset. -/
def capTable : List Cap :=
  [⟨0x40, 0x08, 0x01, 0⟩, ⟨0x50, 0x0c, 0x11, 0⟩, ⟨0x70, 0x3c, 0x10, 0⟩, ⟨0x100, 0x48, 0x01, 2⟩, ⟨0x148, 0x08, 0x0e, 1⟩,
   ⟨0x150, 0x40, 0x10, 1⟩, ⟨0x190, 0x0c, 0x03, 1⟩, ⟨0x1a0, 0x2c, 0x19, 1⟩, ⟨0x1d0, 0x0c, 0x25, 1⟩, ⟨0x1e0, 0x30, 0x26, 1⟩,
   ⟨0x210, 0x30, 0x2a, 1⟩, ⟨0x240, 0x30, 0x31, 1⟩, ⟨0x270, 0x48, 0x27, 1⟩, ⟨0x2c0, 0x10, 0x1e, 1⟩, ⟨0x2d0, 0x08, 0x18, 1⟩,
   ⟨0x2e0, 0x10, 0x2f, 1⟩, ⟨0x2f0, 0x0c, 0x22, 1⟩]

/-- Whether a configuration space holds a capability (R78, R100, R372). -/
def CfgKind.holds (k : CfgKind) (c : Cap) : Bool := match k with
  | .pf => true
  | .compat | .tenant => c.off != 0x148 && c.off != 0x150
  | .vf => c.off == 0x50 || c.off == 0x70 || c.off == 0x100 || c.off == 0x148

/-- The capabilities of a configuration space, in the order of their chain. -/
def CfgKind.caps (k : CfgKind) : List Cap := capTable.filter k.holds

/-- The capability an offset lies in. -/
def CfgKind.capAt (k : CfgKind) (off : Nat) : Option Cap := k.caps.find? (fun c => decide (c.off ≤ off ∧ off < c.off + c.size))

/-- Next Capability pointer of a capability: the next one present of its kind, standard below 0x100 or extended, else 0 (R78). -/
def CfgKind.next (k : CfgKind) (c : Cap) : Nat :=
  ((k.caps.find? (fun x => decide (c.off < x.off) && (decide (x.off < 0x100) == decide (c.off < 0x100)))).map (·.off)).getD 0

/-- First word of a capability: identifier and pointer, with the version of an extended one. -/
def CfgKind.capHead (k : CfgKind) (c : Cap) : Nat :=
  if c.off < 0x100 then c.id + k.next c * 0x100 else c.id + c.ver * 0x10000 + k.next c * 0x100000

/-! ### Values (R77, R78, R100, R372) -/

/-- MSI-X Table Size field: vectors less 1. -/
def CfgKind.vectors : CfgKind → Nat
  | .pf => 2048
  | .compat => 1
  | _ => 64

/-- Lanes of the port. -/
def CfgKind.lanes : CfgKind → Nat
  | .tenant => 4
  | _ => 16

/-- Size of a BAR, or 0 of one that is absent (R80, R81, R100, R373); a VF's lie in the SR-IOV capability. -/
def CfgKind.barSize (k : CfgKind) (bar : Nat) : Nat := match k, bar with
  | .pf, 0 => 0x4000000
  | .pf, 2 => 0x40000000
  | .pf, 4 => 0x10000
  | .compat, 0 => 0x4000
  | .compat, 4 => 0x1000
  | .tenant, 0 => 0x100000
  | .tenant, 2 => 0x400000
  | .tenant, 4 => 0x1000
  | _, _ => 0

/-- Size of a BAR of this device: BAR2 of the PF is absent on a member (R48, R80). -/
def Dev.barSize (d : Dev) (f : Fn) (bar : Nat) : Nat :=
  if bar = 2 ∧ f = .pf ∧ d.isMember then 0 else (d.cfgKind f).barSize bar

/-- A header word (R77): each word of a VF's header that this table does not give reads zero. -/
def Dev.headWord (d : Dev) (f : Fn) (off : Nat) : Nat :=
  let k := d.cfgKind f
  match off with
  | 0x00 => match k with
    | .pf => 0x64001f3a
    | .compat => 0x32001f3a
    | .vf => 0xffffffff
    | .tenant => 0x64021f3a
  | 0x04 => 0x100000
  | 0x08 => 0x1800000 + (if k = .compat then 0xa2 else 0xb0)
  | 0x10 => if d.barSize f 0 = 0 then 0 else 4
  | 0x18 => if d.barSize f 2 = 0 then 0 else 4
  | 0x20 => if d.barSize f 4 = 0 then 0 else 4
  | 0x2c => d.regN .OPT 0 Reg.OPT_OPT_ID
  | 0x34 => (k.caps.head?.map (·.off)).getD 0
  | _ => 0

/-- A readiness time of R78 in the form value × 32^scale ns: the least that is not shorter. -/
def readyTime (ns : Nat) : Nat :=
  match (List.range 6).find? (fun s => decide ((ns + 32 ^ s - 1) / 32 ^ s < 512)) with
  | some s => (ns + 32 ^ s - 1) / 32 ^ s + s * 512
  | none => 0xfff

/-- A word of a capability after its first (R78). -/
def Dev.capWord (d : Dev) (f : Fn) (c : Cap) (r : Nat) : Nat :=
  let k := d.cfgKind f
  match c.off, r with
  | 0x40, 0 => 0x30000
  | 0x40, 4 => 8
  | 0x50, 0 => (k.vectors - 1) * 0x10000
  | 0x50, 4 => 4
  | 0x50, 8 => 4 + (if k = .pf then 0x8000 else 0x800)
  | 0x70, 0 => 0x20000 + 0x80000000
  | 0x70, 4 => 2 + 0x20 + 0x8000 + 0x10000000
  | 0x70, 8 => 0x10 + 0x800 + 0x2000
  | 0x70, 0xc => 6 + k.lanes * 0x10 + 2 * 0x400 + 4 * 0x8000
  | 0x70, 0x10 => 2
  | 0x70, 0x24 => 3 + 0x10 + 0x800 + 0x10000 + 0x20000
  | 0x70, 0x2c => 0x7e
  | 0x70, 0x30 => 6
  | 0x100, 8 => 0x400000
  | 0x100, 0xc => 0x462030
  | 0x100, 0x14 => 0xe000
  | 0x150, 0xc => 255 + 255 * 0x10000
  | 0x150, 0x14 => 1 + 0x10000
  | 0x150, 0x18 => 0x64010000
  | 0x150, 0x1c => 1
  | 0x150, 0x20 => 1
  | 0x150, 0x24 => 4
  | 0x150, 0x34 => 4
  | 0x190, 4 => d.serial % 2 ^ 32
  | 0x190, 8 => d.serial / 2 ^ 32
  | 0x2c0, 4 => 0x8 + 0x4 + 0x10 + 40 * 0x100 + 0x10000 + 4 * 0x80000
  | 0x2c0, 8 => 0xc
  | 0x2f0, 4 => readyTime 20000000 + readyTime 20000000 * 0x1000 + 0x80000000
  | 0x2f0, 8 => readyTime (if k = .pf ∨ k = .compat then 50000000 else 5000000)
  | _, _ => 0

/-- A configuration word at reset; an offset of no capability reads zero (R78). -/
def Dev.cfgReset (d : Dev) (f : Fn) (off : Nat) : Nat :=
  if off < 0x40 then d.headWord f off
  else match (d.cfgKind f).capAt off with
    | some c => d.capWord f c (off - c.off) ||| (if off = c.off then (d.cfgKind f).capHead c else 0)
    | none => 0

/-- Address bits of a BAR that the host sets, low and high word. -/
def barMask (size : Nat) (high : Bool) : Nat :=
  if size = 0 then 0 else if high then 0xffffffff else 2 ^ 32 - size

/-- Bits of a configuration word that the host writes (PRESUMED of PCIe, with the BARs' sizes from R80, R81 and R373). -/
def Dev.cfgRw (d : Dev) (f : Fn) (off : Nat) : Nat :=
  let k := d.cfgKind f
  if off < 0x40 then (match off with
    | 0x04 => if k = .vf then 0x4 else 0x546
    | 0x0c => if k = .vf then 0 else 0xff
    | 0x10 => barMask (d.barSize f 0) false
    | 0x14 => barMask (d.barSize f 0) true
    | 0x18 => barMask (d.barSize f 2) false
    | 0x1c => barMask (d.barSize f 2) true
    | 0x20 => barMask (d.barSize f 4) false
    | 0x24 => barMask (d.barSize f 4) true
    | 0x3c => if k = .vf then 0 else 0xff
    | _ => 0)
  else match k.capAt off with
    | none => 0
    | some c => match c.off, off - c.off with
      | 0x40, 4 => 0x3
      | 0x50, 0 => 0xc0000000
      | 0x70, 8 => if k = .vf then 0 else 0x79ff
      | 0x70, 0x10 => if k = .vf then 0 else 0xcb
      | 0x70, 0x28 => if k = .vf then 0 else 0x141f
      | 0x70, 0x30 => if k = .vf then 0 else 0xf
      | 0x100, 8 => 0x577030
      | 0x100, 0xc => 0x577030
      | 0x100, 0x14 => 0xf1c1
      | 0x150, 8 => 0x19
      | 0x150, 0x10 => 0xffff
      | 0x150, 0x20 => 0xffffffff
      | 0x150, 0x24 => barMask 0x100000 false
      | 0x150, 0x28 => barMask 0x100000 true
      | 0x150, 0x34 => barMask 0x1000 false
      | 0x150, 0x38 => barMask 0x1000 true
      | 0x2c0, 8 => 0xf
      | 0x2c0, 0xc => 0xff
      | 0x2d0, 4 => 0x1fff1fff
      | _, _ => 0

/-- Status bits that a written 1 clears. -/
def Dev.cfgW1c (d : Dev) (f : Fn) (off : Nat) : Nat :=
  if off = 0x04 then 0xf9000000
  else match (d.cfgKind f).capAt off with
    | none => 0
    | some c => match c.off, off - c.off with
      | 0x70, 8 => 0xf0000
      | 0x100, 4 => 0x577030
      | 0x100, 0x10 => 0xf1c1
      | _, _ => 0

/-- A configuration word as the function holds it, before the bits that stand elsewhere in the state. -/
def Dev.cfgHeld (d : Dev) (f : Fn) (off : Nat) : Nat := ((mget (d.fn f).cfg off).map (·.toNat)).getD (d.cfgReset f off)

/-- A configuration word as it reads: Command, PowerState, MSI-X control, the link's status, VF Enable, VF MSE and NumVFs are the state's own. -/
def Dev.cfgWord (d : Dev) (f : Fn) (off : Nat) : Nat :=
  let x := d.fn f
  let w := BitVec.ofNat 32 (d.cfgHeld f off)
  let k := d.cfgKind f
  match off with
  | 0x04 => (setFld (setFld w 1 1 (b2n (x.mse && k != .vf))) 2 1 (b2n x.bme)).toNat
  | 0x44 => if k = .vf then w.toNat else (setFld w 0 2 (if x.d3 then 3 else 0)).toNat
  | 0x50 => (setFld (setFld w 30 1 (b2n x.fmask)) 31 1 (b2n (!x.msixOff))).toNat
  | 0x80 => match f with
    | .vf _ => w.toNat
    | .pf => (setFld (setFld w 16 4 (d.regF .EP 0 Reg.EP_LINK_STS 0 3)) 20 6 (d.regF .EP 0 Reg.EP_LINK_STS 3 5)).toNat
    | .tp p => (setFld (setFld w 16 4 (d.regF .TP p Reg.TP_LINK_STS 0 3)) 20 6 (d.regF .TP p Reg.TP_LINK_STS 3 5)).toNat
  | 0x158 => if k = .pf then (setFld (setFld w 0 1 (b2n d.ep.vfe)) 3 1 (b2n d.ep.vfMse)).toNat else w.toNat
  | 0x160 => if k = .pf then (setFld w 0 16 d.ep.numVfs).toNat else w.toNat
  | _ => w.toNat

/-- A word of the MSI-X table or the PBA: entry v is 16 bytes of address, data and vector control (R80, R81, R100, R373). -/
def Dev.msixWord (d : Dev) (f : Fn) (off : Nat) : Nat :=
  let k := d.cfgKind f
  let x := d.fn f
  let pba := if k = .pf then 0x8000 else 0x800
  if off / 16 < k.vectors then
    (if off % 16 = 12 then b2n (!x.unmasked.contains (off / 16)) else ((mget x.msix (off / 4)).map (·.toNat)).getD 0)
  else if pba ≤ off ∧ off < pba + (k.vectors + 63) / 64 * 8 then
    packF ((List.range 32).map (fun b => (b, b2n (x.pba.contains ((off - pba) / 4 * 32 + b)))))
  else 0

/-! ### Where the BARs lie (R74, R80, R81) -/

/-- Function number under ARI: VF n is n, by VF offset 1 and stride 1 (R74, R78). -/
def fnRoute : Fn → Nat
  | .vf n => n
  | _ => 0

/-- Base of a BAR as the host has set it: a VF's from the SR-IOV capability, VF n's at base + (n − 1) × its size (R81). -/
def Dev.barBase (d : Dev) (f : Fn) (bar : Nat) : Nat :=
  let addr (g : Fn) (lo : Nat) : Nat := d.cfgWord g lo / 16 * 16 + d.cfgWord g (lo + 4) * 2 ^ 32
  match f with
  | .vf n => if bar = 0 then addr .pf 0x174 + (n - 1) * 0x100000 else addr .pf 0x184 + (n - 1) * 0x1000
  | f => addr f (0x10 + 4 * bar)

/-- Size of a BAR of any function. -/
def Dev.barBytes (d : Dev) (f : Fn) (bar : Nat) : Nat := match f with
  | .vf _ => if bar = 0 then 0x100000 else if bar = 4 then 0x1000 else 0
  | f => d.barSize f bar

/-- Store the bits of a configuration word that the host writes; the LTR word is kept even at its reset value, for "no maximum written" is a
state of its own (R95). -/
def Dev.cfgStore (f : Fn) (off v : Nat) (d : Dev) : Dev :=
  let old := BitVec.ofNat 32 (d.cfgHeld f off)
  let rw := BitVec.ofNat 32 (d.cfgRw f off)
  let v := BitVec.ofNat 32 v
  let new := ((old &&& ~~~ rw) ||| (v &&& rw)) &&& ~~~ (v &&& BitVec.ofNat 32 (d.cfgW1c f off))
  let x := d.fn f
  d.setFn f { x with cfg := if new.toNat = d.cfgReset f off ∧ off ≠ 0x2d4 then mdel x.cfg off else mput x.cfg off new }

end Sys2Proof.Machine
end

