-- ==== Sys2Proof/Machine/Recorder.lean ====
section
/-! DEFINITION. Meanings of the event recorder and calendar commands (spec/19_recorder_and_clock.md). -/
namespace Sys2Proof.Machine
open Sys2Proof

/-! ### Records (R572 to R579) -/

/-- RECORD: a block or a firmware reports an event (R573, R574, R579). -/
def execRecord (sev source code p0 p1 : Nat) (s : State) : Host.Outcome State Fault Refusal :=
  run (fun d => if 4 < sev ∨ d.life.mode = .backup then d
    else d.record false sev (source % 65536) (code % 65536) (p0 % 2 ^ 32) (p1 % 2 ^ 32) 0) s

/-- A program of the open page is due. -/
def Dev.pageDue (d : Dev) : Bool := !d.recd.pending.isEmpty && (d.recd.due || decide (2048 ≤ d.recd.pending.length))

/-- Count one ring page used; the next page that would be page 32 asks for a rotation (R578). -/
def Dev.ringStep (d : Dev) (page : List Rec) : Dev :=
  { d with recd := { d.recd with
      ring := d.recd.ring ++ [page], nextPage := d.recd.nextPage + 1
      rotating := d.recd.rotating || decide (32 ≤ d.recd.nextPage + 1) } }

/-- RING_PAGE_PROGRAM: both copies of the next ring page are programmed; it is stored when either ends OK (R576, R577). -/
def Dev.ringProgram (okA okB : Bool) (d : Dev) : Dev :=
  if !d.ringReady || !d.pageDue then d
  else if okA || okB then
    let d := d.ringStep d.recd.pending
    ({ d with recd := { d.recd with pending := [], due := false } }).setIrq .REC 0 1
  else ((d.ringStep []).raiseErr .REC 0 0 noDetail)

def execRingPageProgram (okA okB : Bool) (s : State) : Host.Outcome State Fault Refusal := run (Dev.ringProgram okA okB) s

/-- Make a page program due. -/
def Dev.setDue (d : Dev) : Dev := { d with recd := { d.recd with due := true } }

/-- URGENT_RECORD_TIMEOUT: an ERROR or CRITICAL pending record has waited 10 ms (R576). -/
def execUrgentRecordTimeout (s : State) : Host.Outcome State Fault Refusal :=
  run (fun d => if d.recd.pending.any (fun r => decide (3 ≤ r.sev ∧ 10000 ≤ d.life.usUp - r.atUs)) then d.setDue else d) s

/-- HOLD_S as it acts (R585). -/
def Dev.holdS (d : Dev) : Nat := max 1 (d.regF .REC 0 Reg.REC_REC_CFG 8 8)

/-- RECORD_HOLD_TIMEOUT: the oldest pending record has waited HOLD_S (R576). -/
def execRecordHoldTimeout (s : State) : Host.Outcome State Fault Refusal :=
  run (fun d => match d.recd.pending with
    | r :: _ => if d.holdS * 1000000 ≤ d.life.usUp - r.atUs then d.setDue else d
    | [] => d) s

/-- A rotation of the reserved index can run now (R309, R583). -/
def Dev.mayRotate (d : Dev) : Bool :=
  d.life.replayed && !d.life.fatal && (backgroundMode d.life.mode || d.life.mode == .maint) && d.formatted &&
    !d.otherIndexHeld && !d.ringFrozen

/-- RING_ROTATION: the rotation that the recorder asked for runs (R578). -/
def execRingRotation (bad : List Nat) (s : State) : Host.Outcome State Fault Refusal :=
  run (fun d => if d.recd.rotating && d.mayRotate then d.rotateReserved (!d.recd.clearing) bad else d) s

/-- POS_SECOND: POS advances (R581). -/
def execPosSecond (s : State) : Host.Outcome State Fault Refusal :=
  run (fun d => if d.life.mode = .backup then d else { d with bak := { d.bak with pos := (d.bak.pos + 1) % 2 ^ 32 } }) s

/-! ### Views (R582, R583) -/

/-- Records held, oldest first. -/
def Dev.recHeld (d : Dev) : List Rec := d.recd.ring.flatten ++ d.recd.pending

/-- NEWEST_SEQ and OLDEST_SEQ (R585); zero while nothing is held. -/
def Dev.newestSeq (d : Dev) : Nat := d.recd.next - 1
def Dev.oldestSeq (d : Dev) : Nat := (d.recHeld.head?.map (·.seq)).getD 0

/-- A view at reset. -/
def viewReset : RecView := { cursor := 0, base := 0, top := 0, loading := false, recs := [], freeze := false, maxS := 0, freezeUs := 0, lost := false }

/-- View `v`: 0 PF, 1 I3C, 2 head. -/
def Dev.view (d : Dev) (v : Nat) : RecView := (mget d.recd.views v).getD viewReset

/-- Set a view; one at reset is not listed. -/
def Dev.setView (d : Dev) (v : Nat) (x : RecView) : Dev :=
  { d with recd := { d.recd with views := if x = viewReset then mdel d.recd.views v else mput d.recd.views v x } }

/-- The view of a requester. -/
def viewOf (r : Requester) : Nat := if r.i3c then 1 else if proxied r then 2 else 0

/-- A write of CURSOR starts a view load of the records from there (R583). -/
def Dev.loadView (d : Dev) (v cursor : Nat) : Dev :=
  let base := max cursor d.oldestSeq
  d.setView v { d.view v with
    cursor := cursor, base := base, top := d.newestSeq, loading := true, recs := (d.recHeld.filter (fun r => decide (base ≤ r.seq))).take 130944 }

/-- CURSOR_WRITE. -/
def execCursorWrite (req : Requester) (value : W64) (s : State) : Host.Outcome State Fault Refusal :=
  run (fun d => d.regWrite req .RECW 0 Reg.RECW_CURSOR (fun d => d.loadView (viewOf req) value.toNat)) s

/-- VIEW_LOADED: the view load of view `v` ends. -/
def execViewLoaded (v : Nat) (s : State) : Host.Outcome State Fault Refusal :=
  run (fun d => if (d.view v).loading then d.setView v { d.view v with loading := false } else d) s

/-- A write of FREEZE_CTL (R583). -/
def Dev.freezeWrite (d : Dev) (v : Nat) (value : W32) : Dev :=
  let x := d.view v
  let on := fld value 0 1 == 1
  d.setView v { x with
    freeze := on, maxS := fld value 16 8, freezeUs := if on && !x.freeze then d.life.usUp else x.freezeUs
    lost := x.lost && !on }

/-- FREEZE: a write of FREEZE_CTL. -/
def execFreeze (req : Requester) (value : W32) (s : State) : Host.Outcome State Fault Refusal :=
  run (fun d => d.regWrite req .RECW 0 Reg.RECW_FREEZE_CTL (fun d => d.freezeWrite (viewOf req) value)) s

/-- FREEZE_TIMEOUT: a freeze has lasted MAX_S seconds. -/
def Dev.freezeTimeout (v : Nat) (d : Dev) : Dev :=
  let x := d.view v
  let s := if x.maxS = 0 then 60 else x.maxS
  if x.freeze && decide (s * 1000000 ≤ d.life.usUp - x.freezeUs) then d.setView v { x with freeze := false, lost := true } else d

def execFreezeTimeout (v : Nat) (s : State) : Host.Outcome State Fault Refusal := run (Dev.freezeTimeout v) s

/-! ### Host records and clears (R584, R585) -/

/-- A write of HREC_CMD (R584). -/
def Dev.hostRecord (d : Dev) (r : Requester) (value : W32) : Dev :=
  let sev := min 4 (fld value 16 3)
  let sev := if r.dom = .secure then sev else min 2 sev
  d.record false sev ((if r.i3c then 4 else 3) * 0x1000) (fld value 0 16) (d.regN .REC 0 Reg.REC_HREC_P0)
    (d.regN .REC 0 Reg.REC_HREC_P1) 4

/-- HREC_CMD. -/
def execHrecCmd (req : Requester) (value : W32) (s : State) : Host.Outcome State Fault Refusal :=
  run (fun d => d.regWrite req .REC 0 Reg.REC_HREC_CMD (fun d => d.hostRecord req value)) s

/-- CNT_CLR zeroes LOST and DROPPED. -/
def Dev.recCntClr (d : Dev) : Dev := { d with recd := { d.recd with lost := 0, dropped := 0 } }

/-- REC_CNT_CLR. -/
def execRecCntClr (req : Requester) (s : State) : Host.Outcome State Fault Refusal :=
  run (fun d => d.regWrite req .REC 0 Reg.REC_REC_CLR Dev.recCntClr) s

/-- RING_CLR (R584): pending records dropped, RING_CLEARED written, the ring rotated with nothing copied, at once or as soon as a
rotation can run. -/
def Dev.ringClr (d : Dev) (dom : Nat) : Dev :=
  let d := { d with recd := { d.recd with pending := [], due := false, clearing := true, rotating := true } }
  let d := if d.mayRotate then d.rotateReserved false [] else d
  d.record false 1 PT.REC.code 2 dom 0 0

/-- RING_CLR: only the secure domain writes it. -/
def Dev.ringClrBy (req : Requester) (d : Dev) : Dev :=
  if req.dom = .secure then d.regWrite req .REC 0 Reg.REC_REC_CLR (fun d => d.ringClr 0)
  else d.notAllowed req .REC 0 Reg.REC_REC_CLR

def execRingClr (req : Requester) (s : State) : Host.Outcome State Fault Refusal := run (Dev.ringClrBy req) s

/-! ### Calendar (R586 to R589) -/

/-- The calendar follows the head (R590). -/
def Dev.calFollows (d : Dev) : Bool := d.isMember && (d.fabState == 2 || d.fabState == 3)

/-- CAL_CTL.SET loads CAL_SET and sets VALID, or is discarded on a following member (R587). -/
def Dev.calSet (d : Dev) : Dev :=
  if d.calFollows then d.raiseErr .CAL 0 0 noDetail
  else
    let v := d.reg64 .CAL 0 Reg.CAL_CAL_SET
    { d with bak := { d.bak with sub := v % 32768, sec := v / 65536 % 2 ^ 32, valid := true, vbatLost := false, frac := 0 }, fab := { d.fab with calUs := 0 } }

/-- CAL_SET. -/
def execCalSet (req : Requester) (s : State) : Host.Outcome State Fault Refusal :=
  run (fun d => d.regWriteIf req .CAL 0 Reg.CAL_CAL_CTL true Dev.calSet) s

/-- CAL_ALARM: SEC has reached ALARM_SEC (R588); in IDLE and PATROL the IRQ waits for the next wake. -/
def Dev.calAlarm (d : Dev) : Dev :=
  if d.life.mode ≠ .backup ∧ d.regB .CAL 0 Reg.CAL_CAL_CTL 1 ∧ d.bak.sec = d.regN .CAL 0 Reg.CAL_ALARM_SEC then
    let d := d.setRegF .CAL 0 Reg.CAL_CAL_CTL 1 1 0
    if d.life.mode = .idle ∨ d.life.mode = .patrol then { d with bak := { d.bak with alarmWaits := true } } else d.setIrq .CAL 0 0
  else d

def execCalAlarm (s : State) : Host.Outcome State Fault Refusal := run Dev.calAlarm s

/-- Add sub-counts to the calendar, carrying into the seconds. -/
def Backup.addSub (b : Backup) (n : Int) : Backup :=
  let t := ((b.sec * 32768 + b.sub : Nat) : Int) + n
  let t := (t % (2 ^ 47 : Nat)).toNat
  { b with sec := t / 32768, sub := t % 32768 }

/-- TRIM_INTERVAL: 1,048,576 crystal edges have passed, and TRIM counts are added (R589). -/
def execTrimInterval (s : State) : Host.Outcome State Fault Refusal :=
  run (fun d => { d with bak := d.bak.addSub (signed 8 (d.regF .CAL 0 Reg.CAL_TRIM 0 8)) }) s

/-- VBAT_RISE: the backup domain is reset (R586, R614). -/
def Dev.vbatRise (d : Dev) : Dev :=
  { d with
      regs := d.regs.filter (fun e => !calKey e.1)
      bak := { sec := 0, sub := 0, valid := false, vbatLost := true, frac := 0, pos := 0, pcc := 0, lostAtPower := true, alarmWaits := false } }

def execVbatRise (s : State) : Host.Outcome State Fault Refusal := run Dev.vbatRise s

/-- OSC_STOP: the oscillator shows no edge for 2 ms while the main rails are present (R586). -/
def execOscStop (s : State) : Host.Outcome State Fault Refusal :=
  run (fun d => if d.life.mode = .backup then d
    else ({ d with bak := { d.bak with valid := false } }).raiseErr .CAL 0 1 noDetail) s

end Sys2Proof.Machine
end

