-- ==== Sys2Proof/Machine/UpdOps.lean ====
section
/-! DEFINITION. What one device does for a field update: the package, its staging, its writing and verification, the boot control
record, activation (spec/17_field_update.md R530 to R546). -/
namespace Sys2Proof.Machine
open Sys2Proof

/-! ### State (R539, R549) -/

/-- UPD_STS.STATE. -/
def Dev.updState (d : Dev) : Nat := d.regF .UPD 0 Reg.UPD_UPD_STS 0 4

/-- Take a state. -/
def Dev.updSet (d : Dev) (st : Nat) : Dev := d.setRegF .UPD 0 Reg.UPD_UPD_STS 0 4 st

/-- UPD_STS.ERROR and PART. -/
def Dev.updError (d : Dev) (err part : Nat) : Dev :=
  (d.setRegF .UPD 0 Reg.UPD_UPD_STS 4 8 err).setRegF .UPD 0 Reg.UPD_UPD_STS 12 3 part

/-- The package fails on this device (R549). -/
def Dev.updFail (d : Dev) (err part : Nat) : Dev :=
  ({ (d.updSet 7).updError err part with upd := { d.upd with blocks := [], acks := [], sent := [] } }).raiseErr .UPD 0 0 noDetail

/-- Banks that run (BOOT_STS), and the inactive ones. -/
def Dev.runM (d : Dev) : Nat := d.regF .SX 0 Reg.SX_BOOT_STS 0 1
def Dev.runG (d : Dev) : Nat := d.regF .SX 0 Reg.SX_BOOT_STS 7 1

/-- PKG_ID of the running Glaze bank. -/
def Dev.runPkg (d : Dev) : Nat := d.flashNat (glazeBank d.runG + 8) 8

/-- Bank base of a part kind: 1 in a Mordant bank, the others in a Glaze bank. -/
def partBank (kind m g : Nat) : Nat := if kind = 1 then mordantBank m else glazeBank g

/-! ### Blocks and the manifest (R530 to R534) -/

/-- A block's SIG, VER and CHECK are right (R530). -/
def blockOk (b : List Byte) : Bool :=
  b.length == 65536 && bytesAt b 0 4 == 0x42555650 && bytesAt b 4 1 == 1 &&
    bytesAt b 0x1c 4 == crc32c (b.take 0x1c ++ zeros 4 ++ b.drop 0x20)

/-- Payload of a block: its LEN bytes. -/
def blockBody (b : List Byte) : List Byte := (b.drop 0x20).take (bytesAt b 6 2)

/-- Field of `n` bytes at offset `o` of part entry `i` of a manifest (R532). -/
def partAt (m : List Byte) (i o n : Nat) : Nat := bytesAt m (0x120 + 128 * i + o) n

/-- Index of the entry of a part kind. -/
def partOf (m : List Byte) (kind : Nat) : Nat := ((List.range 7).find? (fun i => partAt m i 0 1 == kind)).getD 0

/-- One part entry keeps R532. -/
def entryOk (m : List Byte) (i : Nat) : Bool :=
  let f (o n : Nat) : Nat := partAt m i o n
  decide (1 ≤ f 0 1 ∧ f 0 1 ≤ 7) && decide (f 1 1 ≤ 2) && f 2 2 == 0 && f 0x14 12 == 0 && f 0x10 4 % 32 == 0 &&
    (f 1 1 != 0 || (f 4 4 == 0 && f 8 4 == 0)) && (f 1 1 != 1 || f 0x20 48 == 0) &&
    (if f 0 1 = 1 then f 0x10 4 == 0 else decide (0x2000 ≤ f 0x10 4 ∧ f 0x10 4 + f 0x0c 4 ≤ 0x1800000))

/-- The six Glaze parts lie apart (R532). -/
def partsApart (m : List Byte) : Bool :=
  (List.range 7).all (fun i => (List.range 7).all (fun j =>
    i == j || partAt m i 0 1 == 1 || partAt m j 0 1 == 1 ||
      decide (partAt m i 0x10 4 + partAt m i 0x0c 4 ≤ partAt m j 0x10 4 ∨ partAt m j 0x10 4 + partAt m j 0x0c 4 ≤ partAt m i 0x10 4)))

/-- The manifest's own fields keep R531 and R532. -/
def manifestOk (m : List Byte) : Bool :=
  let f (o n : Nat) : Nat := bytesAt m o n
  decide (0x4a0 ≤ m.length) && f 0 4 == 0x4d555650 && f 4 1 == 1 && decide (f 5 1 < 2) && f 6 1 == 7 && f 7 1 == 0 && f 8 8 != 0 &&
    f 0x19 1 == 0 && f 0x81 3 == 0 && (nbit (f 5 1) 0 || f 0xe4 2 == 0) && f 0xe6 2 == 0 && (List.range 7).all (entryOk m) &&
    (List.range 7).all (fun k => (List.range 7).any (fun i => partAt m i 0 1 == k + 1)) && partsApart m

/-- Blocks of the kinds below `kind`. -/
def blocksBelow (m : List Byte) (kind : Nat) : Nat :=
  ((List.range 7).filter (fun i => decide (partAt m i 0 1 < kind))).foldl (fun n i => n + partAt m i 8 4) 0

/-- The manifest keeps the limits of R534. -/
def sizesOk (m : List Byte) : Bool :=
  bytesAt m 0x1c 4 == 1 + blocksBelow m 8 &&
    (List.range 7).all (fun i => partAt m i 1 1 == 0 || partAt m i 4 4 == 1 + blocksBelow m (partAt m i 0 1)) &&
    decide (((List.range 7).filter (fun i => partAt m i 1 1 == 2)).foldl (fun n i => n + partAt m i 8 4) 0 ≤ 192) &&
    decide (partAt m (partOf m 1) 0x0c 4 ≤ 532480)

/-- ERROR of a manifest, 0 where it passes: its fields and signatures (R531), its SVN, its sizes (R534). `sigOk` says that the
signatures verify under the OTP row's hashes. -/
def Dev.manifestErr (d : Dev) (m : List Byte) (sigOk : Bool) : Nat :=
  if !manifestOk m ∨ !sigOk then 1
  else if bytesAt m 0x18 1 < d.otpSvn 0x120 then 2
  else if !sizesOk m then 3
  else 0

/-- The manifest of the package in progress: the payload of block 0. -/
def Dev.manifest (d : Dev) : List Byte := blockBody ((mget d.upd.blocks 0).getD [])

/-- TOTAL of the package in progress. -/
def Dev.updTotal (d : Dev) : Nat := d.regF .UPD 0 Reg.UPD_BLOCKS 16 16

/-! ### Staging (R535, R538, R539) -/

/-- ACTIVE members, as a mask; a standalone device stands for itself. -/
def Dev.activeMask (d : Dev) : Nat :=
  if d.fabState = 0 then 1 else (d.fab.members.filter (fun (e : Nat × Member) => e.2.state == 2)).foldl (fun m e => bitSet m e.1) 0

/-- Members of the package set (R537). -/
def Dev.pkgMembers (d : Dev) : List Nat := bitList (d.reg64 .UPD 0 Reg.UPD_SET) 64

/-- The set follows the member table until activation: a member that leaves ACTIVE leaves it, and one that reaches ACTIVE during delivery
joins it (R537). -/
def Dev.pkgSet (d : Dev) : Dev :=
  let st := d.updState
  if !d.isHead ∨ st = 0 ∨ 5 ≤ st then d
  else
    let a := d.activeMask
    let d := d.setReg64 .UPD 0 Reg.UPD_SET ((d.reg64 .UPD 0 Reg.UPD_SET &&& a) ||| (if st = 1 then a else 0))
    { d with upd := { d.upd with sent := d.upd.sent.filter (fun x => d.pkgMembers.contains (x / 65536)) } }

/-- Forwarded blocks that lack an acknowledgement of some member of the set (R537). -/
def Dev.blocksOut (d : Dev) : Nat := (d.upd.sent.map (· % 65536)).eraseDups.length

/-- The next ACTIVE member after this one in ascending FAB_ID (R536). -/
def Dev.nextActive (d : Dev) : Option Nat := (List.range 64).find? (fun n => decide (d.fabId < n) && nbit d.activeMask n)

/-- The head or a standalone device runs the committed package, and every other member of the set has reported so: TRIAL_OK (R539,
R544). -/
def Dev.trialOk (d : Dev) : Dev :=
  if d.hostPort ∧ d.updState = 5 ∧ d.life.booted ∧ (d.fabState = 0 ∨ d.fabState = 3) ∧ !d.regB .SX 0 Reg.SX_BOOT_STS 15 ∧
      (d.pkgMembers.filter (· != d.fabId)).all d.upd.reports.contains then d.updSet 6
  else d

/-- Count the blocks staged; when every block is, the parts are written (R539). -/
def Dev.stagedNow (d : Dev) : Dev :=
  let n := d.upd.blocks.length
  let d := d.setRegF .UPD 0 Reg.UPD_BLOCKS 0 16 n
  if n = d.updTotal then d.updSet 2 else d

/-- Block 0 begins a package, or fails it (R539). -/
def Dev.stageFirst (d : Dev) (b : List Byte) (sigOk : Bool) : Dev :=
  let m := blockBody b
  let err := d.manifestErr m sigOk
  if err ≠ 0 then d.updFail err 0
  else
    let d := ((d.updSet 1).updError 0 0).setReg64 .UPD 0 Reg.UPD_PKG_ID (bytesAt m 8 8)
    let d := d.setRegN .UPD 0 Reg.UPD_BLOCKS (bytesAt m 0x1c 4 % 65536 * 65536)
    let d := d.setReg64 .UPD 0 Reg.UPD_SET d.activeMask
    { d with upd := { d.upd with blocks := [(0, b)], acks := [], sent := [] } }.stagedNow

/-- Another block: a block of a FULL part goes to its place in the inactive bank (R539). -/
def Dev.stageNext (d : Dev) (i : Nat) (b : List Byte) : Dev :=
  let m := d.manifest
  let d := match (List.range 7).find? (fun e => partAt m e 1 1 == 1 && decide (partAt m e 4 4 ≤ i ∧ i < partAt m e 4 4 + partAt m e 8 4)) with
    | some e =>
      let base := partBank (partAt m e 0 1) (1 - d.runM) (1 - d.runG) + partAt m e 0x10 4
      d.flashRewrite (base + (i - partAt m e 4 4) * 65504) (blockBody b).length (blockBody b)
    | none => d
  { d with upd := { d.upd with blocks := mput d.upd.blocks i b } }.stagedNow

/-- Stage a block that has passed its checks and is not staged yet. -/
def Dev.stageBlock (d : Dev) (b : List Byte) (sigOk : Bool) : Dev :=
  if bytesAt b 0x10 4 = 0 then d.stageFirst b sigOk else d.stageNext (bytesAt b 0x10 4) b

/-! ### Writing and verifying (R533, R540) -/

/-- The output of a DELTA stream over the running part: `none` for a malformed operation (R533). -/
def deltaRun (src : List Byte) : Nat → List Byte → List Byte → Option (List Byte)
  | 0, _, _ => none
  | n + 1, s, out =>
    let len := bytesAt s 4 4
    let at_ := bytesAt s 8 4
    if s.length < 16 ∨ bytesAt s 1 3 ≠ 0 ∨ bytesAt s 12 4 ≠ 0 then none
    else if bytesAt s 0 1 = 3 then (if (s.drop 16).isEmpty then some out else none)
    else if bytesAt s 0 1 = 1 then
      (if at_ + len ≤ src.length then deltaRun src n (s.drop 16) (out ++ (src.drop at_).take len) else none)
    else if bytesAt s 0 1 = 2 then
      let size := (len + 15) / 16 * 16
      (if 16 + size ≤ s.length then deltaRun src n (s.drop (16 + size)) (out ++ (s.drop 16).take len) else none)
    else none

/-- Bytes of the running part of a kind: as the running bank's manifest places it. -/
def Dev.runningPart (d : Dev) (kind : Nat) : List Byte :=
  let m := d.flashBytes (glazeBank d.runG) 0x2000
  let e := partOf m kind
  d.flashBytes (partBank kind d.runM d.runG + partAt m e 0x10 4) (partAt m e 0x0c 4)

/-- SHA-384 as a number of 48 bytes. -/
def sha384 (bs : List Byte) : Nat := leNat ((Config.digest 2 bs).take 48)

/-- Payload of the blocks of entry `e`. -/
def Dev.partStream (d : Dev) (m : List Byte) (e : Nat) : List Byte :=
  (List.range (partAt m e 8 4)).flatMap (fun i => blockBody ((mget d.upd.blocks (partAt m e 4 4 + i)).getD []))

/-- Write the part of entry `e` into the inactive bank: the error, 0 where none (R540, R549). A FULL part was written as it came. -/
def Dev.writePart (d : Dev) (m : List Byte) (e : Nat) : Nat × Dev :=
  let kind := partAt m e 0 1
  let src := d.runningPart kind
  let base := partBank kind (1 - d.runM) (1 - d.runG) + partAt m e 0x10 4
  if partAt m e 1 1 = 1 then (0, d)
  else if sha384 src ≠ partAt m e 0x20 48 then (4, d)
  else
    let s := d.partStream m e
    let out := if partAt m e 1 1 = 0 then some src else deltaRun src (s.length + 1) s []
    match out with
    | none => (5, d)
    | some bs => if bs.length ≠ partAt m e 0x0c 4 then (5, d) else (0, d.flashRewrite base bs.length bs)

/-- Write every part in order of KIND, until one fails: error, its kind, device. -/
def Dev.writeParts (d : Dev) (m : List Byte) : List Nat → Nat × Nat × Dev
  | [] => (0, 0, d)
  | kind :: ks =>
    let r := d.writePart m (partOf m kind)
    if r.1 ≠ 0 then (r.1, kind, r.2) else Dev.writeParts r.2 m ks

/-- The first kind whose part as read back has another digest (R540). -/
def Dev.badDigest (d : Dev) (m : List Byte) : Option Nat :=
  [1, 2, 3, 4, 5, 6, 7].find? (fun kind =>
    let e := partOf m kind
    sha384 (d.flashBytes (partBank kind (1 - d.runM) (1 - d.runG) + partAt m e 0x10 4) (partAt m e 0x0c 4)) != partAt m e 0x50 48)

/-- APPLYING ends (R540): `flashBad` names the part that no retry reads back; `mordant` is the result of R513 for the MORDANT part, in
the codes of BOOT_STS. -/
def Dev.applyDone (d : Dev) (flashBad : Option Nat) (mordant : Nat) : Dev :=
  if d.updState ≠ 2 ∨ !checkCode mordant then d
  else
    let m := d.manifest
    let r := d.writeParts m [1, 2, 3, 4, 5, 6, 7]
    let d := r.2.2
    if r.1 ≠ 0 then d.updFail r.1 r.2.1
    else match flashBad with
      | some kind => d.updFail 7 (kind % 8)
      | none => match d.badDigest m with
        | some kind => d.updFail 6 kind
        | none =>
          if mordant ≠ 1 then d.updFail (if mordant = 5 then 2 else 1) 1
          else ((d.flashRewrite (glazeBank (1 - d.runG)) 0x2000 m).updSet 3).setIrq .UPD 0 0

/-! ### Activation (R434, R542, R543, R545, R546) -/

/-- A flush generation with the rails present (R434 step 2): admission stops, what is in flight is discarded (R36, R37), cache and
journal are written. The model writes it in one step. -/
def Dev.flushNow (d : Dev) : Dev :=
  let d := d.liveQueues.foldl (fun d q => d.discardPosted q) d
  let d := { d.stopWork with fab := { d.fab with preparing := true } }
  let d := d.newGen false
  d.mapGen (fun g => { g with done := g.plan.map List.length, ended := true })

/-- The banks that a record for TARGET names: the inactive ones, but a device that fell back keeps those it runs. -/
def Dev.targetBanks (d : Dev) (target : Nat) : Nat × Nat :=
  if target = 1 ∧ d.regB .SX 0 Reg.SX_BOOT_STS 15 then (d.runM, d.runG) else (1 - d.runM, 1 - d.runG)

/-- UPD_PREPARE (R541, R543, R545): the ungated record, and RESULT 0 once PREPARED for this package. -/
def Dev.updPrepare (d : Dev) (pkg target : Nat) : Nat × Dev :=
  let fits := if target = 0 then d.updState == 3 && d.reg64 .UPD 0 Reg.UPD_PKG_ID == pkg
    else d.updState == 5 || d.updState == 6 || (d.updState == 0 && d.regB .SX 0 Reg.SX_BOOT_STS 15)
  if !fits then (1, d)
  else
    let b := d.targetBanks target
    let d := (d.writeBoot (b.1 + 2 * b.2 + (if target = 0 then 4 else 0)) 0 false).updSet 4
    (0, { d.setReg64 .UPD 0 Reg.UPD_PKG_ID pkg with upd := { d.upd with target := target } })

/-- UPD_GO (R542): the flush generation, the gated record, the restart at fabric time `t`. -/
def Dev.updGo (d : Dev) (pkg t : Nat) : Nat × Dev :=
  if d.updState ≠ 4 ∨ d.reg64 .UPD 0 Reg.UPD_PKG_ID ≠ pkg then (1, d)
  else
    let d := (d.flushNow.gateBoot).setReg64 .UPD 0 Reg.UPD_T_ACT t
    (0, { d with upd := { d.upd with go := some t } })

/-- UPD_ABORT (R539): the package ends here. -/
def Dev.updAbort (d : Dev) (pkg : Nat) : Nat × Dev :=
  if !([1, 2, 3, 4].contains d.updState) ∨ d.reg64 .UPD 0 Reg.UPD_PKG_ID ≠ pkg then (1, d)
  else
    let d := (d.updSet 0).updError 8 0
    (0, { d with upd := { d.upd with blocks := [], acks := [], sent := [], prepare := none } })

/-- UPD_CONFIRM (R546): a record of the running banks without TRIAL, the SVNs advanced, IDLE. -/
def Dev.updConfirm (d : Dev) (pkg : Nat) : Nat × Dev :=
  if !([5, 6].contains d.updState) ∨ d.runPkg ≠ pkg then (1, d)
  else
    let d := d.writeBoot (d.runM + 2 * d.runG) 0 true
    let d := (d.advanceSvn 0x120 (d.flashNat (glazeBank d.runG + 0x18) 1)).advanceSvn 0x100 (d.flashNat (mordantBank d.runM + 6) 1)
    let d := (d.setRegN .SX 0 Reg.SX_SVN (d.otpSvn 0x100 + d.otpSvn 0x120 * 256)).updSet 0
    (0, { d with upd := { d.upd with reports := [] } })

end Sys2Proof.Machine
end

