-- ==== Sys2Proof/Machine/FabTree.lean ====
section
/-! DEFINITION. Filush messages received, the spanning tree, gathers and the head's queue of global operations
(spec/12_filush_fabric.md R408, R415, R416, R429 to R434). -/
namespace Sys2Proof.Machine
open Sys2Proof

/-! ### Fabric time (R433) -/

/-- Fabric time in ns. -/
def Dev.fabNow (d : Dev) : Nat := d.fab.time + (d.life.usUp - d.fab.timeUs) * 1000

/-! ### The tree (R408, R429) -/

/-- Next hop of `a` toward the member that `dist` measures from: the lowest link that comes nearer. -/
def Dev.nextHop (d : Dev) (dist : List (Nat × Nat)) (a : Nat) : Option Nat :=
  match dist.find? (fun e => e.1 == a) with
  | none => none
  | some (_, n) => (d.onward d.carries a).find? (fun b => dist.any (fun e => e.1 == b && e.2 + 1 == n))

/-- Last member before `n` on the way from `a` to it. -/
def Dev.walkTo (d : Dev) (dist : List (Nat × Nat)) (n : Nat) : Nat → Nat → Nat
  | 0, a => a
  | fuel + 1, a => match d.nextHop dist a with
    | none => a
    | some b => if b = n then a else Dev.walkTo d dist n fuel b

/-- Parent of member `n` in the tree rooted at the head. -/
def Dev.parentOf (d : Dev) (n : Nat) : Nat := d.walkTo (d.hopsFrom n) n 64 0

/-- Children of this device in the tree. -/
def Dev.kids (d : Dev) : List Nat :=
  ((d.hopsFrom 0).map (fun (e : Nat × Nat) => e.1)).filter (fun n => n != 0 && n != d.fabId && d.parentOf n == d.fabId)

/-- Send a message down the tree. -/
def Dev.down (d : Dev) (ty : Nat) (body : List Nat) (ack : Bool) : Dev := d.kids.foldl (fun d c => d.sendF ty c 2 body ack) d

/-- Send a gathered reply up the tree. -/
def Dev.up (d : Dev) (ty : Nat) (body : List Nat) : Dev := d.sendF ty (d.parentOf d.fabId) 4 body false

/-! ### Receiving (R27, R415, R416) -/

/-- The EPOCH of a message is older than this device's. -/
def Dev.oldEpoch (d : Dev) (e : Nat) : Bool :=
  let x := (d.epoch + 2 ^ 32 - e % 2 ^ 32) % 2 ^ 32
  decide (0 < x ∧ x < 2 ^ 31)

/-- Message types that leave a device in IDLE or PATROL asleep. -/
def quietType (ty : Nat) : Bool := ty == 0x06 || ty == 0x20 || ty == 0x21

/-- The message breaks a rule of reception, so that it is dropped (R415, R416). -/
def Dev.rxBad (d : Dev) (ty : Nat) (h : MsgHdr) : Bool :=
  decide (16 ≤ h.flags) || decide (16 ≤ h.hops) || decide (64 ≤ h.src) || (!decide (1 ≤ ty ∧ ty ≤ 7) && d.oldEpoch h.epoch) ||
    (ty != 1 && d.fab.seen.contains (h.src, h.seq))

/-- Remember a message: the last 4,096 of each source. -/
def Dev.noteSeen (d : Dev) (h : MsgHdr) : Dev :=
  let mine := ((h.src, h.seq) :: d.fab.seen.filter (fun e => e.1 == h.src)).take 4096
  { d with fab := { d.fab with seen := mine ++ d.fab.seen.filter (fun e => e.1 != h.src) } }

/-- Receive a message of a type on a link: dropped and counted, or handled by `f`. HELLO comes on a link in HELLO or DOWN, any other on
a link that is UP. -/
def Dev.rx (d : Dev) (ty : Nat) (h : MsgHdr) (f : Dev → Dev) : Dev :=
  let st := d.linkState h.link
  let fits : Bool := if ty = 1 then st == 4 || st == 6 else st == 5
  if d.fabState = 0 ∨ 6 ≤ h.link ∨ !liveMode d.life.mode ∨ d.life.fatal ∨ !fits then d
  else if d.rxBad ty h then d.incSat .FL h.link Reg.FL_CRC_ERR 1
  else
    let d := d.noteSeen h
    let d := if quietType ty then d else d.wakeFor .filush
    f d

/-! ### Gathers (R429) -/

/-- Begin a gather: this device and its children are to answer. -/
def Dev.gatherBegin (d : Dev) (kind id : Nat) : Dev :=
  { d with fab := { d.fab with
      gathers := d.fab.gathers.filter (fun g => !(g.kind == kind && g.id == id)) ++ [Gather.mk kind id (d.kids ++ [d.fabId]) 0 0] } }

/-- The head, or a standalone device, which stands for itself. -/
def Dev.leads (d : Dev) : Bool := !d.isMember

/-- A gather is complete: up the tree, or to the operation that waits for it. -/
def Dev.gatherDone (d : Dev) (g : Gather) : Dev :=
  if d.leads then { d with fab := { d.fab with op := d.fab.op.map (fun o =>
      if o.id = g.id then { o with awaiting := 0, count := g.count, result := g.result } else o) } }
  else match g.kind with
    | 1 => d.up 0x10 [g.id, g.count]
    | 2 => d.up 0x13 [g.id, g.count, g.result]
    | 3 => d.up 0x15 [g.id, g.count, g.result]
    | 4 => d.up 0x17 [g.id, g.count, g.result]
    | _ => d.up 0x29 [g.id, g.count]

/-- Replace a gather, or end it when nobody is left to answer. -/
def Dev.gatherPut (d : Dev) (g : Gather) : Dev :=
  let rest := d.fab.gathers.filter (fun x => !(x.kind == g.kind && x.id == g.id))
  if g.children.isEmpty then ({ d with fab := { d.fab with gathers := rest } }).gatherDone g
  else { d with fab := { d.fab with gathers := rest ++ [g] } }

/-- One answer to a gather. -/
def Dev.gatherIn (d : Dev) (kind id from_ count result : Nat) : Dev :=
  match d.fab.gathers.find? (fun g => g.kind == kind && g.id == id) with
  | none => d
  | some g =>
    if !g.children.contains from_ then d
    else d.gatherPut { g with
      children := g.children.filter (· != from_), count := g.count + count, result := max g.result result }

/-- This device has not answered a gather yet. -/
def Dev.owes (d : Dev) (kind id : Nat) : Bool :=
  d.fab.gathers.any (fun g => g.kind == kind && g.id == id && g.children.contains d.fabId)

/-- What this device counts in COUNT: itself, when it is ACTIVE (or stands alone). -/
def Dev.selfCount (d : Dev) : Nat := b2n (d.fabState == 3 || d.fabState == 0)

/-- This device answers a gather. -/
def Dev.gatherMe (d : Dev) (kind id result : Nat) : Dev := d.gatherIn kind id d.fabId d.selfCount result

/-! ### DEGRADED (R414) -/

/-- A member of a fabric volume's set is FENCED or FAILED. -/
def Dev.setHurt (d : Dev) : Bool :=
  d.stores.any (fun (e : Nat × Store) => e.2.fabric && e.2.setIds.any (fun n => d.memberState n == 3 || d.memberState n == 4))

/-- FAB_STS.DEGRADED and SIZE follow the member table. -/
def Dev.fabSts (d : Dev) : Dev :=
  if d.fabState = 0 then d
  else
    let n := (d.fab.members.filter (fun (e : Nat × Member) => e.2.state == 2)).length
    (d.setRegF .FAB 0 Reg.FAB_FAB_STS 15 1 (b2n (d.fabState == 3 && d.setHurt))).setRegF .FAB 0 Reg.FAB_FAB_STS 3 7 n

/-! ### Record broadcasts (R419, R443, R444) -/

/-- Complete the fabric SNAP_DELETE commands of this ingress for a snapshot that is gone. -/
def Dev.snapDeletesEnd (d : Dev) (k id : Nat) : Dev :=
  ((d.onRecord k).filter (fun f => f.cmd.opcode == 0x31 && f.stage == .xfer && f.cmd.arg0 % 2 ^ 32 == id)).foldl (fun d f => d.postOk f 0) d

/-- The new layout of a reshape on this device: a member of the new set takes its new shard range (R443). -/
def Dev.shadowMake (d : Dev) (k nk nm set : Nat) : Nat × Dev :=
  match d.store k with
  | none => (provNotFound, d)
  | some v =>
    let w : Store := { v with
      fabK := nk, fabM := nm, fabSet := set, base := 0xffffff, oldBands := 0, hold := false, snaps := [], snapNewest := 0, deleting := false }
    let start (d : Dev) (w : Store) : Dev :=
      { (d.setRegN .FAB 0 Reg.FAB_RSHP_STS 1).setStore (shadowKey k) w with fab := { d.fab with reshape := some (Reshape.mk k nk nm set w.base [] false) } }
    if !nbit set d.fabId then (provOk, start d w)
    else match d.takeRange 0xffffff w.shardBands with
      | none => (provNoRange, d)
      | some b =>
        let room := d.mapped + d.heldSlots + d.pendingBands.length + w.shardBands
        if d.capBands < room ∨ d.quota v.owner < d.usedBy v.owner + w.shardBands then (provNoRange, d)
        else (provOk, (start d { w with base := b }).jrec [.service])

/-- A reshape that was refused or is over leaves no new layout behind. -/
def Dev.shadowDrop (d : Dev) (k : Nat) : Dev :=
  let d := (d.setRegN .FAB 0 Reg.FAB_RSHP_STS 0).setRegN .FAB 0 Reg.FAB_RSHP_CURSOR 0
  { d with stores := mdel d.stores (shadowKey k), fab := { d.fab with reshape := none } }

/-- The switch of layouts (R444): the volume takes the new one, and the old shard range is unmapped and freed. -/
def Dev.layoutSwitch (d : Dev) (k : Nat) : Dev :=
  match d.store k, d.store (shadowKey k) with
  | some v, some w =>
    let d := if v.base = 0xffffff then d else d.unmapRange v.base (v.base + v.shardBands)
    let d := d.shadowDrop k
    (d.setStore k { v with fabK := w.fabK, fabM := w.fabM, fabSet := w.fabSet, base := w.base }).jrec [.service]
  | _, _ => d

/-- Apply a record broadcast: operation (1 create, 2 delete, 3 modify, 4 undo a creation, 5 snapshot delete, 6 undo a modification, 7
reshape start, 8 switch, 9 undo a reshape start), volume handle, image or argument, set. -/
def Dev.recordApply (d : Dev) (bcast op k img set : Nat) : Nat × Dev :=
  match op with
  | 1 =>
    let r := d.createLocal k img set
    if r.1 = provOk then (provOk, { r.2 with fab := { r.2.fab with made := some (bcast, k) } }) else r
  | 2 => d.deleteLocal k
  | 3 => match d.liveStore k with
    | none => (provNotFound, d)
    | some v => d.modifyVol k v img
  | 4 => match d.fab.made with
    | some (_, h) => if h = k then (provOk, { d.undoRecord 1 k img with fab := { d.fab with made := none } }) else (provOk, d)
    | none => (provOk, d)
  | 5 => (provOk, (d.snapDrop k img).snapDeletesEnd k img)
  | 6 => (provOk, d.undoRecord 3 k img)
  | 7 => d.shadowMake k (img % 32) (img / 32) set
  | 8 => (provOk, d.layoutSwitch k)
  | 9 => (provOk, d.shadowDrop k)
  | _ => (provInvalid, d)

/-! ### CAL_SYNC (R590) -/

/-- A calendar value in sub-counts. -/
def calSubs (sec sub : Nat) : Nat := sec * 32768 + sub

/-- A following member steps its calendar to the head's when they differ by more than 1 ms. -/
def Dev.calFollow (d : Dev) (sec sub flags t : Nat) : Dev :=
  if !d.calFollows then d
  else
    let head : Int := calSubs sec sub + (((d.fabNow : Int) - t) * 32768) / 1000000000
    let diff : Int := head - calSubs d.bak.sec d.bak.sub
    let us : Int := diff * 1000000 / 32768
    let d := { d with bak := { d.bak with valid := nbit flags 0 } }
    if -1000 ≤ us ∧ us ≤ 1000 then d
    else
      let n := head.toNat
      let d := { d with bak := { d.bak with sec := n / 32768 % 2 ^ 32, sub := n % 32768, frac := 0 } }
      (d.setRegN .CAL 0 Reg.CAL_LAST_STEP_US (unsigned 32 (clampI us (-2147483648) 2147483647))).setIrq .CAL 0 1

/-! ### Broadcasts delivered (R429, R541, R590) -/

/-- Word `i` of a body. -/
def wordAt (ws : List Nat) (i : Nat) : Nat := ws.getD i 0

/-- A broadcast body of a KIND: the RESULT of its BCAST_ACK, and the device. KIND 1, record broadcasts, is the model's own. -/
def Dev.bcastApply (d : Dev) (id kind : Nat) (ws : List Nat) : Nat × Dev :=
  let w (i : Nat) : Nat := wordAt ws i
  if kind = 1 then
    let r := d.recordApply id (w 0) (w 1) (w 2) (w 3)
    (r.1, r.2.fabSts)
  else if kind = 0x100 then d.updPrepare (w 0) (w 1)
  else if kind = 0x101 then d.updGo (w 0) (w 1)
  else if kind = 0x102 then d.updAbort (w 0)
  else if kind = 0x103 then d.updConfirm (w 0)
  else if kind = 0x200 then (0, d.calFollow (w 0) (w 1) (w 2) (w 3))
  else (0, d)

/-- Take a broadcast: once per ID, however often an epoch change sends it again (R431). -/
def Dev.bcastTake (d : Dev) (id kind : Nat) (ws : List Nat) : Dev :=
  let r : Nat × Dev := match d.fab.lastBcast with
    | some (i, x) => if i = id then (x, d) else d.bcastApply id kind ws
    | none => d.bcastApply id kind ws
  ({ r.2 with fab := { r.2.fab with lastBcast := some (id, r.1) } }).gatherMe 2 id r.1

/-! ### Snapshots of fabric volumes (R431, R432) -/

/-- SNAP_PREPARE here: the hold begins, unless the snapshot does not fit. -/
def Dev.snapPrepare (d : Dev) (k id reqId : Nat) : Dev :=
  match d.liveStore k with
  | none => d.gatherMe 3 id 1
  | some v =>
    if d.snapQuota v ≠ 0 then d.gatherMe 3 id 1
    else { d.holdStart k with fab := { d.fab with snapHold := some ⟨k, id, reqId, d.life.usUp, none⟩ } }

/-- The stripes that this device owns of a volume are complete. -/
def Dev.stripesDone (d : Dev) (k : Nat) : Bool := !d.fab.stripes.any (fun r => r.volume == k && !r.mirror && r.jseq != 0)

/-- A fabric snapshot goes on here as soon as it can: held, or marked (R432). -/
def Dev.snapTick (d : Dev) : Dev :=
  match d.fab.snapHold with
  | none => d
  | some h => match d.store h.volume with
    | none => d
    | some v =>
      if !d.snapReady v then d
      else match h.commit with
        | none => if d.stripesDone h.volume && d.owes 3 h.id then d.gatherMe 3 h.id 0 else d
        | some cal => if d.owes 4 h.id then (d.snapMark h.volume h.id cal h.reqId 0 h.startUs).gatherMe 4 h.id 0 else d

/-- The hold of a fabric snapshot ends here. -/
def Dev.snapRelease (d : Dev) : Dev :=
  match d.fab.snapHold with
  | none => d
  | some h => (({ d with fab := { d.fab with snapHold := none } }).holdEnd h.volume).fabKick

/-- The ingress learns how its SNAP_CREATE ended. -/
def Dev.snapEnd (d : Dev) (q tag status detail id : Nat) : Dev :=
  match d.flight q tag with
  | some f =>
    if f.cmd.opcode = 0x30 ∧ f.stage = .xfer then
      (if status = 0 then d.postOk f id else d.post f status 0 detail 0 0 f.cmd.addr 0)
    else d
  | none => d

/-- The head answers the ingress. -/
def Dev.snapReply (d : Dev) (o : GlobalOp) (status detail id : Nat) : Dev :=
  let w (i : Nat) : Nat := wordAt o.body i
  if w 3 = d.fabId then d.snapEnd (w 4) (w 5) status detail id
  else d.send 0x17 (w 3) [id, status, detail, w 4, w 5] false

/-! ### The head's operations (R429 to R434, R541, R542) -/

/-- An operation that OP_CMD asked for ends: OP_STS, OP_TIME, OP_DONE. -/
def Dev.hostOpEnd (d : Dev) (result ns : Nat) : Dev :=
  ((d.setRegN .FAB 0 Reg.FAB_OP_STS (result * 2)).setRegN .FAB 0 Reg.FAB_OP_TIME (min 0xffffffff ns)).setIrq .FAB 0 3

/-- The operation in progress ends. -/
def Dev.opEnd (d : Dev) (o : GlobalOp) (result : Nat) : Dev :=
  let d := { d with fab := { d.fab with op := none } }
  if o.host then d.hostOpEnd result (d.fabNow - o.startNs) else d

/-- Run an operation, or let it wait for the one in progress. -/
def Dev.opSet (d : Dev) (o : GlobalOp) : Dev := { d with fab := { d.fab with op := some o } }

/-- Send a broadcast operation and take it here. -/
def Dev.opBcast (d : Dev) (o : GlobalOp) : Dev :=
  let kind := wordAt o.body 0
  ((d.gatherBegin 2 o.id).down 0x12 ([o.id] ++ o.body) (decide (kind < 2))).bcastTake o.id kind (o.body.drop 1)

/-- Next ID of an operation. -/
def Dev.opId (d : Dev) : Nat × Dev := (d.fab.nextOp, { d with fab := { d.fab with nextOp := d.fab.nextOp + 1 } })

/-- A snapshot's checks at the head, then its PREPARE (R432). BODY: volume, request ID, tint, ingress, queue, tag, tries, stage, ID. -/
def Dev.snapBegin (d : Dev) (o : GlobalOp) : Dev :=
  let w (i : Nat) : Nat := wordAt o.body i
  match d.liveStore (w 0) with
  | none => (d.snapReply o St.notFound 0 0).opEnd o 0
  | some v =>
    if !v.setIds.all (fun n => d.memberState n == 2) then (d.snapReply o St.fenced 2 0).opEnd o 0
    else if d.reshaping (w 0) then (d.snapReply o St.accessDenied 0x20 0).opEnd o 0
    else match v.newestSnap.bind (fun s => if s.reqId = w 1 then some s.id else none) with
      | some id => (d.snapReply o 0 0 id).opEnd o 0
      | none =>
        if d.snapQuota v ≠ 0 then (d.snapReply o St.quota (d.snapQuota v) 0).opEnd o 0
        else
          let id := v.snapNewest + 1
          let o := { o with id := id, awaiting := 1, body := o.body.take 7 ++ [0, id] }
          (((d.opSet o).gatherBegin 3 id).down 0x14 [w 0, id, w 1] false).snapPrepare (w 0) id (w 1)

/-- Begin an operation. -/
def Dev.opBegin (d : Dev) (o : GlobalOp) : Dev :=
  let n := d.opId
  let o := { o with id := n.1, startNs := d.fabNow, awaiting := 1, count := 0, result := 0 }
  match o.kind with
  | 1 => (((n.2.opSet o).gatherBegin 1 o.id).down 0x10 [o.id, 0] false).gatherMe 1 o.id 0
  | 4 => (n.2.opSet o).snapBegin o
  | 5 =>
    let d := ((n.2.opSet o).gatherBegin 5 o.id).down 0x28 [o.id] false
    ({ d.flushNow with fab := { d.flushNow.fab with resetUs := d.life.usUp } }).gatherMe 5 o.id 0
  | _ => (n.2.opSet o).opBcast o

/-- End of a request of UPD.REQ (R550). -/
def Dev.reqEnd (d : Dev) (result detail : Nat) : Dev :=
  (d.setRegN .UPD 0 Reg.UPD_REQ_STS (result * 2 + detail * 256)).setIrq .UPD 0 3

/-- UPD.REQ runs. -/
def Dev.reqBusy (d : Dev) : Bool := d.regB .UPD 0 Reg.UPD_REQ_STS 0

/-- End the request that runs, if one does. -/
def Dev.reqOver (d : Dev) (result : Nat) : Dev := if d.reqBusy then d.reqEnd result 0 else d

/-- A provisioning command of the head's VOL page ends when its broadcast has: what still waits for commands here ends later (R336). -/
def Dev.provOpEnd (d : Dev) (k result : Nat) : Dev :=
  let waits : Bool := match d.store k with
    | some v => v.deleting || v.oldBands != 0
    | none => false
  if result = 0 ∧ waits then d else d.provEnd 0 result

/-- The answers to a record broadcast are in: done, or undone everywhere (R419, R443). BODY: 1, operation, handle, image, set, the old
image, the result that an undo ends with. -/
def Dev.recordDone (d : Dev) (o : GlobalOp) : Dev :=
  let w (i : Nat) : Nat := wordAt o.body i
  let undo (op img : Nat) : Dev := (d.opEnd o 0).opBegin { o with body := [1, op, w 2, img, w 4, 0, o.result] }
  match w 1 with
  | 1 => if o.result = 0 then (d.opEnd o 0).provOpEnd (w 2) 0 else undo 4 (w 3)
  | 2 => (d.opEnd o 0).provOpEnd (w 2) o.result
  | 3 => if o.result = 0 then (d.opEnd o 0).provOpEnd (w 2) 0 else undo 6 (w 5)
  | 4 => (d.opEnd o 0).provEnd 0 (w 6)
  | 6 => (d.opEnd o 0).provEnd 0 (w 6)
  | 7 =>
    if o.result = 0 then d.opEnd o 0 else undo 9 0
  | 8 =>
    ((d.opEnd o 0).setRegF .FAB 0 Reg.FAB_RSHP_CTL 20 1 0).setIrq .FAB 0 4
  | 9 => ((d.opEnd o 0).setRegF .FAB 0 Reg.FAB_RSHP_CTL 20 1 0).raiseErr .FAB 0 4 noDetail
  | _ => d.opEnd o 0

/-- Time of activation (R542): issue + 2 · D_live · t_hop + FLUSH_US + 1,000 µs. -/
def Dev.goTime (d : Dev) : Nat := d.fabNow + 2 * d.dLive * 150 + d.flushUs * 1000 + 1000000

/-- The answers to an update broadcast are in (R541, R542). BODY: KIND, PKG_ID, field. -/
def Dev.updDone (d : Dev) (o : GlobalOp) : Dev :=
  let w (i : Nat) : Nat := wordAt o.body i
  if w 0 = 0x100 then
    let d := { d.opEnd o 0 with upd := { d.upd with prepare := none } }
    if o.result = 0 then d.opBegin { o with body := [0x101, w 1, d.goTime] }
    else (d.reqOver 8).opBegin { o with body := [0x102, w 1] }
  else (d.opEnd o 0).reqOver 0

/-- RESET_AT (R434): T_RESET is fabric time plus 2 · D_live · t_hop + 10 µs. -/
def Dev.resetDone (d : Dev) (o : GlobalOp) : Dev :=
  let t := d.fabNow + 2 * d.dLive * 150 + 10000
  let d := (d.opEnd o 0).down 0x2a [o.id, t] false
  { d with fab := { d.fab with resetAt := some t } }

/-- A phase of a snapshot is over: commit, end, or give up (R432). -/
def Dev.snapPhase (d : Dev) (o : GlobalOp) : Dev :=
  let w (i : Nat) : Nat := wordAt o.body i
  if w 7 = 0 ∧ o.result ≠ 0 then
    (((d.down 0x18 [w 0, w 8] false).snapRelease).snapReply o St.quota 3 0).opEnd o 0
  else if w 7 = 0 then
    let cal := if d.bak.valid then d.bak.sec else 0
    let o := { o with awaiting := 1, count := 0, result := 0, body := o.body.take 7 ++ [1, w 8] }
    let d := ((d.opSet o).gatherBegin 4 (w 8)).down 0x16 [w 0, w 8, cal] false
    { d with fab := { d.fab with snapHold := d.fab.snapHold.map (fun h => { h with commit := some cal }) } }
  else (((d.down 0x17 [w 8, o.count, 0] false).snapRelease).snapReply o 0 0 (w 8)).opEnd o 0

/-- The answers to the operation in progress are in. -/
def Dev.opFinish (d : Dev) (o : GlobalOp) : Dev :=
  match o.kind with
  | 1 => (d.down 0x11 [o.id] false).opEnd o 0
  | 4 => d.snapPhase o
  | 5 => d.resetDone o
  | 6 => d.recordDone o
  | 7 => d.updDone o
  | _ => d.opEnd o 0

/-- Let the head's operations go on until one waits for answers. -/
def Dev.opsOn : Nat → Dev → Dev
  | 0, d => d
  | n + 1, d =>
    let d := d.snapTick
    match d.fab.op, d.fab.waiting with
    | some o, _ => if o.awaiting = 0 then Dev.opsOn n (d.opFinish o) else d
    | none, [] => d
    | none, o :: os => Dev.opsOn n (({ d with fab := { d.fab with waiting := os } }).opBegin o)

/-- Ask for an operation: it runs after those asked before (R429). -/
def Dev.opAsk (d : Dev) (kind : Nat) (body : List Nat) (host : Bool) : Dev :=
  { d with fab := { d.fab with waiting := d.fab.waiting ++ [GlobalOp.mk kind 0 body 1 0 0 0 host] } }

/-- Run a command that may move global operations, with the work that follows. -/
def runFab (f : Dev → Dev) (s : State) : Host.Outcome State Fault Refusal := runCmd (fun d => (Dev.opsOn 64 (f d)).holdsFinish.trialOk) s

end Sys2Proof.Machine
end

