-- ==== Sys2Proof/Machine/Membership.lean ====
section
/-! DEFINITION. Filush links, authentication, the member table, fencing and rejoining
(spec/12_filush_fabric.md R398 to R414, R427, R431, R436 to R442). -/
namespace Sys2Proof.Machine
open Sys2Proof

/-! ### What a new table brings -/

/-- A reshape's cause to pause holds: a member of either set not ACTIVE, PAUSE, or no space (R445). -/
def Dev.rshpHeld (d : Dev) (r : Reshape) : Bool :=
  let set (k : Nat) : List Nat := ((d.store k).map Store.setIds).getD []
  d.regB .FAB 0 Reg.FAB_RSHP_CTL 21 || r.space ||
    (set r.volume ++ bitList r.newSet 64).any (fun n => n != d.fabId && d.memberState n != 2)

/-- RSHP_STS follows the causes (R445). -/
def Dev.rshpCheck (d : Dev) : Dev :=
  match d.fab.reshape with
  | none => d
  | some r => (d.setRegF .FAB 0 Reg.FAB_RSHP_STS 1 1 (b2n (d.rshpHeld r))).setRegF .FAB 0 Reg.FAB_RSHP_STS 2 1 (b2n r.space)

/-- The buddy completes the open records of an owner that is away, as acting owner (R427, R428): their shards are sent again from the
mirrored sectors. -/
def Dev.takeOver (d : Dev) : Dev :=
  (d.fab.stripes.filter (fun r => r.mirror && (d.memberState r.owner == 3 || d.memberState r.owner == 4))).foldl (fun d r =>
    match d.store r.volume with
    | none => d
    | some v =>
      if d.acting v r.stripe ≠ some d.fabId then d
      else
        let r' := { r with mirror := false, acting := true, acked := false, built := false, jseq := 0, ingress := d.fabId, xid := 0, old := [] }
        let d := d.setStripe r none
        let d := { d with fab := { d.fab with
          stripes := d.fab.stripes ++ [r'], closed := d.fab.closed ++ [(r.owner, r.volume, r.stripe)] } }
        if (d.openRecord r.volume r.stripe).isSome then d
        else (d.stripeStart r').mapOpen r.volume r.stripe (fun y => { y with pending := r.pending })) d

/-- Tell an owner that is back which of its records this device has closed with ACTING (R427). -/
def Dev.tellClosed (d : Dev) (n : Nat) : Dev :=
  let mine := d.fab.closed.filter (fun c => c.1 == n)
  let d := { d with fab := { d.fab with closed := d.fab.closed.filter (fun c => c.1 != n) } }
  mine.foldl (fun d c => d.send 0x36 n [0x32, 3, c.2.1, c.2.2, 0, 0, n, d.fabId, 0, 0, 0] false) d

/-- Shard bands to rebuild for a member that rejoins: those of its INTENT entries here, or every one of a FULL member (R439). -/
def Dev.missed (d : Dev) (n : Nat) : List Nat :=
  if ((mget d.fab.members n).map (fun (m : Member) => m.full)).getD false then
    d.stores.flatMap (fun (e : Nat × Store) => if e.2.fabric && e.2.setIds.contains n then
      (List.range e.2.shardBands).map (fun b => e.1 * 2 ^ 24 + b) else [])
  else (d.fab.intents.filter (fun e => e.1 == n)).map (fun e => e.2)

/-- A member is JOINING: records are settled and its resynchronisation begins (R427, R439). -/
def Dev.rejoined (d : Dev) (n : Nat) : Dev :=
  let d := d.tellClosed n
  if n = d.fabId then d
  else { d with fab := { d.fab with resync := mput d.fab.resync n (d.missed n) } }

/-- A member is ACTIVE: its INTENT entries and its FULL mark go (R439). -/
def Dev.caughtUp (d : Dev) (n : Nat) : Dev :=
  { d with fab := { d.fab with
      intents := d.fab.intents.filter (fun e => e.1 != n)
      resync := mdel d.fab.resync n
      members := d.fab.members.map (fun (e : Nat × Member) => if e.1 = n then (e.1, { e.2 with full := false }) else e) } }

/-- MEMBER state of a FAB_ID in a table. -/
def stateIn (t : List (Nat × Member)) (n : Nat) : Nat := ((mget t n).map (fun (m : Member) => m.state)).getD 0

/-- What follows when the member table has changed from `old` (R408, R410, R414, R427, R439). -/
def Dev.tableApplied (old : List (Nat × Member)) (d : Dev) : Dev :=
  let d := d.routes.fabSts
  let moved := (List.range 64).filter (fun n => d.memberState n != stateIn old n)
  let d := if moved.isEmpty then d else d.setIrq .FAB 0 0
  let d := d.takeOver
  let d := (moved.filter (fun n => d.memberState n == 1)).foldl Dev.rejoined d
  let d := (moved.filter (fun n => d.memberState n == 2)).foldl (fun d n => (d.tellClosed n).caughtUp n) d
  let d := (moved.filter (fun n => decide (3 ≤ d.memberState n))).foldl (fun d n => { d with fab := { d.fab with resync := mdel d.fab.resync n } }) d
  d.rshpCheck.fabKick.pkgSet

/-- Gathers under a new epoch: only a fabric reset goes on, with the children still reachable (R431). -/
def Dev.gathersEpoch (d : Dev) : Dev :=
  let kept := d.fab.gathers.filter (fun g => g.kind == 5)
  let d := { d with fab := { d.fab with gathers := [] } }
  kept.foldl (fun d g => d.gatherPut { g with children := g.children.filter (fun n => n == d.fabId || d.reaches n) }) d

/-- The operation in progress when EPOCH changes (R431). -/
def Dev.opsRestart (d : Dev) : Dev :=
  let d := d.gathersEpoch
  match d.fab.op with
  | none => d
  | some o =>
    let w (i : Nat) : Nat := wordAt o.body i
    let again := { o with awaiting := 1, count := 0, result := 0 }
    match o.kind with
    | 1 => (((d.opSet again).gatherBegin 1 o.id).down 0x10 [o.id, 0] false).gatherMe 1 o.id 0
    | 4 =>
      let d := (d.down 0x18 [w 0, w 8] false).snapRelease
      if w 6 = 0 then d.snapBegin { again with body := o.body.take 6 ++ [1, 0, 0] }
      else (d.snapReply o St.fenced 2 0).opEnd o 1
    | 5 => d
    | _ => (d.opSet again).opBcast again

/-- The table as MEMBER_UPDATE carries it: state and links of each FAB_ID (R417). -/
def Dev.tableWords (d : Dev) : List Nat :=
  (List.range 64).map (fun n => d.memberState n + 8 * ((mget d.fab.members n).map (fun (m : Member) => m.links)).getD 0)

/-- Send the table down the tree, and to the members that it does not reach: those listed FENCED or FAILED. -/
def Dev.tellTable (d : Dev) : Dev :=
  (d.fab.members.filter (fun (e : Nat × Member) => decide (3 ≤ e.2.state))).foldl (fun d e => d.send 0x05 e.1 d.tableWords false)
    (d.down 0x05 d.tableWords false)

/-- The head puts its changed table in force: EPOCH advances, the table goes out, operations are settled (R410, R431). -/
def Dev.newEpoch (old : List (Nat × Member)) (d : Dev) : Dev :=
  ((d.incWrap .FAB 0 Reg.FAB_EPOCH 1).tableApplied old).tellTable.opsRestart

/-- The head changes an entry of its table in a new epoch. -/
def Dev.setMember (d : Dev) (n : Nat) (m : Member) : Dev :=
  ({ d with fab := { d.fab with members := mput d.fab.members n m } }).newEpoch d.fab.members

/-- The head lists a member in a state. -/
def Dev.listMember (d : Dev) (n st : Nat) : Dev :=
  match mget d.fab.members n with
  | none => d
  | some m => d.setMember n { m with state := st }

/-- A member's resynchronisation has nothing left: ACTIVE (R439). -/
def Dev.joinDone (d : Dev) (n : Nat) : Dev :=
  if d.isHead ∧ d.memberState n = 1 ∧ mget d.fab.resync n = some [] then (d.listMember n 2).setIrq .FAB 0 2 else d

/-! ### Links (R400 to R402, R407) -/

/-- What a link keeps beside FL_STS. -/
def Dev.flLink (d : Dev) (n : Nat) : FlLink := (mget d.fab.links n).getD ⟨0, [], [], none⟩

/-- Change what a link keeps. -/
def Dev.mapLink (d : Dev) (n : Nat) (f : FlLink → FlLink) : Dev :=
  { d with fab := { d.fab with links := mput d.fab.links n (f (d.flLink n)) } }

/-- Time since a link's last state change has reached `us`. -/
def Dev.linkWaited (d : Dev) (n us : Nat) : Bool := decide (us ≤ d.life.usUp - (d.flLink n).sinceUs)

/-- FL.FORCE.LINK_LOSS is set. -/
def Dev.linkForced (d : Dev) (n : Nat) : Bool := d.regB .FL n Reg.FORCE 0

/-- The link map of this device has changed: the head's own entry moves, another member reports LINK_STATE (R408, R417). -/
def Dev.linkChanged (d : Dev) : Dev :=
  let mask := d.upMask d.fabId
  let peer (n : Nat) : Nat := if d.linkState n = 5 then ((d.flLink n).partner.map (fun p => p.2)).getD 255 else 255
  if d.fabState = 0 then d
  else if d.isHead then
    (match mget d.fab.members 0 with
      | none => d
      | some m => if m.links = mask then d else d.setMember 0 { m with links := mask })
  else
    let d := d.routes
    if d.fabState = 2 ∨ d.fabState = 3 then d.send 0x07 0 (mask :: (List.range 6).map peer) false else d

/-- A member without a place asks the head for one as soon as a link is UP (R409 step 1). -/
def Dev.seek (d : Dev) : Dev :=
  if d.fabState = 1 ∧ d.upMask d.fabId ≠ 0 then d.send 0x02 0 [d.serial, d.fabId, d.regN .SX 0 Reg.SX_MORDANT_VER] false else d

/-- Send HELLO on a link (R407). -/
def Dev.sayHello (d : Dev) (n : Nat) : Dev :=
  let s := d.sides
  let c := d.coords
  d.send 0x01 255 [d.serial, d.fabId, c.1, c.2.1, c.2.2, d.topo, s.1, s.2.1, s.2.2, n, b2n d.life.strapHead, 1,
    d.regN .SX 0 Reg.SX_MORDANT_VER] false

/-- An UP link goes DOWN, or FAILED at the third entry within 1 s (R400). -/
def Dev.linkDrop (d : Dev) (n : Nat) : Dev :=
  if d.linkState n ≠ 5 then d
  else
    let downs := d.life.usUp :: (d.flLink n).downs.filter (fun t => decide (d.life.usUp - t < 1000000))
    let third := decide (3 ≤ downs.length)
    let d := (d.incSat .FL n Reg.FL_DOWN_CNT 1).setRegF .FL n Reg.FL_FL_STS 3 4 0
    let d := (d.setLink n (if third then 7 else 6)).mapLink n (fun l => { l with downs := downs, replays := [] })
    let d := if third then d.raiseErr .FL n 2 noDetail else d
    (d.setIrq .FL n 1).linkChanged

/-- A link comes UP; a forced loss takes it down at once (R402). -/
def Dev.linkRise (d : Dev) (n : Nat) : Dev :=
  let d := (((d.setLink n 5).setIrq .FL n 0).linkChanged).seek
  if d.linkForced n then d.linkDrop n else d

/-- Whether a link's page lets it move and the device runs. -/
def Dev.linkLive (d : Dev) (n : Nat) : Bool := decide (n < 6) && liveMode d.life.mode

/-- FL_DETECT_TIMEOUT: no partner termination within 100 µs. -/
def execFlDetectTimeout (n : Nat) (s : State) : Host.Outcome State Fault Refusal :=
  runFab (fun d => if d.linkLive n ∧ d.linkState n = 1 ∧ d.linkWaited n 100 then d.setLink n 2 else d) s

/-- FL_PROBE: every 10 ms an ABSENT link probes. -/
def execFlProbe (n : Nat) (found : Bool) (s : State) : Host.Outcome State Fault Refusal :=
  runFab (fun d => if d.linkLive n ∧ d.linkState n = 2 ∧ d.linkWaited n 10000 then d.setLink n (if found then 3 else 2) else d) s

/-- PARTNER_TERMINATION_FOUND in DETECT. -/
def execPartnerTerminationFound (n : Nat) (s : State) : Host.Outcome State Fault Refusal :=
  runFab (fun d => if d.linkLive n ∧ d.linkState n = 1 then d.setLink n 3 else d) s

/-- FL_TRAINED: x8, or x4 where X4_OK allows, then HELLO; a DOWN link that is not held there retrains and compares identities again. -/
def Dev.flTrained (n width : Nat) (d : Dev) : Dev :=
  let fits : Bool := width == 8 || (width == 4 && d.regB .FL n Reg.FL_FL_CFG 1)
  if !d.linkLive n ∨ !fits then d
  else if d.linkState n = 3 then (((d.setLink n 4).setRegF .FL n Reg.FL_FL_STS 3 4 width)).sayHello n
  else if d.linkState n = 6 ∧ !d.linkForced n then (d.setRegF .FL n Reg.FL_FL_STS 3 4 width).sayHello n
  else d

/-- FL_TRAINED. -/
def execFlTrained (n width : Nat) (s : State) : Host.Outcome State Fault Refusal := runFab (Dev.flTrained n width) s

/-- FL_TRAIN_TIMEOUT: not trained within 2 ms. -/
def execFlTrainTimeout (n : Nat) (s : State) : Host.Outcome State Fault Refusal :=
  runFab (fun d => if d.linkLive n ∧ d.linkState n = 3 ∧ d.linkWaited n 2000 then d.setLink n 1 else d) s

/-- ERR_MAX as it acts. -/
def Dev.errMax (d : Dev) (n : Nat) : Nat := max 1 (d.regF .FL n Reg.FL_FL_CFG 8 8)

/-- FL_LINK_DOWN: no acknowledgement progress for 10 µs. Too many replays and LINK_LOSS act where they arise, by the same step. -/
def execFlLinkDown (n : Nat) (s : State) : Host.Outcome State Fault Refusal :=
  runFab (fun d => if d.linkLive n then d.linkDrop n else d) s

/-- FLIT_CRC_FAIL: counted, and replayed; ERR_MAX replays within 1 ms are a burst, and more take the link DOWN (R398, R400). -/
def Dev.flitCrc (n : Nat) (d : Dev) : Dev :=
  if !d.linkLive n ∨ !(d.linkState n = 4 ∨ d.linkState n = 5) then d
  else
    let recent := d.life.usUp :: (d.flLink n).replays.filter (fun t => decide (d.life.usUp - t < 1000))
    let d := (d.incSat .FL n Reg.FL_CRC_ERR 1).incSat .FL n Reg.FL_REPLAY 1
    let d := d.mapLink n (fun l => { l with replays := recent })
    let d := if recent.length = d.errMax n then d.raiseErr .FL n 0 noDetail else d
    if d.errMax n < recent.length then d.linkDrop n else d

/-- FLIT_CRC_FAIL. -/
def execFlitCrcFail (n : Nat) (s : State) : Host.Outcome State Fault Refusal := runFab (Dev.flitCrc n) s

/-- FL_TERMINATION_LOST: the partner withdraws termination. -/
def execFlTerminationLost (n : Nat) (s : State) : Host.Outcome State Fault Refusal :=
  runFab (fun d => if !d.linkLive n ∨ !(d.linkState n = 5 ∨ d.linkState n = 6) then d
    else
      let up := d.linkState n == 5
      let d := (d.setLink n 2).setRegF .FL n Reg.FL_FL_STS 3 4 0
      (if up then d.setIrq .FL n 1 else d).linkChanged) s

/-- FL_RETRAIN: a write of FL_CFG.RETRAIN takes an UP link DOWN. -/
def execFlRetrain (req : Requester) (n : Nat) (s : State) : Host.Outcome State Fault Refusal :=
  runFab (fun d => if 6 ≤ n then d else d.regWrite req .FL n Reg.FL_FL_CFG (fun d => d.linkDrop n)) s

/-- FORCE_LINK_LOSS: set, the link goes DOWN and stays there; clear, it retrains from DOWN (R402). -/
def Dev.forceLoss (n : Nat) (on : Bool) (d : Dev) : Dev :=
  let d := d.setRegF .FL n Reg.FORCE 0 1 (b2n on)
  if on then d.linkDrop n else d

/-- FORCE_LINK_LOSS. -/
def execForceLinkLoss (req : Requester) (n : Nat) (on : Bool) (s : State) : Host.Outcome State Fault Refusal :=
  runFab (fun d => if 6 ≤ n then d else d.forceWrite req .FL n (Dev.forceLoss n on)) s

/-- HELLO agrees with what R404 predicts for link `n`. -/
def Dev.helloFits (d : Dev) (n : Nat) (x : HelloId) : Bool :=
  let nb := d.neighbour d.fabId n
  x.fabId == nb && (x.x, x.y, x.z) == coordsOf d.sides nb && x.topo == d.topo && (x.dimX, x.dimY, x.dimZ) == d.sides &&
    x.link == (if n % 2 = 0 then n + 1 else n - 1) && x.head == (nb == 0) && x.proto == 1

/-- Keep the Mordant version that a HELLO or AUTH_HELLO carried, which the DDT's MEMBER entry shows (R71, R417). -/
def Dev.noteVersion (d : Dev) (id ver : Nat) : Dev :=
  { d with fab := { d.fab with versions := mput d.fab.versions id (ver % 2 ^ 32) } }

/-- Keep the identity of a partner whose HELLO matched: its version, and the head's SERIAL (R71). -/
def Dev.notePartner (d : Dev) (x : HelloId) : Dev :=
  let d := d.noteVersion x.fabId x.mordantVer
  if x.fabId = 0 then { d with fab := { d.fab with headSerial := x.serial } } else d

/-- PEER and PEER_SERIAL show what HELLO said. -/
def Dev.showPeer (d : Dev) (n : Nat) (x : HelloId) : Dev :=
  let v := x.fabId % 64 + 64 + x.link % 8 * 2 ^ 8 + x.x % 16 * 2 ^ 12 + x.y % 16 * 2 ^ 16 + x.z % 16 * 2 ^ 20
  (d.setRegN .FL n Reg.FL_PEER v).setReg64 .FL n Reg.FL_PEER_SERIAL x.serial

/-- HELLO: the identity matches the wiring, and in DOWN is the one known, or the link fails (R400, R407). -/
def Dev.hello (h : MsgHdr) (x : HelloId) (d : Dev) : Dev :=
  let n := h.link
  d.rx 0x01 h (fun d =>
    if d.linkState n = 6 ∧ d.regF .FL n Reg.FL_FL_STS 3 4 = 0 then d
    else
      let known := (d.flLink n).partner
      let down := d.linkState n == 6
      let d := d.showPeer n x
      if down then
        (if d.helloFits n x ∧ known = some (x.serial, x.fabId) then (d.notePartner x).linkRise n
         else ((d.setLink n 7).setRegF .FL n Reg.FL_FL_STS 3 4 0).raiseErr .FL n 2 noDetail)
      else if d.helloFits n x then ((d.mapLink n (fun l => { l with partner := some (x.serial, x.fabId) })).notePartner x).linkRise n
      else ((d.setLink n 7).setRegF .FL n Reg.FL_FL_STS 3 4 0).raiseErr .FL n 1 noDetail)

/-- HELLO. -/
def execHello (h : MsgHdr) (x : HelloId) (s : State) : Host.Outcome State Fault Refusal := runFab (Dev.hello h x) s

/-- LINK_STATE at the head: the links of a member's entry. -/
def Dev.linkState_ (h : MsgHdr) (mask : Nat) (d : Dev) : Dev :=
  d.rx 0x07 h (fun d => if !d.isHead then d
    else match mget d.fab.members h.src with
      | none => d
      | some m => if m.links = mask % 64 ∨ h.src = 0 then d else d.setMember h.src { m with links := mask % 64 })

/-- LINK_STATE. -/
def execLinkState (h : MsgHdr) (mask : Nat) (s : State) : Host.Outcome State Fault Refusal := runFab (Dev.linkState_ h mask) s

/-! ### Authentication (R409, R410, R441) -/

/-- A free number below 2^256, as a nonce: its place among the free values, and the device that took it. -/
def Dev.freshNonce (d : Dev) : Nat × Dev := d.takeFree

/-- AUTH_HELLO at the head, with the member's Mordant version: a challenge with a nonce of its own, for a member that is not listed JOINING or
ACTIVE. -/
def Dev.authHello (d : Dev) (src ver : Nat) : Dev :=
  if !d.isHead ∨ src = 0 ∨ d.places ≤ src ∨ d.carries src then d
  else
    let n := d.freshNonce
    let m := (mget n.2.fab.members src).getD ⟨0, 0, 0, false, 0, none⟩
    let d := { n.2 with fab := { n.2.fab with members := mput n.2.fab.members src { m with nonce := some n.1 } } }
    (d.noteVersion src ver).send 0x03 src [Config.freeNat n.1 % 2 ^ 256] false

/-- The signed answer of R409: an own nonce, signature and certificate, which Mordant makes: free values. -/
def Dev.sayResponse (d : Dev) (dst : Nat) : Dev :=
  let n := d.free
  let d := { d with free := n + 4 }
  let d := { d with fab := { d.fab with nonce := some n } }
  let len := Config.freeNat (n + 2) % 1025
  d.send 0x04 dst [Config.freeNat n % 2 ^ 256, Config.freeNat (n + 1) % 2 ^ 768, len, Config.freeNat (n + 3) % 256 ^ len] false

/-- The head lists a member that failed its authentication FAILED (R410). -/
def Dev.authFailed (d : Dev) (n : Nat) : Dev :=
  if d.memberState n = 0 ∨ d.memberState n = 3 then d.listMember n 4 else d

/-- The head adds a member that passed as JOINING (R409 steps 4 and 6, R410, R441): another SERIAL at a FENCED or FAILED place is a
replacement, which is resynchronised whole. -/
def Dev.authPassed (d : Dev) (n serial : Nat) (m : Member) : Dev :=
  let other := decide (3 ≤ m.state) && m.serial != serial
  if m.state = 4 ∧ !other then d
  else
    let d := if other then d.noteBy 1 1 .FAB (some n) none else d
    let d := d.sayResponse n
    (d.setMember n { m with state := 1, serial := serial, full := m.full || other, hbUs := d.life.usUp }).joinDone n

/-- AUTH_RESPONSE: `ok` says that certificate and signature check, over the nonces of this exchange. At the head the member passes or
fails; at the member a failed check keeps it SEEKING (R409 steps 4 and 5). -/
def Dev.authResponse (d : Dev) (src serial proto : Nat) (ok : Bool) : Dev :=
  if d.isHead then
    match mget d.fab.members src with
    | none => d
    | some m =>
      if m.nonce.isNone ∨ d.carries src then d
      else
        let m := { m with nonce := none }
        let d := { d with fab := { d.fab with members := mput d.fab.members src m } }
        if ok ∧ proto = 1 then d.authPassed src serial m else d.authFailed src
  else if d.fab.nonce.isNone then d
  else
    let d := { d with fab := { d.fab with nonce := none } }
    if ok then d else d.raiseErr .FAB 0 2 noDetail

/-- Mordant acts on an authentication message: AUTH_HELLO, whose `serial` is the MORDANT_VER that it carries, AUTH_CHALLENGE at a member without a
place, AUTH_RESPONSE (R409). -/
def Dev.authAct (d : Dev) (ty src serial proto : Nat) (ok : Bool) : Dev := match ty with
  | 2 => d.authHello src serial
  | 3 => if d.fabState = 1 ∧ src = 0 then d.sayResponse 0 else d
  | _ => d.authResponse src serial proto ok

/-- An authentication message arrives: handled, or waiting while the secure pair is halted (R650). -/
def Dev.authMsg (ty : Nat) (h : MsgHdr) (serial proto : Nat) (ok : Bool) (d : Dev) : Dev :=
  d.rx ty h (fun d =>
    if d.sxHalted then { d with dbg := { d.dbg with sxWait := d.dbg.sxWait ++ [SxWait.auth ty h.src serial proto ok] } }
    else d.authAct ty h.src serial proto ok)

/-- AUTH_HELLO. -/
def execAuthHello (ask : AuthAsk) (s : State) : Host.Outcome State Fault Refusal := runFab (Dev.authMsg 2 ask.hdr ask.ver 0 true) s

/-- AUTH_CHALLENGE. -/
def execAuthChallenge (h : MsgHdr) (s : State) : Host.Outcome State Fault Refusal := runFab (Dev.authMsg 3 h 0 0 true) s

/-- AUTH_RESPONSE. -/
def execAuthResponse (h : MsgHdr) (serial proto : Nat) (ok : Bool) (s : State) : Host.Outcome State Fault Refusal :=
  runFab (Dev.authMsg 4 h serial proto ok) s

/-! ### The member table and the device's own state (R410 to R413, R436, R439, R442) -/

/-- Take a fabric state. -/
def Dev.setFab (d : Dev) (st : Nat) : Dev := d.setRegF .FAB 0 Reg.FAB_FAB_STS 0 3 st

/-- A member fences (R436): its commands on fabric volumes are discarded with DISCARDED posted (R36, R37). -/
def Dev.fence (d : Dev) (lost : Bool) : Dev :=
  let d := (d.setFab 4).setIrq .FAB 0 1
  let d := if lost then d.raiseErr .FAB 0 0 noDetail else d
  let mine := d.flights.filter (fun f => f.q != fabQ && ((f.key.bind d.store).map Store.fabric).getD false)
  let d := mine.foldl (fun d f => d.post f St.discarded 0 0 0 0 f.cmd.addr 0) d
  ({ d with fab := { d.fab with gathers := [], syncs := 0 } }).snapRelease.setRegF .FAB 0 Reg.FAB_TIME_STS 16 1 0

/-- Open records of this device go to their mirrors again, and are completed (R427). -/
def Dev.settleOwn (d : Dev) : Dev :=
  (d.fab.stripes.filter (fun r => !r.mirror && r.jseq != 0)).foldl (fun d r =>
    let r' := { r with acked := false, built := false, old := [] }
    (d.setStripe r (some r')).mirrorSend r' 0x30) d

/-- A REPORT to the head with the PKG_ID that runs here: OK, or FALLBACK where another bank than the recorded one booted (R536, R544). The
model's member reports whenever it reaches ACTIVE, and the head heeds it in a trial. -/
def Dev.sayReport (d : Dev) (status : Nat) : Dev := d.send 0x40 0 [2, status, 0, d.runPkg] false

/-- The member's own state after a table that lists it in `st` (R411). -/
def Dev.ownState (d : Dev) (st : Nat) : Dev :=
  if st = 4 then d.setFab 5
  else if d.fabState = 1 ∧ st = 1 then
    ({ d with fab := { d.fab with headHb := some d.life.usUp, syncs := 0 } }).setFab 2
  else if d.fabState = 2 ∧ st = 2 then ((d.setFab 3).settleOwn).sayReport (b2n (d.regB .SX 0 Reg.SX_BOOT_STS 15))
  else if (d.fabState = 2 ∨ d.fabState = 3) ∧ st = 3 then d.fence false
  else d

/-- A table entry as received: state and links. -/
def Member.heard (m : Option Member) (st links : Nat) : Member :=
  { m.getD ⟨0, 0, 0, false, 0, none⟩ with state := st, links := links }

/-- MEMBER_UPDATE: the table and the epoch of the head (R410, R411, R413). `entries` gives state and links by FAB_ID. -/
def Dev.memberUpdate (h : MsgHdr) (entries : List (Nat × Nat)) (d : Dev) : Dev :=
  if entries.length ≠ 64 ∨ entries.any (fun e => decide (4 < e.1 ∨ 64 ≤ e.2)) then
    d.rx 0x05 h (fun d => d.incSat .FL h.link Reg.FL_CRC_ERR 1)
  else d.rx 0x05 h (fun d =>
    if !d.isMember then d
    else
      let old := d.fab.members
      let new := entries.zipIdx.foldl (fun t (e : (Nat × Nat) × Nat) =>
        if e.1 = (0, 0) ∧ !mhas t e.2 then t else mput t e.2 (Member.heard (mget t e.2) e.1.1 e.1.2)) old
      let d := (({ d with fab := { d.fab with members := new } }).setRegN .FAB 0 Reg.FAB_EPOCH h.epoch).gathersEpoch
      let was := d.fabState
      let d := d.ownState (entries.getD d.fabId (0, 0)).1
      let d := (d.tableApplied old).down 0x05 d.tableWords false
      if was = 1 ∧ d.fabState = 2 then (d.settleOwn).linkChanged else d)

/-- MEMBER_UPDATE. -/
def execMemberUpdate (h : MsgHdr) (entries : List (Nat × Nat)) (s : State) : Host.Outcome State Fault Refusal :=
  runFab (Dev.memberUpdate h entries) s

/-- HB_US and LOSS_US as they act (R447). -/
def Dev.hbUs (d : Dev) : Nat := max 10 (min 1000 (d.regF .FAB 0 Reg.FAB_FAB_TIMING 0 16))
def Dev.lossUs (d : Dev) : Nat := max (10 * d.hbUs) (d.regF .FAB 0 Reg.FAB_FAB_TIMING 16 16)

/-- HEARTBEAT (R411, R413): the head notes the member; a member notes the head, and a fenced one seeks its place again. The head's own
goes on down the tree. -/
def Dev.heartbeat (h : MsgHdr) (time mode : Nat) (d : Dev) : Dev :=
  d.rx 0x06 h (fun d =>
    if d.isHead then
      { d with fab := { d.fab with
        members := d.fab.members.map (fun (e : Nat × Member) => if e.1 = h.src then (e.1, { e.2 with hbUs := d.life.usUp }) else e) } }
    else if h.src = 0 ∨ nbit h.flags 1 then
      let d := ({ d with fab := { d.fab with headHb := some d.life.usUp } }).down 0x06 [time, mode] false
      if d.fabState = 4 then (d.setFab 1).seek else d
    else d)

/-- HEARTBEAT. -/
def execHeartbeat (h : MsgHdr) (time mode : Nat) (s : State) : Host.Outcome State Fault Refusal := runFab (Dev.heartbeat h time mode) s

/-- HEARTBEAT_TIMER: HB_US has passed; the head sends down the tree and to fenced members, a member to the head (R413). -/
def Dev.heartbeatTimer (d : Dev) : Dev :=
  let body := [d.fabNow, modeCode d.life.mode]
  if d.fabState = 0 ∨ !liveMode d.life.mode ∨ d.life.usUp - d.fab.hbTx < d.hbUs then d
  else
    let d := { d with fab := { d.fab with hbTx := d.life.usUp } }
    if d.isHead then
      (d.fab.members.filter (fun (e : Nat × Member) => e.2.state == 3)).foldl (fun d e => d.send 0x06 e.1 body false) (d.down 0x06 body false)
    else if d.fabState = 2 ∨ d.fabState = 3 then d.send 0x06 0 body false
    else d

/-- HEARTBEAT_TIMER. -/
def execHeartbeatTimer (s : State) : Host.Outcome State Fault Refusal := runFab Dev.heartbeatTimer s

/-- HEARTBEAT_LOSS: nothing heard for LOSS_US from member `n` at the head, or from the head (R410, R411). -/
def Dev.heartbeatLoss (n : Nat) (d : Dev) : Dev :=
  let late (t : Nat) : Bool := decide (d.lossUs ≤ d.life.usUp - t)
  if !liveMode d.life.mode then d
  else if d.isHead then
    (match mget d.fab.members n with
      | none => d
      | some m => if n ≠ 0 ∧ (m.state = 1 ∨ m.state = 2) ∧ late m.hbUs then d.listMember n 3 else d)
  else if (d.fabState = 2 ∨ d.fabState = 3) ∧ late (d.fab.headHb.getD 0) then d.fence true
  else d

/-- HEARTBEAT_LOSS. -/
def execHeartbeatLoss (n : Nat) (s : State) : Host.Outcome State Fault Refusal := runFab (Dev.heartbeatLoss n) s

/-- REJOIN: FAB_CTL.REJOIN takes a FENCED member to SEEKING. -/
def Dev.rejoin (d : Dev) : Dev := if d.fabState = 4 then (d.setFab 1).seek else d

def execRejoin (req : Requester) (s : State) : Host.Outcome State Fault Refusal :=
  runFab (fun d => d.regWrite req .FAB 0 Reg.FAB_FAB_CTL Dev.rejoin) s

/-- FAB_CTL.EVICT on the head: EVICT_ID becomes FAILED, unless it is 0 or listed ABSENT (R410). -/
def Dev.evict (d : Dev) : Dev :=
  let n := d.regF .FAB 0 Reg.FAB_FAB_CTL 8 6
  if !d.isHead ∨ n = 0 ∨ d.memberState n = 0 ∨ d.memberState n = 4 then d else d.listMember n 4

/-- EVICT: a write of FAB_CTL with EVICT and EVICT_ID. -/
def execEvict (req : Requester) (id : Nat) (s : State) : Host.Outcome State Fault Refusal :=
  runFab (fun d => d.regWrite req .FAB 0 Reg.FAB_FAB_CTL (fun d => (d.setRegF .FAB 0 Reg.FAB_FAB_CTL 8 6 id).evict)) s

end Sys2Proof.Machine
end

