-- ==== Sys2Proof/Machine/Globals.lean ====
section
/-! DEFINITION. Barriers, broadcasts, fabric snapshots, fabric time and fabric resets as messages and host commands
(spec/12_filush_fabric.md R429 to R434, R447). -/
namespace Sys2Proof.Machine
open Sys2Proof

/-! ### Operations of the host at the head (R431, R447) -/

/-- A message came down the tree. -/
def goesDown (h : MsgHdr) : Bool := nbit h.flags 1

/-- A message gathers up the tree. -/
def goesUp (h : MsgHdr) : Bool := nbit h.flags 2

/-- A head's TIME_SYNC down the tree (R433). -/
def Dev.timeSyncOut (d : Dev) : Dev :=
  let n := d.fab.syncSeq + 1
  { d with fab := { d.fab with syncSeq := n, syncUs := d.life.usUp } }.down 0x20 [d.fabNow, 0, n] false

/-- A write of OP_CMD at the head, while no operation of the host runs: 1 barrier, 2 broadcast, 3 time synchronisation. The time that a
synchronisation takes is free within the bound of R430. -/
def Dev.opCmd (d : Dev) (op : Nat) : Dev :=
  if !d.isHead ∨ op = 0 ∨ 4 ≤ op ∨ d.regB .FAB 0 Reg.FAB_OP_STS 0 then d
  else if op = 3 then
    let n := d.takeFree
    (n.2.timeSyncOut).hostOpEnd 0 (Config.freeNat n.1 % ((d.dLive + 1) * 200 + 1))
  else (d.setRegN .FAB 0 Reg.FAB_OP_STS 1).opAsk op [0] true

/-- The write of OP_CMD by a requester. -/
def Dev.opWrite (req : Requester) (op : Nat) (d : Dev) : Dev := d.regWrite req .FAB 0 Reg.FAB_OP_CMD (fun d => d.opCmd op)

/-- BARRIER. -/
def execBarrier (req : Requester) (s : State) : Host.Outcome State Fault Refusal := runFab (Dev.opWrite req 1) s

/-- BROADCAST. -/
def execBroadcast (req : Requester) (s : State) : Host.Outcome State Fault Refusal := runFab (Dev.opWrite req 2) s

/-- IMMEDIATE_TIME_SYNC. -/
def execImmediateTimeSync (req : Requester) (s : State) : Host.Outcome State Fault Refusal := runFab (Dev.opWrite req 3) s

/-! ### Barriers and broadcasts (R429) -/

/-- BARRIER_ARRIVE: going down it announces a barrier, which this member joins at once; going up it gathers. -/
def Dev.barrierArrive (h : MsgHdr) (id count : Nat) (d : Dev) : Dev :=
  d.rx 0x10 h (fun d =>
    if goesUp h then d.gatherIn 1 id h.src count 0
    else if goesDown h ∧ d.isMember then ((d.gatherBegin 1 id).down 0x10 [id, 0] false).gatherMe 1 id 0
    else d)

/-- BARRIER_ARRIVE. -/
def execBarrierArrive (h : MsgHdr) (id count : Nat) (s : State) : Host.Outcome State Fault Refusal :=
  runFab (Dev.barrierArrive h id count) s

/-- BARRIER_RELEASE goes on down the tree. -/
def execBarrierRelease (h : MsgHdr) (id : Nat) (s : State) : Host.Outcome State Fault Refusal :=
  runFab (fun d => d.rx 0x11 h (fun d => if goesDown h ∧ d.isMember then d.down 0x11 [id] false else d)) s

/-- BCAST: down the tree it is forwarded and taken; up, it asks the head for a record broadcast (the model's own KIND 1). -/
def Dev.bcast (h : MsgHdr) (id kind : Nat) (words : List Nat) (d : Dev) : Dev :=
  d.rx 0x12 h (fun d =>
    if goesUp h then (if d.isHead ∧ kind = 1 then d.opAsk 6 (1 :: words) false else d)
    else if goesDown h ∧ d.isMember then
      ((d.gatherBegin 2 id).down 0x12 ([id, kind] ++ words) (decide (kind < 2))).bcastTake id kind words
    else d)

/-- BCAST. -/
def execBcast (h : MsgHdr) (id kind : Nat) (words : List Nat) (s : State) : Host.Outcome State Fault Refusal :=
  runFab (Dev.bcast h id kind words) s

/-- BCAST_ACK gathers. -/
def execBcastAck (h : MsgHdr) (id count result : Nat) (s : State) : Host.Outcome State Fault Refusal :=
  runFab (fun d => d.rx 0x13 h (fun d =>
    (d.answered (fun u => u.ty == 0x12 && u.dst == h.src)).gatherIn 2 id h.src count result)) s

/-! ### Snapshots of fabric volumes (R431, R432) -/

/-- SNAP_PREPARE: down the tree the hold begins here; up, it is an ingress's request to the head with its tint, queue and tag. -/
def Dev.snapPrepareIn (h : MsgHdr) (vol id reqId tint q tag : Nat) (d : Dev) : Dev :=
  d.rx 0x14 h (fun d =>
    if goesUp h then (if d.isHead then d.opAsk 4 [vol, reqId, tint, h.src, q, tag, 0, 0, 0] false else d)
    else if goesDown h ∧ d.isMember then ((d.gatherBegin 3 id).down 0x14 [vol, id, reqId] false).snapPrepare vol id reqId
    else d)

/-- SNAP_PREPARE. -/
def execSnapPrepare (h : MsgHdr) (vol id reqId tint q tag : Nat) (s : State) : Host.Outcome State Fault Refusal :=
  runFab (Dev.snapPrepareIn h vol id reqId tint q tag) s

/-- SNAP_HELD gathers. -/
def execSnapHeld (h : MsgHdr) (id count result : Nat) (s : State) : Host.Outcome State Fault Refusal :=
  runFab (fun d => d.rx 0x15 h (fun d => d.gatherIn 3 id h.src count result)) s

/-- SNAP_COMMIT: the member marks its bands and records the snapshot as soon as its hold allows. -/
def Dev.snapCommit (h : MsgHdr) (vol id cal : Nat) (d : Dev) : Dev :=
  d.rx 0x16 h (fun d => if !(goesDown h && d.isMember) then d
    else
      let d := (d.gatherBegin 4 id).down 0x16 [vol, id, cal] false
      { d with fab := { d.fab with snapHold := d.fab.snapHold.map (fun x =>
          if x.volume = vol ∧ x.id = id then { x with commit := some cal } else x) } })

/-- SNAP_COMMIT. -/
def execSnapCommit (h : MsgHdr) (vol id cal : Nat) (s : State) : Host.Outcome State Fault Refusal := runFab (Dev.snapCommit h vol id cal) s

/-- SNAP_DONE: up it gathers, down it ends the hold here; sent to an ingress, `count` and `result` are the status and DETAIL of its
SNAP_CREATE. -/
def Dev.snapDoneIn (h : MsgHdr) (id count result q tag : Nat) (d : Dev) : Dev :=
  d.rx 0x17 h (fun d =>
    if goesUp h then d.gatherIn 4 id h.src count result
    else if goesDown h then (if d.isMember then (d.down 0x17 [id, count, result] false).snapRelease else d)
    else (d.answered (fun u => u.ty == 0x14 && u.body.getD 5 0 == tag && u.body.getD 4 0 == q)).snapEnd q tag count result id)

/-- SNAP_DONE. -/
def execSnapDone (h : MsgHdr) (id count result q tag : Nat) (s : State) : Host.Outcome State Fault Refusal :=
  runFab (Dev.snapDoneIn h id count result q tag) s

/-- SNAP_ABORT: the hold ends with nothing recorded. -/
def execSnapAbort (h : MsgHdr) (vol id : Nat) (s : State) : Host.Outcome State Fault Refusal :=
  runFab (fun d => d.rx 0x18 h (fun d => if !(goesDown h && d.isMember) then d
    else
      let d := d.down 0x18 [vol, id] false
      ({ d with fab := { d.fab with
        gathers := d.fab.gathers.filter (fun g => !((g.kind == 3 || g.kind == 4) && g.id == id)) } }).snapRelease)) s

/-! ### Time (R433) -/

/-- TIME_SYNC_TIMER: 1 ms has passed at the head. -/
def execTimeSyncTimer (s : State) : Host.Outcome State Fault Refusal :=
  runFab (fun d => if d.isHead ∧ liveMode d.life.mode ∧ 1000 ≤ d.life.usUp - d.fab.syncUs then d.timeSyncOut else d) s

/-- The correction of one synchronisation: a step beyond 1 µs, else what a slew of 500 ppm makes good before the next, in 1 ms. -/
def slewed (err : Int) : Int := if err < -1000 ∨ 1000 < err then err else clampI err (-500) 500

/-- TIME_SYNC: fabric time goes to T_HEAD + CORR_NS with this link's delay; the next hop's CORR_NS has it too; the link's delay is
measured again. -/
def Dev.timeSync (h : MsgHdr) (tHead corr seq : Nat) (d : Dev) : Dev :=
  d.rx 0x20 h (fun d => if !(d.fabState = 2 ∨ d.fabState = 3) ∨ !d.isMember then d
    else
      let corr := corr + d.regF .FL h.link Reg.FL_RTT 0 16 / 2
      let now := d.fabNow
      let err : Int := ((tHead + corr : Nat) : Int) - now
      let syncs := d.fab.syncs + 1
      let d := { d with fab := { d.fab with time := ((now : Int) + slewed err).toNat, timeUs := d.life.usUp, syncs := syncs, syncSeq := seq } }
      let d := d.setRegN .FAB 0 Reg.FAB_TIME_STS (unsigned 16 (clampI err (-32768) 32767) + b2n (decide (2 ≤ syncs)) * 2 ^ 16)
      (d.down 0x20 [tHead, corr, seq] false).send 0x21 h.src [d.fabNow, 0, 0] false)

/-- TIME_SYNC. -/
def execTimeSync (h : MsgHdr) (tHead corr seq : Nat) (s : State) : Host.Outcome State Fault Refusal :=
  runFab (Dev.timeSync h tHead corr seq) s

/-- TIME_ECHO: a request (T2 and T3 zero) is answered with the time here; an answer gives the round trip of the link. -/
def Dev.timeEcho (h : MsgHdr) (t1 t2 t3 : Nat) (d : Dev) : Dev :=
  d.rx 0x21 h (fun d =>
    if t2 = 0 ∧ t3 = 0 then d.send 0x21 h.src [t1, d.fabNow, d.fabNow] false
    else d.setRegN .FL h.link Reg.FL_RTT (min 0xffff (d.fabNow - t1 - (t3 - t2))))

/-- TIME_ECHO. -/
def execTimeEcho (h : MsgHdr) (t1 t2 t3 : Nat) (s : State) : Host.Outcome State Fault Refusal := runFab (Dev.timeEcho h t1 t2 t3) s

/-! ### Fabric reset (R434) -/

/-- FAB_CTL.FABRIC_RESET: at the head it asks for the operation, elsewhere it has no effect. -/
def Dev.fabricReset (d : Dev) : Dev := if d.isHead then d.opAsk 5 [] false else d

/-- FABRIC_RESET. -/
def execFabricReset (req : Requester) (s : State) : Host.Outcome State Fault Refusal :=
  runFab (fun d => d.regWrite req .FAB 0 Reg.FAB_FAB_CTL Dev.fabricReset) s

/-- RESET_PREPARE: admission stops, work in flight is discarded, a flush generation is written with rails present (step 2). -/
def Dev.resetPrepare (h : MsgHdr) (id : Nat) (d : Dev) : Dev :=
  d.rx 0x28 h (fun d => if !(goesDown h && d.isMember) then d
    else
      let d := ((d.gatherBegin 5 id).down 0x28 [id] false).flushNow
      ({ d with fab := { d.fab with resetId := id, resetUs := d.life.usUp } }).gatherMe 5 id 0)

/-- RESET_PREPARE. -/
def execResetPrepare (h : MsgHdr) (id : Nat) (s : State) : Host.Outcome State Fault Refusal := runFab (Dev.resetPrepare h id) s

/-- RESET_READY gathers. -/
def execResetReady (h : MsgHdr) (id count : Nat) (s : State) : Host.Outcome State Fault Refusal :=
  runFab (fun d => d.rx 0x29 h (fun d => d.gatherIn 5 id h.src count 0)) s

/-- RESET_AT: RESET entry is due at fabric time T_RESET (step 4). -/
def execResetAt (h : MsgHdr) (id tReset : Nat) (s : State) : Host.Outcome State Fault Refusal :=
  runFab (fun d => d.rx 0x2a h (fun d => if !(goesDown h && d.isMember) then d
    else { d.down 0x2a [id, tReset] false with fab := { (d.down 0x2a [id, tReset] false).fab with resetAt := some tReset } })) s

/-- FABRIC_RESET_TIME: fabric time reaches T_RESET, and the device enters RESET after a flush, from the modes of R27's row. -/
def Dev.fabricResetTime (d : Dev) : Dev :=
  match d.fab.resetAt with
  | none => d
  | some t => if restartMode d.life.mode ∧ t ≤ d.fabNow then d.deviceReset false 5 true else d

/-- FABRIC_RESET_TIME. -/
def execFabricResetTime (s : State) : Host.Outcome State Fault Refusal := runFab Dev.fabricResetTime s

/-- RESET_READY_TIMEOUT: members that have not answered 1 ms beyond the largest FLUSH_US are left out. -/
def Dev.resetLate (d : Dev) : Dev :=
  if d.life.usUp - d.fab.resetUs < d.flushUs + 1000 then d
  else (d.fab.gathers.filter (fun g => g.kind == 5)).foldl (fun d g => d.gatherPut { g with children := [] }) d

/-- RESET_READY_TIMEOUT. -/
def execResetReadyTimeout (s : State) : Host.Outcome State Fault Refusal := runFab Dev.resetLate s

end Sys2Proof.Machine
end

