-- ==== Sys2Proof/Machine/Provision.lean ====
section
/-! DEFINITION. Provisioning through the VOL, STM and OBJ pages, and snapshot commands (spec/10_services.md R330 to R364,
spec/12_filush_fabric.md R419, R432). -/
namespace Sys2Proof.Machine
open Sys2Proof

/-! ### Provisioning (R333 to R338, R419) -/

/-- The record is a fabric volume, which is created, deleted and changed through the head (R419). -/
def imgFabric (kind img : Nat) : Bool := kind == 0 && nbit (imgF img 3 8) 5

/-- A fabric volume's CREATE that the head refuses: set too small, a member not ACTIVE, BANDS no multiple of k (R419). -/
def Dev.fabCreateBad (d : Dev) (img set : Nat) : Bool :=
  let k := imgF img 11 8
  let ids := bitList set 64
  !d.isHead || decide (ids.length < k + imgF img 12 8) || !ids.all (fun n => d.memberState n == 2) || imgF img 4 32 % max 1 k != 0

/-- A command's first checks: the READONLY condition, the handle. -/
def Dev.provCheck (d : Dev) (kind : Nat) (load : Bool) : Nat :=
  if kindLimit kind ≤ d.regF (kindPage kind) 0 Reg.VOL_SEL 0 16 then provInvalid
  else if !load && d.readonlyC then provMode
  else provOk

/-- The handle that SEL names. -/
def Dev.provKey (d : Dev) (kind : Nat) : Nat := storeKey kind (d.regF (kindPage kind) 0 Reg.VOL_SEL 0 16)

/-- Member set of the next fabric CREATE or reshape. -/
def Dev.volSet (d : Dev) : Nat := d.reg64 .FAB 0 Reg.FAB_VOL_SET

/-- CREATE (R331, R334, R419): a fabric volume's record goes out as a broadcast of the head. -/
def Dev.provCreate (d : Dev) (kind : Nat) : Dev :=
  let k := d.provKey kind
  let img := d.recImage kind
  let chk := d.provCheck kind false
  if chk ≠ 0 then d.provEnd kind chk
  else if (d.store k).isSome then d.provEnd kind provExists
  else if !imageOk kind img then d.provEnd kind provInvalid
  else if imgFabric kind img then
    (if d.fabCreateBad img d.volSet then d.provEnd kind provInvalid else d.opAsk 6 [1, 1, k, img, d.volSet, 0] false)
  else
    let r := d.createLocal k img 0
    r.2.provEnd kind r.1

/-- DELETE (R336): it ends once the commands on the record have, with its bands unmapped and its grants gone. -/
def Dev.provDelete (d : Dev) (kind : Nat) : Dev :=
  let k := d.provKey kind
  let chk := d.provCheck kind false
  if chk ≠ 0 then d.provEnd kind chk
  else match d.liveStore k with
    | none => d.provEnd kind provNotFound
    | some v =>
      if d.deleteBlocked k v then d.provEnd kind provInUse
      else if v.fabric then
        (if d.isHead then d.opAsk 6 [1, 2, k, 0, v.fabSet, 0] false else d.provEnd kind provInvalid)
      else (d.deleteLocal k).2

/-- LOAD: the record's image, and a fabric volume's set in VOL_SET of the head (R419). -/
def Dev.provLoad (d : Dev) (kind : Nat) : Dev :=
  let k := d.provKey kind
  let chk := d.provCheck kind true
  if chk ≠ 0 then d.provEnd kind chk
  else match d.liveStore k with
    | none => d.provEnd kind provNotFound
    | some v =>
      let d := d.setImage kind (d.imageOf kind v)
      let d := if v.fabric && d.isHead then d.setReg64 .FAB 0 Reg.FAB_VOL_SET v.fabSet else d
      d.provEnd kind provOk

/-- MODIFY (R334, R338, R347): a smaller BANDS ends once the commands on the record have. -/
def Dev.provModify (d : Dev) (kind : Nat) : Dev :=
  let k := d.provKey kind
  let img := d.recImage kind
  let chk := d.provCheck kind false
  if chk ≠ 0 then d.provEnd kind chk
  else match d.liveStore k with
    | none => d.provEnd kind provNotFound
    | some v =>
      if !d.modifyOk kind v img then d.provEnd kind provInvalid
      else if v.fabric then
        (if d.isHead then d.opAsk 6 [1, 3, k, img, v.fabSet, d.imageOf kind v] false else d.provEnd kind provInvalid)
      else
        let r := d.modifyLocal k img
        let waits : Bool := match r.2.store k with
          | some v => v.oldBands != 0
          | none => false
        if r.1 = provOk ∧ waits then r.2 else r.2.provEnd kind r.1

/-- A write of CMD with an OP: BUSY, then the command; other values have no effect (R333). -/
def Dev.provWrite (d : Dev) (kind op : Nat) : Dev :=
  if op = 0 ∨ 4 < op then d
  else
    let d := d.setRegF (kindPage kind) 0 Reg.VOL_STS 0 1 1
    if op = 1 then d.provCreate kind else if op = 2 then d.provDelete kind else if op = 3 then d.provLoad kind else d.provModify kind

/-- A write of CMD by a requester; one that meets BUSY is discarded with CMD_BUSY (R335). -/
def Dev.provCmd (req : Requester) (kind op : Nat) (d : Dev) : Dev :=
  if 3 ≤ kind then d
  else d.regWriteElse req (kindPage kind) 0 Reg.VOL_CMD (!d.regB (kindPage kind) 0 Reg.VOL_STS 0)
    (fun d => d.provWrite kind op) (fun d => d.raiseErr (kindPage kind) 0 0 noDetail)

/-- PROV_CREATE on the page of a kind: 0 VOL, 1 STM, 2 OBJ. -/
def execProvCreate (req : Requester) (kind : Nat) (s : State) : Host.Outcome State Fault Refusal :=
  runFab (Dev.provCmd req kind 1) s

/-- PROV_DELETE. -/
def execProvDelete (req : Requester) (kind : Nat) (s : State) : Host.Outcome State Fault Refusal :=
  runFab (Dev.provCmd req kind 2) s

/-- PROV_LOAD. -/
def execProvLoad (req : Requester) (kind : Nat) (s : State) : Host.Outcome State Fault Refusal :=
  runFab (Dev.provCmd req kind 3) s

/-- PROV_MODIFY. -/
def execProvModify (req : Requester) (kind : Nat) (s : State) : Host.Outcome State Fault Refusal :=
  runFab (Dev.provCmd req kind 4) s

/-! ### Snapshots (R122, R358, R363, R432) -/

/-- ID of the newest live snapshot where it has this request ID (R122). -/
def Store.sameRequest (v : Store) (reqId : Nat) : Option Nat :=
  v.newestSnap.bind (fun s => if s.reqId = reqId then some s.id else none)

/-- QUOTA of a local SNAP_CREATE (R363, R369). -/
def Dev.snapDeny (d : Dev) (f : Flight) (v : Store) : Option Deny :=
  if v.fabric ∨ (v.sameRequest f.cmd.arg0).isSome then none
  else match d.snapQuota v with
    | 0 => none
    | n => some ⟨St.quota, n, 0⟩

/-- A SNAP_CREATE that has passed its checks: the same request ID answers at once; a fabric volume's goes to the head; a local one waits
for another hold, then holds installation (R358 step 2). -/
def Dev.snapAsk (d : Dev) (f : Flight) (k : Nat) (v : Store) : Dev :=
  let waits := { f with stage := .xfer, resv := d.life.usUp }
  if v.fabric then
    (if d.isHead then (d.setFlight waits).opAsk 4 [k, f.cmd.arg0, f.tint, d.fabId, f.q, f.tag, 0, 0, 0] false
     else (d.setFlight waits).sendF 0x14 0 4 [k, 0, f.cmd.arg0, f.tint, f.q, f.tag] true)
  else match v.sameRequest f.cmd.arg0 with
    | some id => d.postOk f id
    | none => if v.hold then d else (d.setFlight waits).holdStart k

/-- Steps 4 and 5 of R358, once step 3 is done. -/
def Dev.snapTake (d : Dev) (f : Flight) (k : Nat) (v : Store) : Dev :=
  if v.fabric ∨ !d.snapReady v then d
  else
    let id := v.snapNewest + 1
    let d := d.snapMark k id (if d.bak.valid then d.bak.sec else 0) f.cmd.arg0 f.tint f.resv
    (d.postOk f id).holdEnd k

/-- SNAP_CREATE: taken up it holds installation; invoked again it goes on once destage and merges have finished. -/
def Dev.snapCreate (q tag : Nat) (d : Dev) : Dev :=
  match d.flight q tag with
  | none => d
  | some f =>
    if f.cmd.opcode ≠ 0x30 ∨ nbit f.cmd.flags 8 then d
    else if f.stage = .run then
      d.onChecked f (fun _ v => { OpChecks.none with late := d.snapDeny f v }) (fun d k v => d.snapAsk f k v)
    else if f.stage = .xfer then
      (match f.key, f.key.bind d.store with
        | some k, some v => d.snapTake f k v
        | _, _ => d)
    else d

/-- SNAP_CREATE. -/
def execSnapCreate (q tag : Nat) (s : State) : Host.Outcome State Fault Refusal :=
  runFab (Dev.snapCreate q tag) s

/-- SNAP_DELETE: here at once; a fabric volume's on every member, by a broadcast of the head (DESIGN CHOICE). -/
def Dev.snapDelete (d : Dev) (f : Flight) (k : Nat) (v : Store) : Dev :=
  let id := f.cmd.arg0 % 2 ^ 32
  if !v.fabric then (d.snapDrop k id).postOk f 0
  else if d.isHead then (d.setFlight { f with stage := .xfer }).opAsk 6 [1, 5, k, id, v.fabSet, 0] false
  else (d.setFlight { f with stage := .xfer }).sendF 0x12 0 4 [0, 1, 5, k, id, v.fabSet] true

/-- SNAP_DELETE. -/
def execSnapDelete (q tag : Nat) (s : State) : Host.Outcome State Fault Refusal :=
  runFab (fun d => d.take q tag 0x31 false (fun d f => d.onChecked f
    (fun _ v => { OpChecks.none with absent := !v.snapLive (f.cmd.arg0 % 2 ^ 32) })
    (fun d k v => d.snapDelete f k v))) s

end Sys2Proof.Machine
end

