-- ==== Sys2Proof/Machine/Shards.lean ====
section
/-! DEFINITION. Stripe, shard and journal-mirror messages, retries, resynchronisation and reshaping of fabric volumes
(spec/12_filush_fabric.md R416, R424 to R428, R437 to R445). -/
namespace Sys2Proof.Machine
open Sys2Proof

/-! ### Writes (R424, R426 to R428) -/

/-- STRIPE_WRITE: a stripe's part of a write comes to this device as its acting owner. -/
def execStripeWrite (h : MsgHdr) (vol stripe first xid : Nat) (secs : List SectorIn) (s : State) : Host.Outcome State Fault Refusal :=
  runFab (fun d => d.rx 0x30 h (fun d => d.stripeTake vol stripe first (secs.map fabIn) h.src xid)) s

/-- STRIPE_ACK: one stripe of a command has answered its ingress. -/
def execStripeAck (h : MsgHdr) (xid status detail : Nat) (s : State) : Host.Outcome State Fault Refusal :=
  runFab (fun d => d.rx 0x31 h (fun d =>
    (d.answered (fun u => u.ty == 0x30 && u.body.getD 4 0 == xid)).fabAcked xid status detail)) s

/-- SHARD_WRITE: the holder installs a shard (R421, R423). -/
def Dev.shardWriteIn (h : MsgHdr) (vol shard stripe first wseq : Nat) (secs : List SectorIn) (d : Dev) : Dev :=
  d.rx 0x32 h (fun d => match d.store vol with
    | none => d.send 0x33 h.src [vol, shard, St.notFound, stripe, wseq] false
    | some v =>
      if v.base = 0xffffff ∨ v.holder stripe shard ≠ d.fabId then d.send 0x33 h.src [vol, shard, St.notFound, stripe, wseq] false
      else d.shardFlight 0x101 vol (v.shardIdx stripe shard first) secs.length h.src (stripe * 32 + shard) 0 wseq (secs.map fabIn))

/-- SHARD_WRITE. -/
def execShardWrite (h : MsgHdr) (vol shard stripe first wseq : Nat) (secs : List SectorIn) (s : State) : Host.Outcome State Fault Refusal :=
  runFab (Dev.shardWriteIn h vol shard stripe first wseq secs) s

/-- SHARD_ACK: the shard leaves PENDING (R424 step 6). -/
def execShardAck (h : MsgHdr) (vol shard status stripe wseq : Nat) (s : State) : Host.Outcome State Fault Refusal :=
  runFab (fun d => d.rx 0x33 h (fun d =>
    (d.answered (fun u => u.ty == 0x32 && u.dst == h.src && u.body.getD 0 0 == vol && u.body.getD 1 0 == shard &&
      u.body.getD 2 0 == stripe && u.body.getD 5 0 == wseq)).shardAcked vol stripe shard status wseq)) s

/-- A mirrored record with its sectors. -/
def mirrorOf (x : StripeRec) (secs : List FabSec) (jseq : Nat) : FStripe :=
  { mirror := true, acting := nbit x.flags 1, degraded := nbit x.flags 2, volume := x.volume, stripe := x.stripe, first := x.first
    count := x.countM1 + 1, owner := x.owner, buddy := x.buddy, pending := x.pending, wseq := x.wseq, jseq := jseq, acked := false, built := false
    ingress := x.owner, xid := x.jseq
    secs := secs.zipIdx.map (fun (e : FabSec × Nat) => (x.first + e.2, e.1)), old := [] }

/-- Mirrors of a record's stripe that this device keeps. -/
def Dev.dropMirror (d : Dev) (x : StripeRec) : Dev :=
  { d with fab := { d.fab with
    stripes := d.fab.stripes.filter (fun r => !(r.mirror && r.volume == x.volume && r.stripe == x.stripe && r.owner == x.owner)) } }

/-- JNL_MIRROR: an open record is mirrored and answered; a closed one is dropped, and a record that a buddy has closed with ACTING is
discarded by its owner (R424, R427). A record that this device has itself closed as acting owner is answered with that. -/
def Dev.jnlMirror (h : MsgHdr) (x : StripeRec) (secs : List SectorIn) (d : Dev) : Dev :=
  d.rx 0x36 h (fun d =>
    if x.ty = 0x30 then
      if d.fab.closed.contains (x.owner, x.volume, x.stripe) then d.tellClosed x.owner
      else
        let r := mirrorOf x (secs.map fabIn) (d.reg64 .JNL 0 Reg.JNL_JSEQ + 1)
        let d := (d.dropMirror x).jrec [r.jrec 0x30]
        ({ d with fab := { d.fab with stripes := d.fab.stripes ++ [r] } }).send 0x37 h.src [x.jseq] false
    else if x.ty = 0x31 then
      { d with fab := { d.fab with stripes := d.fab.stripes.map (fun r =>
          if r.mirror ∧ r.volume = x.volume ∧ r.stripe = x.stripe ∧ r.owner = x.owner then { r with pending := x.pending } else r) } }
    else if x.ty = 0x32 then
      if nbit x.flags 1 ∧ x.owner = d.fabId then
        (match d.openRecord x.volume x.stripe with
          | some r => ((d.jrec [r.jrec 0x32]).setStripe r none).fabKick
          | none => d)
      else (d.dropMirror x).jrec [(mirrorOf x [] 0).jrec 0x32]
    else d)

/-- JNL_MIRROR. -/
def execJnlMirror (h : MsgHdr) (x : StripeRec) (secs : List SectorIn) (s : State) : Host.Outcome State Fault Refusal :=
  runFab (Dev.jnlMirror h x secs) s

/-- JNL_ACK: the mirror is installed, so the ingress is answered and the shards are built (R424 steps 3 and 5). -/
def Dev.jnlAck (h : MsgHdr) (jseq : Nat) (d : Dev) : Dev :=
  d.rx 0x37 h (fun d =>
    let d := d.answered (fun u => u.ty == 0x36 && u.dst == h.src && u.body.getD 10 0 == jseq)
    match d.fab.stripes.find? (fun r => !r.mirror && r.jseq == jseq && r.buddy == h.src && jseq != 0) with
    | some r => d.mirrored r.volume r.stripe
    | none => d)

/-- JNL_ACK. -/
def execJnlAck (h : MsgHdr) (jseq : Nat) (s : State) : Host.Outcome State Fault Refusal := runFab (Dev.jnlAck h jseq) s

/-! ### Reads (R425) -/

/-- A sector of a stripe's open record at its acting owner. -/
def Dev.openSector (d : Dev) (vol stripe shard sec : Nat) : Option FabSec :=
  match d.store vol with
  | none => none
  | some v =>
    if shard < v.fabK ∧ d.acting v stripe = some d.fabId then
      (d.openRecord vol stripe).bind (fun r => mget r.secs (16 * shard + sec))
    else none

/-- SHARD_DATA to the member that asked. -/
def Dev.shardReply (d : Dev) (dst xid status : Nat) (secs : List FabSec) : Dev :=
  d.send 0x35 dst ([xid, status, secs.length, 0] ++ secs.flatMap FabSec.words) false

/-- A run of sectors of a shard for a member: from an open record, from here, or from their holder, which answers it directly. -/
def Dev.shardServe (d : Dev) (v : Store) (vol shard stripe first count replyTo xid snap : Nat) : Dev :=
  let holder := v.holder stripe shard
  let mine := (List.range count).filterMap (fun i => if snap = 0 then d.openSector vol stripe shard (first + i) else none)
  if mine.length = count then d.shardReply replyTo xid 0 mine
  else if holder = d.fabId then d.shardFlight 0x100 vol (v.shardIdx stripe shard first) count replyTo xid snap 0 []
  else if d.takesPart holder then d.send 0x34 holder [vol, shard, stripe, first, count, replyTo, xid, snap] false
  else d.shardReply replyTo xid St.stripeLost []

/-- SHARD_READ: at the owner answered from its open record or forwarded, at the holder read (R425). A run that an open record covers in
part is served sector by sector. -/
def Dev.shardReadIn (h : MsgHdr) (vol shard stripe first count replyTo xid snap : Nat) (d : Dev) : Dev :=
  d.rx 0x34 h (fun d => match d.store vol with
    | none => d.shardReply replyTo xid St.notFound []
    | some v =>
      if d.fabFenced then d.shardReply replyTo xid St.fenced []
      else
        let held := (List.range count).filter (fun i => snap == 0 && (d.openSector vol stripe shard (first + i)).isSome)
        if held.isEmpty ∨ held.length = count then d.shardServe v vol shard stripe first count replyTo xid snap
        else (List.range count).foldl (fun d i => d.shardServe v vol shard stripe (first + i) 1 replyTo xid snap) d)

/-- SHARD_READ. -/
def execShardRead (h : MsgHdr) (vol shard stripe first count replyTo xid snap : Nat) (s : State) : Host.Outcome State Fault Refusal :=
  runFab (Dev.shardReadIn h vol shard stripe first count replyTo xid snap) s

/-- SHARD_DATA: a sector asked of another member comes, or its holder's status (R425). -/
def Dev.shardData (h : MsgHdr) (xid status : Nat) (secs : List SectorIn) (d : Dev) : Dev :=
  d.rx 0x35 h (fun d =>
    let d := (d.answered (fun u => u.ty == 0x34 && u.body.getD 6 0 == xid)).fabGot xid status ((secs.map fabIn).head?)
    d.fab.stripes.foldl (fun d r => d.stripeShards r.volume r.stripe) d)

/-- SHARD_DATA. -/
def execShardData (h : MsgHdr) (xid status : Nat) (secs : List SectorIn) (s : State) : Host.Outcome State Fault Refusal :=
  runFab (Dev.shardData h xid status secs) s

/-! ### Messages without an answer (R416, R428, R437) -/

/-- The next member after `dst` in set order that may mirror for this device. -/
def Dev.mirrorAfter (d : Dev) (v : Store) (dst : Nat) : Option Nat :=
  let ids := v.setIds
  ((ids.filter (fun n => decide (dst < n))) ++ ids.filter (fun n => decide (n < dst))).find? (fun n => n != d.fabId && d.takesPart n)

/-- A write's ingress gives up the owner: the buddy acts for it, or the stripe is FENCED (R428). -/
def Dev.ownerGone (d : Dev) (xid dst : Nat) : Dev :=
  match d.fab.writes.find? (fun w => w.xid == xid), (d.fab.writes.find? (fun w => w.xid == xid)).bind (fun w => d.store w.volume) with
  | some w, some v =>
    let b := v.buddyOf w.stripe
    if dst ≠ v.ownerOf w.stripe ∨ !d.takesPart b then d.fabAcked xid St.fenced 3
    else if b = d.fabId then d.stripeTake w.volume w.stripe w.first w.secs d.fabId xid
    else d.send 0x30 b ([w.volume, w.stripe, w.first, w.secs.length - 1, xid] ++ w.secs.flatMap FabSec.words) true
  | _, _ => d

/-- A holder cannot be reached for a shard: an INTENT record stands for it (R437). -/
def Dev.holderGone (d : Dev) (vol shard stripe first dst : Nat) : Dev :=
  match d.store vol with
  | none => d
  | some v =>
    let d := d.addIntent dst (vol * 2 ^ 24 + v.shardIdx stripe shard first / 4096)
    (d.mapOpen vol stripe (fun y => { y with pending := bitClr y.pending shard, degraded := true })).stripeDone vol stripe

/-- The mirror cannot be reached: the next member in set order mirrors (R428). -/
def Dev.mirrorGone (d : Dev) (vol stripe dst : Nat) : Dev :=
  match d.openRecord vol stripe, d.store vol with
  | some r, some v => (match d.mirrorAfter v dst with
    | some m =>
      let r' := { r with buddy := m }
      (d.setStripe r (some r')).mirrorSend r' 0x30
    | none => (d.setStripe r none).stripeAck r St.fenced 2)
  | _, _ => d

/-- The destination of a message is unreachable for it (R416). -/
def Dev.unreachable (d : Dev) (u : Unacked) : Dev :=
  let w (i : Nat) : Nat := u.body.getD i 0
  match u.ty with
  | 0x30 => d.ownerGone (w 4) u.dst
  | 0x32 => d.holderGone (w 0) (w 1) (w 2) (w 3) u.dst
  | 0x34 =>
    let d := d.fabGot (w 6) St.stripeLost none
    d.fab.stripes.foldl (fun d r => d.stripeShards r.volume r.stripe) d
  | 0x36 => d.mirrorGone (w 2) (w 3) u.dst
  | 0x14 => d.snapEnd (w 4) (w 5) St.fenced 2 0
  | 0x12 =>
    if u.dst = 0 then
      ((d.onRecord (w 3)).filter (fun f => f.cmd.opcode == 0x31 && f.stage == .xfer && f.cmd.arg0 % 2 ^ 32 == w 4)).foldl
        (fun d f => d.postFail f St.fenced 2) d
    else d.gatherIn 2 (w 0) u.dst 0 0
  | _ => d

/-- MESSAGE_RETRY_TIMEOUT: 20 µs without an answer to message `seq`: repeated with RETRY up to 4 times, then unreachable (R416). -/
def Dev.retryTimeout (seq : Nat) (d : Dev) : Dev :=
  match d.fab.unacked.find? (fun u => u.seq == seq) with
  | none => d
  | some u =>
    if d.life.usUp - u.sentUs < 20 ∨ !liveMode d.life.mode then d
    else if u.tries < 4 then
      let u' := { u with tries := u.tries + 1, sentUs := d.life.usUp }
      let tree := if (u.ty = 0x12 ∧ u.dst ≠ 0) then 2 else if u.ty = 0x12 ∨ u.ty = 0x14 then 4 else 0
      ({ d with fab := { d.fab with unacked := updFirst (fun x => x.seq == seq) (fun _ => u') d.fab.unacked } }).emit
        (.filush u.ty u.dst ([9 + tree, d.epoch, seq] ++ u.body) (wireBytes u.ty (9 + tree) d.fabId u.dst d.epoch seq u.body))
    else ({ d with fab := { d.fab with unacked := d.fab.unacked.filter (fun x => x.seq != seq) } }).unreachable u

/-- MESSAGE_RETRY_TIMEOUT. -/
def execMessageRetryTimeout (seq : Nat) (s : State) : Host.Outcome State Fault Refusal := runFab (Dev.retryTimeout seq) s

/-! ### Resynchronisation (R439) -/

/-- Stripe and sector of each sector of a shard band that a member holds and this device rebuilds as acting owner, with its shard. -/
def Dev.resyncWork (d : Dev) (v : Store) (member band : Nat) : List (Nat × Nat × Nat) :=
  let n := v.fabK + v.fabM
  let w := max 1 v.width
  (List.range 4096).filterMap (fun o =>
    let x := band * 4096 + o
    let row := x / (16 * n)
    let j := x / 16 % n
    let at_ := v.setIds.idxOf member
    let stripe := row * w + (at_ + w - j % w) % w
    if stripe < v.bands * 256 / max 1 v.fabK ∧ d.acting v stripe = some d.fabId ∧ v.holder stripe j = member then
      some (stripe, j, x % 16)
    else none)

/-- The sectors of row `s` of stripe `i` among the parts that RESYNC is given, by shard index: the first k of them (R422). -/
def resyncGiven (v : Store) (parts : List (Nat × Nat × List (Nat × SectorIn))) (i s : Nat) : List (Nat × FabSec) :=
  match parts.find? (fun p => p.1 == i && p.2.1 == s) with
  | some p => (p.2.2.map (fun (e : Nat × SectorIn) => (e.1, fabIn e.2))).take v.fabK
  | none => []

/-- The parts give k different shards, none of them the missing one, for a stripe, shard and row (R422). -/
def resyncGood (v : Store) (parts : List (Nat × Nat × List (Nat × SectorIn))) (w : Nat × Nat × Nat) : Bool :=
  let ps := (resyncGiven v parts w.1 w.2.2).map (fun (e : Nat × FabSec) => e.1)
  decide (ps.length = v.fabK) && decide (ps.eraseDups = ps) && ps.all (fun j => j != w.2.1 && decide (j < v.fabK + v.fabM))

/-- RESYNC: this device rebuilds one shard band of a JOINING member. `parts` gives, by stripe and sector, what at least k other shards
hold; each rebuilt sector goes to the member as SHARD_WRITE (R422, R439). At the head the last band makes the member ACTIVE. -/
def Dev.resync (member key : Nat) (parts : List (Nat × Nat × List (Nat × SectorIn))) (d : Dev) : Dev :=
  match mget d.fab.resync member, d.store (key / 2 ^ 24) with
  | some left, some v =>
    if !left.contains key ∨ d.memberState member ≠ 1 ∨ d.fabState ≠ 3 ∨ !d.gateOpen 14 then d
    else
      let work := d.resyncWork v member (key % 2 ^ 24)
      if !work.all (resyncGood v parts) then d
      else
        let d := d.charge 14 (work.length * v.fabK)
        let d := work.foldl (fun d w => d.send 0x32 member
          ([key / 2 ^ 24, w.2.1, w.1, w.2.2, 1, 0] ++ (rebuildShard v.fabK w.2.1 (resyncGiven v parts w.1 w.2.2)).words) true) d
        ({ d with fab := { d.fab with resync := mput d.fab.resync member (left.filter (· != key)) } }).joinDone member
  | _, _ => d

/-- RESYNC. -/
def execResync (member key : Nat) (parts : List (Nat × Nat × List (Nat × SectorIn))) (s : State) : Host.Outcome State Fault Refusal :=
  runFab (Dev.resync member key parts) s

/-! ### Reshaping (R443 to R445) -/

/-- RSHP_CTL.START is refused (R443), on what the head can see; a member without room refuses by its answer. A NEW_K or NEW_M outside
its range, or a set smaller than both, is refused too. -/
def Dev.rshpRefused (d : Dev) (k nk nm : Nat) : Bool :=
  match d.liveStore k with
  | none => true
  | some v =>
    !v.fabric || !(decide (1 ≤ nk ∧ nk ≤ 16 ∧ 1 ≤ nm ∧ nm ≤ 4)) || !v.snaps.isEmpty || v.bands % max 1 nk != 0 ||
      decide ((bitList d.volSet 64).length < nk + nm) || v.oldBands != 0 ||
      (v.setIds ++ bitList d.volSet 64).any (fun n => d.memberState n != 2)

/-- A write of RSHP_CTL on the head: the fields while no reshape runs, PAUSE always, and START. -/
def Dev.rshpWrite (value : W32) (d : Dev) : Dev :=
  if !d.isHead then d
  else
    let runs := d.regB .FAB 0 Reg.FAB_RSHP_CTL 20
    let d := if runs then d else d.setRegF .FAB 0 Reg.FAB_RSHP_CTL 0 20 (fld value 0 20)
    let d := (d.setRegF .FAB 0 Reg.FAB_RSHP_CTL 21 1 (fld value 21 1)).rshpCheck
    if fld value 20 1 = 0 ∨ runs then d
    else
      let k := fld value 0 12
      let nk := fld value 12 5
      let nm := fld value 17 3
      if d.rshpRefused k nk nm then d.raiseErr .FAB 0 4 noDetail
      else (d.setRegF .FAB 0 Reg.FAB_RSHP_CTL 20 1 1).opAsk 6 [1, 7, k, nk + 32 * nm, d.volSet, 0] false

/-- FABRIC_RESHAPE_START. -/
def execFabricReshapeStart (req : Requester) (value : W32) (s : State) : Host.Outcome State Fault Refusal :=
  runFab (fun d => d.regWrite req .FAB 0 Reg.FAB_RSHP_CTL (Dev.rshpWrite value)) s

/-- Sectors of a logical band that this device holds as data shards, read for the copy under G14. -/
def Dev.sourceSecs (d : Dev) (v : Store) (b : Nat) : Nat :=
  ((List.range 4096).filter (fun o =>
    let t := v.stripeOf (b * 4096 + o)
    v.holder t.1 t.2.1 == d.fabId)).length

/-- FABRIC_RESHAPE_COPY: the next logical band is copied; `secs` gives, by index in this device's new shard range, the sectors of the
band that it takes, and `quota` says that a destination answered QUOTA. A band written while the reshape was paused is copied again. At
the head the switch follows the last band (R444). -/
def Dev.rshpCopy (quota : Bool) (secs : List (Nat × SectorIn)) (d : Dev) : Dev :=
  match d.fab.reshape, d.fab.reshape.bind (fun r => d.store r.volume), d.fab.reshape.bind (fun r => d.store (shadowKey r.volume)) with
  | some r, some v, some w =>
    let cur := d.regN .FAB 0 Reg.FAB_RSHP_CURSOR
    let again := r.again.filter (fun b => decide (b < cur))
    let b := again.headD cur
    if d.rshpHeld r ∨ !d.mayRelocate ∨ !d.gateOpen 14 ∨ (again.isEmpty ∧ v.bands ≤ cur) then d
    else if quota then ({ d with fab := { d.fab with reshape := some { r with space := true } } }).rshpCheck
    else
      let d := d.charge 14 (d.sourceSecs v b)
      let d := if w.base = 0xffffff then d else secs.foldl (fun d (e : Nat × SectorIn) =>
        if e.1 < w.shardBands * 4096 then d.shardFlight 0x101 (shadowKey r.volume) e.1 1 d.fabId 0 0 0 [fabIn e.2] else d) d
      let d := if again.isEmpty then d.setRegN .FAB 0 Reg.FAB_RSHP_CURSOR (cur + 1)
        else { d with fab := { d.fab with reshape := some { r with again := r.again.filter (· != b) } } }
      let left := match d.fab.reshape with
        | some r => r.again
        | none => []
      if d.isHead ∧ left.isEmpty ∧ d.regN .FAB 0 Reg.FAB_RSHP_CURSOR = v.bands then
        (d.newEpoch d.fab.members).opAsk 6 [1, 8, r.volume, 0, r.newSet, 0] false
      else d
  | _, _, _ => d

/-- FABRIC_RESHAPE_COPY. -/
def execFabricReshapeCopy (quota : Bool) (secs : List (Nat × SectorIn)) (s : State) : Host.Outcome State Fault Refusal :=
  runFab (Dev.rshpCopy quota secs) s

/-- FABRIC_RESHAPE_PAUSE: the causes are looked at again; `space` says whether a destination still lacks room (R445). -/
def Dev.rshpPause (space : Bool) (d : Dev) : Dev :=
  match d.fab.reshape with
  | none => d
  | some r => ({ d with fab := { d.fab with reshape := some { r with space := space } } }).rshpCheck

/-- FABRIC_RESHAPE_PAUSE. -/
def execFabricReshapePause (space : Bool) (s : State) : Host.Outcome State Fault Refusal := runFab (Dev.rshpPause space) s

end Sys2Proof.Machine
end

