-- ==== Sys2Proof/Machine/Update.lean ====
section
/-! DEFINITION. Meanings of the field update: package blocks along the chain, requests of UPD.REQ, activation, trial and rollback
(spec/17_field_update.md R535 to R551), the format (spec/05_band_translation.md R186), and CAL_SYNC (R590). -/
namespace Sys2Proof.Machine
open Sys2Proof

/-! ### Blocks (R535 to R538) -/

/-- Send a block to the next ACTIVE member; the head then waits for every other member of the set (R536, R537). -/
def Dev.forwardBlock (d : Dev) (b : List Byte) : Dev :=
  let i := bytesAt b 0x10 4
  let d := match d.nextActive with
    | some n => d.send 0x40 n ([0, 0, i, bytesAt b 8 8] ++ b.map BitVec.toNat) false
    | none => d
  if d.isHead then
    let out := ((d.pkgMembers.filter (· != d.fabId)).map (· * 65536 + i)).filter (fun x => !d.upd.acks.contains x)
    { d with upd := { d.upd with sent := (d.upd.sent ++ out).eraseDups } }
  else d

/-- Stage a block whose staging write reads back, or fail the package with FLASH (R539, R549). -/
def Dev.stageChecked (d : Dev) (b : List Byte) (sigOk flashOk : Bool) : Dev :=
  let e := bytesAt b 0x10 4
  if flashOk then d.stageBlock b sigOk else d.updFail 7 (if e = 0 then 0 else partAt d.manifest ((List.range 7).find? (fun k =>
    decide (partAt d.manifest k 4 4 ≤ e ∧ e < partAt d.manifest k 4 4 + partAt d.manifest k 8 4)) |>.getD 0) 0 1 % 8)

/-- A block's place in the package in progress (R535, R538), in the order of R128: `none` where it may be staged or equals the staged copy, else
the DETAIL of INVALID_FIELD, or of ACCESS_DENIED (0x22). `index` is what ADDR says. -/
def Dev.blockRefused (d : Dev) (b : List Byte) (index : Nat) : Option Nat :=
  let st := d.updState
  let i := bytesAt b 0x10 4
  let fresh : Bool := st == 0 || st == 7
  if !blockOk b then some 0x41
  else if (fresh ∧ i ≠ 0) ∨ (!fresh ∧ bytesAt b 8 8 ≠ d.reg64 .UPD 0 Reg.UPD_PKG_ID) then some 0x42
  else if (if fresh then bytesAt b 0x14 4 else d.updTotal) ≤ i ∨ i ≠ index then some 0x43
  else if !fresh && (match mget d.upd.blocks i with
    | some old => old != b
    | none => false) then some 0x44
  else if !fresh ∧ st ≠ 1 then some 0x22
  else none

/-- The head or a standalone device takes a block that UPDATE_BLOCK delivered. -/
def Dev.takeBlock (d : Dev) (f : Flight) (b : List Byte) (sigOk flashOk : Bool) : Dev :=
  let size := bytesAt b 0x18 4
  match d.blockRefused b f.cmd.addr with
  | some detail => d.postFail f (if detail = 0x22 then St.accessDenied else St.invalidField) detail
  | none =>
    if size ≠ f.cmd.count * 4096 then d.failFreeze f St.lengthMismatch Fz.length 5 65536 size
    else match mget d.upd.blocks (bytesAt b 0x10 4) with
      | some old => if old = b then (d.forwardBlock b).postOk f 0 else d
      | none =>
        if 32 ≤ d.blocksOut then d
        else ((d.stageChecked b sigOk flashOk).forwardBlock b).postOk f 0

/-- UPDATE_BLOCK: after the checks and its list, the block `data` is handled; `sigOk` says that a manifest's signatures verify and
`flashOk` that the staging write reads back. A block waits while 32 forwarded blocks lack an acknowledgement (R537). -/
def Dev.updateBlock (q tag : Nat) (data : List Byte) (sigOk flashOk : Bool) (d : Dev) : Dev :=
  match d.flight q tag with
  | none => d
  | some f =>
    if f.cmd.opcode ≠ 0x62 then d
    else if f.stage = .run then match d.denyPlain f false with
      | some x => d.refuse f x
      | none => d.setFlight { f with stage := if nbit f.cmd.flags 1 then .list else .data }
    else if f.stage ≠ .data ∨ data.length ≠ 65536 then d
    else d.takeBlock f data sigOk flashOk

def execUpdateBlock (q tag : Nat) (data : List Byte) (sigOk flashOk : Bool) (s : State) : Host.Outcome State Fault Refusal :=
  runFab (Dev.updateBlock q tag data sigOk flashOk) s

/-- BLOCK at a member (R536, R538): it goes on along the chain, is staged, and is acknowledged to the head. -/
def Dev.blockIn (h : MsgHdr) (data : List Byte) (sigOk flashOk : Bool) (d : Dev) : Dev :=
  d.rx 0x40 h (fun d => if !d.isMember ∨ data.length ≠ 65536 then d
    else
      let i := bytesAt data 0x10 4
      let d := d.forwardBlock data
      let ack (d : Dev) (status : Nat) : Dev := d.send 0x40 0 [1, status, i, bytesAt data 8 8] false
      if !blockOk data then ack d 1
      else match d.blockRefused data i with
        | some _ => d
        | none => match mget d.upd.blocks i with
          | some old => if old = data then ack d 0 else d
          | none =>
            if !flashOk then ack (d.stageChecked data sigOk false) 2
            else
              let d := d.stageBlock data sigOk
              if d.updState = 7 then d else ack d 0)

def execBlock (h : MsgHdr) (data : List Byte) (sigOk flashOk : Bool) (s : State) : Host.Outcome State Fault Refusal :=
  runFab (Dev.blockIn h data sigOk flashOk) s

/-- BLOCK_ACK at the head: OK counts for the block (R537). -/
def Dev.blockAck (h : MsgHdr) (status index pkg : Nat) (d : Dev) : Dev :=
  d.rx 0x40 h (fun d =>
    if !d.isHead ∨ status ≠ 0 ∨ pkg ≠ d.reg64 .UPD 0 Reg.UPD_PKG_ID then d
    else
      let x := h.src * 65536 + index % 65536
      { d with upd := { d.upd with acks := (x :: d.upd.acks).eraseDups, sent := d.upd.sent.filter (· != x) } })

def execBlockAck (h : MsgHdr) (status index pkg : Nat) (s : State) : Host.Outcome State Fault Refusal :=
  runFab (Dev.blockAck h status index pkg) s

/-- APPLY_COMPLETE (R540): `flashBad` names the part whose read-back fails after the retries, `mordant` is the result of R513 for the
MORDANT part. -/
def execApplyComplete (flashBad : Option Nat) (mordant : Nat) (s : State) : Host.Outcome State Fault Refusal :=
  runFab (fun d => d.applyDone flashBad mordant) s

/-! ### Rollback and reports (R544, R545) -/

/-- Start a rollback, unless one runs; a CONFIRM that waits behind another operation ends with STATE (R545). -/
def Dev.startRollback (d : Dev) : Dev :=
  if d.upd.prepare.isSome ∨ d.upd.go.isSome then d
  else
    let confirms (o : GlobalOp) : Bool := o.kind == 7 && wordAt o.body 0 == 0x103
    let waits := d.fab.waiting.any confirms
    let d := { d with
      upd := { d.upd with prepare := some (1, d.pkgMembers, d.life.usUp) }
      fab := { d.fab with waiting := d.fab.waiting.filter (fun o => !confirms o) } }
    (if waits then d.reqOver 1 else d).opAsk 7 [0x100, d.runPkg, 1] false

/-- REPORT at the head: OK counts in a trial, anything else rolls the set back; a running package other than the head's is a MISMATCH. -/
def Dev.report (h : MsgHdr) (status pkg : Nat) (d : Dev) : Dev :=
  d.rx 0x40 h (fun d =>
    if !d.isHead ∨ !(d.updState = 5 ∨ d.updState = 6) ∨ !d.pkgMembers.contains h.src then d
    else if status = 0 ∧ pkg = d.runPkg then { d with upd := { d.upd with reports := (h.src :: d.upd.reports).eraseDups } }
    else d.startRollback)

def execReport (h : MsgHdr) (status pkg : Nat) (s : State) : Host.Outcome State Fault Refusal := runFab (Dev.report h status pkg) s

/-- The settle time of UPD_CFG has passed since the start; 0 acts as 1 s (R551). -/
def Dev.settleOver (d : Dev) : Bool := decide (max 1 (d.regF .UPD 0 Reg.UPD_UPD_CFG 0 8) * 1000000 ≤ d.life.usUp - d.upd.trialUs)

/-- SETTLE_TIMEOUT: at the head a set member without a report, or its own fallback, starts a rollback; a member that is not ACTIVE in
time reports SETTLE (R544, R545). -/
def Dev.settleTimeout (d : Dev) : Dev :=
  if !d.life.mordant ∨ d.life.glaze = .stopped then d
  else if d.isMember then
    if d.updState = 5 ∧ d.fabState ≠ 3 ∧ d.settleOver ∧ !d.upd.reports.contains d.fabId then
      ({ d with upd := { d.upd with reports := d.fabId :: d.upd.reports } }).sayReport 3
    else d
  else if d.regB .SX 0 Reg.SX_BOOT_STS 15 ∧ d.pkgMembers ≠ [] then d.startRollback
  else if d.updState = 5 ∧ d.settleOver then d.startRollback
  else d

def execSettleTimeout (s : State) : Host.Outcome State Fault Refusal := runFab Dev.settleTimeout s

/-! ### Update broadcasts (R541 to R546) -/

/-- UPD_PREPARE. -/
def execUpdPrepare (h : MsgHdr) (id pkg target : Nat) (s : State) : Host.Outcome State Fault Refusal :=
  runFab (Dev.bcast h id 0x100 [pkg, target]) s

/-- UPD_GO. -/
def execUpdGo (h : MsgHdr) (id pkg t : Nat) (s : State) : Host.Outcome State Fault Refusal := runFab (Dev.bcast h id 0x101 [pkg, t]) s

/-- UPD_ABORT. -/
def execUpdAbort (h : MsgHdr) (id pkg : Nat) (s : State) : Host.Outcome State Fault Refusal := runFab (Dev.bcast h id 0x102 [pkg]) s

/-- UPD_CONFIRM. -/
def execUpdConfirm (h : MsgHdr) (id pkg : Nat) (s : State) : Host.Outcome State Fault Refusal := runFab (Dev.bcast h id 0x103 [pkg]) s

/-- PREPARE_ACK_TIMEOUT (R542): 1 s after UPD_PREPARE went out, members are still missing: UPD_ABORT. -/
def Dev.prepareLate (d : Dev) : Dev :=
  match d.fab.op with
  | some o =>
    if o.kind = 7 ∧ wordAt o.body 0 = 0x100 ∧ o.awaiting ≠ 0 ∧ 1000000000 ≤ d.fabNow - o.startNs then
      ({ d with fab := { d.fab with gathers := d.fab.gathers.filter (fun g => !(g.kind == 2 && g.id == o.id)) } }).updDone { o with result := 1 }
    else d
  | none => d

def execPrepareAckTimeout (s : State) : Host.Outcome State Fault Refusal := runFab Dev.prepareLate s

/-- ACTIVATION_TIME (R542): fabric time reaches T; the device enters RESET, its flush being done, and a rollback leaves IDLE with
TRIAL_FAIL (R545). -/
def Dev.activate (d : Dev) : Dev :=
  match d.upd.go with
  | none => d
  | some t =>
    if !restartMode d.life.mode ∨ d.fabNow < t then d
    else
      let back := d.upd.target = 1
      let d := d.deviceReset false 6 true
      if back then ((d.setRegF .UPD 0 Reg.UPD_UPD_STS 4 8 9).raiseErr .UPD 0 1 noDetail).setIrq .UPD 0 2
      else d.setIrq .UPD 0 1

def execActivationTime (s : State) : Host.Outcome State Fault Refusal := runFab Dev.activate s

/-! ### CAL_SYNC (R590) -/

/-- CAL_SYNC_TIMER: the head broadcasts its calendar each second, and after each SET. -/
def Dev.calSyncTimer (d : Dev) : Dev :=
  if !d.isHead ∨ !liveMode d.life.mode ∨ !(d.fab.calUs = 0 ∨ 1000000 ≤ d.life.usUp - d.fab.calUs) then d
  else ({ d with fab := { d.fab with calUs := max 1 d.life.usUp } }).opAsk 8 [0x200, d.bak.sec, d.bak.sub, b2n d.bak.valid, d.fabNow] false

def execCalSyncTimer (s : State) : Host.Outcome State Fault Refusal := runFab Dev.calSyncTimer s

/-- CAL_SYNC at a member. -/
def execCalSync (h : MsgHdr) (id sec sub flags t : Nat) (s : State) : Host.Outcome State Fault Refusal :=
  runFab (Dev.bcast h id 0x200 [sec % 2 ^ 32, sub % 32768, flags, t]) s

/-! ### Requests of UPD.REQ (R550) -/

/-- `n` bytes of MBOX from byte `a`. -/
def Dev.mbox (d : Dev) (a n : Nat) : List Byte :=
  (List.range n).map (fun i => BitVec.ofNat 8 (d.regN .UPD 0 (Reg.UPD_MBOX_0 + (a + i) / 4 * 4) / 2 ^ (8 * ((a + i) % 4)) % 256))

/-- Put bytes into MBOX from byte `a`. -/
def Dev.mboxPut (d : Dev) (a : Nat) (bs : List Byte) : Dev :=
  bs.zipIdx.foldl (fun d e => d.setRegF .UPD 0 (Reg.UPD_MBOX_0 + (a + e.2) / 4 * 4) (8 * ((a + e.2) % 4)) 8 e.1.toNat) d

/-- A request that only the head or a standalone device takes, in some states (results NOT_HEAD, STATE). -/
def Dev.atHead (d : Dev) (states : List Nat) (f : Dev → Dev) : Dev :=
  if d.isMember then d.reqEnd 3 0 else if !states.contains d.updState then d.reqEnd 1 0 else f (d.setRegN .UPD 0 Reg.UPD_REQ_STS 1)

/-- ABORT: the package ends everywhere. -/
def Dev.reqAbort (d : Dev) : Dev := d.atHead [1, 2, 3, 4, 7] (fun d => d.opAsk 7 [0x102, d.reg64 .UPD 0 Reg.UPD_PKG_ID] false)

/-- COMMIT (R541). -/
def Dev.reqCommit (d : Dev) : Dev :=
  d.atHead [3] (fun d => ({ d with upd := { d.upd with prepare := some (0, d.pkgMembers, d.life.usUp) } }).opAsk 7
    [0x100, d.reg64 .UPD 0 Reg.UPD_PKG_ID, 0] false)

/-- CONFIRM (R546). -/
def Dev.reqConfirm (d : Dev) : Dev := d.atHead [6] (fun d => d.opAsk 7 [0x103, d.runPkg] false)

/-- ROLLBACK (R545). -/
def Dev.reqRollback (d : Dev) : Dev := d.atHead [5, 6] Dev.startRollback

/-- KEY_IMPORT: UNWRAP of the blob in MBOX into a slot. -/
def Dev.reqKeyImport (d : Dev) (slot : Nat) : Dev :=
  let d := if d.cip.alarm then d.keyResult 7 else d.unwrapBlob (slot % 4096) (d.mbox 0 0xe0)
  let r := d.regF .KEY 0 Reg.KEY_KEY_STS 1 4
  if r = 0 then d.reqEnd 0 0 else d.reqEnd 6 r

/-- IMPORT_PUB: the import public key and its device-key signature, free values both. -/
def Dev.reqImportPub (d : Dev) : Dev :=
  let f := d.free
  let d := { d with free := f + 96 }
  ((d.mboxPut 0 ((List.range 97).map Config.importPub)).mboxPut 0x64 ((List.range 96).map (fun i => Config.freeByte (f + i)))).reqEnd 0 0

/-- A copy that Mordant writes does not read back after its retries (R521): its content is undefined, and the request ends FLASH. -/
def Dev.reqFlashFail (d : Dev) (a n : Nat) : Dev := ((d.flashUndefined a n).noteBy 1 4 .BFL none none).reqEnd 7 0

/-- Topology, sides and coordinates of an option image are those of R403. -/
def topoOk (b : List Byte) : Bool :=
  let f (o : Nat) : Nat := bytesAt b o 1
  let side (lo hi v : Nat) : Bool := decide (lo ≤ v ∧ v ≤ hi)
  (match f 0x10 with
    | 0 => side 1 16 (f 0x11) && side 1 8 (f 0x12) && side 1 4 (f 0x13)
    | 1 => side 2 16 (f 0x11)
    | 2 => side 2 8 (f 0x11) && side 2 8 (f 0x12)
    | 3 => side 2 4 (f 0x11) && side 2 4 (f 0x12) && side 2 4 (f 0x13)
    | _ => false) &&
    decide (f 0x14 < 16 ∧ f 0x15 < 16 ∧ f 0x16 < 16)

/-- The checks of an option image, 0x230 bytes at the copy's own offsets (R523). -/
def optionOk (b : List Byte) : Bool :=
  let f (o n : Nat) : Nat := bytesAt b o n
  decide (f 5 1 < 4) && decide (0x30 ≤ f 6 2 ∧ f 6 2 ≤ 0x230) && f 6 2 % 8 == 0 && topoOk b && f 0x17 1 == 0 && decide (f 0x19 1 < 3) &&
    decide (f 0x1a 2 < 4096) && decide (f 0x22 1 < 128) && decide (0x30 + 8 * f 0x23 1 ≤ f 6 2) && f 0x24 12 == 0 &&
    (b.drop (0x30 + 8 * f 0x23 1)).all (· == 0#8)

/-- OPTION_WRITE: a new option copy from MBOX (R523, R524). -/
def Dev.reqOption (d : Dev) (flashOk : Bool) : Dev :=
  let img := d.mbox 0 0x230
  if !optionOk img then d.reqEnd 5 0
  else
    let seq (i : Nat) : Nat := if d.optValid i then d.optSeq i else 0
    let c := if seq 0 < seq 1 then 0 else 1
    let head := leBytes 4 0x504f5650 ++ leBytes 1 1 ++ (img.drop 5).take 3 ++ leBytes 4 (seq (1 - c) + 1)
    let body := (img.drop 16)
    let check := crc32c (head ++ zeros 4 ++ (body.take (bytesAt img 6 2 - 16)))
    if flashOk then (d.flashRewrite (optCopy c) 0x800 (head ++ leBytes 4 check ++ body)).reqEnd 0 0
    else d.reqFlashFail (optCopy c) 0x800

/-- Requests that only the host PF makes, in MAINT (R526). -/
def Dev.inMaint (d : Dev) (r : Requester) (f : Dev → Dev) : Dev :=
  if d.life.mode ≠ .maint then d.reqEnd 2 0 else if r.dom ≠ .host ∨ r.i3c then d.reqEnd 4 0 else f d

/-- Program bytes of the OTP row; where the read-back differs, the field keeps what is read, a free value (R521, R526). -/
def Dev.otpProgram (d : Dev) (o : Nat) (bs : List Byte) (flashOk : Bool) : Dev :=
  let d := (d.flashProgram (otpWin + o) bs).incWrap .BFL 0 Reg.BFL_PROG_CNT ((bs.length + 31) / 32)
  if flashOk then d else (d.flashUndefined (otpWin + o) bs.length).noteBy 1 4 .BFL none none

/-- OTP_OPERATOR: OPERATOR_HASH while it is empty, then OPERATOR_LOCK. -/
def Dev.reqOperator (r : Requester) (flashOk : Bool) (d : Dev) : Dev :=
  d.inMaint r (fun d =>
    if !(d.flashBytes (otpWin + 0xc0) 48).all (· == 0xff#8) then d.reqEnd 1 0
    else
      let d := d.otpProgram 0xc0 (d.mbox 0 48) flashOk
      if flashOk then (d.otpProgram 0x160 (leBytes 4 0xfffffffd) true).reqEnd 0 0 else d.reqEnd 7 0)

/-- DEBUG_FULL_OFF. -/
def Dev.reqDebugOff (r : Requester) (flashOk : Bool) (d : Dev) : Dev :=
  d.inMaint r (fun d => (d.otpProgram 0x160 (leBytes 4 0xfffffffe) flashOk).reqEnd (if flashOk then 0 else 7) 0)

/-! ### Settings (R547, R548) -/

/-- Offsets of the registers of a page that are settings: RW bits at 0x040 or above, a 64-bit register once. -/
def settingOffs (p : PT) : List Nat :=
  (p.regs.filter (fun r => r.rw != 0 && decide (0x40 ≤ r.off))).flatMap (fun r =>
    ((List.range r.count).map (fun k => r.off + k * r.stride)).filter (fun o => !isWide p (o - 4)))

/-- RW bits of a register word. -/
def Dev.rwPart (d : Dev) (p : PT) (i off : Nat) : Nat := match p.desc off with
  | none => 0
  | some r => d.regN p i off &&& r.rw

/-- Value of a setting. -/
def Dev.settingVal (d : Dev) (p : PT) (i off : Nat) : Nat :=
  d.rwPart p i off + (if isWide p off then d.rwPart p i (off + 4) * 2 ^ 32 else 0)

/-- The 16-byte entries of every setting. -/
def Dev.settingEntries (d : Dev) : List (List Byte) :=
  settingsTypes.flatMap (fun p => (List.range p.count).flatMap (fun i => (settingOffs p).map (fun o =>
    leBytes 2 p.code ++ leBytes 2 i ++ leBytes 2 o ++ zeros 2 ++ leBytes 8 (d.settingVal p i o))))

/-- SEQ of a settings copy, 0 where it is not valid. -/
def Dev.setSeq (d : Dev) (i : Nat) : Nat := if d.setValid i then d.flashNat (setCopy i + 8) 8 else 0

/-- The copy to write: the older one; in a trial only one of the running FORMAT, or one that is not valid (R548). -/
def Dev.setTarget (d : Dev) : Option Nat :=
  let old := if d.setSeq 1 ≤ d.setSeq 0 then 1 else 0
  let may (i : Nat) : Bool := !(d.updState == 5 || d.updState == 6) || !d.setValid i || d.flashNat (setCopy i + 4) 2 == d.settingsFmt
  if may old then some old else if may (1 - old) then some (1 - old) else none

/-- Write a settings copy with entries (R547). -/
def Dev.reqSettings (d : Dev) (entries : List (List Byte)) (flashOk : Bool) : Dev :=
  match d.setTarget with
  | none => d.reqEnd 1 0
  | some c =>
    let head := leBytes 4 0x54535650 ++ leBytes 2 d.settingsFmt ++ leBytes 2 entries.length ++ leBytes 8 (max (d.setSeq 0) (d.setSeq 1) + 1) ++
      leBytes 4 (d.flashNat (glazeBank d.runG + 0x10) 4) ++ zeros 8
    let body := entries.flatten
    if flashOk then (d.flashRewrite (setCopy c) 0x10000 (head ++ leBytes 4 (crc32c (head ++ zeros 4 ++ body)) ++ body)).reqEnd 0 0
    else d.reqFlashFail (setCopy c) 0x10000

/-! ### FORMAT (R186) -/

/-- Steps 1 and 2: every record, map and loss is forgotten; erase counts and grown-bad lists stay with the dies. -/
def Dev.formatClear (d : Dev) : Dev :=
  { d with
    ftl := Ftl.empty, media := [], lostSeen := [], cache := [], stores := [], grants := [], seals := [], reseal := []
    jnl := { Jnl.empty with rootSeq := d.jnl.rootSeq + 1, seqMedia := d.jnl.seqMedia }
    plp := { d.plp with gens := [], usedSlots := 0, index := 0, rootPages := 14 }
    recd := { d.recd with ring := [], nextPage := 0, rotating := false, clearing := false }
    jobRows := []
    regs := mdel d.regs (PT.JNL.key 0 Reg.JNL_LEDGER_STS)
    fab := { d.fab with intents := [], stripes := [], resync := [] } }

/-- Steps 3 and 4: factory marks as read, groups of width PROT over the dies in data service, spares, flush dies. Both record copies are
erased by then, so that the media counts as unformatted until step 6. -/
def Dev.formatGroups (d : Dev) (prot : Nat) (marks : List (Nat × List Nat)) : Dev :=
  let d := marks.foldl (fun d m => d.mapDie m.1 (fun x => { x with factoryBad := m.2 })) d
  let dies := sortBy dieKey ((d.dies.filter (fun e => e.2.data && e.2.state != 8)).map (·.1))
  let w := walk (17 + prot) dies []
  let d := d.mapFtl (fun f => { f with pool := w.2 })
  let d := w.1.foldl Dev.formGroup d
  let seq := (d.format.map (·.seq)).getD 0 + 1
  let d := { d with format := none, formatting := some ⟨prot, w.1.length, seq, d.serial, dies.length⟩ }
  ((d.flashRewrite (fmtCopy 0) 0x10000 []).flashRewrite (fmtCopy 1) 0x10000 []).chooseFlushDies

/-- Step 5 begins: the reserved superblocks are erased behind their intents, a root page is written and a complete checkpoint pass starts. -/
def Dev.formatErase (d : Dev) : Dev :=
  let groups := d.ftl.groups.filter (fun e => e.2.members.any d.plp.dies.contains)
  let d := groups.foldl (fun d e => [0, 1].foldl (fun d i =>
    (e.2.members.foldl (fun d n => d.eraseReserved [] i n) (d.ledgerIntent (e.1 * 8192 + i))).ledgerClose (e.1 * 8192 + i) []) d) d
  let d := { d with jnl := { d.jnl with passSeq := d.reg64 .JNL 0 Reg.JNL_JSEQ, recs := [], waiting := [] } }
  (d.setRegN .MAP 0 Reg.MAP_CKPT_STS 0x100).setRegN .UPD 0 Reg.UPD_REQ_STS 1

/-- Steps 6 and 7, once the checkpoint pass of step 5 is complete: both copies of the record; READONLY ends; the request ends with OK. The map
in SRAM is what the media holds, so that nothing is left to replay. -/
def Dev.formatFinish (d : Dev) : Dev :=
  match d.formatting with
  | none => d
  | some r =>
    let d := { d with format := some r, formatting := none, firstStart := true, life := { d.life with replayed := true } }
    let bs := fmtBytes r ++ leBytes 4 (crc32c (fmtBytes r))
    let d := [0, 1].foldl (fun (d : Dev) i => (d.flashProgram (fmtCopy i) bs).incWrap .BFL 0 Reg.BFL_PROG_CNT ((bs.length + 31) / 32)) d
    let d := ((d.setRegN .WEAR 0 Reg.WEAR_RO_CAUSE 0).setRegF .STR 0 Reg.STR_STR_STS 0 1 r.prot).setRegF .REB 0 Reg.REB_REB_CTL 0 1 0
    ((d.setRegF .SNP 0 Reg.SNP_HOLD_VOL 31 1 0).pslRecompute).reqEnd 0 0

/-- CKPT_DONE (R184): the 192 chunks are written. The pass stands on media as the map is at its end (log entry); a
format whose step 5 wrote it goes on (R186). -/
def Dev.ckptDone (d : Dev) : Dev :=
  if !d.regB .MAP 0 Reg.MAP_CKPT_STS 8 ∨ d.regF .MAP 0 Reg.MAP_CKPT_STS 0 8 ≠ 192 then d
  else
    let waiting := d.jnl.waiting.map (fun (p : JPage) => { p with state := d.ftl })
    let d := { d with jnl := { d.jnl with deltas := [], copies := [], media := d.ftl, waiting := waiting } }
    ((d.setRegN .MAP 0 Reg.MAP_CKPT_STS 192).setIrq .MAP 0 0).formatFinish

def execCkptDone (s : State) : Host.Outcome State Fault Refusal := run Dev.ckptDone s

/-- FORMAT: `marks` gives the factory-bad blocks that step 3 reads, by die. The request stays BUSY while the checkpoint pass of step 5 is
written. -/
def Dev.reqFormat (d : Dev) (arg : Nat) (marks : List (Nat × List Nat)) : Dev :=
  if d.life.mode ≠ .maint then d.reqEnd 2 0
  else if 2 ≤ arg % 2 ^ 24 then d.reqEnd 5 0
  else if d.stores.any (fun (e : Nat × Store) => e.2.fabric && e.2.base != 0xffffff) then d.reqEnd 1 0
  else ((d.formatClear).formatGroups (arg % 2) marks).formatErase

/-! ### The register -/

/-- The operations of R550 by their OP; `other` for one that it does not list. -/
def reqPick (op : Nat) (abort commit confirm rollback import_ pub option operator debugOff save clear format other : Dev → Dev) : Dev → Dev :=
  match op with
  | 0x1 => abort
  | 0x2 => commit
  | 0x3 => confirm
  | 0x4 => rollback
  | 0x5 => import_
  | 0x6 => pub
  | 0x7 => option
  | 0x8 => operator
  | 0x9 => debugOff
  | 0xa => save
  | 0xb => clear
  | 0xc => format
  | _ => other

/-- What each operation of UPD.REQ does; one that R550 does not list ends with a RESULT that the spec does not state. -/
def Dev.reqOp (r : Requester) (arg : Nat) (flashOk : Bool) (marks : List (Nat × List Nat)) (d : Dev) (op : Nat) : Dev :=
  reqPick op Dev.reqAbort Dev.reqCommit Dev.reqConfirm Dev.reqRollback (fun d => d.reqKeyImport arg) Dev.reqImportPub (fun d => d.reqOption flashOk)
    (Dev.reqOperator r flashOk) (Dev.reqDebugOff r flashOk) (fun d => d.reqSettings d.settingEntries flashOk) (fun d => d.reqSettings [] flashOk)
    (fun d => d.reqFormat arg marks) (fun d => (d.takeFree.2).reqEnd (Config.freeNat d.free % 16) 0) d

/-- OP and ARG of a request stored. -/
def Dev.reqSaid (d : Dev) (op arg : Nat) : Dev := d.setRegN .UPD 0 Reg.UPD_REQ (op % 16 + arg % 2 ^ 24 * 256)

/-- Carry out a request of UPD.REQ; Glaze may only save settings. -/
def Dev.reqRun (r : Requester) (op arg : Nat) (flashOk : Bool) (marks : List (Nat × List Nat)) (d : Dev) : Dev :=
  if r.dom = .glaze ∧ op ≠ 0xa then (d.reqSaid op arg).reqEnd 4 0 else Dev.reqOp r arg flashOk marks (d.reqSaid op arg) op

/-- A write of UPD.REQ, discarded while a request runs (R335, R550). -/
def Dev.reqWrite (r : Requester) (op arg : Nat) (flashOk : Bool) (marks : List (Nat × List Nat)) (d : Dev) : Dev :=
  d.regWriteIf r .UPD 0 Reg.UPD_REQ (!d.reqBusy) (Dev.reqRun r op arg flashOk marks)

/-- UPDATE_ABORT. -/
def execUpdateAbort (req : Requester) (s : State) : Host.Outcome State Fault Refusal := runFab (Dev.reqWrite req 1 0 true []) s

/-- COMMIT. -/
def execCommit (req : Requester) (s : State) : Host.Outcome State Fault Refusal := runFab (Dev.reqWrite req 2 0 true []) s

/-- CONFIRM. -/
def execConfirm (req : Requester) (s : State) : Host.Outcome State Fault Refusal := runFab (Dev.reqWrite req 3 0 true []) s

/-- ROLLBACK. -/
def execRollback (req : Requester) (s : State) : Host.Outcome State Fault Refusal := runFab (Dev.reqWrite req 4 0 true []) s

/-- KEY_IMPORT: `slot` is ARG. -/
def execKeyImport (req : Requester) (slot : Nat) (s : State) : Host.Outcome State Fault Refusal := runFab (Dev.reqWrite req 5 slot true []) s

/-- IMPORT_PUB. -/
def execImportPub (req : Requester) (s : State) : Host.Outcome State Fault Refusal := runFab (Dev.reqWrite req 6 0 true []) s

/-- OPTION_WRITE: `flashOk` says that the copy reads back. -/
def execOptionWrite (req : Requester) (flashOk : Bool) (s : State) : Host.Outcome State Fault Refusal :=
  runFab (Dev.reqWrite req 7 0 flashOk []) s

/-- OTP_OPERATOR. -/
def execOtpOperator (req : Requester) (flashOk : Bool) (s : State) : Host.Outcome State Fault Refusal :=
  runFab (Dev.reqWrite req 8 0 flashOk []) s

/-- DEBUG_FULL_OFF. -/
def execDebugFullOff (req : Requester) (flashOk : Bool) (s : State) : Host.Outcome State Fault Refusal :=
  runFab (Dev.reqWrite req 9 0 flashOk []) s

/-- SETTINGS_SAVE. -/
def execSettingsSave (req : Requester) (flashOk : Bool) (s : State) : Host.Outcome State Fault Refusal :=
  runFab (Dev.reqWrite req 0xa 0 flashOk []) s

/-- SETTINGS_CLEAR. -/
def execSettingsClear (req : Requester) (flashOk : Bool) (s : State) : Host.Outcome State Fault Refusal :=
  runFab (Dev.reqWrite req 0xb 0 flashOk []) s

/-- FORMAT: `arg` is ARG, `marks` the factory-bad blocks read, by die. -/
def execFormat (req : Requester) (arg : Nat) (marks : List (Nat × List Nat)) (s : State) : Host.Outcome State Fault Refusal :=
  runFab (Dev.reqWrite req 0xc arg true marks) s

end Sys2Proof.Machine
end

