-- ==== Sys2Proof/Machine/EnableOps.lean ====
section
/-! DEFINITION. The enable machine of R63 as it acts on each unit: what a start clears, what a start-up waits for, what leaving
SERVING stops, what a drain waits for, what its end does, and SRST (spec/02 R63 to R65, R672, and the owning chapters). A unit is named by a
page type and an instance; VF stands for VF n of the VF page, PWR for domain n of the PWR page. -/
namespace Sys2Proof.Machine
open Sys2Proof

/-- The unit follows R63: VFs 1 to 255, domains 1 to 10, and every page with HAS_DRAIN. -/
def unitExists (p : PT) (i : Nat) : Bool := match p with
  | .VF => decide (1 ≤ i ∧ i ≤ 255)
  | .PWR => decide (1 ≤ i ∧ i ≤ 10)
  | _ => p.hasDrain && decide (i < p.count)

/-- State of a unit (R63, R64). -/
def Dev.unitSt (d : Dev) (p : PT) (i : Nat) : PageSt := match p with
  | .VF => (d.vf i).st
  | .PWR => (d.dom i).st
  | .HQ => d.qSt i
  | _ => d.page p i

/-- Set the state of a unit. -/
def Dev.setUnit (d : Dev) (p : PT) (i : Nat) (s : PageSt) : Dev := match p with
  | .VF => d.setVf i { d.vf i with st := s }
  | .PWR => d.setDom i { d.dom i with st := s }
  | .HQ => d.setQSt i s
  | _ => d.setPage p i s

/-- The function of a unit is in FLR or a port reset, during which a start waits (R93, R378). -/
def Dev.unitFlr (d : Dev) (p : PT) (i : Nat) : Bool := match p with
  | .VF => (d.fn (.vf i)).flr || (d.fn .pf).flr
  | .HQ => (d.fn (d.qOwner i)).flr || (d.fn .pf).flr
  | .TQ => (d.fn (.tp (i / 64))).resetting
  | _ => false

/-! ### Queues of a unit -/

/-- Every queue that is not OFF and belongs to a tint (R389, R392). -/
def Dev.tintQueues (d : Dev) (t : Nat) : List Nat := d.liveQueues.filter (fun q => d.qTint q == t)

/-- Queues of a function that are not OFF. -/
def Dev.fnQueues (d : Dev) (f : Fn) : List Nat := d.liveQueues.filter (fun q => d.qOwner q == f)

/-- Q_USED of a tint (R386): the queues of its VF bindings, the PF queues and the tenant queues that are not OFF. -/
def Dev.qUsed (d : Dev) (t : Nat) : Nat :=
  (d.vfs.filter (fun e => e.2.valid && e.2.tint == t)).foldl (fun n (e : Nat × VfSt) => n + e.2.qcount) 0 +
    ((d.tintQueues t).filter (fun q => match d.qOwner q with
      | .vf _ => false
      | _ => true)).length

/-- Q_ALLOW as it acts. -/
def Dev.qAllow (d : Dev) (t : Nat) : Nat := min 2560 (d.regF .TNT t Reg.TNT_Q_ALLOW 0 12)

/-- Data of the command had arrived and passed its checks (R88, R376). -/
def Flight.arrived (f : Flight) : Bool :=
  f.stage == .held || f.stage == .lines || f.stage == .installed || (f.stage == .fab && f.cmd.opcode != 0x01)

/-- Take a command off its queue while it goes on installing: its tag is free, and it will post nothing (R88). -/
def Dev.orphan (d : Dev) (f : Flight) : Dev :=
  let x := d.nextXid
  let d := x.2.bitAfterDrop f.q f.tag
  { d with
      flights := updFirst (fun g => g.q == f.q && g.tag == f.tag) (fun g => { g with q := goneQ, tag := x.1 }) d.flights
      dbOrder := d.dbOrder.filter (fun e => !(e.1 == f.q && e.2 == f.tag))
      fab := { d.fab with writes := d.fab.writes.map (fun w => if w.q = f.q ∧ w.tag = f.tag then { w with q := goneQ, tag := x.1 } else w) } }

/-- Steps 1 to 3 of R88 for one queue: arrived writes go on installing, every other command is discarded with nothing posted. -/
def Dev.masterStop (d : Dev) (q : Nat) : Dev :=
  (((d.inflight q).filter Flight.arrived).foldl Dev.orphan d).dropFlights q

/-- A queue as R88 leaves it: commands ended by steps 1 to 3, frozen with MASTER_DISABLED. -/
def Dev.masterFreeze (d : Dev) (q : Nat) : Dev :=
  let tags := ((d.inflight q).filter (fun f => !f.arrived)).map (·.tag)
  (d.masterStop q).freeze q Fz.master none tags

/-- Queues of tenant port `p` that are not OFF. -/
def Dev.portQueues (d : Dev) (p : Nat) : List Nat := d.liveQueues.filter (fun q => decide (2048 ≤ q) && (q - 2048) / 64 == p)

/-- Discard the push staging of a port (R376, R381). -/
def Dev.dropPushes (d : Dev) (p : Nat) : Dev :=
  let mine (q : Nat) : Bool := decide (2048 ≤ q) && (q - 2048) / 64 == p
  { d with
      pushes := d.pushes.filter (fun e => !mine (e.1 / 32))
      pushSkip := d.pushSkip.filter (fun e => !mine (e / 32)) }

/-! ### Starting -/

/-- Clean state of a unit as it enters STARTING (R63). -/
def Dev.cleanUnit (d : Dev) (p : PT) (i : Nat) : Dev := match p with
  | .HQ => d.cleanQueue i
  | .TQ =>
    let q := 2048 + i
    let d := d.cleanQueue q
    let push := d.regB .TP (i / 64) (Reg.TP_PUSH_QMASK + 4 * (i % 64 / 32)) (i % 32)
    let rest := d.pushQs.filter (fun x => x != q)
    { d with
        pushQs := if push then q :: rest else rest
        pushDead := d.pushDead.filter (fun x => x != q)
        pushes := d.pushes.filter (fun e => e.1 / 32 != q)
        pushSkip := d.pushSkip.filter (fun e => e / 32 != q) }
  | .CH =>
    let d := (d.discardEntries i).mapChan i (fun c => { c with lists := [], ready := false, below := none })
    (d.setRegF .CH i Reg.CH_CH_STS 0 8 0).setRegF .CH i Reg.CH_CH_STS 13 1 0
  | .FL => if d.usedLinks.contains i then d.setLink i 1 else d
  | .MLP => d.loopClean i
  | .PWR => d.setDom i { d.dom i with stage := 0, retained := false }
  | _ => d

/-- A tenant queue that leaves OFF would pass its tint's allowance (R380). -/
def Dev.overAllowed (d : Dev) (p : PT) (i : Nat) : Bool := match p with
  | .TQ => decide (d.qAllow (d.qTint (2048 + i)) < d.qUsed (d.qTint (2048 + i)) + 1)
  | _ => false

/-- EN ← 1 (R63): a unit in OFF starts clean, but one whose function is being reset waits for that to end (R93), and a tenant queue
past its allowance stays OFF with ALLOWANCE (R380). -/
def Dev.unitEnable (d : Dev) (p : PT) (i : Nat) : Dev :=
  match d.unitSt p i with
  | .off =>
    if d.overAllowed p i then d.raiseErr .TQ i 5 noDetail
    else if d.unitFlr p i then d.setUnit p i (.draining true false)
    else (d.setUnit p i .starting).cleanUnit p i
  | s => d.setUnit p i s.enSet

/-- What a start-up waits for, beside its own time: the domain of the page (R592), VF of a bound queue, binding and tint of a tenant
queue (R380), the end of a channel's training at whatever rate (R208), the function's reset (R93). -/
def Dev.startReady (d : Dev) (p : PT) (i : Nat) : Bool :=
  (match pageDomain p i with
    | some n => (d.dom n).st == .serving
    | none => true) && !d.unitFlr p i &&
  (match p with
    | .TQ => d.regB .TP (i / 64) Reg.TP_TP_BIND 31 && d.page .TNT (d.qTint (2048 + i)) == .serving
    | .CH => (d.chan i).any (fun c => c.ready) && !d.regB .CH i Reg.CH_CH_STS 13
    | .PWR => false
    | _ => true)

/-- Start-up complete (R63): STARTED of a queue (R107), WP_N of a channel high (R197), a loop makes its gates' rates (R495). -/
def Dev.unitStarted (d : Dev) (p : PT) (i : Nat) : Dev :=
  if d.unitSt p i ≠ .starting ∨ !d.startReady p i then d
  else
    let d := d.setUnit p i .serving
    match p with
    | .HQ | .TQ => d.setIrq p i 1
    | .CH => d.emit (.pin "CH_WP_N" (2 * i + 1))
    | .MLP => d.setRates
    | _ => d

/-! ### Leaving SERVING -/

/-- What every way out of STARTING or SERVING does at once: the queues of a tint that left SERVING freeze (R138, R389), a channel's WP_N goes
low (R197), a link goes OFF (R400), a loop's trace buffers stop and it no longer acts on its gates (R495, R502). -/
def Dev.leaveServing (d : Dev) (p : PT) (i : Nat) (was : PageSt) : Dev := match p with
  | .TNT => if was = .serving then (d.tintQueues i).foldl (fun d q => d.freezeDiscard q Fz.tint true) d else d
  | .CH => d.emit (.pin "CH_WP_N" (2 * i))
  | .FL => ((d.setLink i 0).setRegF .FL i Reg.FL_FL_STS 3 4 0).linkChanged
  | .MLP => (d.traceLeave i).setRates
  | _ => d

/-- What EN ← 0 cuts (R63, R36, R37): a queue's commands, the commands of an engine, of a VF's queues, of a port's queues as R88 does (R375),
the unissued entries of a channel (R228). -/
def Dev.cutWork (d : Dev) (p : PT) (i : Nat) : Dev := match p with
  | .HQ => (d.clearUnadmitted i).discardPosted i
  | .TQ => (d.clearUnadmitted (2048 + i)).discardPosted (2048 + i)
  | .QE => (d.flights.filter (fun f => f.qe == i && decide (f.q < 4096))).foldl (fun d f => d.post f St.discarded 0 0 0 0 f.cmd.addr 0) d
  | .VF => (d.fnQueues (.vf i)).foldl (fun d q => (d.clearUnadmitted q).discardPosted q) d
  | .TP => ((d.portQueues i).foldl (fun d q => d.masterFreeze q) d).setRegN .TP i Reg.TP_LINK_STS 0
  | .CH => d.discardEntries i
  | _ => d

/-- EN ← 0 while the page drains: a queue's doorbell bits that wait go (R115). -/
def Dev.drainCut (d : Dev) (p : PT) (i : Nat) : Dev := match p with
  | .HQ => d.clearUnadmitted i
  | .TQ => d.clearUnadmitted (2048 + i)
  | _ => d

/-- EN ← 0 (R63). -/
def Dev.unitDisable (d : Dev) (p : PT) (i : Nat) : Dev :=
  match d.unitSt p i with
  | .draining pend srst => (d.setUnit p i (PageSt.draining pend srst).enClear).drainCut p i
  | .starting | .serving => ((d.setUnit p i (.draining false false)).leaveServing p i (d.unitSt p i)).cutWork p i
  | s => d.setUnit p i s.enClear

/-- DRAIN ← 1 (R63): nothing new, and what is in flight ends normally. -/
def Dev.unitDrain (d : Dev) (p : PT) (i : Nat) : Dev :=
  match d.unitSt p i with
  | .starting | .serving => (d.setUnit p i (.draining false false)).leaveServing p i (d.unitSt p i)
  | _ => d

/-- The reset values that SRST loads, with the internal state that stands for them. -/
def Dev.loadUnit (d : Dev) (p : PT) (i : Nat) : Dev := match p with
  | .TP => (d.loadReset p i).dropPushes i
  | .MLP => ((d.loadReset p i).setLoop i loopReset).setRates
  | _ => d.loadReset p i

/-- SRST ← 1 on a page with HAS_DRAIN (R63). A link that FAILED is usable again (R400). -/
def Dev.unitReset (d : Dev) (p : PT) (i : Nat) : Dev :=
  match d.unitSt p i with
  | .off => d.loadUnit p i
  | .faulted pend =>
    let d := (d.setUnit p i .off).loadUnit p i
    if pend then d.unitEnable p i else d
  | .starting | .serving => ((d.setUnit p i (.draining false true)).leaveServing p i (d.unitSt p i)).cutWork p i
  | .draining _ _ => (d.setUnit p i (.draining false true)).cutWork p i

/-! ### The end of a drain -/

/-- Pages inside a domain that are not OFF (R592). -/
def Dev.domainBusy (d : Dev) (n : Nat) : Bool :=
  d.pages.any (fun e => match PT.ofCode (e.1 / 0x1000000) with
    | some p => pageDomain p (e.1 / 0x1000 % 0x1000) == some n && e.2 != .off
    | none => false)

/-- What a drain waits for (R63): the work in flight has ended. -/
def Dev.drainIdle (d : Dev) (p : PT) (i : Nat) : Bool := match p with
  | .HQ => (d.inflight i).isEmpty && !d.unitFlr p i
  | .TQ => (d.inflight (2048 + i)).isEmpty && !d.unitFlr p i
  | .TP => (d.portQueues i).all (fun q => (d.inflight q).isEmpty)
  | .CH => d.chIdle i
  | .QE => d.flights.all (fun f => f.qe != i || decide (4096 ≤ f.q))
  | .TNT => (d.tintQueues i).all (fun q => (d.inflight q).isEmpty)
  | .VF => (d.fnQueues (.vf i)).all (fun q => (d.inflight q).isEmpty) && !d.unitFlr p i
  | .PWR => !d.domainBusy i
  | _ => true

/-- What the end of a drain does beside the change of state: present dies are reset and WP_N goes low (R228), termination is withdrawn
(R375), a domain's stages go down (R593). -/
def Dev.drainEnds (d : Dev) (p : PT) (i : Nat) : Dev := match p with
  | .CH =>
    ((d.diesOf i).foldl (fun d e => if e.2.state = 0 ∨ e.2.state = 8 then d
      else d.mapDie e.1 (fun x => { x with state := 7, resetFor := 2, runUs := d.life.usUp })) d).emit (.pin "CH_WP_N" (2 * i))
  | .TP => d.setRegN .TP i Reg.TP_LINK_STS 0
  | .PWR => d.setDom i { d.dom i with stage := 0 }
  | _ => d

/-- A drain whose work has ended completes (R63): reset values first where SRST asked, then OFF or a clean start. -/
def Dev.finishDrain (d : Dev) (p : PT) (i : Nat) : Dev :=
  match d.unitSt p i with
  | .draining pend srst =>
    let d := d.drainEnds p i
    let d := if srst then d.loadUnit p i else d
    let d := d.setUnit p i .off
    if pend then (d.setUnit p i .starting).cleanUnit p i else d
  | _ => d

/-- Drain complete. -/
def Dev.unitDrained (d : Dev) (p : PT) (i : Nat) : Dev := if d.drainIdle p i then d.finishDrain p i else d

end Sys2Proof.Machine
end

