-- ==== Sys2Proof/Machine/Enable.lean ====
section
/-! DEFINITION. Meanings of the PAGE_CTL, OWNER and INJ_CTL commands (spec/02_register_pages.md R52 to R65, R672) and of VF enables
and bindings (spec/03_host_endpoint.md R82 to R85). -/
namespace Sys2Proof.Machine
open Sys2Proof

/-! ### VF enables -/

/-- The host shows VF `n`: VF Enable is set and NumVFs reaches it. -/
def Dev.vfShown (d : Dev) (n : Nat) : Bool := d.ep.vfe && decide (n ≤ d.ep.numVfs)

/-- STATE_n.EN ← 1: kept at 0 without a valid binding (R84); without VF Enable it waits for that (R85). -/
def Dev.vfEnSet (d : Dev) (n : Nat) : Dev :=
  if !(d.vf n).valid then d
  else
    let d := d.setVf n { d.vf n with want := true }
    if d.vfShown n then d.unitEnable .VF n else d

/-- STATE_n.EN ← 0. -/
def Dev.vfEnClear (d : Dev) (n : Nat) : Dev := (d.setVf n { d.vf n with want := false }).unitDisable .VF n

/-- VF_ENABLE_CLEAR: VF Enable goes to 0, which acts as EN ← 0 on every VF at once (R85). -/
def Dev.vfeClear (d : Dev) : Dev :=
  let d := { d with ep := { d.ep with vfe := false } }
  d.vfs.foldl (fun d (e : Nat × VfSt) => d.unitDisable .VF e.1) d

def execVfEnableClear (s : State) : Host.Outcome State Fault Refusal :=
  run (fun d => if d.life.mode = .compat ∨ (d.fn .pf).flr then d else d.vfeClear) s

/-- VF_ENABLE_SET with NumVFs: each VF with EN = 1 and a valid binding starts clean, after its drain (R85). A PF FLR in progress answers the
configuration write with Request Retry Status (R91). DESIGN CHOICE: the write that sets VF Enable sets VF MSE with it, for no row carries that bit;
a configuration write sets and clears it alone. -/
def Dev.vfeSet (numVfs : Nat) (d : Dev) : Dev :=
  if d.life.mode = .compat ∨ 255 < numVfs ∨ d.ep.vfe ∨ (d.fn .pf).flr then d
  else
    let d := { d with ep := { d.ep with vfe := true, vfMse := true, numVfs := numVfs } }
    d.vfs.foldl (fun d (e : Nat × VfSt) => if e.2.want ∧ e.2.valid ∧ e.1 ≤ numVfs then d.unitEnable .VF e.1 else d) d

def execVfEnableSet (numVfs : Nat) (s : State) : Host.Outcome State Fault Refusal := run (Dev.vfeSet numVfs) s

/-- A host queue that the PF holds: its page is not OFF and no valid binding includes it. -/
def Dev.pfHolds (d : Dev) (q : Nat) : Bool := d.page .HQ q != .off && (d.vfOfQueue q).isNone

/-- A range of host queues overlaps the queues of the PF or of another VF with VALID = 1, or ends above 2,047 (R83). -/
def Dev.vfOverlap (d : Dev) (n base count : Nat) : Bool :=
  decide (2048 < base + count) ||
  (decide (0 < count) &&
    (d.vfs.any (fun e => e.1 != n && e.2.valid && decide (e.2.qbase < base + count ∧ base < e.2.qbase + e.2.qcount)) ||
      (d.liveQueues.any (fun q => decide (base ≤ q ∧ q < base + count) && (match d.vfOfQueue q with
        | some m => m != n && d.pfHolds q
        | none => d.pfHolds q)))))

/-- The ERR_STS bit with which a BIND_n value is rejected (R83): BIND_BUSY, BIND_OVERLAP, BIND_ALLOWANCE. -/
def Dev.bindBad (d : Dev) (n : Nat) (v : W32) : Option Nat :=
  let old := d.vf n
  let tint := fld v 0 10
  let count := min 64 (fld v 10 7)
  let held := if old.valid ∧ old.tint = tint then old.qcount else 0
  if old.st ≠ .off then some 0
  else if d.vfOverlap n (fld v 17 11) count then some 1
  else if d.qAllow tint < d.qUsed tint - held + count then some 2
  else none

/-- BIND_n takes a value (R82). DESIGN CHOICE: a QCOUNT above 64, for which the table gives no meaning, acts and reads as 64. -/
def Dev.bindTake (d : Dev) (n : Nat) (v : W32) : Dev :=
  let valid := fld v 31 1 == 1
  let old := d.vf n
  d.setVf n { old with
    tint := fld v 0 10, qcount := min 64 (fld v 10 7), qbase := fld v 17 11, valid := valid
    want := old.want && valid }

/-- A write to BIND_n (R83). -/
def Dev.bindWrite (r : Requester) (n : Nat) (v : W32) (d : Dev) : Dev :=
  if n < 1 ∨ 255 < n then d
  else
    d.regWriteElse r .VF 0 (Reg.VF_BIND + 4 * (n - 1)) (d.bindBad n v).isNone (fun d => d.bindTake n v)
      (fun d => match d.bindBad n v with
        | some b => d.raiseErr .VF 0 b noDetail
        | none => d)

def execVfBindWrite (req : Requester) (vf : Nat) (value : W32) (s : State) : Host.Outcome State Fault Refusal :=
  run (Dev.bindWrite req vf value) s

/-! ### SRST without a drain (R672) -/

/-- RW bits of a register of a page without HAS_DRAIN that keep their value because a write to them would be refused now (R256, R335, R447,
R550, R601, R612, R83). -/
def Dev.heldBits (d : Dev) (p : PT) (off : Nat) : Nat := match p with
  | .CLK => if off = Reg.CLK_CLK_CTL ∧ d.life.mode ≠ .maint then 0xffffffff else 0
  | .PWR => if Reg.PWR_SENT_0 ≤ off ∧ d.life.mode = .patrol then 0xffffffff else 0
  | .UPD => if off = Reg.UPD_REQ ∧ d.reqBusy then 0xffffffff else 0
  | .MEM => if 0x80 ≤ off ∧ d.regB .MEM 0 Reg.MEM_MEM_STS 0 then 0xffffffff else 0
  | .REB => if off = Reg.REB_REB_CTL ∧ d.regB .REB 0 Reg.REB_REB_CTL 0 then 2 else 0
  | .FAB =>
    if off = Reg.FAB_VOL_SET ∨ off = Reg.FAB_VOL_SET + 4 ∨ off = Reg.FAB_RSHP_CTL then
      (if d.isHead ∧ d.fab.reshape.isNone then 0 else 0xffffffff)
    else 0
  | _ => 0

/-- One register of such a page takes the reset value of its RW bits. -/
def Dev.srstReg (p : PT) (d : Dev) (off rw : Nat) : Dev :=
  let m := BitVec.ofNat 32 rw &&& ~~~ BitVec.ofNat 32 (d.heldBits p off)
  d.setReg p 0 off ((d.reg p 0 off &&& ~~~ m) ||| (d.resetAs p off &&& m))

/-- RW fields that no register of the store holds take their reset values: VF bindings and enables, domain enables, override entries, the
recorder window's views; the cache size follows PLP_CFG (R311), and FORCE.CUT clears. -/
def Dev.srstRest (d : Dev) (p : PT) : Dev := match p with
  | .VF =>
    let d := d.vfs.foldl (fun d (e : Nat × VfSt) => if (d.vf e.1).st = .off then d.bindTake e.1 0#32 else d) d
    d.vfs.foldl (fun d (e : Nat × VfSt) => d.vfEnClear e.1) d
  | .PWR => ((List.range 10).map (fun k => k + 1)).foldl (fun d n => d.unitEnable .PWR n) d
  | .FLT => { d with ovr := [] }
  | .RECW => { d with recd := { d.recd with views := [] } }
  | .PLP => ({ d with plp := { d.plp with cut := false } }).cacheFollow
  | _ => d

/-- SRST on a page without HAS_DRAIN acts at once (R672). -/
def Dev.srstPlain (d : Dev) (p : PT) : Dev :=
  let d := p.regs.foldl (fun (d : Dev) (r : RegDesc) =>
    if r.rw = 0 then d else (List.range r.count).foldl (fun d k => Dev.srstReg p d (r.off + r.stride * k) r.rw) d) d
  let d := srstCommon.foldl (fun d off => d.setReg p 0 off (resetOf p off)) d
  (d.unmute p 0).srstRest p

/-! ### PAGE_CTL -/

/-- A value written to PAGE_CTL (R53, R63): LOCK sets; SRST goes before DRAIN, and DRAIN before EN, whose lower bits are then ignored. -/
def Dev.ctlWrite (p : PT) (i : Nat) (v : W32) (d : Dev) : Dev :=
  let b (k : Nat) : Bool := fld v k 1 == 1
  let d := if b 3 then d.setRegF p i Reg.PAGE_CTL 3 1 1 else d
  if p.hasDrain then
    if b 2 then d.unitReset p i else if b 1 then d.unitDrain p i else if b 0 then d.unitEnable p i else d.unitDisable p i
  else if b 2 then d.srstPlain p else d

/-- A write by which a requester acts on the enable of a unit: PAGE_CTL, STATE_n of a VF, DOM_n of a domain, or C_CTL of the forerunner
queue in COMPAT (R101). -/
def Dev.unitWrite (r : Requester) (p : PT) (i : Nat) (f g : Dev → Dev) (d : Dev) : Dev :=
  if p = .VF ∧ i ≠ 0 then (if i ≤ 255 then d.regWrite r .VF 0 (Reg.VF_STATE + 4 * (i - 1)) g else d)
  else if p = .PWR ∧ i ≠ 0 then (if i ≤ 15 then d.regWrite r .PWR 0 (Reg.PWR_DOM_0 + 4 * i) g else d)
  else if p = .HQ ∧ i = 0 ∧ d.life.mode = .compat ∧ r.dom = .host ∧ !r.i3c then (if d.fnOpen .pf && !d.life.fatal then f d else d)
  else if i < p.count then d.regWrite r p i Reg.PAGE_CTL f else d

/-- The page type of a code, or no effect. -/
def withPage (ty : Nat) (f : PT → Dev → Dev) (d : Dev) : Dev := match PT.ofCode ty with
  | some p => f p d
  | none => d

/-- EN ← 1 on a VF or a domain. -/
def Dev.partEnable (p : PT) (i : Nat) (d : Dev) : Dev :=
  if p = .VF then d.vfEnSet i else if unitExists p i then d.unitEnable p i else d

/-- EN ← 0 on a VF or a domain. -/
def Dev.partDisable (p : PT) (i : Nat) (d : Dev) : Dev :=
  if p = .VF then d.vfEnClear i else if unitExists p i then d.unitDisable p i else d

def execEnSet (req : Requester) (ty inst : Nat) (s : State) : Host.Outcome State Fault Refusal :=
  runFab (withPage ty (fun p => Dev.unitWrite req p inst (Dev.ctlWrite p inst 1#32) (Dev.partEnable p inst))) s

def execEnClear (req : Requester) (ty inst : Nat) (s : State) : Host.Outcome State Fault Refusal :=
  runFab (withPage ty (fun p => Dev.unitWrite req p inst (Dev.ctlWrite p inst 0#32) (Dev.partDisable p inst))) s

/-- DRAIN: a page's alone; VFs and domains have no DRAIN bit. -/
def execDrain (req : Requester) (ty inst : Nat) (s : State) : Host.Outcome State Fault Refusal :=
  runFab (withPage ty (fun p => Dev.unitWrite req p inst (Dev.ctlWrite p inst 2#32) id)) s

def execSrst (req : Requester) (ty inst : Nat) (s : State) : Host.Outcome State Fault Refusal :=
  runFab (withPage ty (fun p => Dev.unitWrite req p inst (Dev.ctlWrite p inst 4#32) id)) s

/-- LOCK: written with EN as it stands. -/
def execLock (req : Requester) (ty inst : Nat) (s : State) : Host.Outcome State Fault Refusal :=
  run (withPage ty (fun p => Dev.unitWrite req p inst (fun d => d.setRegF p inst Reg.PAGE_CTL 3 1 1) id)) s

/-- STARTUP_COMPLETE: a STARTING unit whose start-up has what it waits for serves (R63). A domain starts by its stages instead (R593). -/
def execStartupComplete (ty inst : Nat) (s : State) : Host.Outcome State Fault Refusal :=
  runFab (withPage ty (fun p d => if unitExists p inst then d.unitStarted p inst else d)) s

/-- DRAIN_COMPLETE (R63). -/
def execDrainComplete (ty inst : Nat) (s : State) : Host.Outcome State Fault Refusal :=
  runFab (withPage ty (fun p d => if unitExists p inst then d.unitDrained p inst else d)) s

/-! ### OWNER and INJ_CTL -/

/-- OWNER_WRITE: only the secure domain's (R58). -/
def Dev.ownerWrite (r : Requester) (p : PT) (i : Nat) (v : W32) (d : Dev) : Dev :=
  if i < p.count then d.regWrite r p i Reg.OWNER (fun d => d.setOwner p i v.toNat) else d

def execOwnerWrite (req : Requester) (ty inst : Nat) (value : W32) (s : State) : Host.Outcome State Fault Refusal :=
  run (withPage ty (fun p => Dev.ownerWrite req p inst value)) s

/-- A value written to INJ_CTL (R53): MASK and TARGET stored, ARM set by 1, DONE cleared by 1. -/
def Dev.injTake (p : PT) (i : Nat) (v : W32) (d : Dev) : Dev :=
  if !p.hasInj then d
  else
    let d := d.setRegF p i Reg.INJ_CTL 0 24 (fld v 0 24)
    let d := if fld v 24 1 = 1 then d.setRegF p i Reg.INJ_CTL 24 1 1 else d
    if fld v 25 1 = 1 then d.setRegF p i Reg.INJ_CTL 25 1 0 else d

/-- INJ_ARM: a write of INJ_CTL with ARM (R56). -/
def execInjArm (req : Requester) (ty inst : Nat) (value : W32) (s : State) : Host.Outcome State Fault Refusal :=
  run (withPage ty (fun p d => if inst < p.count then
    d.regWrite req p inst Reg.INJ_CTL (Dev.injTake p inst (value ||| 0x1000000#32)) else d)) s

/-- INJ_DONE: the write to TARGET at `addr`, the next since ARM, carries the inverted check bits (R56): an SRAM byte address within the region
that MEM's TARGET selects (R263), a codeword's media key on LDP (R249), a word of the structure elsewhere. -/
def Dev.injDone (p : PT) (i addr : Nat) (d : Dev) : Dev :=
  let t := d.regF p i Reg.INJ_CTL 16 8
  let fits := match p with
    | .MEM => regionAt addr == t && decide (addr < 0x18000000)
    | .LDP => mhas d.media addr
    | _ => true
  if d.regB p i Reg.INJ_CTL 24 && p.injTarget t && fits then (d.inject p i addr).injEnd p i else d

def execInjDone (ty : Nat) (word : PageWord) (s : State) : Host.Outcome State Fault Refusal :=
  run (withPage ty (fun p d => if word.inst < p.count then Dev.injDone p word.inst word.addr d else d)) s

end Sys2Proof.Machine
end

