-- ==== Sys2Proof/Machine/Tenant.lean ====
section
/-! DEFINITION. Meanings of the tenant port and tint commands: port resets, bindings, pushed frames, malformed traffic, grants, key references
and ceilings (spec/11_tenant_ports.md). -/
namespace Sys2Proof.Machine
open Sys2Proof

/-! ### Port reset (R376 to R378) -/

/-- Queues of a port. -/
def portQ (p : Nat) : List Nat := (List.range 64).map (fun i => 64 * p + i)

/-- A TQ page goes toward OFF with nothing left to wait for but the reset itself. -/
def Dev.tqOff (d : Dev) (i : Nat) : Dev := match d.page .TQ i with
  | .starting | .serving => d.setPage .TQ i (.draining false false)
  | _ => d

/-- Port reset: causes 0 FLR, 1 TPn_PERST_N fall, 2 hot reset, 3 link down. DMA stops, arrived writes go on installing, the rest is
discarded with nothing posted, queues go to OFF, pushed data and the function's configuration are lost (R376). A drain of the TP page
ends at once (R378). -/
def Dev.portReset (p cause : Nat) (d : Dev) : Dev :=
  if 8 ≤ p then d
  else
    let d := if cause = 1 then { d with tpPerst := bitSet d.tpPerst p } else d
    match d.page .TP p with
    | .serving | .draining _ _ =>
      let f := Fn.tp p
      let qs := d.portQueues p
      let d := qs.foldl (fun d q => (d.masterStop q).clearUnadmitted q) d
      let d := (portQ p).foldl (fun d i => d.tqOff i) d
      let d := (d.dropPushes p).setFn f { fnReset with resetting := true, flr := decide (cause = 0) }
      let down := (cause = 1 ∨ cause = 3) ∧ d.regF .TP p Reg.TP_LINK_STS 0 3 ≠ 0
      let d := if down then (d.setRegN .TP p Reg.TP_LINK_STS 0).setIrq .TP p 1 else d
      let d := (d.incSat .TP p Reg.TP_PORT_RESETS 1).setIrq .TP p 2
      d.finishDrain .TP p
    | _ => d

def execPortReset (port cause : Nat) (s : State) : Host.Outcome State Fault Refusal :=
  runCmd (fun d => if cause < 4 then d.portReset port cause else d) s

/-- The port reset is complete: TQ pages reach OFF, or start clean where EN ← 1 was written meanwhile (R376, R378). -/
def Dev.portResetEnd (p : Nat) (d : Dev) : Dev :=
  if !(d.fn (.tp p)).resetting then d
  else
    let d := d.setFn (.tp p) fnReset
    (portQ p).foldl (fun d i => match d.page .TQ i with
      | .draining _ _ => d.finishDrain .TQ i
      | _ => d) d

/-- TP_PERST_RISE: the port presents termination and is ready to train (R376). -/
def execTpPerstRise (port : Nat) (s : State) : Host.Outcome State Fault Refusal :=
  run (fun d => if port < 8 then { d with tpPerst := bitClr d.tpPerst port } else d) s

/-! ### Binding (R379 to R381) -/

/-- The tint is bound with VALID to another port. -/
def Dev.boundElsewhere (d : Dev) (p t : Nat) : Bool :=
  (List.range 8).any (fun k => k != p && d.regB .TP k Reg.TP_TP_BIND 31 && d.regF .TP k Reg.TP_TP_BIND 0 10 == t)

/-- The ERR_STS bit with which a TP_BIND value is rejected (R379). -/
def Dev.tpBindBad (d : Dev) (p : Nat) (v : W32) : Option Nat :=
  if d.page .TP p ≠ .off then some 0
  else if fld v 31 1 = 1 ∧ (fld v 0 10 = 0 ∨ d.boundElsewhere p (fld v 0 10)) then some 1
  else none

/-- An accepted TP_BIND value: a change of TINT or VALID resets what belonged to the old tint (R381). -/
def Dev.tpBindTake (p : Nat) (v : W32) (d : Dev) : Dev :=
  let new := v &&& 0x800003ff#32
  if d.reg .TP p Reg.TP_TP_BIND = new then d
  else
    let d := (portQ p).foldl (fun d i => d.unitReset .TQ i) d
    let d := (d.dropPushes p).setRegN .TP p Reg.TP_MALFORMED 0
    let d := { d with elogs := mdel d.elogs (256 + p), malTimes := d.malTimes.filter (fun e => e.1 != p) }
    d.setReg .TP p Reg.TP_TP_BIND new

/-- A write to TP_BIND. -/
def Dev.tpBindWrite (r : Requester) (p : Nat) (v : W32) (d : Dev) : Dev :=
  if 8 ≤ p then d
  else
    d.regWriteElse r .TP p Reg.TP_TP_BIND (d.tpBindBad p v).isNone (Dev.tpBindTake p v)
      (fun d => match d.tpBindBad p v with
        | some b => d.raiseErr .TP p b noDetail
        | none => d)

def execTpBindWrite (req : Requester) (port : Nat) (value : W32) (s : State) : Host.Outcome State Fault Refusal :=
  run (Dev.tpBindWrite req port value) s

/-! ### Malformed traffic (R396) -/

/-- Count one event in MALFORMED; more than MAL_MAX within a second contain the port (R396). -/
def Dev.countMal (d : Dev) (p : Nat) : Dev :=
  let d := (d.incSat .TP p Reg.TP_MALFORMED 1).raiseErr .TP p 2 noDetail
  let ts := (p, d.life.usUp) :: d.malTimes.filter (fun e => e.1 != p || decide (d.life.usUp - e.2 < 1000000))
  let d := { d with malTimes := ts }
  let max := d.regF .TP p Reg.TP_MAL_CFG 0 16
  if max ≠ 0 ∧ max < (ts.filter (fun e => e.1 == p)).length then d.raiseErr .TP p 3 noDetail else d

/-- Fail a push command with LENGTH_MISMATCH, DETAIL FRAME, whether admitted or not (R135, R385). -/
def Dev.frameFail (d : Dev) (f : Flight) (got : Nat) : Dev := d.failFreeze f St.lengthMismatch Fz.length 4 f.declared got

/-- The command of a tag whose DOORBELL bit reads 1: in flight, or as its slot holds it. -/
def Dev.tagCmd (d : Dev) (q t : Nat) : Option Flight :=
  match d.flight q t with
  | some f => some f
  | none =>
    if d.qF q Reg.HQ_DOORBELL t 1 = 1 then
      some
        { q := q, tag := t, cmd := d.slotCmd q t, qe := d.qF q Reg.HQ_Q_STS 20 2, tint := d.qTint q, stage := .run, gate := 0, charge := 0
          moved := 0, jobs := [], staged := [], name := [], obj := none, bands := [], resv := 0, result := 0, order := 0, descs := [] }
    else none

/-- A malformed frame (R385): the tag's command in flight fails with FRAME, the queue freezes with LENGTH, and its push stream is discarded
until it passes through OFF. -/
def Dev.badFrame (d : Dev) (q t : Nat) : Dev :=
  let got := ((mget d.pushes (q * 32 + t)).getD []).length
  let d := match d.flight q t with
    | some f => d.frameFail f got
    | none => if d.qSt q = PageSt.serving then d.freeze q Fz.length none [] else d
  { d with pushDead := if d.pushDead.contains q then d.pushDead else q :: d.pushDead }

/-- MALFORMED_TLP: kinds 0 malformed TLP, 1 unsupported request, 2 unexpected completion, 3 poisoned write; a poisoned write into a push
window, of queue and tag `frame`, is a malformed frame too (R396). -/
def Dev.malformedTlp (p kind : Nat) (frame : Option (Nat × Nat)) (d : Dev) : Dev :=
  if 8 ≤ p ∨ 4 ≤ kind ∨ d.page .TP p ≠ .serving ∨ !d.portTrained p then d
  else
    let d := (d.countMal p).aerLog (.tp p) ([18, 20, 16, 12].getD kind 18) false kind
    match kind, frame with
    | 3, some (i, t) => if i < 64 ∧ t < 32 then d.badFrame (2048 + 64 * p + i) t else d
    | _, _ => d

def execMalformedTlp (port kind : Nat) (frame : Option (Nat × Nat)) (s : State) : Host.Outcome State Fault Refusal :=
  runCmd (Dev.malformedTlp port kind frame) s

/-! ### Pushed frames (R383 to R385) -/

/-- PUSH_CFG.LIMIT_MIB as it acts, in bytes. -/
def Dev.pushLimit (d : Dev) (p : Nat) : Nat := max 1 (min 16 (d.regF .TP p Reg.TP_PUSH_CFG 0 5)) * 1048576

/-- Bytes pushed into a port and not yet installed: those that still come, and those of commands that wait to install. -/
def Dev.pushHeld (d : Dev) (p : Nat) : Nat :=
  let mine (q : Nat) : Bool := decide (2048 ≤ q) && (q - 2048) / 64 == p
  (d.pushes.filter (fun e => mine (e.1 / 32))).foldl (fun n (e : Nat × List Byte) => n + e.2.length) 0 +
    (d.flights.filter (fun f => mine f.q && d.pushes_ f && (f.stage == .held || f.stage == .lines))).foldl (fun n f => n + f.declared) 0

/-- A well-placed frame of a command that takes frames: staging full, past the declared length, LAST below it, or accepted (R385). -/
def Dev.frameTake (d : Dev) (f : Flight) (last : Bool) (payload : List Byte) : Dev :=
  let k := f.q * 32 + f.tag
  let old := (mget d.pushes k).getD []
  let n := old.length + payload.length
  if d.pushLimit ((f.q - 2048) / 64) < d.pushHeld ((f.q - 2048) / 64) + payload.length then d.frameFail f n
  else if f.declared < n ∨ (last ∧ n < f.declared) then d.frameFail f n
  else
    let d := { d with pushes := mput d.pushes k (old ++ payload) }
    match d.flight f.q f.tag with
    | some f => d.pushOn f
    | none => d

/-- PUSH_FRAME: one frame of queue `i` of a port, as it has come whole; `rsv` holds its bits marked zero, `bad` says that a write's byte
enables were not all set (R384). -/
def Dev.pushFrame (p i tag flags rsv len offset : Nat) (bad : Bool) (payload : List Byte) (d : Dev) : Dev :=
  let q := 2048 + 64 * p + i
  let ok := !bad && flags < 2 && rsv == 0 && decide (tag < 32 ∧ 4 ≤ len ∧ len ≤ 65536 ∧ len % 4 = 0)
  if 8 ≤ p ∨ 64 ≤ i ∨ d.page .TP p ≠ .serving ∨ !d.fnOpen (.tp p) ∨ (ok ∧ payload.length ≠ len) then d
  else if d.pushDead.contains q then d
  else
    let k := q * 32 + tag
    if ok ∧ d.pushSkip.contains k then
      (if flags = 1 then { d with pushSkip := d.pushSkip.filter (fun e => e != k) } else d)
    else
      let place := ((mget d.pushes k).getD []).length
      match d.tagCmd q tag with
      | some f =>
        if ok ∧ d.pushes_ f ∧ offset = place then d.frameTake f (flags == 1) payload
        else (d.countMal p).badFrame q tag
      | none => (d.countMal p).badFrame q tag

def execPushFrame (port queue tag flags rsv len offset : Nat) (bad : Bool) (payload : List Byte) (s : State) :
    Host.Outcome State Fault Refusal :=
  runCmd (fun d => (d.noteWake ⟨.tenant, port, false⟩ .TQ).pushFrame port queue tag flags rsv len offset bad payload) s

/-! ### Grants (R391) -/

/-- Set a tint's rights on a record; rights withdrawn leave once the commands admitted under them have ended. -/
def Dev.grantPut (d : Dev) (t k rights : Nat) : Dev :=
  let old := d.grants.find? (fun g => g.record == k && g.tint == t)
  let was := (old.map (·.rights)).getD 0
  let lost := was &&& (7 - rights)
  if rights = 0 ∧ old.isNone then d.grantEnd t 0 0
  else if old.isNone ∧ 65536 ≤ d.grants.length then d.grantEnd t 2 0
  else
    let rest := d.grants.filter (fun g => !(g.record == k && g.tint == t))
    let d := { d with grants := rest ++ [⟨k, t, rights, lost⟩] }
    if lost = 0 then d.grantEnd t 0 0 else d

/-- A grant command of tint `t`: 1 SET, 2 REMOVE, 3 LOOKUP, on the record of GRANT_ARG. The owner holds every right. -/
def Dev.grantRun (d : Dev) (t op : Nat) : Dev :=
  let arg := d.regF .TNT t Reg.TNT_GRANT_ARG
  let k := storeKey (arg 16 2) (arg 0 16)
  let rights := arg 20 3
  let d := d.setRegN .TNT t Reg.TNT_GRANT_STS 1
  if arg 16 2 = 3 then d.grantEnd t 3 0
  else match d.liveStore k with
    | none => d.grantEnd t 1 0
    | some v =>
      if op = 3 then
        let g := d.grants.find? (fun g => g.record == k && g.tint == t)
        d.grantEnd t 0 (if v.owner = t then 7 else (g.map (·.rights)).getD 0)
      else if op = 1 ∧ v.owner = t then d.grantEnd t 4 0
      else d.grantPut t k (if op = 1 then rights else 0)

/-- A write of GRANT_CMD; OP 0 has no effect, and one that meets BUSY is discarded with GRANT_BUSY (R335, R391). -/
def Dev.grantCmd (r : Requester) (t op : Nat) (d : Dev) : Dev :=
  if 1024 ≤ t then d
  else
    d.regWriteElse r .TNT t Reg.TNT_GRANT_CMD (!d.regB .TNT t Reg.TNT_GRANT_STS 0)
      (fun d => if op = 0 ∨ 4 ≤ op then d else d.grantRun t op) (fun d => d.raiseErr .TNT t 0 noDetail)

def execGrantSet (req : Requester) (tint : Nat) (s : State) : Host.Outcome State Fault Refusal := runCmd (Dev.grantCmd req tint 1) s

def execGrantRemove (req : Requester) (tint : Nat) (s : State) : Host.Outcome State Fault Refusal := runCmd (Dev.grantCmd req tint 2) s

def execGrantLookup (req : Requester) (tint : Nat) (s : State) : Host.Outcome State Fault Refusal := runCmd (Dev.grantCmd req tint 3) s

/-! ### Key references (R387) -/

/-- A write of KEY_n: the secure domain's, while the tint page is OFF. -/
def Dev.keyRefWrite (r : Requester) (t n : Nat) (v : W32) (d : Dev) : Dev :=
  let off := Reg.TNT_KEY_0 + 4 * n
  if 1024 ≤ t ∨ 4 ≤ n then d
  else if r.dom ≠ .secure then
    d.notAllowed r .TNT t off
  else d.regWriteElse r .TNT t off (d.page .TNT t == .off) (fun d => d.setReg .TNT t off (v &&& 0x80003fff#32))
    (fun d => d.raiseErr .TNT t 1 noDetail)

def execKeyRefWrite (req : Requester) (tint n : Nat) (value : W32) (s : State) : Host.Outcome State Fault Refusal :=
  run (Dev.keyRefWrite req tint n value) s

/-! ### Ceilings (R394) -/

/-- Output of a loop over its upper clamp, in 65,536ths, where it acts; a clamp of 0 leaves the ratio open. -/
def Dev.loopShare (d : Dev) (n : Nat) : Nat :=
  let share (o : Nat) : Nat :=
    if d.outMax n = 0 then Config.freeNat d.free % 65537 else min 65536 (o * 65536 / d.outMax n)
  match d.page .MLP n with
  | .serving => if (d.loop n).acted then share (d.regF .MLP n Reg.MLP_OUT 0 17) else 65536
  | .faulted _ => if (d.loop n).failOpen then 65536 else share (d.loop n).outMin
  | _ => 65536

/-- The scale s of R394. -/
def Dev.scale (d : Dev) : Nat := ((List.range 5).map d.loopShare).foldl min 65536

/-- EFF_RATE of a ceiling at a scale (R394). -/
def effRate (rate floor s : Nat) : Nat := if rate = 0 then 0 else max 1 (max (rate * s / 65536) (rate * min 100 floor / 100))

/-- CEILING_RECOMPUTE: the scale, and every tint's EFF_RATE, follow the loops. -/
def Dev.ceilings (d : Dev) : Dev :=
  let s := d.scale
  let d := if (List.range 5).any (fun n => d.outMax n == 0) then { d with free := d.free + 1 } else d
  let d := d.setRegN .MAD 0 Reg.MAD_SCALE s
  (List.range 1024).foldl (fun d t =>
    let r := effRate (d.regF .TNT t Reg.TNT_CEIL 0 20) (d.regF .TNT t Reg.TNT_CEIL 20 7) s
    if d.regN .TNT t Reg.TNT_EFF_RATE = r then d else d.setRegN .TNT t Reg.TNT_EFF_RATE r) d

def execCeilingRecompute (s : State) : Host.Outcome State Fault Refusal :=
  run (fun d => if d.life.booted then d.ceilings else d) s

end Sys2Proof.Machine
end

