-- ==== Sys2Proof/Machine/Endpoint.lean ====
section
/-! DEFINITION. Meanings of the host endpoint and clock commands: bus mastering, function resets, power states of functions and links, MSI-X
masks, the root PLL (spec/03_host_endpoint.md R74 to R101, spec/21_supplies_clocks_reset.md R612, R613). -/
namespace Sys2Proof.Machine
open Sys2Proof

/-- The function exists for its root port: the PF on a device with a host interface (R98), a VF that VF Enable shows, a tenant port whose
page serves. -/
def Dev.fnThere (d : Dev) (f : Fn) : Bool := d.life.mode != .backup && (match f with
  | .pf => d.hostPort
  | .vf n => d.hostPort && d.life.mode != .compat && decide (1 ≤ n) && d.vfShown n
  | .tp p => decide (p < 8) && d.page .TP p == .serving)

/-! ### Bus mastering and memory space (R88 to R90) -/

/-- BME_CLEAR (R88): DMA of the function stops, and each of its queues that is not OFF freezes with MASTER_DISABLED. -/
def Dev.bmeClear (f : Fn) (d : Dev) : Dev :=
  if !d.fnThere f ∨ !(d.fn f).bme then d
  else
    let d := d.setFn f { d.fn f with bme := false }
    (d.fnQueues f).foldl (fun d q => d.masterFreeze q) d

def execBmeClear (fn : Fn) (s : State) : Host.Outcome State Fault Refusal := runCmd (Dev.bmeClear fn) s

/-- BME goes to 1: nothing unfreezes (R89). -/
def Dev.bmeOn (f : Fn) (d : Dev) : Dev :=
  let x := d.fn f
  if d.fnThere f && !x.flr && !x.resetting then d.setFn f { x with bme := true } else d

def execBmeSet (fn : Fn) (s : State) : Host.Outcome State Fault Refusal := run (Dev.bmeOn fn) s

/-- Memory Space Enable of the PF or a tenant function, or VF MSE, which is one for all VFs, takes a value (R82, R90). -/
def Dev.setMse (f : Fn) (on : Bool) (d : Dev) : Dev := match f with
  | .vf _ => { d with ep := { d.ep with vfMse := on } }
  | f => d.setFn f { d.fn f with mse := on }

/-- MSE_CLEAR (R90). -/
def execMseClear (fn : Fn) (s : State) : Host.Outcome State Fault Refusal :=
  run (fun d => if d.fnThere fn then d.setMse fn false else d) s

/-! ### Function level reset (R91 to R93) -/

/-- A queue of a function in FLR: its commands are discarded with nothing posted, and it goes toward OFF. -/
def Dev.flrQueue (d : Dev) (q : Nat) : Dev :=
  let d := (d.dropFlights q).clearUnadmitted q
  match d.qSt q with
  | .starting | .serving => d.setQSt q (.draining false false)
  | _ => d

/-- PF FLR, with every VF: VF Enable goes to 0 and every VF goes toward OFF (R91, R93). -/
def Dev.pfFlr (d : Dev) : Dev :=
  let d := (d.liveQueues.filter (fun q => decide (q < 2048))).foldl Dev.flrQueue d
  let d := d.vfs.foldl (fun d (e : Nat × VfSt) => d.unitDisable .VF e.1) d
  { d with
      ep := { d.ep with vfe := false, vfMse := false, numVfs := 0 }
      fns := mput (d.fns.filter (fun e => decide (256 ≤ e.1))) 0 { fnReset with flr := true } }

/-- FLR of a function (R91); a tenant function's is a port reset (R376). -/
def Dev.flr (f : Fn) (d : Dev) : Dev :=
  if !d.fnThere f then d
  else match f with
    | .tp p => d.portReset p 0
    | .pf => d.pfFlr
    | .vf _ =>
      if (d.fn .pf).flr then d
      else ((d.fnQueues f).foldl Dev.flrQueue d).setFn f { fnReset with flr := true }

def execFlr (fn : Fn) (s : State) : Host.Outcome State Fault Refusal := runCmd (Dev.flr fn) s

/-- FLR_COMPLETE: the function is in D0 with reset values, and its queues reach OFF, or start clean where EN ← 1 was written meanwhile
(R91, R93). -/
def Dev.flrComplete (f : Fn) (d : Dev) : Dev :=
  match f with
  | .tp p => if p < 8 then d.portResetEnd p else d
  | .pf =>
    if !(d.fn .pf).flr then d
    else
      let d := d.setFn .pf fnReset
      let d := (d.liveQueues.filter (fun q => decide (q < 2048))).foldl (fun d q => d.finishDrain .HQ q) d
      d.vfs.foldl (fun d (e : Nat × VfSt) => d.finishDrain .VF e.1) d
  | .vf n =>
    if !(d.fn f).flr ∨ (d.fn .pf).flr then d
    else
      let d := d.setFn f fnReset
      (d.fnQueues (.vf n)).foldl (fun d q => d.finishDrain .HQ q) d

def execFlrComplete (fn : Fn) (s : State) : Host.Outcome State Fault Refusal := run (Dev.flrComplete fn) s

/-- A link that is down shows no speed or width; FLIT_MISSING goes with it, HARMLESS stays. -/
def Dev.hostLinkDown (d : Dev) : Dev :=
  d.setRegN .EP 0 Reg.EP_LINK_STS (d.regF .EP 0 Reg.EP_LINK_STS 10 1 * 1024)

/-- HOT_RESET: a hot reset on the host link, or with `down` the link going down, acts as a PF FLR (R92). -/
def Dev.hotReset (down : Bool) (d : Dev) : Dev :=
  if !d.fnThere .pf then d else (if down then d.hostLinkDown else d).pfFlr

def execHotReset (down : Bool) (s : State) : Host.Outcome State Fault Refusal := runCmd (Dev.hotReset down) s

/-! ### D-states (R94) -/

/-- D3HOT_ENTRY: DRAIN on each of the function's queue pages, and doorbell bits not yet admitted clear (R94, R115). -/
def Dev.d3Entry (f : Fn) (d : Dev) : Dev :=
  let x := d.fn f
  if !d.fnThere f ∨ x.d3 ∨ x.flr ∨ x.resetting then d
  else
    let qs := (d.fnQueues f).filter (fun q => d.qSt q == .starting || d.qSt q == .serving)
    let d := (d.fnQueues f).foldl (fun d q => d.clearUnadmitted q) d
    let d := qs.foldl (fun d q => d.unitDrain (qPage q).1 (qPage q).2) d
    d.setFn f { x with d3 := true, slept := qs }

def execD3hotEntry (fn : Fn) (s : State) : Host.Outcome State Fault Refusal := run (Dev.d3Entry fn) s

/-- D0_RETURN: the pages that D3hot drained are enabled again (R94). -/
def Dev.d0Return (f : Fn) (d : Dev) : Dev :=
  let x := d.fn f
  if !d.fnThere f ∨ !x.d3 then d
  else x.slept.foldl (fun d q => d.unitEnable (qPage q).1 (qPage q).2) (d.setFn f { x with d3 := false, slept := [] })

def execD0Return (fn : Fn) (s : State) : Host.Outcome State Fault Refusal := run (Dev.d0Return fn) s

/-! ### Links (R74, R76, R95 to R97) -/

/-- LINK_STS of the host link, or of a tenant port's. -/
def linkPage : Option Nat → PT × Nat
  | none => (.EP, 0)
  | some p => (.TP, p)

/-- Offset of LINK_STS in its page. -/
def linkOff (port : Option Nat) : Nat := if port.isNone then Reg.EP_LINK_STS else Reg.TP_LINK_STS

/-- Tenant port `p` presents receiver termination and may leave electrical idle (R2, R375, R376): its page starts, serves or drains, and
TPn_PERST_N is high. In OFF and FAULTED the port is harmless. -/
def Dev.portTermination (d : Dev) (p : Nat) : Bool :=
  (match d.page .TP p with
    | .starting | .serving | .draining _ _ => true
    | .off | .faulted _ => false) && !nbit d.tpPerst p

/-- The port may train: termination is presented and its reset input is high (R375, R376, R616). -/
def Dev.mayTrain (d : Dev) (port : Option Nat) : Bool := match port with
  | none => d.hostPort && d.ep.termination && d.life.perstN && d.life.refclk
  | some p => decide (p < 8) && d.page .TP p == .serving && d.portTermination p && d.life.refclk

/-- LINK_STS.SPEED is not 0. -/
def Dev.linkUp (d : Dev) (port : Option Nat) : Bool :=
  d.regF (linkPage port).1 (linkPage port).2 (linkOff port) 0 3 != 0

/-- FEC_CORR and REPLAY count what the PHY has corrected and replayed; they stop at 0xFFFF_FFFF (R97, R397). -/
def Dev.linkCounts (port : Option Nat) (fec replays : Nat) (d : Dev) : Dev := match port with
  | none => (d.incSat .EP 0 Reg.EP_FEC_CORR fec).incSat .EP 0 Reg.EP_REPLAY replays
  | some p => (d.incSat .TP p Reg.TP_FEC_CORR fec).incSat .TP p Reg.TP_REPLAY replays

/-- LINK_TRAINED (R74, R76): without Flit mode training ends at 2.5 GT/s with FLIT_MISSING. `speed` is at most MAX_SPEED; `fec` and `replays` are
the FLITs that FEC corrected and that were replayed since the link last trained. -/
def Dev.linkTrained (port : Option Nat) (speed width : Nat) (flit : Bool) (fec replays : Nat) (d : Dev) : Dev :=
  let p := linkPage port
  let off := linkOff port
  let ctl := if port.isNone then Reg.EP_LINK_CTL else Reg.TP_LINK_CTL
  let widths := if port.isNone then [1, 2, 4, 8, 16] else [1, 2, 4]
  if !d.mayTrain port ∨ speed < 1 ∨ max 1 (min 6 (d.regF p.1 p.2 ctl 0 3)) < speed ∨ !widths.contains width then d
  else
    let was := d.linkUp port
    let d := d.setRegF p.1 p.2 off 0 10 ((if flit then speed else 1) + width * 8 + b2n flit * 256 + b2n (!flit) * 512)
    let d := (d.setRegF p.1 p.2 off 11 2 0).linkCounts port fec replays
    match port with
    | some k => if was then d else d.setIrq .TP k 0
    | none => d

def execLinkTrained (port : Option Nat) (speed width : Nat) (link : FlitLink) (s : State) : Host.Outcome State Fault Refusal :=
  run (Dev.linkTrained port speed width link.flit link.fec link.replays) s

/-- The function at a port. -/
def portFn : Option Nat → Fn
  | none => .pf
  | some p => .tp p

/-- The host lets a link enter an L1 state: the Link Control's ASPM L1 enable, with the L1 PM Substates control for L1.1 and L1.2 (R95). -/
def Dev.aspmAllowed (d : Dev) (port : Option Nat) (sub : Nat) : Bool :=
  let f := portFn port
  sub == 0 || (nbit (d.cfgHeld f 0x80) 1 &&
    (sub == 1 || (sub == 2 && nbit (d.cfgHeld f 0x2c8) 3) || (sub == 3 && nbit (d.cfgHeld f 0x2c8) 2)))

/-- ASPM_L1_ENTRY: the link enters L1 (`sub` 1), L1.1 (2) or L1.2 (3) where the host allows it, or is back in L0 (0) (R95, LINK_STS.ASPM). -/
def execAspmL1Entry (port : Option Nat) (sub : Nat) (s : State) : Host.Outcome State Fault Refusal :=
  run (fun d => let p := linkPage port
    if sub < 4 && d.mayTrain port && d.linkUp port && d.aspmAllowed port sub then
      d.setRegF p.1 p.2 (linkOff port) 11 2 sub else d) s

/-- Widths that L0p takes on a port (R96, R371). -/
def l0pWidths (port : Option Nat) : List Nat := if port.isNone then [2, 4, 8, 16] else [1, 2, 4]

/-- Rate of a link in MT/s per lane, by LINK_STS.SPEED (R97). -/
def linkRate : Nat → Nat
  | 1 => 2500 | 2 => 5000 | 3 => 8000 | 4 => 16000 | 5 => 32000 | 6 => 64000
  | _ => 0

/-- The width that the device itself asks for at a traffic of `t` Mb/s averaged over 100 µs (R96): the widest whose capacity is below twice the
traffic, or above 75 % of the present width the next wider one. Rates count raw bits. DESIGN CHOICE: where no width's capacity is that low, the
narrowest; widening goes one step at a time. -/
def Dev.l0pOwn (d : Dev) (port : Option Nat) (t : Nat) : Nat :=
  let p := linkPage port
  let w := d.regF p.1 p.2 (linkOff port) 3 5
  let cap (x : Nat) : Nat := linkRate (d.regF p.1 p.2 (linkOff port) 0 3) * x
  if 75 * cap w < 100 * t then ((l0pWidths port).find? (fun x => decide (w < x))).getD w
  else
    let low := (l0pWidths port).filter (fun x => decide (cap x < 2 * t))
    min w (low.foldl max ((l0pWidths port).headD w))

/-- The width that a request asks for: one that the root port may name, or the device's own while LINK_CTL.L0P_AUTO is 1 (R96). -/
def Dev.l0pAsked (d : Dev) (port : Option Nat) : L0pAsk → Option Nat
  | .root w => if (l0pWidths port).contains w then some w else none
  | .own t =>
    if d.regB (linkPage port).1 (linkPage port).2 (if port.isNone then Reg.EP_LINK_CTL else Reg.TP_LINK_CTL) 3 then some (d.l0pOwn port t)
    else none

/-- L0P_CHANGE: in Flit mode the link takes the width asked for (R96, R371). -/
def execL0pChange (port : Option Nat) (ask : L0pAsk) (s : State) : Host.Outcome State Fault Refusal :=
  run (fun d => match d.l0pAsked port ask with
    | some w =>
      if d.mayTrain port && d.linkUp port && d.regB (linkPage port).1 (linkPage port).2 (linkOff port) 8 then
        d.setRegF (linkPage port).1 (linkPage port).2 (linkOff port) 3 5 w
      else d
    | none => d) s

/-- RETRAIN of a port's LINK_CTL: the link leaves any L1 substate and trains, which LINK_TRAINED ends (R97). -/
def Dev.retrainLink (port : Option Nat) (d : Dev) : Dev :=
  let p := linkPage port
  d.setRegF p.1 p.2 (linkOff port) 11 2 0

def execLinkRetrain (req : Requester) (s : State) : Host.Outcome State Fault Refusal :=
  run (fun d => d.regWrite req .EP 0 Reg.EP_LINK_CTL (Dev.retrainLink none)) s

/-! ### MSI-X (R86, R87) -/

/-- Messages of a function that waited in the PBA and are no longer masked go out, one each (R87). -/
def Dev.pbaSend (f : Fn) (d : Dev) : Dev :=
  let x := d.fn f
  if !x.bme then d
  else
    let go := x.pba.filter (fun v => !x.masked v)
    go.foldl (fun d v => d.emit (.msix f v)) (d.setFn f { x with pba := x.pba.filter (fun v => x.masked v) })

/-- MSIX_UNMASK: the mask of a vector clears, or with `none` the function mask. -/
def Dev.msixUnmask (f : Fn) (v : Option Nat) (d : Dev) : Dev :=
  let x := d.fn f
  if !d.fnOpen f ∨ !d.fnThere f then d
  else match v with
    | none => (d.setFn f { x with fmask := false }).pbaSend f
    | some v =>
      if fnVectors (d.life.mode == .compat) f ≤ v then d
      else (d.setFn f { x with unmasked := if x.unmasked.contains v then x.unmasked else v :: x.unmasked }).pbaSend f

def execMsixUnmask (fn : Fn) (vector : Option Nat) (s : State) : Host.Outcome State Fault Refusal :=
  run (Dev.msixUnmask fn vector) s

/-! ### COMPAT (R101) -/

/-- FORERUNNER_SHUTDOWN: C_CTL.SHUTDOWN acts as DEV.MODE_CTL.SHUTDOWN. -/
def execForerunnerShutdown (s : State) : Host.Outcome State Fault Refusal :=
  run (fun d => if d.life.mode = .compat ∧ d.fnOpen .pf ∧ !d.life.fatal then d.shutdown else d) s

/-! ### Root PLL and CCLK (R612, R613) -/

/-- PLL_UNLOCK: lock is lost while REFCLK is present (R613). -/
def execPllUnlock (s : State) : Host.Outcome State Fault Refusal :=
  run (fun d => if d.life.mode = .backup ∨ !d.life.pllLocked ∨ !d.life.refclk then d
    else (({ d with life := { d.life with pllLocked := false } }).incSat .CLK 0 Reg.CLK_UNLOCK_CNT 1).raiseErr .CLK 0 0 noDetail) s

/-- Every PCIe and Filush link goes down, for their SerDes PLLs need REFCLK (R613). -/
def Dev.linksLost (d : Dev) : Dev :=
  let d := if d.linkUp none then d.hotReset true else d
  let d := (List.range 8).foldl (fun d p => if d.linkUp (some p) then d.portReset p 3 else d) d
  (List.range 6).foldl (fun d n => d.linkDrop n) d

/-- REF_LOST: REFCLK shows no edge for 1 µs; the root PLL relocks to the internal oscillator (R613). -/
def execRefLost (s : State) : Host.Outcome State Fault Refusal :=
  runFab (fun d => if d.life.mode = .backup ∨ !d.life.refclk then d
    else (({ d with life := { d.life with refclk := false, pllInternal := true, pllLocked := false } }).linksLost).raiseErr .CLK 0 1 noDetail) s

/-- PLL_RELOCKED: the root PLL locks again, and a flush that waited for it starts (R613). -/
def execPllRelocked (s : State) : Host.Outcome State Fault Refusal :=
  run (fun d => if d.life.mode = .backup ∨ d.life.pllLocked then d
    else
      let d := { d with life := { d.life with pllLocked := true } }
      if d.life.flushPendingLock then
        ({ d with life := { d.life with flushPendingLock := false } }).enterFlush d.plp.cause
      else d) s

/-- REF_RESTORED: REFCLK edges reappear; after 1 ms the next reset returns to REFCLK (R613). -/
def execRefRestored (s : State) : Host.Outcome State Fault Refusal :=
  run (fun d => if d.life.mode = .backup ∨ d.life.refclk then d
    else ({ d with life := { d.life with refclk := true, refUs := d.life.usUp } }).setIrq .CLK 0 0) s

/-- A write of CCLK_SEL: taken in MAINT from the secure domain alone (R612). -/
def Dev.cclkWrite (r : Requester) (v : Nat) (d : Dev) : Dev :=
  d.regWriteIf r .CLK 0 Reg.CLK_CLK_CTL (r.dom == .secure && d.life.mode == .maint) (fun d => d.setRegF .CLK 0 Reg.CLK_CLK_CTL 0 2 v)

def execCclkSelWrite (req : Requester) (sel : Nat) (s : State) : Host.Outcome State Fault Refusal := run (Dev.cclkWrite req sel) s

end Sys2Proof.Machine
end

