-- ==== Sys2Proof/Machine/Plp.lean ====
section
/-! DEFINITION. Meanings of the power-loss protection commands (spec/09_power_loss.md). -/
namespace Sys2Proof.Machine
open Sys2Proof

/-! ### Triggers (R302 to R304) -/

/-- A taken fall of PFAIL_N or a PGOOD input (R27, R302, R305). -/
def Dev.powerFall (d : Dev) : Dev :=
  if liveMode d.life.mode then
    let d := { d with dbg := { d.dbg with balls := 0 } }
    d.enterFlush 1
  else d

/-- PFAIL_FALL: PFAIL_N reads low at three samples (R302); in MAINT it ends boundary scan (R654). -/
def execPfailFall (s : State) : Host.Outcome State Fault Refusal :=
  run (fun d => ({ d with life := { d.life with pfailN := false } }).powerFall) s

/-- PGOOD_FALL: a PGOOD input reads low at three samples; no hold-up is guaranteed (R305). -/
def execPgoodFall (input : Pgood) (s : State) : Host.Outcome State Fault Refusal :=
  run (fun d => match input with
    | .core | .sram | .sds | .nand | .io => ({ d with life := { d.life with pgood := false } }).powerFall) s

/-! ### The flush (R312 to R317) -/

/-- Each channel quiesces for the flush (R227): unissued entries are discarded, flush dies that erase are reset. -/
def Dev.quiesce (d : Dev) : Dev :=
  let d := (List.range 128).foldl (fun d ch => if (d.chan ch).isSome then d.discardEntries ch else d) d
  d.plp.dies.foldl (fun d n => match d.die n with
    | some x => if x.state = 4 ∨ x.state = 6 then d.mapDie n (fun x => { x with state := 7, resetFor := 3, runUs := d.life.usUp, held := none }) else d
    | none => d) d

/-- FLUSH (R312): admission and installation stop, the merge buffers drain, the channels quiesce and the plan is built. -/
def Dev.flushStart (d : Dev) : Dev :=
  if d.life.mode ≠ .flush ∨ d.plp.flushing then d
  else
    let d := { d.stopWork with mbuf := [], sbd := { d.sbd with dyn := none, resp := none } }
    let d := { d with dbg := { d.dbg with units := d.dbg.units.filter (fun e => decide (128 ≤ e.1)) } }
    let d := d.quiesce.newGen false
    { d with plp := { d.plp with flushing := true, quiet := [] } }

def execFlush (s : State) : Host.Outcome State Fault Refusal := run Dev.flushStart s

/-- A flush die is quiet: idle, failed, or nothing runs on it (R227, R312). -/
def Dev.dieQuiet (d : Dev) (n : Nat) : Bool := match d.die n with
  | some x => x.cur.isNone && (x.state == 0 || x.state == 1 || x.state == 8)
  | none => true

/-- FLUSH_DIE_QUIET: the die of a rank has become quiet, and its pages program in order from now on (R312). -/
def Dev.flushQuiet (rank : Nat) (d : Dev) : Dev :=
  if d.plp.flushing ∧ rank < d.plp.dies.length ∧ d.dieQuiet (d.plp.dies.getD rank 0) ∧ !d.plp.quiet.contains rank then
    { d with plp := { d.plp with quiet := rank :: d.plp.quiet } }
  else d

def execFlushDieQuiet (rank : Nat) (s : State) : Host.Outcome State Fault Refusal := run (Dev.flushQuiet rank) s

/-- FLUSH_PROGRAM_DONE: the program of a rank's next planned page has ended (R312, R328). -/
def Dev.flushPage (rank : Nat) (d : Dev) : Dev :=
  match d.plp.gens.getLast? with
  | none => d
  | some g =>
    if d.plp.flushing ∧ d.plp.quiet.contains rank ∧ g.done.getD rank 0 < d.flushLimit g rank then
      d.mapGen (fun g => { g with done := g.done.modify rank (· + 1), durUs := d.life.usUp - d.plp.startUs })
    else d

def execFlushProgramDone (rank : Nat) (s : State) : Host.Outcome State Fault Refusal := run (Dev.flushPage rank) s

/-- FLUSH_COMPLETE: the last program has ended; CE_N high, WP_N low, and with the main rails present RESET follows (R303, R312). -/
def Dev.flushEnd (d : Dev) : Dev :=
  match d.plp.gens.getLast? with
  | none => d
  | some g =>
    if !d.plp.flushing || !d.flushDone g then d
    else
      let d := d.mapGen (fun g => { g with ended := true })
      let d := (d.emit (.pin "NAND_CE_N" 1)).emit (.pin "NAND_WP_N" 0)
      if d.life.rails then d.deviceReset false d.plp.cause true else d.toBackup

def execFlushComplete (s : State) : Host.Outcome State Fault Refusal := run Dev.flushEnd s

/-- FORCE_PFAIL: a secure write of FORCE PFAIL acts as a taken fall and runs a real flush (R328). -/
def execForcePfail (req : Requester) (s : State) : Host.Outcome State Fault Refusal :=
  run (fun d => d.forceWrite req .PLP 0 Dev.powerFall) s

/-- FORCE_CUT: a secure write of FORCE CUT arms a test cut of the next flush (R328). -/
def execForceCut (req : Requester) (s : State) : Host.Outcome State Fault Refusal :=
  run (fun d => d.forceWrite req .PLP 0 (fun d => { d with plp := { d.plp with cut := true } })) s

/-! ### Flush dies and the reserved area (R306, R309) -/

/-- Modes in which firmware keeps the media: after replay and outside FLUSH (R174). -/
def Dev.mediaMode (d : Dev) : Bool := d.life.replayed && !d.life.fatal && (backgroundMode d.life.mode || d.life.mode == .maint)

/-- FLUSH_DIE_CHOICE: the choice of R306 differs from the flush dies in use. -/
def Dev.flushDieChoice (d : Dev) : Dev :=
  if d.mediaMode && d.formatted && d.plp.dies != d.flushChoice then d.chooseFlushDies else d

def execFlushDieChoice (s : State) : Host.Outcome State Fault Refusal := run Dev.flushDieChoice s

/-- RESERVED_ROTATION: fewer than 3 erased flush slots, fewer than 2 free root pages, or the recorder asks; the old index of the
last rotation is released, and no frozen view holds what would be discarded (R309, R578, R583). -/
def Dev.reservedRotation (bad : List Nat) (d : Dev) : Dev :=
  let due := decide (10 - d.plp.usedSlots < 3) || decide (d.plp.rootPages < 2) || d.recd.rotating
  if d.mediaMode && d.formatted && due && !d.otherIndexHeld && !d.ringFrozen then d.rotateReserved (!d.recd.clearing) bad else d

def execReservedRotation (bad : List Nat) (s : State) : Host.Outcome State Fault Refusal := run (Dev.reservedRotation bad) s

/-! ### Cache size (R311) -/

/-- A smaller CACHE_MIB waits for destage. -/
def Dev.shrinking (d : Dev) : Bool := decide (d.cacheMib < d.effMib)

/-- CACHE_SIZE_WRITE: a larger value takes effect at once; a smaller one once the content fits (R311). -/
def Dev.cacheWrite (value : W32) (d : Dev) : Dev :=
  (d.setRegN .PLP 0 Reg.PLP_PLP_CFG (fld value 0 8)).cacheFollow

def execCacheSizeWrite (req : Requester) (value : W32) (s : State) : Host.Outcome State Fault Refusal :=
  run (fun d => d.regWrite req .PLP 0 Reg.PLP_PLP_CFG (Dev.cacheWrite value)) s

/-- CACHE_SHRINK_DONE: destage has brought the content to the new size (R311). -/
def execCacheShrinkDone (s : State) : Host.Outcome State Fault Refusal :=
  run (fun d => if d.life.booted && d.shrinking && decide (d.cache.length ≤ linesOfMib d.cacheMib) then d.applyCache else d) s

/-! ### Retirement (R325) -/

/-- No sector replayed from a generation remains in the cache, and the journal that names where they landed is on media. -/
def Dev.mayRetire (d : Dev) (g : Gen) : Bool :=
  g.lines.all (fun e => match mget d.cache e.1 with
    | some l => l.install != e.2.install
    | none => true) && decide (d.jnl.media.bands = d.ftl.bands ∧ d.jnl.media.logs = d.ftl.logs)

/-- FLUSH_RETIRED of a generation that a replay has read (R325). -/
def Dev.flushRetired (seq : Nat) (d : Dev) : Dev :=
  match d.plp.gens.find? (fun g => g.seq == seq) with
  | none => d
  | some g =>
    if !d.life.booted || g.retired || !d.mayRetire g then d
    else ({ d with plp := { d.plp with gens := updFirst (fun g => g.seq == seq) (fun g => { g with retired := true }) d.plp.gens } }).jrec
      [.ledger genRetired 0 0 0 0 0 0 0 seq]

def execFlushRetired (seq : Nat) (s : State) : Host.Outcome State Fault Refusal := run (Dev.flushRetired seq) s

end Sys2Proof.Machine
end

