-- ==== Sys2Proof/Machine/Power.lean ====
section
/-! DEFINITION. Meanings of the idle, patrol and power domain commands (spec/20_power_states.md). -/
namespace Sys2Proof.Machine
open Sys2Proof

/-! ### IDLE (R594 to R598) -/

/-- IDLE_TIMER_EXPIRY: the idle condition has held for IDLE_US in ACTIVE, and Glaze is asked to quiesce (R594). -/
def Dev.idleExpiry (d : Dev) : Dev :=
  match d.life.idleSince with
  | some t =>
    if d.life.mode == .active && !d.life.fatal && d.idleCond && d.life.entry == .none && d.idleUs != 0 && decide (d.idleUs ≤ d.life.usUp - t) then
      { (d.setRegF .PWR 0 Reg.PWR_PWR_STS 2 1 1) with life := { d.life with entry := .quiescing } }
    else d
  | none => d

def execIdleTimerExpiry (s : State) : Host.Outcome State Fault Refusal := run Dev.idleExpiry s

/-- QUIESCE_ACK: the clocks gate and IDLE is entered; a wake source latched meanwhile wakes at once (R594, R595). -/
def Dev.quiesceAck (d : Dev) : Dev :=
  if d.life.entry ≠ .quiescing ∨ d.life.mode ≠ .active ∨ d.life.fatal then d
  else
    let again := !d.idleCond
    let d := d.entryOver false
    let d := { (d.setMode .idle) with doms := d.doms.modify 12 (fun x => { x with retained := true }) }
    let d := ({ d with life := { d.life with idleAt := d.life.usUp } }).incWrap .PWR 0 Reg.PWR_IDLE_CNT 1
    if again && d.life.wakeReq.isNone then d.wakeFor .doorbell else d

def execQuiesceAck (s : State) : Host.Outcome State Fault Refusal := run Dev.quiesceAck s

/-- QUIESCE_LATE: the acknowledgement did not come within 100 µs (R594). -/
def Dev.quiesceLate (d : Dev) : Dev :=
  if d.life.entry ≠ .quiescing then d else (d.entryOver true).raiseErr .PWR 0 2 noDetail

def execQuiesceLate (s : State) : Host.Outcome State Fault Refusal := run Dev.quiesceLate s

/-- WAKE: a wake source of R27. -/
def execWake (cause : WakeCause) (s : State) : Host.Outcome State Fault Refusal := run (Dev.wakeSource cause) s

/-- A due time of R597 has come: scrub, retrain, row-age close, the recorder's hold, or a patrol visit. -/
def Dev.workDue (d : Dev) : Bool :=
  let idleS := (d.life.usUp - d.life.idleAt) / 1000000
  let scrub := d.regF .MEM 0 Reg.MEM_MEM_CFG 0 16
  let rowUs := max 1 (d.regF .STR 0 Reg.STR_STR_CFG 0 16) * 1000000
  let hold := max 1 (d.regF .REC 0 Reg.REC_REC_CFG 8 8) * 1000000
  let period := max 1 (d.regF .WEAR 0 Reg.WEAR_PATROL_CFG 0 16) * 3600
  (scrub != 0 && decide (scrub ≤ idleS)) ||
    d.chans.any (fun e => let p := d.regF .CH e.1 Reg.CH_PHY_CFG 0 16
      p != 0 && decide (p ≤ d.nowS - e.2.trainS)) ||
    d.ftl.rows.any (fun r => decide (rowUs < d.life.usUp - r.2.firstUs)) ||
    d.recd.pending.any (fun r => decide (hold ≤ d.life.usUp - r.atUs)) ||
    d.ftl.sbs.any (fun e => e.2.state == 3 && decide (period ≤ d.nowS - max e.2.progS e.2.visitS))

/-- WORK_TIMER_EXPIRY: the work timer armed at IDLE entry expires (R597). -/
def execWorkTimerExpiry (s : State) : Host.Outcome State Fault Refusal :=
  run (fun d => if d.life.mode == .idle && d.workDue then d.wakeFor .work else d) s

/-! ### PATROL (R599 to R602) -/

/-- Every trained port is in L1.2: the host link, and each tenant link that trained. -/
def Dev.linksSleep (d : Dev) : Bool :=
  d.regF .EP 0 Reg.EP_LINK_STS 11 2 == 3 &&
    (List.range 8).all (fun p => d.regF .TP p Reg.TP_LINK_STS 0 3 == 0 || d.regF .TP p Reg.TP_LINK_STS 11 2 == 3)

/-- Patrol entry conditions of R27. -/
def Dev.patrolCond (d : Dev) : Bool := d.cache.isEmpty && d.linksSleep && decide (d.fabSize < 2)

/-- PATROL_TIMER_EXPIRY: ENTRY_S has passed in IDLE; the RH6400 returns to ACTIVE and tests the entry conditions (R28, R599). -/
def Dev.patrolExpiry (d : Dev) : Dev :=
  let s := d.regF .PWR 0 Reg.PWR_PATROL_CFG 0 16
  if d.life.mode == .idle && !d.life.fatal && s != 0 && d.idleUs != 0 && decide (s * 1000000 ≤ d.life.usUp - d.life.idleAt) then
    let d := d.wakeFor .patrolTimer
    if d.patrolCond then
      { (d.setRegF .PWR 0 Reg.PWR_PWR_STS 2 1 1) with life := { d.life with entry := .patrolEntering } }
    else d
  else d

def execPatrolTimerExpiry (s : State) : Host.Outcome State Fault Refusal := run Dev.patrolExpiry s

/-- PATROL_ENTRY_COMPLETE: the last domain is down, every open log row closed (R599). -/
def Dev.patrolEntered (d : Dev) : Dev :=
  if d.life.entry ≠ .patrolEntering ∨ d.life.mode ≠ .active ∨ d.life.fatal ∨ !d.patrolCond ∨ !d.ftl.rows.isEmpty ∨ !d.idleCond then d
  else
    let d := d.entryOver false
    let down (i : Nat) (x : Domn) : Domn :=
      if i = 0 then x
      else if (i = 10 ∨ i = 13) then { x with stage := 0, retained := true }
      else if x.st = .serving then { x with stage := 0, retained := true } else x
    let d := { (d.setMode .patrol) with doms := d.doms.mapIdx down }
    d.incWrap .PWR 0 Reg.PWR_PATROL_CNT 1

def execPatrolEntryComplete (s : State) : Host.Outcome State Fault Refusal := run Dev.patrolEntered s

/-- Valid sentinel entries (R601), ascending. -/
def Dev.sentinels (d : Dev) : List Nat := (List.range 64).filter (fun n => d.regB .PWR 0 (Reg.PWR_SENT_0 + 16 * n) 31)

/-- PER_WAKE as it acts (R606). -/
def Dev.perWake (d : Dev) : Nat := max 1 (min 64 (d.regF .PWR 0 Reg.PWR_SENT_CFG 0 7))

/-- The sentinels of one wake: the next PER_WAKE valid entries from NEXT_SENT, wrapping (R602). -/
def Dev.wakeSentinels (d : Dev) : List Nat :=
  let next := d.regF .PWR 0 Reg.PWR_PWR_STS 4 6
  let vs := d.sentinels
  ((vs.filter (fun n => decide (next ≤ n))) ++ (vs.filter (fun n => decide (n < next)))).take d.perWake

/-- Superblock of a sentinel (R601). -/
def Dev.sentSb (d : Dev) (n : Nat) : Option Nat :=
  let o := Reg.PWR_SENT_0 + 16 * n
  (d.sbOfBlock (d.regF .PWR 0 o 0 7 * 16 + d.regF .PWR 0 o 7 4) (d.regF .PWR 0 (o + 4) 0 13)).map (·.1)

/-- PATROL_WAKE (R602): one patrol wake; `results` gives for each sentinel read the corrected bits, or none when the decode
was not accepted or the die timed out. A finding wakes the device and is treated under R180. -/
def Dev.patrolWake (results : List (Option Nat)) (d : Dev) : Dev :=
  if d.life.mode ≠ .patrol ∨ d.life.fatal then d
  else
    let sel := d.wakeSentinels.zip results
    let bad := sel.filter (fun e => match e.2 with
      | some b => decide (d.patrolBits ≤ b)
      | none => true)
    let d := sel.foldl (fun d e => d.setRegF .PWR 0 (Reg.PWR_SENT_0 + 16 * e.1 + 12) 16 16 (match e.2 with
      | some b => min 0xfffe b
      | none => 0xffff)) d
    let d := match sel.getLast? with
      | some e => d.setRegF .PWR 0 Reg.PWR_PWR_STS 4 6 ((e.1 + 1) % 64)
      | none => d
    if bad.isEmpty then d
    else
      let d := (d.setIrq .PWR 0 1).incWrap .PWR 0 Reg.PWR_FINDINGS bad.length
      let d := d.wakeFor .finding
      bad.foldl (fun d e => match d.sentSb e.1 with
        | some sb => d.finding sb
        | none => d) d

def execPatrolWake (results : List (Option Nat)) (s : State) : Host.Outcome State Fault Refusal := run (Dev.patrolWake results) s

/-! ### Domains (R592, R593) -/

/-- DOMAIN_STAGE_READY: the next stage of a domain that comes up sets its ready signal; LOGIC_OK makes it READY (R593). -/
def Dev.stageReady (n : Nat) (d : Dev) : Dev :=
  let x := d.dom n
  if 16 ≤ n ∨ 4 ≤ x.stage ∨ x.st ≠ .starting then d
  else d.setDom n { x with stage := x.stage + 1, st := if x.stage = 3 then .serving else x.st, retained := false }

def execDomainStageReady (dom : Nat) (s : State) : Host.Outcome State Fault Refusal := run (Dev.stageReady dom) s

/-- DOMAIN_STAGE_TIMEOUT: a stage has not set its ready signal by four times its Max (R593). -/
def Dev.stageTimeout (n : Nat) (d : Dev) : Dev :=
  let x := d.dom n
  if 16 ≤ n ∨ 4 ≤ x.stage ∨ x.st ≠ .starting then d
  else if 1 ≤ n ∧ n ≤ 10 then d.raiseErrAs .PWR 0 0 2 noDetail n
  else (d.containDomain n).raiseErr .PWR 0 1 noDetail

def execDomainStageTimeout (dom : Nat) (s : State) : Host.Outcome State Fault Refusal := run (Dev.stageTimeout dom) s

end Sys2Proof.Machine
end

