-- ==== Sys2Proof/Machine/ReadOps.lean ====
section
/-! DEFINITION. What register and window reads return (spec/02_register_pages.md R43 to R62, R66 to R73, and the register tables of
every chapter): registers that no rule writes are computed here from the state they show. -/
namespace Sys2Proof.Machine
open Sys2Proof

/-- Half of a 64-bit value: the low word at `base`, the high word after it. -/
def half (v off base : Nat) : Nat := if off = base then v % 2 ^ 32 else v / 2 ^ 32 % 2 ^ 32

/-- Bits of an enable state as STATE_n and DOM_n show them: READY, EN_PENDING, DRAINING, FAULT from bit 1 (R82, R606). -/
def PageSt.bits1 (s : PageSt) : Nat := s.sts * 2

/-! ### Common registers (R53) -/

/-- The common registers that are computed. -/
def Dev.readCommon (d : Dev) (p : PT) (i off : Nat) : Nat :=
  let st := d.page p i
  match off with
  | 0x0 => 2 + i * 0x100 + p.code * 0x100000
  | 0x4 => b2n p.hasDrain + 2 * b2n p.hasInj + 4 * b2n p.hasForce + p.irqBits * 0x100 + p.errClasses.length * 0x10000
  | 0x8 =>
    (if p.hasDrain then b2n st.en + 2 * (st.sts / 4 % 2) else 1) + 8 * b2n (d.locked p i)
  | 0xc => (if p.hasDrain then st.sts else b2n d.life.booted) + 16 * b2n (d.locked p i)
  | 0x24 => if p = .PLP then 2 * b2n d.plp.cut else d.regN p i off
  | _ => d.regN p i off

/-! ### Host and queue pages -/

/-- BIND_n and STATE_n as they read (R82). -/
def Dev.readVF (d : Dev) (off : Nat) : Nat :=
  if off = 0x40 then d.ep.numVfs % 256 + 256 * b2n d.ep.vfe + 512 * b2n d.ep.vfMse
  else if off = 0x44 then
    2048 - ((List.range 2048).filter (fun q => (d.vfOfQueue q).isSome || d.page .HQ q != .off)).length
  else if 0x100 ≤ off ∧ off < 0x4fc then
    let v := d.vf ((off - 0x100) / 4 + 1)
    v.tint + v.qcount * 2 ^ 10 + v.qbase * 2 ^ 17 + b2n v.valid * 2 ^ 31
  else if 0x500 ≤ off ∧ off < 0x8fc then
    let n := (off - 0x500) / 4 + 1
    let v := d.vf n
    b2n (v.st.en || (v.st == .off && v.want)) + v.st.bits1 + 32 * b2n (d.fn (.vf n)).flr
  else 0

/-- Queue page registers (R107). -/
def Dev.readQueue (d : Dev) (p : PT) (i off : Nat) : Nat :=
  let q := if p = .TQ then 2048 + i else i
  match off with
  | 0x40 => (setFld (d.reg p i off) 0 10 (d.qTint q)).toNat
  | 0x44 => packF [(0, b2n (d.frozen q)), (1, b2n (d.flights.any (fun f => f.q == q && f.stage == .gate))), (8, d.unconsumed q),
      (14, (d.inflight q).length % 64), (20, d.qF q Reg.HQ_Q_STS 20 2)]
  | _ => d.regN p i off

/-- TP page registers (R397). -/
def Dev.readTP (d : Dev) (p off : Nat) : Nat :=
  let f := d.fn (.tp p)
  match off with
  | 0x4c => packF [(0, b2n f.d3), (1, b2n f.flr), (2, b2n f.bme), (3, b2n (nbit d.tpPerst p)), (4, b2n f.resetting)]
  | 0x54 => (d.pushHeld p + 1023) / 1024 % 2 ^ 15
  | _ => d.regN .TP p off

/-- TNT page registers (R386). -/
def Dev.readTNT (d : Dev) (t off : Nat) : Nat :=
  match off with
  | 0x5c => d.usedBy t
  | 0x64 => d.qUsed t % 4096
  | 0x68 =>
    let port := (List.range 8).find? (fun p => d.regB .TP p Reg.TP_TP_BIND 31 && d.regF .TP p Reg.TP_TP_BIND 0 10 == t)
    port.getD 0 + 8 * b2n port.isSome + 16 * (d.vfs.filter (fun e => e.2.valid && e.2.tint == t)).length
  | 0x6c => (d.grants.filter (fun g => g.tint == t && g.rights != 0)).length
  | _ => d.regN .TNT t off

/-! ### FTL and media pages -/

/-- The entry of a band in the format of R148. -/
def Dev.bandWord (d : Dev) (b : Nat) : Nat :=
  bandBits (d.band b)

/-- MAP page registers (R189). -/
def Dev.readMAP (d : Dev) (off : Nat) : Nat :=
  match off with
  | 0x40 => d.capBands
  | 0x44 => d.mapped
  | 0x48 => d.heldSlots
  | 0x4c => (d.ftl.bands.filter (fun e => e.2.fast)).length
  | 0x58 | 0x5c => half (d.bandWord (d.regF .MAP 0 Reg.MAP_PROBE_BAND 0 24)) off 0x58
  | _ => d.regN .MAP 0 off

/-- LOG page registers (R190). -/
def Dev.readLOG (d : Dev) (off : Nat) : Nat :=
  match off with
  | 0x4c => (setFld (setFld (d.reg .LOG 0 off) 0 13 d.logInUse) 26 1 (b2n d.forced)).toNat
  | 0x50 => d.directInUse
  | _ => d.regN .LOG 0 off

/-- GC page registers (R191). -/
def Dev.readGC (d : Dev) (off : Nat) : Nat :=
  match off with
  | 0x48 => d.freeSb
  | 0x50 =>
    let w := d.reg .GC 0 off
    if fld w 26 1 = 1 then (setFld w 20 6 (d.sb (fld w 0 20)).valid).toNat else w.toNat
  | 0x4c => min 65535 d.gcPressure + 65536 * b2n d.atReserve
  | 0x60 => d.effReserve
  | 0x64 => d.effHigh
  | _ => d.regN .GC 0 off

/-- PSL page registers (R192). -/
def Dev.readPSL (d : Dev) (off : Nat) : Nat :=
  match off with
  | 0x4c => d.curSb
  | 0x50 => d.pslRsv
  | 0x54 => d.fastFree
  | _ => d.regN .PSL 0 off

/-- Superblocks of the groups that are not UNUSED. -/
def Dev.allSbs (d : Dev) : List Nat := d.ftl.groups.flatMap (fun g => (List.range g.2.sbCount).map (fun k => g.1 * 8192 + k))

/-- Erase counts of the superblocks that are not RETIRED. -/
def Dev.eraseCounts (d : Dev) : List Nat := (d.allSbs.filter (fun n => (d.sb n).state != 6)).map d.sbErases

/-- The die in service with the fewest spares left, lowest number first (R193). -/
def Dev.fewestSpares (d : Dev) : Option (Nat × Nat) :=
  let xs : List (Nat × Nat) := d.dies.filterMap (fun e => if (d.dieGroup e.1).isSome then some (e.1, e.2.spares.length) else none)
  xs.foldl (fun (m : Option (Nat × Nat)) x => match m with
    | some y => if x.2 < y.2 then some x else some y
    | none => some x) none

/-- WEAR page registers (R193); the histogram's last bucket takes what lies above. -/
def Dev.readWEAR (d : Dev) (off : Nat) : Nat :=
  let es := d.eraseCounts
  if off = 0x48 then es.foldl max 0
  else if off = 0x4c then (match es with
    | [] => 0
    | e :: r => r.foldl min e)
  else if off = 0x50 then (if es = [] then 0 else es.foldl (· + ·) 0 / es.length)
  else if off = 0x54 then d.wearRated
  else if off = 0x58 then (match d.fewestSpares with
    | some (n, c) => packF [(0, min 255 c), (8, n), (19, b2n d.formatted)]
    | none => b2n d.formatted * 2 ^ 19)
  else if 0x80 ≤ off ∧ off < 0x100 then
    let w := max 1 (d.regF .WEAR 0 Reg.WEAR_WEAR_CFG 0 16)
    (es.filter (fun e => min 31 (e / w) == (off - 0x80) / 4)).length
  else d.regN .WEAR 0 off

/-- Entries queued on a lane of a channel (R229). -/
def ChSt.laneCount (c : ChSt) (lane : Nat) : Nat :=
  ((c.lists.filter (fun l => l.lane == lane)).map (fun l => (l.entries.filter (fun e => e.2 == .queued)).length)).foldl (· + ·) 0

/-- CH page registers (R229). -/
def Dev.readCH (d : Dev) (ch off : Nat) : Nat :=
  let c := d.chan ch
  if off = 0x44 then (setFld (d.reg .CH ch off) 6 2 (d.chService ch)).toNat
  else if off = 0x64 then (match c with
    | some c => packF ((List.range 4).map (fun k => (8 * k, min 255 (c.laneCount k))))
    | none => 0)
  else if off = 0x70 ∨ off = 0x74 then (match c with
    | some c => half ((mget c.trainRd (d.regF .CH ch Reg.CH_TRAIN_SEL 0 4)).getD 0) off 0x70
    | none => 0)
  else if 0x100 ≤ off ∧ off < 0x140 then (match d.die (ch * 16 + (off - 0x100) / 4) with
    | some x => packF [(0, x.state), (4, x.susp), (8, x.cause), (11, b2n (x.state != 0)), (12, b2n (x.data && x.state != 0)), (13, x.block)]
    | none => 0)
  else d.regN .CH ch off

/-- STR page registers (R298). -/
def Dev.readSTR (d : Dev) (off : Nat) : Nat :=
  let g := d.regF .STR 0 Reg.STR_GROUP_SEL 0 7
  if off = 0x44 then
    let prot := d.regF .STR 0 Reg.STR_STR_STS 0 1
    let p1 := d.ftl.groups.any (fun e => e.2.width == 17 && (d.bandsOfGroup e.1 != [] || d.heldOfGroup e.1 != []))
    let p2 := d.ftl.groups.any (fun e => e.2.width == 18 && (d.bandsOfGroup e.1 != [] || d.heldOfGroup e.1 != []))
    packF [(0, prot), (1, if p1 then 0 else if p2 then 1 else prot), (2, b2n (d.regB .REB 0 Reg.REB_REB_CTL 0)),
      (8, d.activeGroups), (16, (d.ftl.pool.filter (fun n => !d.dieGone n)).length % 2048)]
  else if off = 0x48 then packF [(0, min 65535 d.ftl.rows.length), (16, min 65535 d.ftl.unprot.length)]
  else if off = 0x50 then (match d.group g with
    | some x => packF [(0, x.state), (2, x.cause), (4, x.width), (9, x.sbCount),
        (22, (x.members.findIdx? (fun n => d.dieGone n)).getD 0x1f)]
    | none => 0x1f * 2 ^ 22)
  else if off = 0x54 then d.groupValid g
  else if 0x60 ≤ off ∧ off < 0x84 then (match d.group g with
    | some x =>
      let k := (off - 0x60) / 4 * 2
      let f (m : Nat) : Nat := match x.members[m]? with
        | some n => n + 2 ^ 15
        | none => 0
      f k + f (k + 1) * 65536
    | none => 0)
  else d.regN .STR 0 off

/-- JNL page registers (R299). -/
def Dev.readJNL (d : Dev) (off : Nat) : Nat :=
  match off with
  | 0x44 => packF [(0, d.jnl.waiting.length % 64), (6, b2n d.jnlFull), (7, b2n (d.jnl.copies.any d.oneCopy))]
  | _ => d.regN .JNL 0 off

/-- REB page registers (R300). -/
def Dev.readREB (d : Dev) (off : Nat) : Nat :=
  let out := d.ftl.groups.filter (fun e => e.2.state == 2)
  let runs := d.regB .REB 0 Reg.REB_REB_CTL 0
  let w := 17 + d.regF .REB 0 Reg.REB_REB_CTL 1 1
  match off with
  | 0x44 => packF [(0, b2n (out.any (fun e => e.2.cause == 1))), (1, b2n runs), (2, d.regF .REB 0 off 2 1), (3, d.regF .REB 0 off 3 1),
      (4, (out.head?.map (·.1)).getD 0),
      (11, if runs then (d.ftl.groups.filter (fun e => e.2.width != w)).length else 0),
      (18, if runs then (d.ftl.groups.filter (fun e => e.2.state == 1 && e.2.width == w)).length else 0)]
  | 0x48 => ((out.flatMap (fun e => d.bandsOfGroup e.1 ++ (d.heldOfGroup e.1).map (·.band))).eraseDups).length
  | _ => d.regN .REB 0 off

/-- PLP page registers (R327). -/
def Dev.readPLP (d : Dev) (off : Nat) : Nat :=
  match off with
  | 0x44 =>
    let w := d.reg .PLP 0 off
    packF [(0, fld w 0 1), (1, b2n (!d.life.pfailN)), (2, d.plp.dies.length), (11, b2n (d.flushQ == 2)), (12, b2n d.shrinking), (16, fld w 16 8)]
  | 0x48 => min 65535 d.flushUs
  | 0x4c => min 65535 d.holdupUs
  | 0x50 => min 65535 d.holdupMw
  | 0x54 => d.flushPages % 32
  | _ => d.regN .PLP 0 off

/-- LDP page registers (R249). -/
def Dev.readLDP (d : Dev) (off : Nat) : Nat :=
  if off = 0x4c then d.poolSts else d.regN .LDP 0 off

/-! ### Service pages -/

/-- VOL, STM and OBJ page registers (R333). -/
def Dev.readProv (d : Dev) (kind off : Nat) : Nat :=
  match off with
  | 0x4c => (d.stores.filter (fun e => e.1 / 65536 == kind)).length
  | 0x50 => kindLimit kind
  | 0x54 => freeRun d.ranges 0
  | _ => d.regN (kindPage kind) 0 off

/-- SNP page registers (R364). -/
def Dev.readSNP (d : Dev) (off : Nat) : Nat :=
  match off with
  | 0x40 => Sys2Proof.Machine.deltaMax
  | 0x44 => d.deltaUsed
  | 0x48 => d.deltaRsv
  | 0x4c => d.snapLive
  | _ => d.regN .SNP 0 off

/-- FAB page registers (R447). -/
def Dev.readFAB (d : Dev) (off : Nat) : Nat :=
  let loss := max (d.regF .FAB 0 Reg.FAB_FAB_TIMING 16 16) (10 * d.hbUs)
  match off with
  | 0x48 =>
    let near := match d.fab.headHb with
      | some t => decide (d.life.usUp - t < loss)
      | none => false
    (setFld (d.reg .FAB 0 off) 14 1 (b2n (d.isHead || near))).toNat
  | 0x68 | 0x6c => half d.fabNow off 0x68
  | 0x80 =>
    let left := (d.fab.resync.map (fun e => e.2.length)).foldl (· + ·) 0
    min (2 ^ 25 - 1) left + b2n (left != 0) * 2 ^ 31
  | 0x84 => min 262144 d.fab.intents.length + b2n (d.fab.members.any (fun e => e.2.full)) * 2 ^ 19
  | _ => d.regN .FAB 0 off

/-! ### Cipher, digest and Madder pages -/

/-- CIP page registers (R471). -/
def Dev.readCIP (d : Dev) (off : Nat) : Nat :=
  match off with
  | 0x44 => packF [(0, d.cip.busy.length), (10, d.cip.fenced.length), (20, b2n d.cip.alarm), (21, b2n d.seeded)]
  | 0x50 => d.cip.waiting.length % 65536
  | _ => d.regN .CIP 0 off

/-- KEY page registers (R472). -/
def Dev.readKEY (d : Dev) (off : Nat) : Nat :=
  let k := d.key (d.regF .KEY 0 Reg.KEY_KEY_SEL 0 12)
  if off = 0x4c then packF [(1, d.regF .KEY 0 off 1 4), (5, (k.map (·.state)).getD 0), (8, (k.map (·.gen)).getD 0)]
  else if off = 0x50 then (k.map (·.counter)).getD 0 % 2 ^ 32
  else if off = 0x54 then d.keys.length + (d.keys.filter (fun e => e.2.state == 2)).length * 2 ^ 13
  else if off = 0x60 ∨ off = 0x64 then half ((k.map (·.keyId)).getD 0) off 0x60
  else if 0x80 ≤ off then 0
  else d.regN .KEY 0 off

/-- DIG page registers (R486). -/
def Dev.readDIG (d : Dev) (off : Nat) : Nat :=
  match off with
  | 0x44 => (d.dig.ctxs.foldl (fun m e => bitSet m e.1) 0) + min 5 d.dig.waiting.length * 65536
  | 0x48 => d.dig.cache.length
  | _ => d.regN .DIG 0 off

/-- MLP page registers (R503). -/
def Dev.readMLP (d : Dev) (n off : Nat) : Nat :=
  match off with
  | 0x68 =>
    let l := d.loop n
    let same := l.kp == signed 32 (d.regN .MLP n Reg.MLP_KP) && l.ki == signed 32 (d.regN .MLP n Reg.MLP_KI) && l.coef == d.shadowCoef n
    2 * b2n (!same)
  | _ => d.regN .MLP n off

/-- MAD page registers (R504). -/
def Dev.readMAD (d : Dev) (off : Nat) : Nat :=
  match off with
  | 0x40 => ((List.range 16).filter (fun n => d.page .MLP n == .serving)).foldl bitSet 0 +
      65536 * b2n (d.life.mode == .idle || d.life.mode == .patrol) + 131072 * b2n (d.xHalted madUnit)
  | _ => d.regN .MAD 0 off

/-! ### Fault, recorder, calendar, power, clock, sideband and debug pages -/

/-- UPD page registers (R551): FAB_PROG names the first member that lacks a block. -/
def Dev.readUPD (d : Dev) (off : Nat) : Nat :=
  match off with
  | 0x54 =>
    let total := d.regF .UPD 0 Reg.UPD_BLOCKS 16 16
    let lacks (n : Nat) : Option Nat := (List.range total).find? (fun i =>
      if n = d.fabId then !mhas d.upd.blocks i else !d.upd.acks.contains (n * 65536 + i))
    let set := bitList (d.reg64 .UPD 0 Reg.UPD_SET) 64
    match set.findSome? (fun n => (lacks n).map (fun i => (n, i))) with
    | some (n, i) => if d.isHead then n + 64 + i * 65536 else 0
    | none => 0
  | _ => d.regN .UPD 0 off

/-- FLT page registers (R571). -/
def Dev.readFLT (d : Dev) (off : Nat) : Nat :=
  match off with
  | 0x44 => (setFld (d.reg .FLT 0 off) 20 4 (min 15 d.c3Recent)).toNat
  | 0x94 => (d.ovrEntry (d.regF .FLT 0 Reg.FLT_OVR_SEL 0 5)).toNat
  | _ => d.regN .FLT 0 off

/-- REC page registers (R585). -/
def Dev.readREC (d : Dev) (off : Nat) : Nat :=
  match off with
  | 0x44 => packF [(0, d.recd.pending.length), (12, d.recd.nextPage), (17, b2n d.recd.rotating), (18, b2n (!d.ringReady))]
  | 0x48 | 0x4c => half d.newestSeq off 0x48
  | 0x50 | 0x54 => half d.oldestSeq off 0x50
  | 0x58 => d.recd.lost
  | 0x5c => d.recd.dropped
  | 0x60 => d.bak.pos
  | 0x64 => d.bak.pcc
  | _ => d.regN .REC 0 off

/-- RECW header registers of a view (R582). -/
def Dev.readRECW (d : Dev) (v off : Nat) : Nat :=
  let x := d.view v
  match off with
  | 0x44 => b2n x.loading + 2 * b2n x.freeze + 4 * b2n x.lost
  | 0x48 | 0x4c => half x.cursor off 0x48
  | 0x50 | 0x54 => half x.base off 0x50
  | 0x58 | 0x5c => half x.top off 0x58
  | 0x60 => b2n x.freeze + x.maxS * 65536
  | _ => d.regN .RECW 0 off

/-- ERRW header registers of a view (R141). -/
def Dev.readERRW (d : Dev) (v off : Nat) : Nat :=
  match off with
  | 0x40 => if v = 0 then d.regN .ERRW 0 off else 0
  | 0x48 | 0x4c => half (d.elog v).newest off 0x48
  | 0x50 => logCapacity v
  | _ => d.regN .ERRW 0 off

/-- CAL page registers (R591). -/
def Dev.readCAL (d : Dev) (off : Nat) : Nat :=
  match off with
  | 0x40 | 0x44 => half (d.bak.sub + b2n d.bak.valid * 32768 + d.bak.sec * 65536) off 0x40
  | 0x5c => b2n d.bak.valid + 2 * b2n d.bak.vbatLost + 4 * b2n d.calFollows
  | _ => d.regN .CAL 0 off

/-- PWR page registers (R606). -/
def Dev.readPWR (d : Dev) (off : Nat) : Nat :=
  if off = 0x4c then
    let w := d.reg .PWR 0 off
    packF [(0, b2n d.idleCond), (1, b2n d.patrolCond), (2, fld w 2 1), (4, fld w 4 6), (10, d.sentinels.length)]
  else if 0xc0 ≤ off ∧ off < 0x100 then
    let x := d.dom ((off - 0xc0) / 4)
    b2n x.st.en + x.st.bits1 + (2 ^ min 4 x.stage - 1) * 32 + b2n x.retained * 512
  else d.regN .PWR 0 off

/-- CLK page registers (R619). -/
def Dev.readCLK (d : Dev) (off : Nat) : Nat :=
  match off with
  | 0x44 => packF [(0, b2n d.life.pllLocked), (1, b2n d.life.pllInternal), (2, b2n d.life.refclk),
      (3, let s := d.regF .CLK 0 Reg.CLK_CLK_CTL 0 2
        if s = 3 then 0 else s)]
  | _ => d.regN .CLK 0 off

/-- SBD page registers (R639). -/
def Dev.readSBD (d : Dev) (off : Nat) : Nat :=
  match off with
  | 0x44 => packF [(0, d.sbd.dyn.getD 0 % 128), (7, b2n d.sbd.dyn.isSome), (8, d.regF .OPT 0 Reg.OPT_OPT_DEV 12 7),
      (15, d.regF .SX 0 Reg.SX_BOOT_STS 14 1)]
  | _ => d.regN .SBD 0 off

/-- Highest level that the debug port can grant (R643). -/
def Dev.dbgMax (d : Dev) : Nat := min (min 2 (d.regF .OPT 0 Reg.OPT_OPT_DEV 8 2)) (if d.otpBit 0x160 0 then 1 else 2)

/-- DBG page registers (R655). -/
def Dev.readDBG (d : Dev) (off : Nat) : Nat :=
  match off with
  | 0x40 => packF [(0, d.dbg.level), (2, d.dbgMax), (4, b2n d.dbg.busy), (5, b2n (d.dbg.balls != 0)), (6, b2n d.sxHalted),
      (7, b2n ((List.range 128).any d.xHalted)), (8, b2n (d.xHalted madUnit)), (9, b2n d.dbg.refused)]
  | 0x54 => d.haltMask
  | _ => d.regN .DBG 0 off

/-- DEV page registers (R33, R34). -/
def Dev.readDEV (d : Dev) (off : Nat) : Nat :=
  match off with
  | 0x40 => packF [(0, modeCode d.life.mode), (8, b2n d.degradedC), (9, b2n d.fabFenced), (10, b2n d.readonlyC), (11, b2n d.life.fatal),
      (12, b2n d.life.shutDone), (24, d.life.seq)]
  | 0x44 => b2n (d.life.shutting || d.life.shutDone) + 2 * b2n d.life.maintReq
  | _ => d.regN .DEV 0 off

/-- EP page registers (R97). -/
def Dev.readEP (d : Dev) (off : Nat) : Nat :=
  match off with
  | 0x48 => let f := d.fn .pf
    packF [(0, b2n f.d3), (1, b2n f.flr), (2, b2n f.bme)]
  | _ => d.regN .EP 0 off

/-! ### One register word -/

/-- The log view of a requester: 0 the PF's, n of VF n, 256 + p of port p (R140). -/
def logViewOf (r : Requester) : Nat := match r.dom with
  | .vf => r.num
  | .tenant => 256 + r.num
  | _ => 0

/-- The 32-bit word at offset `off` of a page, as a requester's view shows it; reserved space reads zero (R44). -/
def Dev.readWord (d : Dev) (r : Requester) (p : PT) (i off : Nat) : Nat :=
  if off < 0x40 then d.readCommon p i off
  else match p with
    | .DEV => d.readDEV off
    | .VF => d.readVF off
    | .HQ | .TQ => d.readQueue p i off
    | .EP => d.readEP off
    | .TP => d.readTP i off
    | .TNT => d.readTNT i off
    | .MAP => d.readMAP off
    | .LOG => d.readLOG off
    | .GC => d.readGC off
    | .PSL => d.readPSL off
    | .WEAR => d.readWEAR off
    | .CH => d.readCH i off
    | .STR => d.readSTR off
    | .JNL => d.readJNL off
    | .REB => d.readREB off
    | .PLP => d.readPLP off
    | .LDP => d.readLDP off
    | .VOL => d.readProv 0 off
    | .STM => d.readProv 1 off
    | .OBJ => d.readProv 2 off
    | .SNP => d.readSNP off
    | .FAB => d.readFAB off
    | .CIP => d.readCIP off
    | .KEY => d.readKEY off
    | .DIG => d.readDIG off
    | .MLP => d.readMLP i off
    | .MAD => d.readMAD off
    | .UPD => d.readUPD off
    | .FLT => d.readFLT off
    | .REC => d.readREC off
    | .RECW => d.readRECW (viewOf r) off
    | .ERRW => d.readERRW (logViewOf r) off
    | .CAL => d.readCAL off
    | .PWR => d.readPWR off
    | .CLK => d.readCLK off
    | .SBD => d.readSBD off
    | .DBG => d.readDBG off
    | _ => d.regN p i off

/-! ### Address spaces of the views -/

/-- What an offset of a view names: a DDT byte, a page's register or slot byte, a byte of a window's content after its header page, a byte
of the forerunner's BAR0 (R101), or reserved space. -/
inductive Spot where
  | ddt (a : Nat)
  | page (p : PT) (i off : Nat)
  | errors (off : Nat)
  | records (off : Nat)
  | traces (off : Nat)
  | fore (off : Nat)
  | reserved
deriving DecidableEq, Repr

/-- A page that `locate` finds, or reserved space. -/
def spotOf (a : Nat) : Spot := match locate a with
  | some (p, i, off) => .page p i off
  | none => .reserved

/-- Offset `a` of a requester's view (R43, R81, R373, R635). -/
def Dev.spot (d : Dev) (r : Requester) (a : Nat) : Spot :=
  if d.life.mode = .compat ∧ r.dom = .host ∧ !r.i3c ∧ !proxied r then .fore a
  else if a < 0x10000 then .ddt a
  else match r.dom with
    | .vf =>
      if !(d.vf r.num).valid then .reserved
      else if a < 0x50000 then
        let i := (a - 0x10000) / 0x1000
        if i < (d.vf r.num).qcount then .page .HQ ((d.vf r.num).qbase + i) (a % 0x1000) else .reserved
      else if 0x80000 ≤ a ∧ a < 0x81000 then .page .ERRW 0 (a % 0x1000)
      else if 0x81000 ≤ a ∧ a < 0x90000 then .errors (a - 0x81000)
      else .reserved
    | .tenant =>
      if a < 0x50000 then .page .TQ (r.num * 64 + (a - 0x10000) / 0x1000) (a % 0x1000)
      else if a < 0x51000 then
        (if d.regB .TP r.num Reg.TP_TP_BIND 31 then .page .TNT (d.regF .TP r.num Reg.TP_TP_BIND 0 10) (a % 0x1000) else .reserved)
      else if 0x80000 ≤ a ∧ a < 0x81000 then .page .ERRW 0 (a % 0x1000)
      else if 0x81000 ≤ a ∧ a < 0x90000 then .errors (a - 0x81000)
      else .reserved
    | _ =>
      if 0x1801000 ≤ a ∧ a < 0x1c00000 then .records (a - 0x1801000)
      else if r.i3c ∧ 0x800000 ≤ a ∧ ¬ (0x1800000 ≤ a ∧ a < 0x1801000) then .reserved
      else if 0x1001000 ≤ a ∧ a < 0x1800000 then .errors (a - 0x1001000)
      else if 0x1c01000 ≤ a ∧ a < 0x2000000 then .traces (a - 0x1c01000)
      else if 0x2001000 ≤ a ∧ a < 0x2100000 then .ddt a
      else spotOf a

/-- The DDT view of a requester (R47). -/
def ddtViewOf (r : Requester) : View := match r.dom with
  | .vf => .vf r.num
  | .tenant => .tp r.num
  | _ => if r.i3c then .i3c else .pf

/-- The 64 bytes of an error-log entry (R142). -/
def LogEntry.bytes (e : LogEntry) : List Byte :=
  leBytes 8 e.seq ++ leBytes 1 e.kind ++ leBytes 1 e.status ++ leBytes 1 e.origin ++ leBytes 1 e.originNum ++ leBytes 2 e.queue ++
  leBytes 1 e.tag ++ leBytes 1 e.opcode ++ leBytes 4 e.w10 ++ leBytes 4 e.w14 ++ leBytes 4 e.w18 ++ leBytes 4 e.w1c ++
  leBytes 8 e.d20 ++ leBytes 8 e.d28 ++ leBytes 8 e.d30 ++ leBytes 8 e.time

/-- The 32 bytes of a recorder record (R572). -/
def Rec.bytes (r : Rec) : List Byte :=
  leBytes 1 r.sev ++ leBytes 1 r.flags ++ leBytes 2 r.source ++ leBytes 2 r.code ++ leBytes 2 r.rep ++ leBytes 4 r.seq ++
  leBytes 4 r.pos ++ leBytes 4 r.pcc ++ leBytes 4 r.cal ++ leBytes 4 r.p0 ++ leBytes 4 r.p1

/-- Byte `o` of an error-log view's ring (R140). -/
def Dev.errorByte (d : Dev) (v o : Nat) : Byte :=
  let l := d.elog v
  match l.entries.find? (fun e => decide (1 ≤ e.seq) && (e.seq - 1) % logCapacity v == o / 64) with
  | some e => e.bytes.getD (o % 64) 0#8
  | none => 0#8

/-- Byte `o` of a recorder view's records (R582). -/
def Dev.recordByte (d : Dev) (v o : Nat) : Byte :=
  let x := d.view v
  if x.loading then 0#8
  else match x.recs.find? (fun r => r.seq == x.base + o / 32) with
    | some r => r.bytes.getD (o % 32) 0#8
    | none => 0#8

/-- Byte `o` of the trace buffers (R501). -/
def Dev.traceByte (d : Dev) (o : Nat) : Byte :=
  if o < 0x20000 then
    BitVec.ofNat 8 ((mget (d.trace (o / 0x8000)).samples (o % 0x8000 / 8)).getD 0 / 256 ^ (o % 8) % 256)
  else 0#8

/-- Pages that answer a host or I3C read during a C4 halt (R556), and an I3C read in PATROL (R600). -/
def haltReads : List PT := [.DEV, .FLT, .PLP, .THM, .REC]
def patrolReads : List PT := [.DEV, .PWR, .THM, .FLT, .CAL]

/-- Whether a page answers reads of a requester now. -/
def Dev.answers (d : Dev) (r : Requester) (p : PT) : Bool :=
  if d.life.fatal then r.dom == .host && haltReads.contains p
  else if r.i3c && d.life.mode == .patrol then patrolReads.contains p
  else true

/-- Whether the DDT and window contents answer reads of a requester now: the DDT of the host and I3C views also during a C4 halt. -/
def Dev.answersWindow (d : Dev) (r : Requester) (isDdt : Bool) : Bool :=
  if d.life.fatal then isDdt && r.dom == .host else !(r.i3c && d.life.mode == .patrol)

/-- The requester's function serves its BAR; a VF without a valid binding shows only its DDT (R84, R90). -/
def Dev.barOpen (d : Dev) (r : Requester) : Bool := match r.dom with
  | .secure | .glaze => true
  | .host => r.i3c || proxied r || (d.fnOpen .pf && !d.regB .EP 0 Reg.EP_LINK_STS 10)
  | .vf => d.fnOpen (.vf r.num) && d.ep.vfe && decide (r.num ≤ d.ep.numVfs)
  | .tenant => d.fnOpen (.tp r.num)

/-- A register of the forerunner's BAR0 as it reads (R101). C_FREEZE of a queue frozen for a reason of R138 that its enumeration lacks is a
free value. -/
def Dev.foreReg (d : Dev) (a : Nat) : Nat :=
  match a with
  | 0x00 => 0x320000a2
  | 0x04 => 0x11000
  | 0x08 => b2n d.compat.en
  | 0x0c => packF [(0, b2n (d.compat == .serving)), (1, b2n d.life.shutDone), (2, b2n d.degradedC), (3, b2n d.readonlyC),
      (4, b2n d.life.fatal), (5, b2n (d.frozen 0))]
  | 0x10 => d.regN .HQ 0 Reg.HQ_DOORBELL
  | 0x14 =>
    let r := d.qF 0 Reg.HQ_FREEZE 0 8
    if r ≤ 4 then r else Config.freeNat (2 ^ 41 + 256 + r) % 256
  | 0x18 => d.regN .HQ 0 Reg.HQ_CQ_BASE
  | 0x1c => d.regN .HQ 0 (Reg.HQ_CQ_BASE + 4)
  | 0x20 => d.regN .HQ 0 Reg.HQ_CQ_HEAD
  | 0x28 => d.compatSectors % 2 ^ 32
  | 0x2c => d.compatSectors / 2 ^ 32
  | _ => 0

/-- The byte at offset `a` of a requester's view, from the containing register as it reads now (R46). -/
def Dev.spotByte (d : Dev) (r : Requester) (a : Nat) : Byte :=
  match d.spot r a with
  | .ddt a => d.ddtByte (ddtViewOf r) a
  | .page p i off =>
    if !d.shows r p i || !d.mayRead r p i (off / 4 * 4) then 0#8
    else if (p = .HQ ∨ p = .TQ) ∧ 0x800 ≤ off then d.slotByte ((if p = .TQ then 2048 + i else i) * 0x800 + (off - 0x800))
    else BitVec.ofNat 8 (d.readWord r p i (off / 4 * 4) / 256 ^ (off % 4) % 256)
  | .errors o => d.errorByte (logViewOf r) o
  | .records o => d.recordByte (viewOf r) o
  | .traces o => d.traceByte o
  | .fore o =>
    if 0x1000 ≤ o ∧ o < 0x1800 then d.slotByte (o - 0x1000) else BitVec.ofNat 8 (d.foreReg (o / 4 * 4) / 256 ^ (o % 4) % 256)
  | .reserved => 0#8

/-- What a read of `n` bytes at offset `a` returns to the debug port, which no halt or low-power rule restricts (R646). -/
def Dev.readRaw (d : Dev) (r : Requester) (a n : Nat) : Nat := leNat ((List.range n).map (fun k => d.spotByte r (a + k)))

/-- What a read of `n` bytes at offset `a` of a requester's view returns (R44, R46, R59, R556, R600). -/
def Dev.readSpace (d : Dev) (r : Requester) (a n : Nat) : Nat :=
  leNat ((List.range n).map (fun k =>
    let ok := d.busUp && d.barOpen r && (match d.spot r (a + k) with
      | .page p _ _ => d.answers r p
      | .ddt _ => d.answersWindow r true
      | .fore _ => true
      | _ => d.answersWindow r false)
    if ok then d.spotByte r (a + k) else 0#8))

end Sys2Proof.Machine
end

