-- ==== Sys2Proof/Machine/DapOps.lean ====
section
/-! DEFINITION. The debug port's replies and its reads of the boot flash (spec/23_debug_port.md R646, R647, spec/16_firmware_domains.md R505,
R510, R516, R520). -/
namespace Sys2Proof.Machine
open Sys2Proof

/-- The captured DAP data register (R646): STATUS, echo bits, ADDR, DATA. -/
def dapWord (sts echo addr data : Nat) : Nat := packF [(0, sts), (2, echo % 64), (8, addr % 2 ^ 32), (40, data % 2 ^ 64)]

/-- Set the reply that the next scan captures. -/
def Dev.dapReply (d : Dev) (sts data : Nat) : Dev := { d with dbg := { d.dbg with dapSts := sts, dapData := data } }

/-- What the next I3C read returns; it goes out as that read's data. -/
def Dev.i3cReply (d : Dev) (bs : List Byte) : Dev := ({ d with sbd := { d.sbd with resp := some bs } }).emit (.i3c bs)

/-- DENIED, with ACCESS_DENIED (R647). -/
def Dev.dapDenied (d : Dev) : Dev := (d.dapReply 2 0).raiseErr .DBG 0 1 noDetail

/-- Wait states that suffice at every VDD_CORE, by CCLK_SEL (R520, R612). -/
def wsNeeded : Nat → Nat
  | 1 => 0x23 | 2 => 0x11 | _ => 0x47

/-- A byte of R647's boot-flash space as the secure domain reads it: ID mode (R516), the device unique secret as zero (R505). -/
def Dev.flashView (d : Dev) (a : Nat) : Byte :=
  if a < optWin ∧ d.bfl.idMode then BitVec.ofNat 8 ((if a < 4 then 0x5056 else if a < 8 then 0x4000000 else 0) / 256 ^ (a % 4) % 256)
  else if otpWin + 0x180 ≤ a ∧ a < otpWin + 0x1c0 then 0#8
  else d.flashByte a

/-- The boot flash of R647: array, option window, OTP window. -/
def flashSpace (a : Nat) : Bool := decide (a < 0x4001800)

/-- Partition of an array offset, or window: what an operation keeps busy (R509, R510). -/
def flashPart (a : Nat) : Nat := if a < optWin then a / 0x800000 else if a < otpWin then 8 else 9

/-- A read at `a` stalls behind the operation that runs (R510). -/
def Dev.flashStalls (d : Dev) (a : Nat) : Bool := match d.bfl.op with
  | some (_, base, _) => flashPart base == flashPart a
  | none => false

/-- `n` bytes of the boot flash; with too few wait states they are undefined (R520), a free value. -/
def Dev.flashRead (d : Dev) (a n : Nat) : Nat × Dev :=
  if d.regF .BFL 0 Reg.BFL_BFL_CFG 0 7 < wsNeeded (d.regF .CLK 0 Reg.CLK_CLK_CTL 0 2) then (Config.freeNat d.free % 256 ^ n, d.takeFree.2)
  else (leNat ((List.range n).map (fun i => d.flashView (a + i))), d)

/-- A boot-flash read of the debug port completes unless it stalls. -/
def Dev.dapFlash (d : Dev) : Dev :=
  if d.flashStalls d.dbg.dapAddr then { d with dbg := { d.dbg with dapWait := true } }
  else
    let v := d.flashRead d.dbg.dapAddr (if d.dbg.dapEcho % 2 = 1 then 8 else 4)
    ({ v.2 with dbg := { v.2.dbg with dapWait := false } }).dapReply 0 v.1

/-- A stalled boot-flash read of the debug port goes on; a read that waits for a member (R73) is not one. -/
def Dev.dapSettle (d : Dev) : Dev := if d.dbg.dapWait && !d.fab.proxies.any (fun e => e.sink == .dap) then d.dapFlash else d

end Sys2Proof.Machine
end

