-- ==== Sys2Proof/Machine/BootFlash.lean ====
section
/-! DEFINITION. Meanings of the boot-flash commands and the secure mailbox (spec/16_firmware_domains.md). -/
namespace Sys2Proof.Machine
open Sys2Proof

/-- Cycles of a command after its two unlock cycles (R516). -/
def seqCycles (cmd : Nat) (rest : List (Nat × W32)) : List (Nat × W32) :=
  [(0xaaa8, 0x5a#32), (0x5554, 0xa5#32), (0xaaa8, BitVec.ofNat 32 cmd)] ++ rest

/-- Eight data writes, or as many as come, in ascending order from `a`. -/
def dataCycles (a : Nat) (ws : List W32) : List (Nat × W32) := ws.zipIdx.map (fun e => (a + 4 * e.2, e.1))

/-- Cycles from a requester: only the secure domain's are taken (R505, R517); a Glaze write to the array sets DENIED (R528). -/
def Dev.seqCmd (d : Dev) (r : Requester) (cycles : List (Nat × W32)) : Dev :=
  if !d.busUp then d
  else match r.dom with
    | .secure => cycles.foldl (fun d c => d.seqWrite c.1 c.2) d
    | .glaze => d.raiseErr .BFL 0 2 noDetail
    | _ => d

/-- FLASH_PROGRAM: PROGRAM of the array line at `offset` (R516). -/
def execFlashProgram (req : Requester) (offset : Nat) (words : List W32) (s : State) : Host.Outcome State Fault Refusal :=
  run (fun d => d.seqCmd req (seqCycles 0x10 (dataCycles offset words))) s

/-- FLASH_ERASE: ERASE of an array sector or an option copy; `addr` is an address of R647's layout (R516). -/
def execFlashErase (req : Requester) (addr : Nat) (s : State) : Host.Outcome State Fault Refusal :=
  run (fun d => d.seqCmd req (seqCycles 0x20 [(addr, 0x30#32)])) s

/-- PROGRAM_OPTION: a line of the option window (R516). -/
def execProgramOption (req : Requester) (offset : Nat) (words : List W32) (s : State) : Host.Outcome State Fault Refusal :=
  run (fun d => d.seqCmd req (seqCycles 0x40 (dataCycles (optWin + offset) words))) s

/-- PROGRAM_OTP: a line of the OTP window, subject to the locks (R526). -/
def execProgramOtp (req : Requester) (offset : Nat) (words : List W32) (s : State) : Host.Outcome State Fault Refusal :=
  run (fun d => d.seqCmd req (seqCycles 0x60 (dataCycles (otpWin + offset) words))) s

/-- FLASH_ID: enters ID mode (R516). -/
def execFlashId (req : Requester) (s : State) : Host.Outcome State Fault Refusal := run (fun d => d.seqCmd req (seqCycles 0x90 [])) s

/-- FLASH_READ_MODE: READ, without unlock cycles, leaves ID mode (R516). -/
def execFlashReadMode (req : Requester) (s : State) : Host.Outcome State Fault Refusal :=
  run (fun d => d.seqCmd req [(0xaaa8, 0xf0#32)]) s

/-- FLASH_OP_DONE: the operation that runs ends (R516, R518). -/
def Dev.flashOpDone (d : Dev) : Dev :=
  match d.bfl.op with
  | none => d
  | some (cmd, base, words) =>
    let d := { d with bfl := { d.bfl with op := none } }
    let d := if cmd = 0x20 then (d.flashErase base (opSize cmd base)).incWrap .BFL 0 Reg.BFL_ERASE_CNT 1
      else (d.flashProgram base (words.flatMap (fun w => leBytes 4 w.toNat))).incWrap .BFL 0 Reg.BFL_PROG_CNT 1
    ((d.setRegN .BFL 0 Reg.BFL_BFL_STS (if d.bfl.idMode then 10 else 0)).setIrq .BFL 0 0).dapSettle

def execFlashOpDone (s : State) : Host.Outcome State Fault Refusal := run Dev.flashOpDone s

/-- FLASH_OP_TIMEOUT: the operation ends at four times its Max, and its line or sector is undefined (R518). -/
def execFlashOpTimeout (s : State) : Host.Outcome State Fault Refusal :=
  run (fun d => if d.bfl.op.isNone then d
    else ((({ d with bfl := { d.bfl with idMode := false } }).opLost).raiseErr .BFL 0 3 noDetail).dapSettle) s

/-- Mordant takes a request: served, with its reply there, or BUSY (R507). -/
def Dev.mailboxAct (d : Dev) (slot act : Nat) (ready : Bool) : Dev :=
  let busy := !ready || !d.life.mordant || d.life.fatal
  { d with mailbox := ⟨slot, act, busy⟩ :: d.mailbox.filter (fun m => m.slot != slot) }

/-- MAILBOX_REQUEST: Glaze posts an act in one of the 64 places, and Mordant, when it can serve it at once, does so with its reply there, or
answers BUSY (R507); while the secure pair is halted the request waits (R650). -/
def Dev.mailboxPost (slot act : Nat) (ready : Bool) (d : Dev) : Dev :=
  if 64 ≤ slot ∨ d.life.glaze ≠ .running then d
  else if d.sxHalted then { d with dbg := { d.dbg with sxWait := d.dbg.sxWait ++ [SxWait.mailbox slot act ready] } }
  else d.mailboxAct slot act ready

def execMailboxRequest (slot act : Nat) (ready : Bool) (s : State) : Host.Outcome State Fault Refusal :=
  run (Dev.mailboxPost slot act ready) s

end Sys2Proof.Machine
end

