-- ==== Sys2Proof/Machine/CfgSpace.lean ====
section
/-! DEFINITION. Requests that a root port makes to configuration space and BAR4 (spec/03_host_endpoint.md R74 to R81, R85, R90, R91, R95). -/
namespace Sys2Proof.Machine
open Sys2Proof

/-! ### Requests a root port makes (R76, R90, R91) -/

/-- Answer to a non-posted request. -/
inductive Completion where
  /-- Successful Completion with data. -/
  | data (value : Nat)
  /-- Unsupported Request (R76, R90, R91). -/
  | unsupported
  /-- Request Retry Status (R91, R376). -/
  | retry
  /-- No device answers: the port is harmless or not yet configuration-ready (R67, R98). -/
  | none
deriving DecidableEq, Repr

/-- Configuration requests to a function are answered: it is there, and the PF is configuration-ready (R67, R618). -/
def Dev.cfgThere (d : Dev) (f : Fn) : Bool := d.fnThere f && (match f with
  | .tp _ => true
  | _ => d.ep.cfgReady)

/-- A function resets (R91, R376). -/
def Dev.fnBusy (d : Dev) (f : Fn) : Bool := (d.fn f).flr || (d.fn f).resetting || (match f with
  | .vf _ => (d.fn .pf).flr
  | _ => false)

/-- Answer to a configuration read of an aligned word (R76, R77, R78, R91). -/
def Dev.cfgRead (d : Dev) (f : Fn) (off : Nat) : Completion :=
  if !d.cfgThere f then .none
  else if d.fnBusy f then .retry
  else .data (d.cfgWord f (off / 4 * 4 % 0x1000))

/-- The memory spaces of a function that its requester reads: BAR0, its view, or BAR4. -/
def Dev.memWord (d : Dev) (r : Requester) (f : Fn) (bar4 : Bool) (a n : Nat) : Nat :=
  if bar4 then leNat ((List.range n).map (fun k => BitVec.ofNat 8 (d.msixWord f ((a + k) / 4 * 4) / 256 ^ ((a + k) % 4) % 256)))
  else d.readSpace r a n

/-- Answer to a memory read of a function's BAR0 or BAR4 (R76, R90, R91). -/
def Dev.memRead (d : Dev) (r : Requester) (f : Fn) (bar4 : Bool) (a n : Nat) : Completion :=
  if !d.fnThere f then .none
  else if d.fnOpen f then .data (d.memWord r f bar4 a n) else .unsupported

/-- Whether a function claims a memory request to a bus address, by which BAR and at which offset. -/
def Dev.claims (d : Dev) (f : Fn) (a : Nat) : Option (Nat × Nat) :=
  if d.fnThere f && d.fnOpen f then
    [0, 2, 4].findSome? (fun bar =>
      let b := d.barBase f bar
      if b ≤ a ∧ a < b + d.barBytes f bar then some (bar, a - b) else none)
  else none

/-! ### Writes -/

/-- Effect of a write to a configuration word beyond its stored bits: Command (R88 to R90), PowerState (R94), MSI-X control (R87), Initiate FLR
(R91) and SR-IOV control (R85). -/
def Dev.cfgEffect (f : Fn) (off : Nat) (v : Nat) (d : Dev) : Dev :=
  let w := BitVec.ofNat 32 v
  let vf := d.cfgKind f == .vf
  match off with
  | 0x04 =>
    let d := if vf then d else d.setMse f (fld w 1 1 == 1)
    if fld w 2 1 = 1 then d.bmeOn f else d.bmeClear f
  | 0x44 => if vf then d else if fld w 0 2 = 3 then d.d3Entry f else if fld w 0 2 = 0 then d.d0Return f else d
  | 0x50 => (d.setFn f { d.fn f with fmask := fld w 30 1 == 1, msixOff := fld w 31 1 == 0 }).pbaSend f
  | 0x78 => if fld w 15 1 = 1 then d.flr f else d
  | 0x158 =>
    if d.cfgKind f ≠ .pf then d
    else
      let d := if fld w 0 1 = 1 then (if d.ep.vfe then d else d.vfeSet d.ep.numVfs) else if d.ep.vfe then d.vfeClear else d
      { d with ep := { d.ep with vfMse := fld w 3 1 == 1 } }
  | 0x160 => if d.cfgKind f = .pf ∧ !d.ep.vfe then { d with ep := { d.ep with numVfs := min 255 (fld w 0 16) } } else d
  | _ => d

/-- A configuration write of `n` bytes at `off`; one to a function that resets ends with Request Retry Status and changes nothing (R91). -/
def Dev.cfgWrite (f : Fn) (off n v : Nat) (d : Dev) : Dev :=
  if !d.cfgThere f ∨ d.fnBusy f ∨ d.life.fatal ∨ 0x1000 ≤ off ∨ off % n ≠ 0 ∨ 4 < n then d
  else
    let base := off / 4 * 4
    let m := (256 ^ n - 1) * 256 ^ (off % 4)
    let old := d.cfgWord f base
    let new := (old &&& (2 ^ 32 - 1 - m)) ||| (v * 256 ^ (off % 4) &&& m)
    let stored := (d.cfgHeld f base &&& (2 ^ 32 - 1 - m)) ||| (v * 256 ^ (off % 4) &&& m)
    (d.cfgStore f base (stored &&& (2 ^ 32 - 1 - d.cfgW1c f base ||| m))).cfgEffect f base new

/-- A write of 4 or 8 bytes to the MSI-X table: address, data, and the mask bit of the vector control word; the PBA is read-only (R80, R87). -/
def Dev.msixWrite (f : Fn) (off v : Nat) (d : Dev) : Dev :=
  if (d.cfgKind f).vectors ≤ off / 16 then d
  else
    let x := d.fn f
    if off % 16 = 12 then
      let rest := x.unmasked.filter (fun k => k != off / 16)
      (d.setFn f { x with unmasked := if v % 2 = 1 then rest else off / 16 :: rest }).pbaSend f
    else
      d.setFn f { x with msix := if v % 2 ^ 32 = 0 then mdel x.msix (off / 4) else mput x.msix (off / 4) (BitVec.ofNat 32 v) }

/-- A memory write to BAR4 of a function (R80, R81, R90). -/
def Dev.bar4Write (f : Fn) (off n v : Nat) (d : Dev) : Dev :=
  if !d.fnThere f ∨ !d.fnOpen f ∨ d.life.fatal then d
  else if n = 4 ∧ off % 4 = 0 then d.msixWrite f off v
  else if n = 8 ∧ off % 8 = 0 then (d.msixWrite f off v).msixWrite f (off + 4) (v / 2 ^ 32)
  else d

/-- The function whose root port makes a requester's accesses; the other domains have no configuration space. -/
def fnOf (r : Requester) : Option Fn := match r.dom with
  | .host => if r.i3c || r.num != 0 then none else some .pf
  | .vf => some (.vf r.num)
  | .tenant => some (.tp r.num)
  | _ => none

end Sys2Proof.Machine
end

