-- ==== Sys2Proof/Machine/Faults.lean ====
section
/-! DEFINITION. Meanings of the fault collector, watchdog, lockstep and thermal commands (spec/18_fault_handling.md). -/
namespace Sys2Proof.Machine
open Sys2Proof

/-! ### Inputs (R552, R553) -/

/-- FAULT_EVENT: a source's ERR_STS bit sets for a cause inside the block, with the class of its table and a DETAIL its chapter gives
where it gives one (R552). On LDP and CIP `inst` is the unit (`PT.units`) and the page is the block's one page. -/
def Dev.faultEvent (ty inst bit : Nat) (d : Dev) : Dev :=
  match PT.ofCode ty with
  | none => d
  | some p =>
    if p.units ≤ inst ∨ p.errClasses.length ≤ bit then d
    else if p.count ≤ inst ∨ p = .LDP then d.raiseErrAs p 0 bit (p.errClasses.getD bit 0) noDetail inst
    else d.raiseErr p inst bit noDetail

def execFaultEvent (ty inst bit : Nat) (s : State) : Host.Outcome State Fault Refusal := run (Dev.faultEvent ty inst bit) s

/-- Class of a rail fault of a page type (R553). -/
def railClass (p : PT) : Nat :=
  match p with
  | .QE | .CH | .TP | .FL | .MLP | .HQ | .TQ | .LDP | .CIP => 2
  | .SX | .PLP | .KEY | .FLT => 4
  | _ => 3

/-- RAIL_FAULT: an input reads invalid at two samples; the collector then ignores it until the page's SRST (R553). -/
def Dev.railFault (ty inst bit : Nat) (d : Dev) : Dev :=
  match PT.ofCode ty with
  | none => d
  | some p =>
    if p.units ≤ inst then d
    else
      let d := d.event { ty := ty, inst := if p.count = 1 then 0 else inst, bit := bit, fixed := false, rail := true
                         cls := railClass p, detail := noDetail, unit := inst }
      { d with railMute := if d.railMute.contains (ty, inst, bit) then d.railMute else (ty, inst, bit) :: d.railMute }

def execRailFault (ty inst bit : Nat) (s : State) : Host.Outcome State Fault Refusal := run (Dev.railFault ty inst bit) s

/-- GLAZE_RESTARTED: the restart that a C3 ordered ends; Mordant has reseeded the DRBG and reloaded the slots (R463, R470, R508, R555). -/
def Dev.glazeRestarted (d : Dev) : Dev :=
  if d.life.glaze ≠ .restarting ∨ d.life.fatal then d
  else
    let d := if d.cip.alarm then d.reloadKeys else d
    ({ d with life := { d.life with glaze := .running } }).kickAll

def execGlazeRestarted (s : State) : Host.Outcome State Fault Refusal := run Dev.glazeRestarted s

/-! ### Watchdogs (R565) -/

/-- Time in µs since watchdog `i` restarted. -/
def Dev.wdogAge (d : Dev) (i : Nat) : Nat := d.life.usUp - (mget d.wdog i).getD 0

/-- Watchdogs count: not in IDLE or PATROL, not during a C4 halt, not while the debug port halts the core. -/
def Dev.wdogCounts (d : Dev) (halted : Bool) : Bool :=
  !(d.life.mode == .idle || d.life.mode == .patrol || d.life.mode == .reset || d.life.mode == .backup) && !d.life.fatal && !halted

/-- SV_WATCHDOG_EXPIRY: service core `n` was not kicked for SV_MS. -/
def Dev.svExpiry (n : Nat) (d : Dev) : Dev :=
  let ms := max 10 (d.regF .FLT 0 Reg.FLT_WDOG_CFG 0 16)
  if 32 ≤ n ∨ d.life.glaze ≠ .running ∨ !d.wdogCounts (nbit d.haltMask n) ∨ d.wdogAge n < ms * 1000 then d
  else
    let d := d.setRegF .FLT 0 Reg.FLT_WDOG_STS 0 6 (n + 32)
    ({ d with wdog := mput d.wdog n d.life.usUp }).fixedEvent .SVC 0 3 n

def execSvWatchdogExpiry (core : Nat) (s : State) : Host.Outcome State Fault Refusal := run (Dev.svExpiry core) s

/-- SX_WATCHDOG_EXPIRY: a C4 event. -/
def Dev.sxExpiry (d : Dev) : Dev :=
  let ms := max 10 (d.regF .FLT 0 Reg.FLT_WDOG_CFG 16 16)
  if !d.wdogCounts d.sxHalted || decide (d.wdogAge 32 < ms * 1000) then d
  else (d.setRegF .FLT 0 Reg.FLT_WDOG_STS 6 1 1).fixedEvent .SX 0 4 noDetail

def execSxWatchdogExpiry (s : State) : Host.Outcome State Fault Refusal := run Dev.sxExpiry s

/-- WDOG_KICK: bits written restart their cores' watchdogs; only the Glaze and secure domains write it (R565, R571). -/
def Dev.wdogKick (req : Requester) (bits : W32) (d : Dev) : Dev :=
  if req.dom = .glaze ∨ req.dom = .secure then
    d.regWrite req .FLT 0 Reg.FLT_WDOG_KICK (fun d =>
      { d with wdog := (bitList bits.toNat 32).foldl (fun w i => mput w i d.life.usUp) d.wdog })
  else d.notAllowed req .FLT 0 Reg.FLT_WDOG_KICK

def execWdogKick (req : Requester) (bits : W32) (s : State) : Host.Outcome State Fault Refusal := run (Dev.wdogKick req bits) s

/-- SX_KICK: the secure domain restarts the SX watchdog (R565). -/
def Dev.sxKick (req : Requester) (d : Dev) : Dev :=
  if req.dom = .secure then d.regWrite req .FLT 0 Reg.FLT_SX_KICK (fun d => { d with wdog := mput d.wdog 32 d.life.usUp })
  else d.notAllowed req .FLT 0 Reg.FLT_SX_KICK

def execSxKick (req : Requester) (s : State) : Host.Outcome State Fault Refusal := run (Dev.sxKick req) s

/-! ### Lockstep (R566) -/

/-- LOCKSTEP_MISMATCH: the checker finds a difference, a C4 event. -/
def execLockstepMismatch (s : State) : Host.Outcome State Fault Refusal :=
  run (fun d => if d.life.mode = .backup then d else d.fixedEvent .SX 0 4 noDetail) s

/-- FORCE_LOCKSTEP: SX.FORCE[0] reports one difference and clears itself (R566, R570). -/
def execForceLockstep (req : Requester) (s : State) : Host.Outcome State Fault Refusal :=
  run (fun d => d.forceWrite req .SX 0 (fun d => d.fixedEvent .SX 0 4 noDetail)) s

/-! ### Thermal (R567, R568) -/

/-- A 12-bit temperature in 1/8 °C as an integer. -/
def temp12 (v : Nat) : Int := signed 12 v

/-- Set the throttle: the gates hold at 0 or take their rates again (R567). -/
def Dev.throttle (d : Dev) (on : Bool) : Dev :=
  if d.regB .THM 0 Reg.THM_THM_STS 0 == on then d
  else
    let d := d.setRegF .THM 0 Reg.THM_THM_STS 0 1 (b2n on)
    if on then ((d.setIrq .THM 0 0).raiseErr .THM 0 0 noDetail).ibiCause 2 else d.setIrq .THM 0 1

/-- THERMAL_SAMPLE: the four sensors in 1/8 °C, every 10 µs (R567). FORCE.TRIP acts as a zone at TRIP while it is set. -/
def Dev.thermalSample (t0 t1 t2 t3 : Int) (d : Dev) : Dev :=
  if d.life.mode = .backup then d
  else
    let crit := temp12 (d.regF .THM 0 Reg.THM_CRIT_CFG 0 12)
    let trip := temp12 (d.regF .THM 0 Reg.THM_THM_CFG 0 12)
    let hyst : Int := max 1 (d.regF .THM 0 Reg.THM_THM_CFG 12 8)
    let raw := [t0, t1, t2, t3]
    let bad := raw.any (fun t => decide (t < -512 ∨ 1600 < t))
    let ts := raw.map (fun t => if t < -512 ∨ 1600 < t then crit - 1 else t)
    let d := (List.range 4).foldl (fun d i => d.setRegF .THM 0 (Reg.THM_TEMP_0 + 4 * i) 0 12 (unsigned 12 (ts.getD i 0))) d
    let hot := (List.range 4).foldl (fun b i => if ts.getD b 0 < ts.getD i 0 then i else b) 0
    let top := ts.getD hot 0
    let d := d.setRegF .THM 0 Reg.THM_THM_STS 2 2 hot
    let d := if temp12 (d.regF .THM 0 Reg.THM_MAX_TEMP 0 12) < top then d.setRegF .THM 0 Reg.THM_MAX_TEMP 0 12 (unsigned 12 top) else d
    let d := if bad then d.raiseErr .THM 0 2 noDetail else d
    let zone := if d.regB .THM 0 Reg.FORCE 0 then max top trip else top
    let d := if trip ≤ zone then d.throttle true else if zone < trip - hyst then d.throttle false else d
    if crit ≤ top then
      if d.regB .THM 0 Reg.THM_THM_STS 1 then d else (d.setRegF .THM 0 Reg.THM_THM_STS 1 1 1).raiseErr .THM 0 1 noDetail
    else d.setRegF .THM 0 Reg.THM_THM_STS 1 1 0

def execThermalSample (t0 t1 t2 t3 : Int) (s : State) : Host.Outcome State Fault Refusal :=
  run (Dev.thermalSample t0 t1 t2 t3) s

/-- FORCE_TRIP: THM.FORCE[0] ← `on` acts as a zone at TRIP while it is 1 (R568, R570). -/
def Dev.forceTrip (on : Bool) (d : Dev) : Dev :=
  let d := d.setRegF .THM 0 Reg.FORCE 0 1 (b2n on)
  if on then d.throttle true else d

def execForceTrip (req : Requester) (on : Bool) (s : State) : Host.Outcome State Fault Refusal :=
  run (fun d => d.forceWrite req .THM 0 (Dev.forceTrip on)) s

/-- FORCE_CRIT: THM.FORCE[1] makes a critical trip and clears itself (R570). -/
def Dev.forceCrit (d : Dev) : Dev := (d.setRegF .THM 0 Reg.THM_THM_STS 1 1 1).raiseErr .THM 0 1 noDetail

def execForceCrit (req : Requester) (s : State) : Host.Outcome State Fault Refusal :=
  run (fun d => d.forceWrite req .THM 0 Dev.forceCrit) s

/-! ### Clears and overrides (R559, R563, R571) -/

/-- FIRST_CLR: FIRST_VALID clears, and the next event becomes the first error. -/
def Dev.firstClr (d : Dev) : Dev := d.setRegF .FLT 0 Reg.FLT_FLT_STS 14 1 0

def execFirstClr (req : Requester) (s : State) : Host.Outcome State Fault Refusal :=
  run (fun d => d.regWrite req .FLT 0 Reg.FLT_FLT_CLR Dev.firstClr) s

/-- HIST_CLR: the ring and HIST_COUNT are zeroed. -/
def Dev.histClr (d : Dev) : Dev :=
  ((List.range 64).foldl (fun d k => d.setRegN .FLT 0 (Reg.FLT_HIST_0 + 4 * k) 0) d).setRegF .FLT 0 Reg.FLT_FLT_STS 5 5 0

def execHistClr (req : Requester) (s : State) : Host.Outcome State Fault Refusal :=
  run (fun d => d.regWrite req .FLT 0 Reg.FLT_FLT_CLR Dev.histClr) s

/-- CNT_CLR: CNT_Cn, WORST and ANY are zeroed. -/
def Dev.cntClr (d : Dev) : Dev :=
  ((List.range 5).foldl (fun d k => d.setRegN .FLT 0 (Reg.FLT_CNT_C0 + 4 * k) 0) d).setRegF .FLT 0 Reg.FLT_FLT_STS 1 4 0

def execCntClr (req : Requester) (s : State) : Host.Outcome State Fault Refusal :=
  run (fun d => d.regWrite req .FLT 0 Reg.FLT_FLT_CLR Dev.cntClr) s

/-- Default class of an ERR_STS bit of a page type; OWNER_VIOL is class C0. -/
def defaultClass (ty bit : Nat) : Nat := match PT.ofCode ty with
  | some p => p.errClasses.getD bit 0
  | none => 0

/-- OVR_WRITE: the entry OVR_SEL names takes a value; a non-secure write that lowers a class is discarded (R559). -/
def Dev.ovrWrite (req : Requester) (value : W32) (d : Dev) : Dev :=
  let c := fld value 29 3
  let low := decide (c ≤ 4) && decide (c < defaultClass (fld value 0 12) (fld value 24 5))
  d.regWriteIf req .FLT 0 Reg.FLT_OVR true (fun d =>
    if req.dom ≠ .secure ∧ low then d.raiseErr .FLT 0 0 noDetail
    else
      let i := d.regF .FLT 0 Reg.FLT_OVR_SEL 0 5
      { d with ovr := if value = 0xe0000000#32 then mdel d.ovr i else mput d.ovr i value })

def execOvrWrite (req : Requester) (value : W32) (s : State) : Host.Outcome State Fault Refusal := run (Dev.ovrWrite req value) s

end Sys2Proof.Machine
end

