-- ==== Sys2Proof/Machine/WriteOps.lean ====
section
/-! DEFINITION. Register writes by address: what a 32-bit word does at each offset of each page (spec/02_register_pages.md R43 to R62 and
the register tables of every chapter), and writes of a size to an offset of a requester's view. -/
namespace Sys2Proof.Machine
open Sys2Proof

/-- Store a written word: RW and WO bits take it, W1C bits that are written 1 clear, the others keep their values. -/
def Dev.storeWord (p : PT) (i off : Nat) (v : W32) (d : Dev) : Dev := match p.desc off with
  | none => d
  | some r =>
    let m := BitVec.ofNat 32 (r.rw ||| r.wo)
    d.setReg p i off (((d.reg p i off &&& ~~~ m) ||| (v &&& m)) &&& ~~~ (v &&& BitVec.ofNat 32 r.w1c))

/-- The value would clear an ERR_ACT bit whose error has default class C3 or C4 (R55). -/
def Dev.clearsAct (d : Dev) (p : PT) (i : Nat) (v : W32) : Bool :=
  (List.range p.errClasses.length).any (fun b => decide (3 ≤ p.errClasses.getD b 0) && d.regB p i Reg.ERR_ACT b && fld v b 1 == 0)

/-- A value written to FORCE (R570): PFAIL, LOCKSTEP, ALARM and CRIT act and clear themselves, CUT stays until a flush uses it, TRIP and
LINK_LOSS act while they are 1. -/
def Dev.forceTake (p : PT) (i : Nat) (v : W32) (d : Dev) : Dev :=
  let b (k : Nat) : Bool := fld v k 1 == 1
  match p with
  | .PLP =>
    let d := if b 1 then { d with plp := { d.plp with cut := true } } else d
    if b 0 then d.powerFall else d
  | .SX => if b 0 then d.fixedEvent .SX 0 4 noDetail else d
  | .THM =>
    let d := d.forceTrip (b 0)
    if b 1 then d.forceCrit else d
  | .KEY => if b 0 then d.cipherAlarm 2 else d
  | .FL => d.forceLoss i (b 0)
  | _ => d

/-- A word written below offset 0x040 (R53). -/
def Dev.commonWord (r : Requester) (p : PT) (i off : Nat) (v : W32) (d : Dev) : Dev :=
  match off with
  | 0x08 => d.regWrite r p i off (Dev.ctlWrite p i v)
  | 0x10 | 0x18 => d.regWrite r p i off (Dev.storeWord p i off v)
  | 0x14 => d.regWrite r p i off (fun d => (d.storeWord p i off v).irqEdge (d.irqReq p i) p i)
  | 0x1c => d.regWrite r p i off (if r.dom == .secure || !d.clearsAct p i v then Dev.storeWord p i off v else id)
  | 0x20 => d.regWrite r p i off (Dev.injTake p i v)
  | 0x24 => d.forceWrite r p i (Dev.forceTake p i v)
  | 0x28 => Dev.ownerWrite r p i v d
  | _ => d.regWrite r p i off id

/-- A window header's MEMBER_SEL: on the head alone, and RsvdZ elsewhere (R73). -/
def Dev.memberSel (r : Requester) (p : PT) (v : W32) (d : Dev) : Dev :=
  d.regWrite r p 0 0x40 (fun d => if d.isHead && logViewOf r == 0 then d.setReg p 0 0x40 (v &&& 0x3f#32) else d)

/-- A word of a queue page (R107, R108): the domains other than secure and Glaze leave TINT and RAW as they are. -/
def Dev.queueWord (r : Requester) (p : PT) (i off : Nat) (v : W32) (d : Dev) : Dev :=
  let q := if p = .TQ then 2048 + i else i
  if off = Reg.HQ_DOORBELL then d.doorbell r q v
  else if off = Reg.HQ_Q_CFG ∨ off = Reg.HQ_CQ_BASE ∨ off = Reg.HQ_CQ_BASE + 4 then
    let full := decide (off ≠ Reg.HQ_Q_CFG) || r.dom == .secure || r.dom == .glaze
    d.regWriteElse r p i off (d.qSt q == .off)
      (fun d => d.storeWord p i off (if full then v else (v &&& 0x3ffc00#32) ||| (d.reg p i off &&& 0x4003ff#32)))
      (fun d => d.raiseErr p i 4 noDetail)
  else d.regWrite r p i off (Dev.storeWord p i off v)

/-- A value written to FAB_CTL (R447): EVICT_ID, then FABRIC_RESET, REJOIN and EVICT. -/
def Dev.fabCtl (v : W32) (d : Dev) : Dev :=
  let b (k : Nat) : Bool := fld v k 1 == 1
  let d := d.storeWord .FAB 0 Reg.FAB_FAB_CTL v
  let d := if b 0 then d.fabricReset else d
  let d := if b 1 then d.rejoin else d
  if b 2 then d.evict else d

/-- Free bytes, for data that a command fetches from memory that the model does not hold. -/
def Dev.freeBytes (d : Dev) (n : Nat) : List Byte × Dev :=
  ((List.range n).map (fun k => Config.freeByte (d.free + k)), { d with free := d.free + n })

/-- A value written to KEY_CMD (R461); the blob of UNWRAP comes from SRAM at BLOB_ADDR: free bytes. -/
def Dev.keyWord (r : Requester) (v : W32) (d : Dev) : Dev :=
  let x := d.freeBytes 224
  if fld v 0 4 = 3 then x.2.keyCmd r 3 x.1 else d.keyCmd r (fld v 0 4) []

/-- A value written to SEC_CMD (R486); the bytes of UPDATE and FINAL come from SRAM at SEC_ADDR. -/
def Dev.secWord (r : Requester) (v : W32) (d : Dev) : Dev :=
  d.secCmd r (fun d => match fld v 0 3 with
    | 1 => d.secOpen (fld v 4 8) (fld v 12 12) (fld v 24 2) (fld v 26 1 == 1)
    | 2 => let x := d.freeBytes (d.regF .DIG 0 Reg.DIG_SEC_LEN 0 25)
      x.2.secUpdate x.1
    | 3 => let x := d.freeBytes 64
      x.2.secFinal x.1
    | 4 => d.secAbort
    | _ => d)

/-- A value written to UPD.REQ (R550); whether a flash copy reads back, and the factory marks that FORMAT reads, are free. -/
def Dev.reqWord (r : Requester) (v : W32) (d : Dev) : Dev :=
  let n := d.free
  let d := { d with free := n + 2049 }
  d.reqWrite r (fld v 0 4) (fld v 8 24) (Config.freeNat n % 2 == 1)
    (d.dies.map (fun (e : Nat × DieSt) => (e.1, bitList (Config.freeNat (n + 1 + e.1)) 8192)))

/-- A value written to LINK_CTL of the host port or of tenant port `port` (R97, R397). -/
def Dev.linkCtl (p : PT) (i off : Nat) (port : Option Nat) (v : W32) (d : Dev) : Dev :=
  let d := d.storeWord p i off v
  if fld v 4 1 = 1 then d.retrainLink port else d

/-- A word of a loop page (R498): INPUT, POL, NSEC, INIT and PERIOD_US change only in OFF. -/
def Dev.loopWord (r : Requester) (n off : Nat) (v : W32) (d : Dev) : Dev :=
  if off = Reg.MLP_LOOP_CFG then
    let same := decide ((v &&& 0x3ff1fff#32) = (d.reg .MLP n off &&& 0x3ff1fff#32))
    d.regWriteElse r .MLP n off (d.page .MLP n == .off || same) (Dev.storeWord .MLP n off v) (fun d => d.raiseErr .MLP n 1 noDetail)
  else if off = Reg.MLP_LOOP_CTL then
    d.regWrite r .MLP n off (fun d =>
      let d := if fld v 0 1 = 1 then d.loopCommit n else d
      if fld v 2 1 = 1 then d.delayClr n else d)
  else d.regWrite r .MLP n off (Dev.storeWord .MLP n off v)

/-- A value written to TRC_CTL of buffer `b` (R502, R504). -/
def Dev.traceCtl (b : Nat) (v : W32) (d : Dev) : Dev :=
  let d := if fld v 0 1 = 1 then d.traceArm b else d
  let d := if fld v 1 1 = 1 then d.traceFire b else d
  if fld v 2 1 = 1 then d.traceStop b else d

/-- A temperature limit that would rise above its reset value (R568). -/
def Dev.warmer (d : Dev) (off : Nat) (v : W32) : Bool := decide (temp12 (fld (d.resetAs .THM off) 0 12) < temp12 (fld v 0 12))

/-- A word of the FLT page (R559, R565, R571). -/
def Dev.fltWord (r : Requester) (off : Nat) (v : W32) (d : Dev) : Dev :=
  if off = Reg.FLT_FLT_CLR then
    d.regWrite r .FLT 0 off (fun d =>
      let d := if fld v 0 1 = 1 then d.firstClr else d
      let d := if fld v 1 1 = 1 then d.histClr else d
      if fld v 2 1 = 1 then d.cntClr else d)
  else if off = Reg.FLT_WDOG_CFG ∧ r.dom ≠ .secure ∧ fld v 16 16 ≠ d.regF .FLT 0 off 16 16 then d.notAllowed r .FLT 0 off
  else if off = Reg.FLT_WDOG_KICK then d.wdogKick r v
  else if off = Reg.FLT_SX_KICK then (if r.dom ≠ .secure ∨ fld v 0 1 = 1 then d.sxKick r else d.regWrite r .FLT 0 off id)
  else if off = Reg.FLT_OVR then d.ovrWrite r v
  else d.regWrite r .FLT 0 off (Dev.storeWord .FLT 0 off v)

/-- A word of the REC page (R584, R585). -/
def Dev.recWord (r : Requester) (off : Nat) (v : W32) (d : Dev) : Dev :=
  if off = Reg.REC_REC_CLR then
    if fld v 1 1 = 1 then
      let clr := fld v 0 1 == 1 && r.dom == .secure
      let d := d.ringClrBy r
      if clr ∧ d.busUp ∧ !d.life.fatal then d.recCntClr else d
    else d.regWrite r .REC 0 off (fun d => if fld v 0 1 = 1 then d.recCntClr else d)
  else if off = Reg.REC_HREC_CMD then d.regWrite r .REC 0 off (fun d => d.hostRecord r v)
  else d.regWrite r .REC 0 off (Dev.storeWord .REC 0 off v)

/-- A word of the recorder window's header (R582, R583): a half of CURSOR goes with the other half as written. -/
def Dev.recwWord (r : Requester) (off : Nat) (v : W32) (d : Dev) : Dev :=
  let c := (d.view (viewOf r)).cursor
  if off = Reg.RECW_CURSOR then d.regWrite r .RECW 0 off (fun d => d.loadView (viewOf r) (c / 2 ^ 32 * 2 ^ 32 + v.toNat))
  else if off = Reg.RECW_CURSOR + 4 then d.regWrite r .RECW 0 off (fun d => d.loadView (viewOf r) (c % 2 ^ 32 + v.toNat * 2 ^ 32))
  else if off = Reg.RECW_FREEZE_CTL then d.regWrite r .RECW 0 off (fun d => d.freezeWrite (viewOf r) v)
  else if off = Reg.RECW_MEMBER_SEL then d.memberSel r .RECW v
  else d.regWrite r .RECW 0 off id

/-- A word of the FAB page (R447). -/
def Dev.fabWord (r : Requester) (off : Nat) (v : W32) (d : Dev) : Dev :=
  if off = Reg.FAB_FAB_CTL then d.regWrite r .FAB 0 off (Dev.fabCtl v)
  else if off = Reg.FAB_OP_CMD then d.opWrite r (fld v 0 2)
  else if off = Reg.FAB_RSHP_CTL then d.regWrite r .FAB 0 off (Dev.rshpWrite v)
  else if off = Reg.FAB_VOL_SET ∨ off = Reg.FAB_VOL_SET + 4 then
    d.regWrite r .FAB 0 off (fun d => if d.isHead then d.storeWord .FAB 0 off v else d)
  else d.regWrite r .FAB 0 off (Dev.storeWord .FAB 0 off v)

/-- A word of the PWR page (R592, R601, R606). -/
def Dev.pwrWord (r : Requester) (off : Nat) (v : W32) (d : Dev) : Dev :=
  if 0xc0 ≤ off ∧ off < 0x100 then
    let n := (off - 0xc0) / 4
    d.regWrite r .PWR 0 off (if fld v 0 1 = 1 then Dev.partEnable .PWR n else Dev.partDisable .PWR n)
  else d.regWriteIf r .PWR 0 off (decide (off < Reg.PWR_SENT_0) || d.life.mode != .patrol) (Dev.storeWord .PWR 0 off v)

/-- A word of the VF page (R82, R83). -/
def Dev.vfWord (r : Requester) (off : Nat) (v : W32) (d : Dev) : Dev :=
  if 0x100 ≤ off ∧ off < 0x4fc then d.bindWrite r ((off - 0x100) / 4 + 1) v
  else if 0x500 ≤ off ∧ off < 0x8fc then
    let n := (off - 0x500) / 4 + 1
    d.regWrite r .VF 0 off (fun d => if fld v 0 1 = 1 then d.vfEnSet n else d.vfEnClear n)
  else d.regWrite r .VF 0 off id

/-- A word of a tint page (R386, R387, R391). -/
def Dev.tntWord (r : Requester) (t off : Nat) (v : W32) (d : Dev) : Dev :=
  if off < Reg.TNT_KEY_0 + 16 then d.keyRefWrite r t ((off - Reg.TNT_KEY_0) / 4) v
  else if off = Reg.TNT_GRANT_CMD then d.grantCmd r t (fld v 0 2)
  else d.regWrite r .TNT t off (Dev.storeWord .TNT t off v)

/-- A word written at or above offset 0x040 of a page. -/
def Dev.pageWord (r : Requester) (p : PT) (i off : Nat) (v : W32) (d : Dev) : Dev :=
  let prov (kind : Nat) : Dev :=
    if off = Reg.VOL_CMD then d.provCmd r kind (fld v 0 4) else d.regWrite r p i off (Dev.storeWord p i off v)
  match p with
  | .DEV => d.regWrite r p i off (if off = Reg.DEV_MODE_CTL then Dev.modeCtl v else id)
  | .VF => d.vfWord r off v
  | .HQ | .TQ => d.queueWord r p i off v
  | .EP => d.regWrite r p i off (if off = Reg.EP_LINK_CTL then Dev.linkCtl p i off none v else id)
  | .TP =>
    if off = Reg.TP_TP_BIND then d.tpBindWrite r i v
    else d.regWrite r p i off (if off = Reg.TP_LINK_CTL then Dev.linkCtl p i off (some i) v else Dev.storeWord p i off v)
  | .TNT => d.tntWord r i off v
  | .MEM => if 0x80 ≤ off ∧ off < 0x100 ∧ off % 8 = 0 then d.codeWriteBy r ((off - 0x80) / 8) (fld v 26 1)
    else d.regWrite r p i off (Dev.storeWord p i off v)
  | .REB => d.regWrite r p i off (if off = Reg.REB_REB_CTL then Dev.reshapeWrite v else Dev.storeWord p i off v)
  | .PLP => d.regWrite r p i off (if off = Reg.PLP_PLP_CFG then Dev.cacheWrite v else Dev.storeWord p i off v)
  | .VOL => prov 0
  | .STM => prov 1
  | .OBJ => prov 2
  | .FL => d.regWrite r p i off (fun d =>
      let d := d.storeWord p i off v
      if off = Reg.FL_FL_CFG ∧ fld v 0 1 = 1 then d.linkDrop i else d)
  | .FAB => d.fabWord r off v
  | .CIP => d.regWrite r p i off (fun d =>
      d.storeWord p i off (if off = Reg.CIP_CIP_CTL ∧ d.dbg.level ≠ 2 then v ||| (d.reg p i off &&& 0x10#32) else v))
  | .KEY => if off = Reg.KEY_KEY_CMD then d.keyWord r v else d.regWrite r p i off (Dev.storeWord p i off v)
  | .DIG => if off = Reg.DIG_SEC_CMD then d.secWord r v else d.regWrite r p i off (Dev.storeWord p i off v)
  | .MLP => d.loopWord r i off v
  | .MAD =>
    if 0x80 ≤ off ∧ off < 0xc0 ∧ off % 0x10 = 8 then d.regWrite r p i off (Dev.traceCtl ((off - 0x80) / 0x10) v)
    else d.regWrite r p i off (Dev.storeWord p i off v)
  | .UPD => if off = Reg.UPD_REQ then d.reqWord r v else d.regWrite r p i off (Dev.storeWord p i off v)
  | .THM => d.regWriteIf r p i off
      (r.dom == .secure || !((off == Reg.THM_THM_CFG || off == Reg.THM_CRIT_CFG) && d.warmer off v)) (Dev.storeWord p i off v)
  | .FLT => d.fltWord r off v
  | .REC => d.recWord r off v
  | .RECW => d.recwWord r off v
  | .ERRW | .TRCW | .DDTX => if off = 0x40 then d.memberSel r p v else d.regWrite r p i off id
  | .CAL => d.regWrite r p i off (fun d =>
      let d := d.storeWord p i off v
      if off = Reg.CAL_CAL_CTL ∧ fld v 0 1 = 1 then d.calSet else d)
  | .PWR => d.pwrWord r off v
  | .CLK => if off = Reg.CLK_CLK_CTL then d.cclkWrite r (fld v 0 2) else d.regWrite r p i off id
  | .DBG => d.regWrite r p i off (fun d => if off = Reg.DBG_DBG_CTL ∧ fld v 0 1 = 1 then d.levelFall else d)
  | _ => d.regWrite r p i off (Dev.storeWord p i off v)

/-- A word written to offset `off` of a page. -/
def Dev.wordWrite (r : Requester) (p : PT) (i off : Nat) (v : W32) (d : Dev) : Dev :=
  if off < 0x40 then d.commonWord r p i off v else d.pageWord r p i off v

/-! ### Writes of a size to a view -/

/-- A word written to the forerunner's BAR0 (R101). -/
def Dev.foreWord (a : Nat) (v : W32) (d : Dev) : Dev :=
  match a with
  | 0x08 =>
    let d := if fld v 1 1 = 1 then d.shutdown else d
    if fld v 0 1 = 1 then d.unitEnable .HQ 0 else d.unitDisable .HQ 0
  | 0x10 => d.foreDoorbell v
  | 0x18 | 0x1c =>
    if d.qSt 0 = .off then d.storeWord .HQ 0 (a - 0x18 + Reg.HQ_CQ_BASE) v else d.raiseErr .HQ 0 4 noDetail
  | 0x20 => d.storeWord .HQ 0 Reg.HQ_CQ_HEAD v
  | _ => d

/-- A write of `n` bytes to the forerunner's BAR0. -/
def Dev.foreWrite (r : Requester) (a n v : Nat) (d : Dev) : Dev :=
  if !d.fnOpen .pf ∨ d.life.fatal then d
  else if 0x1000 ≤ a ∧ a < 0x1800 then d.slotWrite r 0 (a - 0x1000) (leBytes n v)
  else if n = 4 ∧ a % 4 = 0 then d.foreWord a (BitVec.ofNat 32 v)
  else if n = 8 ∧ a % 8 = 0 then (d.foreWord a (BitVec.ofNat 32 v)).foreWord (a + 4) (BitVec.ofNat 32 (v / 2 ^ 32))
  else d

/-- An aligned 64-bit write: both halves at once, counted once (R46, R53). -/
def Dev.pairWrite (r : Requester) (p : PT) (i off v : Nat) (d : Dev) : Dev :=
  let n := d.regN p i Reg.PAGE_SEQ
  let d := (d.wordWrite r p i off (BitVec.ofNat 32 v)).wordWrite r p i (off + 4) (BitVec.ofNat 32 (v / 2 ^ 32))
  if d.regN p i Reg.PAGE_SEQ = (n + 2) % 2 ^ 32 then d.setRegN p i Reg.PAGE_SEQ (n + 1) else d

/-- A write of `n` bytes to offset `a` of a requester's view (R43, R44, R46): 4 and 8 bytes, naturally aligned, or a form that slot memory
takes (R110); any other is discarded. -/
def Dev.writeBar (r : Requester) (a n v : Nat) (d : Dev) : Dev :=
  if d.life.mode = .compat ∧ r.dom = .host ∧ !r.i3c ∧ !proxied r then d.foreWrite r a n v
  else match d.spot r a with
    | .page p i off =>
      if (p = .HQ ∨ p = .TQ) ∧ 0x800 ≤ off then d.slotWrite r (if p = .TQ then 2048 + i else i) (off - 0x800) (leBytes n v)
      else if n = 4 ∧ a % 4 = 0 then d.wordWrite r p i off (BitVec.ofNat 32 v)
      else if n = 8 ∧ a % 8 = 0 then
        (if p = .RECW ∧ off = Reg.RECW_CURSOR then d.regWrite r p i off (fun d => d.loadView (viewOf r) v)
        else d.pairWrite r p i off v)
      else d.noteWake r p
    | _ => d

end Sys2Proof.Machine
end

