-- ==== Sys2Proof/Machine/Registers.lean ====
section
/-! DEFINITION. Meanings of the commands that reach registers by address: REGISTER_WRITE, MEMBER_SEL_WRITE and the BAR2 member windows
with their proxied accesses (spec/02_register_pages.md R46, R48 to R50, R61, R62, R73, spec/12_filush_fabric.md R418). -/
namespace Sys2Proof.Machine
open Sys2Proof

/-- REGISTER_WRITE: `size` bytes at offset `addr` of a space of the requester: its view, or its function's MSI-X table or configuration space. -/
def Dev.writeSpace (r : Requester) (sp : Space) (a n v : Nat) (d : Dev) : Dev := match sp, fnOf r with
  | .view, _ => d.writeBar r a n v
  | .table, some f => d.bar4Write f a n v
  | .config, some f => d.cfgWrite f a n v
  | _, none => d

def execRegisterWrite (req : Requester) (place : SpaceAddr) (size : Nat) (value : W64) (s : State) : Host.Outcome State Fault Refusal :=
  runFab (Dev.writeSpace req place.space place.off size value.toNat) s

/-- MEMBER_SEL_WRITE on the window header page of type code `ty`. -/
def execMemberSelWrite (req : Requester) (ty : Nat) (value : W32) (s : State) : Host.Outcome State Fault Refusal :=
  run (withPage ty (fun p d => if p = .ERRW ∨ p = .RECW ∨ p = .TRCW ∨ p = .DDTX then d.memberSel req p value else d)) s

/-! ### Reads whose answer comes from elsewhere -/

/-- The window header whose MEMBER_SEL governs a content offset of a view (R73). -/
def Dev.selOf (d : Dev) (r : Requester) (a : Nat) : Option PT := match d.spot r a with
  | .errors _ => some .ERRW
  | .records _ => some .RECW
  | .traces _ => some .TRCW
  | .ddt a => if 0x2001000 ≤ a then some .DDTX else none
  | _ => none

/-- The remote member whose window content an offset shows, on the head. -/
def Dev.remoteOf (d : Dev) (r : Requester) (a : Nat) : Option Nat :=
  if d.isHead ∧ logViewOf r = 0 then
    match d.selOf r a with
    | some p => let n := d.regF p 0 0x40 0 6
      if n = 0 then none else some n
    | none => none
  else none

/-! ### BAR2 (R48 to R50, R418) -/

/-- The host itself. -/
abbrev hostReq : Requester := { dom := .host }

/-- The head's accesses to a member, in the host domain. -/
abbrev headReq : Requester := { dom := .host, num := 1 }

/-- BAR2 is there and answers: the head or a standalone device, outside COMPAT. -/
def Dev.bar2Open (d : Dev) : Bool :=
  d.busUp && d.hostPort && d.life.mode != .compat && d.fnOpen .pf && !d.regB .EP 0 Reg.EP_LINK_STS 10

/-- Send the PROXY_RD of a waiting read. -/
def Dev.proxySend (d : Dev) (e : Proxy) : Dev := d.send 0x38 e.dst [e.off, e.size, e.xid] false

/-- A read of a member's window: sent, or stalled behind 64 outstanding reads. -/
def Dev.proxyRead (d : Dev) (dst off n : Nat) (sink : ProxyTo) : Dev :=
  let x := d.nextXid
  let e : Proxy := ⟨x.1, dst, off, n, d.life.usUp, sink⟩
  let d : Dev := { x.2 with fab := { x.2.fab with proxies := x.2.fab.proxies ++ [e] } }
  if d.fab.proxies.length ≤ 64 then d.proxySend e else d

/-- The value that a read ends with goes to who waits for it. -/
def Dev.proxyReply (d : Dev) (sink : ProxyTo) (n v : Nat) : Dev := match sink with
  | .host => d.emit (.readData hostReq (v % 256 ^ n))
  | .i3c => d.i3cReply (0#8 :: leBytes n v)
  | .dap => ({ d with dbg := { d.dbg with dapWait := false } }).dapReply 0 (v % 256 ^ n)
  | .gone => d

/-- A proxied read ends with a value; the oldest stalled read takes its place. -/
def Dev.proxyEnd (e : Proxy) (v : Nat) (d : Dev) : Dev :=
  let rest := d.fab.proxies.filter (fun x => x.xid != e.xid)
  let next := if 64 < d.fab.proxies.length then rest[63]? else none
  let rest := rest.modify 63 (fun x => if next.isSome then { x with atUs := d.life.usUp } else x)
  let d := ({ d with fab := { d.fab with proxies := rest } }).proxyReply e.sink e.size v
  match next with
  | some x => d.proxySend x
  | none => d

/-- A read of `n` bytes at offset `a` of a view: `raw`, or, of a remote member's window content, the member's answer; all ones where the DDT lists
no such member (R49, R50, R73). -/
def Dev.readVia (d : Dev) (r : Requester) (a n raw : Nat) (sink : ProxyTo) : Dev := match d.remoteOf r a with
  | none => d.proxyReply sink n raw
  | some m => if d.memberState m = 0 then d.proxyReply sink n (256 ^ n - 1) else d.proxyRead m a n sink

/-- BAR2_ACCESS by the host at BAR2 offset `a`. While the PF's BARs are closed a read ends with Unsupported Request and a write is discarded
(R76, R90, R91). -/
def Dev.bar2Access (write : Bool) (a n v : Nat) (d : Dev) : Dev :=
  let m := a / 0x1000000
  let off := a % 0x1000000
  let form : Bool := (n == 4 && a % 4 == 0) || (n == 8 && a % 8 == 0)
  if d.fnThere .pf && !d.fnOpen .pf && !write then d.emit (.unsupported .pf)
  else if !d.bar2Open ∨ 64 ≤ m then d
  else if m = 0 then
    (if write then d.writeBar hostReq off n v
    else if form ∨ (d.remoteOf hostReq off).isNone then d.readVia hostReq off n (d.readSpace hostReq off n) .host
    else d.takeFree.2.emit (.readData hostReq (Config.freeNat d.free % 256 ^ n)))
  else if d.memberState m = 0 then (if write then d else d.emit (.readData hostReq (256 ^ n - 1)))
  else if write then (if form then d.send 0x39 m [off, n, v] false else d)
  else if form then d.proxyRead m off n .host
  else d.takeFree.2.emit (.readData hostReq (Config.freeNat d.free % 256 ^ n))

/-- BAR2_ACCESS. -/
def execBar2Access (write : Bool) (addr size : Nat) (value : W64) (s : State) : Host.Outcome State Fault Refusal :=
  runFab (Dev.bar2Access write addr size value.toNat) s

/-- PROXY_TIMEOUT: the oldest proxied read has had no answer for 40 µs. -/
def execProxyTimeout (s : State) : Host.Outcome State Fault Refusal :=
  run (fun d => match d.fab.proxies.head? with
    | some e => if d.life.usUp - e.atUs < 40 then d else (d.proxyEnd e (2 ^ 64 - 1)).raiseErr .FAB 0 30 noDetail
    | none => d) s

/-- PROXY_RD from the head: the read in the host domain, answered with PROXY_RSP. -/
def Dev.proxyRd (h : MsgHdr) (off n xid : Nat) (d : Dev) : Dev :=
  d.rx 0x38 h (fun d =>
    if d.isMember ∧ h.src = 0 ∧ (n = 4 ∨ n = 8) then d.send 0x3a 0 [xid, d.readSpace headReq off n] false else d)

/-- PROXY_RD. -/
def execProxyRd (h : MsgHdr) (offset size xid : Nat) (s : State) : Host.Outcome State Fault Refusal :=
  runFab (Dev.proxyRd h offset size xid) s

/-- PROXY_WR from the head: the write in the host domain. -/
def Dev.proxyWr (h : MsgHdr) (off n v : Nat) (d : Dev) : Dev :=
  d.rx 0x39 h (fun d => if d.isMember ∧ h.src = 0 ∧ (n = 4 ∨ n = 8) then d.writeBar headReq off n v else d)

/-- PROXY_WR. -/
def execProxyWr (h : MsgHdr) (offset size : Nat) (data : W64) (s : State) : Host.Outcome State Fault Refusal :=
  runFab (Dev.proxyWr h offset size data.toNat) s

/-- PROXY_RSP at the head: the read of this XID completes; an answer that comes too late is dropped. -/
def Dev.proxyRsp (h : MsgHdr) (xid v : Nat) (d : Dev) : Dev :=
  d.rx 0x3a h (fun d => match (d.fab.proxies.take 64).find? (fun e => e.xid == xid && e.dst == h.src) with
    | some e => d.proxyEnd e v
    | none => d)

/-- PROXY_RSP. -/
def execProxyRsp (h : MsgHdr) (xid : Nat) (data : W64) (s : State) : Host.Outcome State Fault Refusal :=
  runFab (Dev.proxyRsp h xid data.toNat) s

end Sys2Proof.Machine
end

