-- ==== Sys2Proof/Machine/Debug.lean ====
section
/-! DEFINITION. Meanings of the debug port's commands (spec/23_debug_port.md). An AUTH or DAP row stands for one scan with that instruction
selected; what the scan shifts out goes to `out`. -/
namespace Sys2Proof.Machine
open Sys2Proof

/-! ### TAP instructions and boundary scan (R640, R641, R653, R654) -/

/-- The TAP has power: outside BACKUP. -/
def Dev.tapUp (d : Dev) : Bool := d.life.mode != .backup

/-- A TAP instruction is selected; EXTEST and HIGHZ end with it. The instruction register shifts out what it captured. -/
def Dev.tapSelect (code : Nat) (d : Dev) : Dev :=
  if d.tapUp then ({ d with dbg := { d.dbg with ir := code, balls := 0 } }).emit (.tap 1) else d

/-- TAP_RESET. -/
def execTapReset (s : State) : Host.Outcome State Fault Refusal :=
  run (fun d => if d.tapUp then { d with dbg := { d.dbg with ir := 1, balls := 0 } } else d) s

/-- The identification register (R641). -/
abbrev idCode : Nat := 0xb640049f

/-- IDCODE. -/
def execIdcode (s : State) : Host.Outcome State Fault Refusal :=
  run (fun d => if d.tapUp then (d.tapSelect 1).emit (.tap idCode) else d) s

/-- Cells of the boundary register (R653). -/
abbrev boundaryBits : Nat := 6234

/-- A scan of the boundary register: what the balls carry, a free value, goes out, and the cells take what came in. -/
def Dev.boundaryScan (d : Dev) (cells : Nat) : Dev :=
  let f := d.takeFree
  ({ f.2 with dbg := { f.2.dbg with cells := cells % 2 ^ boundaryBits } }).emit (.tap (Config.freeNat f.1 % 2 ^ boundaryBits))

/-- SAMPLE_PRELOAD: the boundary register is captured and preloaded; the balls stay as they are. -/
def execSamplePreload (cells : Nat) (s : State) : Host.Outcome State Fault Refusal :=
  run (fun d => if d.tapUp then (d.tapSelect 2).boundaryScan cells else d) s

/-- EXTEST and HIGHZ may take the balls: in RESET, and in MAINT at level FULL. -/
def Dev.scanAllowed (d : Dev) : Bool := match d.life.mode with
  | .reset => true
  | .maint => d.dbg.level == 2
  | _ => false

/-- EXTEST: the balls carry the cells of the boundary register, those preloaded or, after a scan, those of `cells`; elsewhere a BYPASS. -/
def Dev.extest (cells : Option Nat) (d : Dev) : Dev :=
  if !d.tapUp then d
  else
    let d := d.tapSelect 3
    if !d.scanAllowed then d
    else
      let d := match cells with
        | some c => d.boundaryScan c
        | none => d
      ({ d with dbg := { d.dbg with balls := 1 } }).emit (.pin "BOUNDARY" d.dbg.cells)

/-- EXTEST. -/
def execExtest (cells : Option Nat) (s : State) : Host.Outcome State Fault Refusal := run (Dev.extest cells) s

/-- HIGHZ: every covered ball is high impedance; elsewhere a BYPASS. -/
def Dev.highz (d : Dev) : Dev :=
  if !d.tapUp then d
  else
    let d := d.tapSelect 4
    if d.scanAllowed then { d with dbg := { d.dbg with balls := 2 } } else d

/-- HIGHZ. -/
def execHighz (s : State) : Host.Outcome State Fault Refusal := run Dev.highz s

/-- The instruction codes of R640 but BYPASS. -/
def tapCodes : List Nat := [0x01, 0x02, 0x03, 0x04, 0x20, 0x21]

/-- BYPASS: `code` is 0xFF or a code that R640 does not name. -/
def execBypass (code : Nat) (s : State) : Host.Outcome State Fault Refusal :=
  run (fun d => if tapCodes.contains (code % 256) then d else d.tapSelect (code % 256)) s

/-! ### Authentication (R643, R644) -/

/-- Mordant runs and can act for the debug port. -/
def Dev.mordantActs (d : Dev) : Bool :=
  d.life.mordant && !d.life.fatal && !d.sxHalted && (match d.life.mode with
    | .backup | .reset | .flush => false
    | _ => true)

/-- AUTH STATUS codes. -/
abbrev authOk : Nat := 0
abbrev authBusy : Nat := 1
abbrev authFail : Nat := 2
abbrev authRefused : Nat := 3

/-- The reply of an AUTH scan: STATUS and a word. -/
def Dev.authReply (d : Dev) (sts word : Nat) : Dev := d.emit (.tap (sts + word % 2 ^ 32 * 256))

/-- An AUTH scan with command effect `f`; in FLUSH it captures BUSY (R652). -/
def Dev.authScan (f : Dev → Dev) (d : Dev) : Dev :=
  if !d.tapUp then d
  else
    let d := { d with dbg := { d.dbg with ir := 0x20, balls := 0 } }
    if d.life.mode = .flush then d.authReply authBusy 0 else f d

/-- Mordant draws a 32-byte nonce, which voids the previous one. -/
def Dev.drawNonce (d : Dev) : Dev :=
  if d.dbg.refused then d.authReply authRefused 0
  else if !d.mordantActs ∨ d.dbg.busy then d.authReply authBusy 0
  else ({ d with free := d.free + 32, dbg := { d.dbg with nonce := some d.free, word := 0, token := [], last := 0 } }).authReply authOk 0

/-- CHALLENGE. -/
def execChallenge (s : State) : Host.Outcome State Fault Refusal := run (Dev.authScan Dev.drawNonce) s

/-- Byte `k` of the nonce drawn at free value `n`. -/
def nonceBytes (n : Nat) : List Byte := (List.range 32).map (fun k => Config.freeByte (n + k))

/-- The next word of SERIAL and the nonce; a word past the tenth, or without a nonce, is a free value. -/
def Dev.nextWord (d : Dev) : Dev :=
  if d.dbg.busy then d.authReply authBusy 0
  else
    let k := d.dbg.word
    let next := { d with dbg := { d.dbg with word := k + 1 } }
    match d.dbg.nonce with
    | some n => if k < 10 then next.authReply authOk (leNat (((leBytes 8 d.serial ++ nonceBytes n).drop (4 * k)).take 4))
      else next.takeFree.2.authReply authOk (Config.freeNat d.free)
    | none => next.takeFree.2.authReply authOk (Config.freeNat d.free)

/-- AUTH_READ. -/
def execAuthRead (s : State) : Host.Outcome State Fault Refusal := run (Dev.authScan Dev.nextWord) s

/-- AUTH_PUT: one word of the token. -/
def execAuthPut (word : W32) (s : State) : Host.Outcome State Fault Refusal :=
  run (Dev.authScan (fun d =>
    if d.dbg.busy then d.authReply authBusy 0
    else ({ d with dbg := { d.dbg with token := d.dbg.token ++ leBytes 4 word.toNat } }).authReply authOk 0)) s

/-- SUBMIT: the token goes to Mordant. -/
def execSubmit (s : State) : Host.Outcome State Fault Refusal :=
  run (Dev.authScan (fun d =>
    if d.dbg.busy then d.authReply authBusy 0
    else ({ d with dbg := { d.dbg with busy := true, last := 0 } }).authReply authOk 0)) s

/-- AUTH_STATUS: BUSY until the check is done, then OK or FAIL. -/
def execAuthStatus (s : State) : Host.Outcome State Fault Refusal :=
  run (Dev.authScan (fun d => d.authReply (if d.dbg.busy then authBusy else if d.dbg.last = 2 then authFail else authOk) 0)) s

/-- The token's fields pass: SERIAL, NONCE of the nonce in force, LEVEL at most DBG_STS.MAX. -/
def Dev.tokenFits (d : Dev) : Bool := match d.dbg.nonce with
  | none => false
  | some n =>
    let t := d.dbg.token
    let lv := leNat ((t.drop 0x28).take 1)
    leNat (t.take 8) == d.serial && (t.drop 8).take 32 == nonceBytes n && decide (1 ≤ lv ∧ lv ≤ d.dbgMax)

/-- Mordant sets the level that the token asks for, and its expiry: 0, or POS + DURATION_S, free where that sum has no place. -/
def Dev.grantLevel (d : Dev) : Dev :=
  let lv := leNat ((d.dbg.token.drop 0x28).take 1)
  let dur := leNat ((d.dbg.token.drop 0x2c).take 4)
  let f := d.takeFree
  let exp := if dur = 0 then 0 else if d.bak.pos + dur < 2 ^ 32 then d.bak.pos + dur else Config.freeNat f.1 % 2 ^ 32
  let d := if dur ≠ 0 ∧ 2 ^ 32 ≤ d.bak.pos + dur then f.2 else d
  let d := { d with dbg := { d.dbg with level := lv, last := 1 } }
  let d := ((d.setRegN .DBG 0 Reg.DBG_LEVEL_EXPIRY exp).incSat .DBG 0 Reg.DBG_AUTH_CNT 1).setIrq .DBG 0 0
  let d := if lv = 2 then d else d.setRegF .CIP 0 Reg.CIP_CIP_CTL 4 1 1
  d.noteBy 1 (if lv = 2 then 4 else 2) .DBG (some lv) none

/-- TOKEN_CHECKED: `ok` says that certificate and signature verify. The nonce is used up; the eighth failure refuses further challenges. -/
def Dev.tokenChecked (ok : Bool) (d : Dev) : Dev :=
  if !d.dbg.busy ∨ !d.mordantActs then d
  else
    let pass := ok && d.tokenFits
    let done (d : Dev) : Dev := { d with dbg := { d.dbg with busy := false, nonce := none, token := [] } }
    if pass then done d.grantLevel
    else
      let d := (d.incSat .DBG 0 Reg.DBG_AUTH_FAILS 1).raiseErr .DBG 0 0 noDetail
      let refuse := d.dbg.refused || decide (8 ≤ d.regN .DBG 0 Reg.DBG_AUTH_FAILS)
      done { d with dbg := { d.dbg with last := 2, refused := refuse } }

/-- TOKEN_CHECKED. -/
def execTokenChecked (ok : Bool) (s : State) : Host.Outcome State Fault Refusal := run (Dev.tokenChecked ok) s

/-- LEVEL_EXPIRY: POS has reached a non-zero LEVEL_EXPIRY (R645). -/
def Dev.levelExpiry (d : Dev) : Dev :=
  let e := d.regN .DBG 0 Reg.DBG_LEVEL_EXPIRY
  if e ≠ 0 ∧ e ≤ d.bak.pos then d.levelFall else d

/-- LEVEL_EXPIRY. -/
def execLevelExpiry (s : State) : Host.Outcome State Fault Refusal := run Dev.levelExpiry s

/-- DBG_LOCK by `r`: during a C4 halt only the debug port at FULL can (R652). -/
def Dev.dbgLock (r : Requester) (d : Dev) : Dev :=
  if d.life.fatal ∧ r.dom = .secure ∧ d.dbg.level = 2 then (d.countWrite .DBG 0).levelFall
  else d.regWrite r .DBG 0 Reg.DBG_DBG_CTL Dev.levelFall

/-- DBG_LOCK. -/
def execDbgLock (req : Requester) (s : State) : Host.Outcome State Fault Refusal := run (Dev.dbgLock req) s

/-! ### Halt, step and breakpoints (R648 to R651) -/

/-- The level reaches core `n` (R647). -/
def Dev.coreReach (d : Dev) (n : Nat) : Bool := (decide (n < 32) && decide (1 ≤ d.dbg.level)) || (n == 32 && d.dbg.level == 2)

/-- DCTL.STEP: one instruction, then a halt with reason STEP; what the core shows then is new. A running GROUP core halts its group. -/
def Dev.stepCore (d : Dev) (n : Nat) : Dev :=
  let c := d.coreDbg n
  if c.reason = 0 then d.haltGroup n 2 0
  else
    let d := { d with free := d.free + 65 }
    (d.setCore n { c with reason := 2, index := 0, ran := true, shown := d.free - 65, gprs := [] }).setIrq .DBG 0 2

/-- DCTL's strobes: HALT, RESUME, STEP, the first of these that is set. -/
def Dev.coreStrobe (n v : Nat) (d : Dev) : Dev :=
  if nbit v 0 then d.haltGroup n 1 0 else if nbit v 1 then d.resumeGroup n else if nbit v 2 then d.stepCore n else d

/-- XCTL's strobes, as DCTL's; a step of a unit that runs halts it after the step. -/
def Dev.xStrobe (u v : Nat) (d : Dev) : Dev :=
  if nbit v 0 then d.haltX u 1 0
  else if nbit v 1 then d.resumeX u
  else if nbit v 2 then
    let d := d.haltX u 2 0
    d.setX u { d.xDbg u with step := true }
  else d

/-- A strobe of the debug port can be written now: not in FLUSH, not during a C4 halt (R652). -/
def Dev.dapWrites (d : Dev) : Bool := d.tapUp && d.life.mode != .flush && !d.life.fatal

/-- A strobe `v` of core `n` at the level in force. -/
def Dev.coreBy (n v : Nat) (d : Dev) : Dev := if d.dapWrites && d.coreReach n then d.coreStrobe n v else d

/-- CORE_HALT. -/
def execCoreHalt (core : Nat) (s : State) : Host.Outcome State Fault Refusal := run (Dev.coreBy core 1) s

/-- CORE_RESUME. -/
def execCoreResume (core : Nat) (s : State) : Host.Outcome State Fault Refusal := run (Dev.coreBy core 2) s

/-- CORE_STEP. -/
def execCoreStep (core : Nat) (s : State) : Host.Outcome State Fault Refusal := run (Dev.coreBy core 4) s

/-- BREAKPOINT_HIT: core `core` reaches enabled breakpoint `index`. -/
def execBreakpointHit (core index : Nat) (s : State) : Host.Outcome State Fault Refusal :=
  run (fun d => if core < 33 ∧ !d.coreHalted core ∧ ((mget (d.coreDbg core).bps index).getD 0) % 2 = 1 then d.haltGroup core 3 index else d) s

/-- A watchpoint is armed for some access: EN, and RD or WR. -/
def wpArmed (v : Nat) : Bool := nbit v 0 && (nbit v 1 || nbit v 2)

/-- WATCHPOINT_HIT: an access that matches watchpoint `index` completes. -/
def execWatchpointHit (core index : Nat) (s : State) : Host.Outcome State Fault Refusal :=
  run (fun d => if core < 33 ∧ !d.coreHalted core ∧ wpArmed ((mget (d.coreDbg core).wpCtl index).getD 0) then d.haltGroup core 4 index else d) s

/-- A strobe of unit `u` (channel sequencers 0 to 127, Madder 128) at the level in force. -/
def Dev.xbBy (u v : Nat) (d : Dev) : Dev := if d.dapWrites && decide (1 ≤ d.dbg.level) && decide (u ≤ madUnit) then d.xStrobe u v else d

/-- X_HALT. -/
def execXHalt (unit : Nat) (s : State) : Host.Outcome State Fault Refusal := run (Dev.xbBy unit 1) s

/-- X_RESUME. -/
def execXResume (unit : Nat) (s : State) : Host.Outcome State Fault Refusal := run (Dev.xbBy unit 2) s

/-- X_STEP. -/
def execXStep (unit : Nat) (s : State) : Host.Outcome State Fault Refusal := run (Dev.xbBy unit 4) s

/-- X_BREAK: a sequencer halts before the next entry of die `n` that a breakpoint matches, Madder after a loop that one names. -/
def Dev.xBreak (u n : Nat) (d : Dev) : Dev :=
  if u = madUnit then
    (match (d.xDbg u).hit with
      | some k => d.haltX u 3 k
      | none => d)
  else if n / 16 ≠ u ∨ (d.xDbg u).step then d
  else match d.nextEntry n with
    | some (_, _, _, e) => (match d.seqBreak u e.op e.die with
      | some k => d.haltX u 3 k
      | none => d)
    | none => d

/-- X_BREAK. -/
def execXBreak (unit n : Nat) (s : State) : Host.Outcome State Fault Refusal := run (Dev.xBreak unit n) s

/-! ### Core, sequencer and Madder debug registers (R648, R651) -/

/-- A list entry or zero. -/
def dval (l : List (Nat × Nat)) (k : Nat) : Nat := (mget l k).getD 0

/-- A 64-bit register of core `n` that holds offset `off`, a multiple of 8. PC and GPRs of a halted core are what it showed as it halted,
but for GPRs written since; of a running core they are free values. -/
def Dev.coreRead (d : Dev) (n off : Nat) : Nat :=
  let c := d.coreDbg n
  let k := (off % 0x100) / 0x10
  if off = 0 then 8 * b2n c.group + (b2n (c.reason != 0) + c.reason * 2 + c.index * 16) * 2 ^ 32
  else if off = 8 then (if c.reason = 0 then 0 else Config.freeNat c.shown % 2 ^ 64)
  else if 0x100 ≤ off ∧ off < 0x300 then
    let i := (off - 0x100) / 8
    (match mget c.gprs i with
      | some v => v
      | none => Config.freeNat (if c.reason = 0 then d.free else c.shown + 1 + i) % 2 ^ 64)
  else if 0x400 ≤ off ∧ off < 0x480 ∧ off % 0x10 = 0 then dval c.bps k
  else if 0x480 ≤ off ∧ off < 0x4c0 then (if off % 0x10 = 0 then dval c.wpAddr (k - 8) else dval c.wpCtl (k - 8))
  else 0

/-- Write the half or the whole of a 64-bit value: `size` 4 at offset `lo` (0 or 4), or 8. -/
def putHalf (old lo size v : Nat) : Nat :=
  if size = 8 then v % 2 ^ 64
  else if lo = 0 then old / 2 ^ 32 * 2 ^ 32 + v % 2 ^ 32
  else old % 2 ^ 32 + v % 2 ^ 32 * 2 ^ 32

/-- Store a debug register value; zero is the value of one not listed. -/
def dput (l : List (Nat × Nat)) (k v : Nat) : List (Nat × Nat) := if v = 0 then mdel l k else mput l k v

/-- A write of 4 or 8 bytes to offset `off` of core `n`'s block. -/
def Dev.coreWrite (d : Dev) (n off size v : Nat) : Dev :=
  let c := d.coreDbg n
  let base := off / 8 * 8
  let k := (off % 0x100) / 0x10
  let new := putHalf (d.coreRead n base) (off % 8) size v
  if off = 0 then (d.setCore n { c with group := nbit v 3 }).coreStrobe n v
  else if 0x100 ≤ base ∧ base < 0x300 then (if c.reason = 0 then d else d.setCore n { c with gprs := mput c.gprs ((base - 0x100) / 8) new })
  else if 0x400 ≤ base ∧ base < 0x480 ∧ base % 0x10 = 0 then d.setCore n { c with bps := dput c.bps k (new &&& 0xfffffffffffffffd) }
  else if 0x480 ≤ base ∧ base < 0x4c0 then
    (if base % 0x10 = 0 then d.setCore n { c with wpAddr := dput c.wpAddr (k - 8) (new &&& 0xfffffffffffffff8) }
    else d.setCore n { c with wpCtl := dput c.wpCtl (k - 8) (new &&& 0xf07) })
  else d

/-- A 64-bit word of unit `u`'s block at offset `off`, a multiple of 8. -/
def Dev.xbRead (d : Dev) (u off : Nat) : Nat :=
  let x := d.xDbg u
  if off = 0 then (b2n (x.reason != 0) + x.reason * 2 + x.index * 8 + x.pc % 65536 * 16) * 2 ^ 32
  else if off = 8 then x.xbp0 + x.xbp1 * 2 ^ 32
  else 0

/-- A write of 4 or 8 bytes to offset `off` of unit `u`'s block. -/
def Dev.xbWrite (d : Dev) (u off size v : Nat) : Dev :=
  let x := d.xDbg u
  let mask := if u = madUnit then 0x100000f else 0x1ffffff
  let new := putHalf (d.xbRead u (off / 8 * 8)) (off % 8) size v
  if off = 0 then d.xStrobe u v
  else if off / 8 = 1 then d.setX u { x with xbp0 := new &&& mask, xbp1 := new / 2 ^ 32 &&& mask }
  else d

/-! ### Debug access (R646, R647) -/

/-- The requester of the level in force: Glaze, or secure at FULL (R642). -/
def Dev.dapReq (d : Dev) : Requester := { dom := if d.dbg.level = 2 then .secure else .glaze }

/-- OWNER and LOCK let the level read, or write, the register at an offset of the PF's BAR0 (R58 to R60). -/
def Dev.dapOwns (d : Dev) (write : Bool) (a : Nat) : Bool :=
  let r := d.dapReq
  match d.spot r a with
  | .page p i off =>
    if write then d.mayWrite r p i && !(r.dom != .secure && (off == Reg.OWNER || (d.locked p i && decide (0x40 ≤ off))))
    else d.mayRead r p i (off / 4 * 4)
  | _ => true

/-- Address `a` of space `sp` exists and the level reaches it (R647). At LOCKED only reads of the DBG page do (R642). -/
def Dev.dapReach (d : Dev) (write : Bool) (sp a : Nat) : Bool :=
  let lv := d.dbg.level
  if lv = 0 then !write && sp == 0 && (match d.spot d.dapReq a with
    | .page .DBG _ _ => true
    | _ => false)
  else match sp with
    | 0 => decide (a < 0x4000000) && d.dapOwns write a
    | 1 => decide (a < 0x18000000)
    | 2 => lv == 2 && decide (a < 0x80000)
    | 3 => if lv = 2 then flashSpace a else !write && decide (a < optWin)
    | 4 => d.coreReach (a / 0x1000)
    | 5 => decide (a < 0x8000)
    | 6 => decide (a < 0x10)
    | _ => false

/-- The debug port's SRAM port (R257). -/
abbrev dapPort : Nat := 15

/-- Bytes of a memory space whose content the model does not hold elsewhere: those that the debug port wrote, else free values. -/
def Dev.dapBytes (d : Dev) (sp a n : Nat) : Nat × Dev :=
  (leNat ((List.range n).map (fun i => (mget d.dbg.bytes (sp * 2 ^ 32 + a + i)).getD (Config.freeByte (d.free + i)))), { d with free := d.free + n })

/-- Store bytes that the debug port writes to such a space. -/
def Dev.dapStore (d : Dev) (sp a n v : Nat) : Dev :=
  { d with dbg := { d.dbg with bytes := ((leBytes n v).zipIdx).foldl (fun m (e : Byte × Nat) => mput m (sp * 2 ^ 32 + a + e.2) e.1) d.dbg.bytes } }

/-- An SRAM read: an uncorrectable word answers ERROR and takes its region's action (R261). `bad` says that two symbols of the word are upset,
with what that action needs; for a word that is uncorrectable as it stands it may be given too. -/
def Dev.dapSram (d : Dev) (a n : Nat) (bad : Option (Nat × Nat × Bool)) : Dev :=
  let upset := if bad.isSome ∧ d.wordClass a 0 ≠ .uncorr then badPattern ^^^ d.wordErr a else 0
  let d := match slotAddr a with
    | some o => if d.mbuf.any (fun e => e.2.1 == o / 8 && e.1 != dapPort) then d.evictWord (o / 8) 0 else d
    | none => d
  if d.wordClass a upset = .uncorr then
    let b := bad.getD ((slotAddr a).getD 0 / 2048, 0, false)
    (d.memUncorrectable a upset dapPort false b.1 b.2.1 b.2.2).dapReply 3 0
  else
    let d := d.memServe a upset dapPort false
    match slotAddr a with
    | some o => d.dapReply 0 (leNat ((List.range n).map (fun i => d.slotByte (o + i))))
    | none =>
      let x := d.dapBytes 1 a n
      x.2.dapReply 0 x.1

/-- An SRAM write, of 4 bytes through the merge buffer of the debug port's SRAM port. -/
def Dev.dapSramWrite (d : Dev) (a n v : Nat) : Dev :=
  match slotAddr a with
  | some o =>
    let d := d.mergeWrite dapPort (o / 8) (o % 8) (o % 8 + n)
    { d with mem := putBytes d.mem o (leBytes n v) }
  | none => (if n = 8 then d.freshWord a else d).dapStore 1 a n v

/-- What a read that is let through answers. -/
def Dev.dapDoRead (d : Dev) (sp a n : Nat) (bad : Option (Nat × Nat × Bool)) : Dev :=
  match sp with
  | 0 =>
    let x := d.readRaw (if d.dbg.level = 0 then { dom := .secure } else d.dapReq) a n
    if (d.remoteOf d.dapReq a).isNone then d.dapReply 0 x else ({ d with dbg := { d.dbg with dapWait := true } }).readVia d.dapReq a n x .dap
  | 1 => d.dapSram a n bad
  | 2 =>
    let x := d.dapBytes 2 a n
    x.2.dapReply 0 x.1
  | 3 => d.dapFlash
  | 4 =>
    let c := a / 0x1000
    let o := a % 0x1000
    if o / 8 = 1 ∧ !d.coreHalted c then d.dapReply 1 0
    else ({ d with free := d.free + 1 }).dapReply 0 (d.coreRead c (o / 8 * 8) / 256 ^ (o % 8) % 256 ^ n)
  | _ =>
    let u := if sp = 5 then a / 0x100 else madUnit
    let o := a % 0x100
    d.dapReply 0 (d.xbRead u (o / 8 * 8) / 256 ^ (o % 8) % 256 ^ n)

/-- What a write that is let through does. -/
def Dev.dapDoWrite (d : Dev) (sp a n v : Nat) : Dev :=
  match sp with
  | 0 => (d.writeBar d.dapReq a n v).dapReply 0 0
  | 1 => (d.dapSramWrite a n v).dapReply 0 0
  | 2 => (d.dapStore 2 a n v).dapReply 0 0
  | 3 =>
    if n = 4 then (d.seqWrite a (BitVec.ofNat 32 v)).dapReply 0 0
    else (if d.bfl.op.isSome then d.raiseErr .BFL 0 1 noDetail else d.seqAbort).dapReply 0 0
  | 4 =>
    let c := a / 0x1000
    let o := a % 0x1000
    if 0x100 ≤ o ∧ o < 0x300 ∧ !d.coreHalted c then d.dapReply 1 0 else (d.coreWrite c o n v).dapReply 0 0
  | _ => (d.xbWrite (if sp = 5 then a / 0x100 else madUnit) (a % 0x100) n v).dapReply 0 0

/-- A DAP scan: the reply of the previous access goes out, BUSY in FLUSH or while that access has not completed; then `f`, the shifted access,
starts. -/
def Dev.dapScan (f : Dev → Dev) (d : Dev) : Dev :=
  if !d.tapUp then d
  else
    let d := { d with dbg := { d.dbg with ir := 0x21, balls := 0 } }
    let busy := d.life.mode == .flush || d.dbg.dapWait
    let d := d.emit (.tap (dapWord (if busy then 1 else d.dbg.dapSts) d.dbg.dapEcho d.dbg.dapAddr (if busy then 0 else d.dbg.dapData)))
    if busy then d else f d

/-- Note the address and echo bits of an access. -/
def Dev.dapNote (d : Dev) (size64 autoinc : Bool) (sp a : Nat) : Dev :=
  { d with dbg := { d.dbg with
      dapEcho := b2n size64 + 2 * b2n autoinc + 4 * (sp % 16), dapAddr := a
      dapNext := if autoinc then (a + (if size64 then 8 else 4)) % 2 ^ 32 else d.dbg.dapNext } }

/-- A DAP read. -/
def Dev.dapRead (size64 autoinc : Bool) (sp a : Nat) (bad : Option (Nat × Nat × Bool)) (d : Dev) : Dev :=
  d.dapScan (fun d =>
    let n := if size64 then 8 else 4
    let a := a % 2 ^ 32
    let d := d.dapNote size64 autoinc sp a
    if a % n ≠ 0 ∨ !d.dapReach false sp a then d.dapDenied else d.dapDoRead sp a n bad)

/-- DAP_READ: `bad` says that the SRAM word reads uncorrectable, with the unit, sector and outcome of its region's action (R261). -/
def execDapRead (size64 autoinc : Bool) (space addr : Nat) (bad : Option (Nat × Nat × Bool)) (s : State) : Host.Outcome State Fault Refusal :=
  runFab (Dev.dapRead size64 autoinc space addr bad) s

/-- A DAP write that a scan starts; during a C4 halt only of DBG_CTL.LOCK at FULL (R652). A write that OWNER forbids is also reported under
R59. -/
def Dev.dapPut (size64 autoinc : Bool) (sp a v : Nat) (d : Dev) : Dev :=
  let n := if size64 then 8 else 4
  let a := a % 2 ^ 32
  let d := d.dapNote size64 autoinc sp a
  if d.life.fatal then
    (if sp = 0 ∧ n = 4 ∧ a = PT.DBG.addr 0 Reg.DBG_DBG_CTL ∧ nbit v 0 ∧ d.dbg.level = 2 then (d.dbgLock d.dapReq).dapReply 0 0 else d.dapDenied)
  else if a % n ≠ 0 then d.dapDenied
  else if !d.dapReach true sp a then
    let d := if sp = 0 ∧ d.dbg.level ≠ 0 then d.writeBar d.dapReq a n v else d
    let d := if sp = 3 ∧ d.dbg.level = 1 ∧ a < optWin then d.raiseErr .BFL 0 2 noDetail else d
    d.dapDenied
  else d.dapDoWrite sp a n v

/-- DAP_WRITE. -/
def execDapWrite (size64 autoinc : Bool) (space addr : Nat) (data : W64) (s : State) : Host.Outcome State Fault Refusal :=
  runFab (Dev.dapScan (Dev.dapPut size64 autoinc space addr data.toNat)) s

/-- DAP_NOP: collects the previous access's reply. -/
def execDapNop (s : State) : Host.Outcome State Fault Refusal := run (Dev.dapScan id) s

/-! ### What waits for the secure pair -/

/-- Once the secure pair runs, what waited for it is done, oldest first (R650). -/
def Dev.sxDrain (d : Dev) : Dev :=
  if d.sxHalted ∨ d.life.fatal ∨ d.dbg.sxWait.isEmpty then d
  else d.dbg.sxWait.foldl (fun d w => match w with
    | .key op blob => (d.keyAct op blob).setRegF .KEY 0 Reg.KEY_KEY_STS 0 1 0
    | .mailbox slot act ready => d.mailboxAct slot act ready
    | .auth ty src serial proto ok => d.authAct ty src serial proto ok) { d with dbg := { d.dbg with sxWait := [] } }

end Sys2Proof.Machine
end

