-- ==== Sys2Proof/Machine/Objects.lean ====
section
/-! DEFINITION. Object commands and compaction (spec/10_services.md R349 to R356, spec/04_command_queues.md R121, spec/13_cipher_cells.md
R454, R455, R461). -/
namespace Sys2Proof.Machine
open Sys2Proof

/-! ### Names and generations -/

/-- Live object of a name (R350: byte for byte). -/
def Store.objOf (v : Store) (name : List Byte) : Option Obj := v.objs.find? (fun o => o.name == name)

/-- Current generation of a name, 0 when absent. -/
def Store.genOf (v : Store) (name : List Byte) : Nat := match v.objOf name with
  | some o => o.gen
  | none => 0

/-- An earlier PUT or DELETE to the same name has not completed, or has not yet read its name (R121). -/
def Dev.nameWaits (d : Dev) (f : Flight) (name : List Byte) : Bool :=
  (d.flights.takeWhile (fun x => !(x.q == f.q && x.tag == f.tag))).any (fun x =>
    x.key == f.key && (x.cmd.opcode == 0x20 || x.cmd.opcode == 0x22) && (x.stage == .run || x.name == name))

/-- Take up an object command with the name read from ARG1: a name of length 0 is not read. -/
def Dev.takeNamed (d : Dev) (q tag op : Nat) (name : List Byte) (go : Dev → Flight → Dev) : Dev :=
  d.take q tag op false (fun d f =>
    if f.cmd.nameLen = name.length ∨ f.cmd.nameLen = 0 then go d { f with name := if f.cmd.nameLen = 0 then [] else name } else d)

/-! ### Directory (R350, R353, R455) -/

/-- Entries of a directory sector: live objects, and objects that PUTs in flight will create. -/
def Dev.dirEntries (d : Dev) (k : Nat) (v : Store) (s : Nat) : Nat :=
  (v.objs.filter (fun o => o.dir == s)).length +
    ((d.onRecord k).filter (fun f => f.cmd.opcode == 0x20 && (match f.obj with
      | some o => o.dir == s && (v.objOf o.name).isNone
      | none => false))).length

/-- First number from `b` on, among `n`, that satisfies `p`. -/
def firstFrom (p : Nat → Bool) : Nat → Nat → Option Nat
  | 0, _ => none
  | n + 1, b => if p b then some b else firstFrom p n (b + 1)

/-- Directory sector of a name: its object's, or the lowest with a free entry of its 8 (DESIGN CHOICE of the sector). -/
def Dev.dirFor (d : Dev) (k : Nat) (v : Store) (name : List Byte) : Option Nat := match v.objOf name with
  | some o => some o.dir
  | none => firstFrom (fun s => decide (d.dirEntries k v s < 8)) (v.dirBands * 4096) 0

/-- A sealed directory sector does not open: another slot, or a generation other than the slot's and the one before (R455). -/
def Dev.sealBad (d : Dev) (k : Nat) (v : Store) (dir : Nat) : Bool :=
  v.enc && (match mget d.seals (k % 65536 * 2 ^ 20 + dir) with
    | none => false
    | some x => match d.recordSlot v with
      | none => true
      | some s => match d.key s with
        | none => true
        | some y => x != s * 256 + y.gen && !(decide (0 < y.gen) && x == s * 256 + (y.gen - 1)))

/-- Complete with the SEAL failure of R455, or go on. -/
def Dev.openDir (d : Dev) (f : Flight) (k : Nat) (v : Store) (dir : Nat) (go : Dev → Dev) : Dev :=
  if d.sealBad k v dir then d.post f St.mediaUncorr 0 4 0 0 f.cmd.addr 0 else go d

/-! ### Extents (R351) -/

/-- Lowest data band without map entry, cached sector or object on its way. -/
def Dev.freeDataBand (d : Dev) (v : Store) : Option Nat :=
  let cached := d.cachedBands
  let taken := d.flights.flatMap (fun f => f.bands ++ (f.obj.map (fun (o : Obj) => o.band)).toList)
  firstFrom (fun b => (d.band b).isNone && !cached.contains b && !taken.contains b && (match v.fill with
    | some (x, _) => x != b
    | none => true)) (v.bands - v.dirBands) (v.base + v.dirBands)

/-- Where an extent of `len` sectors goes: band, first sector, and the fill band after it. -/
def Dev.placeExtent (d : Dev) (v : Store) (len : Nat) : Option (Nat × Nat × Option (Nat × Nat)) :=
  let fresh := (d.freeDataBand v).map (fun b => (b, 0, if len = 4096 then v.fill else some (b, len)))
  match v.fill with
  | some (b, n) => if len < 4096 ∧ n + len ≤ 4096 then some (b, n, some (b, n + len)) else fresh
  | none => fresh

/-- Slot whose GCM counter a directory write needs and that is EXHAUSTED (R461). -/
def Dev.exhausted (d : Dev) (v : Store) : Option Nat :=
  if !v.enc then none else match d.recordSlot v with
    | some n => match d.key n with
      | some x => if x.state = 2 then some n else none
      | none => none
    | none => none

/-- KEY_EXHAUSTED of a PUT or DELETE (R454, R461). -/
def Dev.keyDeny (d : Dev) (v : Store) (put : Bool) : Option Deny := match d.exhausted v with
  | some n => some ⟨St.keyExhausted, n, 0⟩
  | none => denyIf (put && decide (2 ^ 48 - 1 ≤ v.extents)) St.keyExhausted 0

/-- CONFLICT of a conditional PUT or DELETE (R121). -/
def Flight.genDeny (f : Flight) (v : Store) : Option Deny :=
  if !f.cmd.any && f.cmd.expectGen != v.genOf f.name then some ⟨St.conflict, 0, v.genOf f.name⟩ else none

/-! ### The commands -/

/-- Bands that a PUT would map: its data band and its directory band. -/
def Dev.putBands (d : Dev) (v : Store) (dir : Nat) (band : Nat) : List Nat :=
  ([v.base + dir / 4096, band].eraseDups).filter (fun b => (d.band b).isNone)

/-- What PUT adds to the checks (R121, R350, R351, R353, R355). -/
def Dev.putChecks (d : Dev) (f : Flight) (k : Nat) (v : Store) : OpChecks :=
  let len := extentLen f.cmd.count
  let dir := d.dirFor k v f.name
  let ext := d.placeExtent v len
  { bad := v.genOf f.name == 2 ^ 48 - 1
    absent := false, denied := false
    late := firstDeny [denyIf dir.isNone St.quota 5, denyIf ext.isNone St.quota 4,
      (match dir, ext with
        | some s, some e => d.quotaDeny v (d.putBands v s e.1)
        | _, _ => none), d.keyDeny v true, f.genDeny v] }

/-- PUT reserves its extent and its bands, takes its extent ID, and goes to its gate. DEDUCED: it is charged its extent and its directory
sector. -/
def Dev.putGo (d : Dev) (f : Flight) (k : Nat) (v : Store) : Dev :=
  let len := extentLen f.cmd.count
  match d.dirFor k v f.name, d.placeExtent v len with
  | some dir, some (band, start, fill) =>
    d.openDir f k v dir (fun d =>
      let o : Obj := { name := f.name, gen := v.genOf f.name + 1, len := f.cmd.addr, sects := f.cmd.count, created := 0, band := band
                       start := start, extent := v.extents + 1, dir := dir }
      let bands := d.putBands v dir band
      (d.mapStore k (fun v => { v with fill := fill, extents := v.extents + 1 })).toGate
        { f with obj := some o, charge := len + 1, moved := f.cmd.count, bands := bands })
  | _, _ => d

/-- PUT: `name` is what the device read from ARG1. -/
def execPut (q tag : Nat) (name : List Byte) (s : State) : Host.Outcome State Fault Refusal :=
  runCmd (fun d => d.takeNamed q tag 0x20 name (fun d f =>
    if d.nameWaits f f.name then d else d.onChecked f (d.putChecks f) (fun d k v => d.putGo f k v))) s

/-- What GET adds to the checks (R121, R355): a range inside the object. -/
def Flight.getChecks (f : Flight) (v : Store) : OpChecks :=
  { OpChecks.none with
    bad := f.cmd.refTag != f.cmd.addr / 4096 % 2 ^ v.tagBits ||
      (match v.objOf f.name with
        | some o => decide (o.sects < f.cmd.addr / 4096 + f.cmd.count)
        | none => false)
    absent := (v.objOf f.name).isNone }

/-- GET: the name resolved once, its generation read to the end (R353, R355). -/
def execGet (q tag : Nat) (name : List Byte) (s : State) : Host.Outcome State Fault Refusal :=
  runCmd (fun d => d.takeNamed q tag 0x21 name (fun d f => d.onChecked f
    (fun _ v => f.getChecks v)
    (fun d k v => match v.objOf f.name with
      | some o => d.openDir f k v o.dir (fun d =>
          let f := { f with obj := some o, result := o.gen }
          d.toGate { f with charge := d.readCharge v f, moved := f.cmd.count })
      | none => d))) s

/-- DELETE (R121): at installation its directory entry goes. DEDUCED: it is charged its directory sector. -/
def execDelete (q tag : Nat) (name : List Byte) (s : State) : Host.Outcome State Fault Refusal :=
  runCmd (fun d => d.takeNamed q tag 0x22 name (fun d f =>
    if d.nameWaits f f.name then d else d.onChecked f
      (fun _ v => { OpChecks.none with
        absent := f.cmd.any && (v.objOf f.name).isNone
        late := firstDeny [d.keyDeny v false, f.genDeny v] })
      (fun d k v => match v.objOf f.name with
        | some o => d.openDir f k v o.dir (fun d => d.toGate { f with obj := some o, charge := 1 })
        | none => d))) s

/-- The STAT sector (R356). -/
def statSector (o : Obj) : List Byte :=
  let head := leBytes 8 o.gen ++ leBytes 4 o.len ++ leBytes 4 o.sects ++ leBytes 4 o.created ++ leBytes 1 o.name.length ++ zeros 11 ++ o.name
  head ++ zeros (4096 - head.length)

/-- STAT. -/
def execStat (q tag : Nat) (name : List Byte) (s : State) : Host.Outcome State Fault Refusal :=
  runCmd (fun d => d.takeNamed q tag 0x23 name (fun d f => d.onChecked f
    (fun _ v => { OpChecks.none with absent := (v.objOf f.name).isNone })
    (fun d k v => match v.objOf f.name with
      | some o => d.openDir f k v o.dir (fun d =>
          d.toGate { f with obj := some o, result := o.gen, moved := 1, jobs := [⟨0, 0, .got (statSector o) 0 0 0⟩] })
      | none => d))) s

/-! ### Compaction (R354) -/

/-- A sector as a line for another place: from the cache, from media (poisoned where it is lost), or zeroed. -/
def Dev.sectorLine (d : Dev) (b sec : Nat) (lost : List Nat) (tint target : Nat) : Line :=
  match mget d.cache (b * 4096 + sec) with
  | some l => l
  | none =>
    let zero : Line := { stored := .zero, guard := 0, app := 0, ref := 0, zero := true, poison := 0, install := 0, target := target
                         tint := tint, gate := 10, atUs := 0, placed := false }
    match d.lookup b sec with
    | .zeros => zero
    | .at m => match d.relocated b sec false lost m (mget d.media m) with
      | none => zero
      | some c => if c.pad then zero else { zero with stored := c.stored, guard := c.guard, app := c.app, ref := c.ref, zero := false, poison := c.poison }

/-- Data bands of a namespace due for compaction, with the object to move next. -/
def Store.compactObj (v : Store) (b : Nat) : Option Obj :=
  let n := v.liveIn b
  let filling : Bool := match v.fill with
    | some (x, _) => x == b
    | none => false
  if v.compact = 0 ∨ n = 0 ∨ v.compact < n ∨ filling ∨ b < v.base + v.dirBands ∨ v.base + v.bands ≤ b then none
  else v.objs.find? (fun o => o.band == b)

/-- What a directory write of compaction goes under: the namespace's owner, gate G10. -/
def Dev.compactFlight (d : Dev) (owner : Nat) : Flight :=
  { q := 0, tag := 0, cmd := d.slotCmd 0 0, qe := 0, tint := owner, stage := .run, gate := 10, charge := 0, moved := 0, jobs := [], staged := []
    name := [], obj := none, bands := [], resv := 0, result := 0, order := 0, descs := [] }

/-- What compaction does with an object of data band `at_.1` once its rows have passed G10: its sectors and its directory entry at their new
place `at_.2`. -/
def Dev.compactWork (d : Dev) (k : Nat) (v : Store) (o : Obj) (at_ : Nat × Nat × Nat) (fill : Option (Nat × Nat)) (lost : List Nat) : Dev :=
  match d.dirWrite (d.compactFlight v.owner) k v o.dir with
  | none => d
  | some w =>
    let band := at_.1
    let b := at_.2.1
    let start := at_.2.2
    let len := extentLen o.sects
    let w := w.jobReads band lost (d.readKeys band ((List.range len).map (fun i => o.start + i)))
    let w := (List.range len).foldl (fun (w : Dev) i =>
      w.putLine (b * 4096 + (start + i)) (d.sectorLine band (o.start + i) lost v.owner (k % 65536))) w
    w.mapStore k (fun v => { v with
      fill := fill
      objs := v.objs.map (fun x => if x = o then { x with band := b, start := start } else x) })

/-- COMPACTION: the next live object of data band `band` moves into the fill band and its directory entry switches, in one step; `lost`
lists the sectors of the band that its reads do not recover. The band is unmapped once no object is left in it. -/
def Dev.compaction (ns band : Nat) (lost : List Nat) (d : Dev) : Dev :=
  let k := storeKey 2 ns
  match d.liveStore k with
  | none => d
  | some v => match v.compactObj band with
    | none => d
    | some o =>
      let len := extentLen o.sects
      match d.placeExtent v len with
      | none => d
      | some (b, start, fill) =>
        let bands := d.putBands v o.dir b
        let keys := v.dirKey o.dir :: (List.range len).map (fun i => b * 4096 + (start + i))
        if !d.mayRelocate || d.cacheHeld || d.quotaTest v.owner bands != 0 ||
            decide (d.cacheLines < d.cacheUsed + d.newLines keys) then d
        else
          d.job 10 band false ((List.range ((len + 255) / 256)).map (fun r => 2 * min 256 (len - 256 * r)))
            (fun d => d.compactWork k v o (band, b, start) fill lost)

def execCompaction (ns band : Nat) (lost : List Nat) (s : State) : Host.Outcome State Fault Refusal :=
  runCmd (Dev.compaction ns band lost) s

end Sys2Proof.Machine
end

