-- ==== Sys2Proof/Machine/Sideband.lean ====
section
/-! DEFINITION. Meanings of the I3C sideband commands (spec/22_package_and_pins.md R634 to R639). A read command stands for the
target write and the target read that follows it. -/
namespace Sys2Proof.Machine
open Sys2Proof

/-- The target acknowledges its addresses: from BOOT entry to the next RESET or FLUSH entry (R634). -/
def Dev.i3cUp (d : Dev) : Bool := match d.life.mode with
  | .backup | .reset | .flush => false
  | _ => true

/-- The management window's requester (R57, R635). -/
abbrev i3cReq : Requester := { dom := .host, i3c := true }

/-- STATUS codes of R636. -/
abbrev i3cOk : Byte := 0#8
abbrev i3cBusy : Byte := 1#8
abbrev i3cBad : Byte := 2#8

/-- A command that is refused: BAD_CMD, PROTOCOL, ERR_CNT; nothing is written (R636, R639). -/
def Dev.i3cRefuse (d : Dev) : Dev := ((d.incWrap .SBD 0 Reg.SBD_ERR_CNT 1).raiseErr .SBD 0 0 noDetail).i3cReply [i3cBad]

/-- An accepted command: counted, and a read result not collected is discarded, as is that of a read that a member has still to answer. -/
def Dev.i3cTake (d : Dev) : Dev :=
  ({ d with
    sbd := { d.sbd with resp := none }
    fab := { d.fab with proxies := d.fab.proxies.map (fun (e : Proxy) => if e.sink == ProxyTo.i3c then { e with sink := .gone } else e) } }).incWrap .SBD 0 Reg.SBD_CMD_CNT 1

/-- A read in PATROL that the AON domain does not answer is the I3C wake source (R600). -/
def Dev.i3cWake (d : Dev) (a : Nat) : Dev :=
  let quiet : Bool := match d.spot i3cReq a with
    | .page p _ _ => patrolReads.contains p
    | _ => false
  if d.life.mode = .patrol ∧ !quiet ∧ d.life.wakeReq.isNone then { d with life := { d.life with wakeReq := some .i3c } } else d

/-- READ32 and READ64 (`n` 4 or 8). -/
def Dev.i3cRead (a n : Nat) (d : Dev) : Dev :=
  if !d.i3cUp then d
  else if a % n ≠ 0 ∨ 2 ^ 32 ≤ a then d.i3cRefuse
  else
    let d := d.i3cTake
    let v := d.readSpace i3cReq a n
    (d.i3cWake a).readVia i3cReq a n v .i3c

/-- READ32. -/
def execRead32 (addr : Nat) (s : State) : Host.Outcome State Fault Refusal := run (Dev.i3cRead addr 4) s

/-- READ64. -/
def execRead64 (addr : Nat) (s : State) : Host.Outcome State Fault Refusal := run (Dev.i3cRead addr 8) s

/-- WRITE32 and WRITE64. -/
def Dev.i3cWrite (a n v : Nat) (d : Dev) : Dev :=
  if !d.i3cUp then d
  else if a % n ≠ 0 ∨ 2 ^ 32 ≤ a then d.i3cRefuse
  else d.i3cTake.writeBar i3cReq a n v

/-- WRITE32. -/
def execWrite32 (addr : Nat) (value : W32) (s : State) : Host.Outcome State Fault Refusal := runFab (Dev.i3cWrite addr 4 value.toNat) s

/-- WRITE64. -/
def execWrite64 (addr : Nat) (value : W64) (s : State) : Host.Outcome State Fault Refusal := runFab (Dev.i3cWrite addr 8 value.toNat) s

/-! ### Recovery mailbox (R514, R637) -/

/-- The mailbox is open: SX.BOOT_STS.RECOVERY. -/
def Dev.recOpen (d : Dev) : Bool := d.regB .SX 0 Reg.SX_BOOT_STS 14

/-- REC_DATA: 64 bytes at a multiple of 64 up to 0x8_1FC0. -/
def Dev.recData (offset : Nat) (data : List Byte) (d : Dev) : Dev :=
  if !d.i3cUp then d
  else if !d.recOpen ∨ offset % 64 ≠ 0 ∨ 0x81fc0 < offset ∨ data.length ≠ 64 then d.i3cRefuse
  else
    let d := d.i3cTake
    if d.sbd.checking.isSome then d.i3cReply [i3cBusy]
    else ({ d with sbd := { d.sbd with staged := mput d.sbd.staged (offset / 64) data } }).i3cReply [i3cOk]

/-- REC_DATA. -/
def execRecData (offset : Nat) (data : List Byte) (s : State) : Host.Outcome State Fault Refusal := run (Dev.recData offset data) s

/-- REC_RUN: the check of the staged image begins; `result` is what it finds, in the coding of the SX result table (R513). -/
def Dev.recRun (result : Nat) (d : Dev) : Dev :=
  if !d.i3cUp then d
  else if !d.recOpen then d.i3cRefuse
  else
    let d := d.i3cTake
    if d.sbd.checking.isSome ∨ d.life.fatal ∨ d.life.mordant ∨ !checkCode result then d.i3cReply [i3cBusy]
    else ({ d with sbd := { d.sbd with checking := some result } }).i3cReply [i3cOk]

/-- REC_RUN. -/
def execRecRun (result : Nat) (s : State) : Host.Outcome State Fault Refusal := run (Dev.recRun result) s

/-- Byte `o` of the staging area; secure RAM that no REC_DATA has written holds a free value. -/
def Dev.stagedByte (d : Dev) (o : Nat) : Byte := match mget d.sbd.staged (o / 64) with
  | some bs => bs.getD (o % 64) 0#8
  | none => Config.freeByte (d.free + o)

/-- The check of the staged image ends: a good one runs, and its Mordant sets MAINT_REQ (R514). -/
def Dev.recFinish (d : Dev) : Dev := match d.sbd.checking with
  | none => d
  | some r =>
    let v := leNat ((List.range 4).map (fun k => d.stagedByte (8 + k)))
    let d := { d with sbd := { d.sbd with checking := none, recResult := r }, free := d.free + 12 }
    if r ≠ 1 ∨ d.life.mode ≠ .boot ∨ d.life.mordant ∨ d.life.fatal then d else (d.mordantStart v).askMaint

/-- REC_STATUS: result, OPEN, CHECKING. -/
def Dev.recStatus (d : Dev) : Dev :=
  if !d.i3cUp then d
  else if !d.recOpen then d.i3cRefuse
  else d.i3cTake.i3cReply (i3cOk :: leBytes 4 (packF [(0, d.sbd.recResult % 8), (8, 1), (9, b2n d.sbd.checking.isSome)]))

/-- REC_STATUS. -/
def execRecStatus (s : State) : Host.Outcome State Fault Refusal := run Dev.recStatus s

/-! ### Addresses, in-band interrupts, errors (R634, R638, R639) -/

/-- DYNAMIC_ADDRESS_ASSIGN: SETDASA or ENTDAA gives a 7-bit address. -/
def execDynamicAddressAssign (addr : Nat) (s : State) : Host.Outcome State Fault Refusal :=
  run (fun d => if d.i3cUp then ({ d with sbd := { d.sbd with dyn := some (addr % 128) } }).setIrq .SBD 0 0 else d) s

/-- Send the in-band interrupt of the lowest waiting cause, when none is in progress. -/
def Dev.ibiSend (d : Dev) : Dev :=
  if !d.i3cUp || d.sbd.ibiNow != 0 || !d.regB .SBD 0 Reg.SBD_SBD_CFG 0 then d
  else match bitList d.sbd.ibi 8 with
    | c :: _ => ({ d with sbd := { d.sbd with ibi := bitClr d.sbd.ibi c, ibiNow := c } }).emit (.ibi c)
    | [] => d

/-- IN_BAND_INTERRUPT. -/
def execInBandInterrupt (s : State) : Host.Outcome State Fault Refusal := run Dev.ibiSend s

/-- IBI_ACCEPTED: the controller takes the interrupt, and the next waiting cause is sent. -/
def execIbiAccepted (s : State) : Host.Outcome State Fault Refusal :=
  run (fun d => if d.sbd.ibiNow = 0 then d else ({ d with sbd := { d.sbd with ibiNow := 0 } }).ibiSend) s

/-- I3C_PROTOCOL_ERROR: a malformed write, or a bus parity error. -/
def execI3cProtocolError (s : State) : Host.Outcome State Fault Refusal := run (fun d => if d.i3cUp then d.i3cRefuse else d) s

end Sys2Proof.Machine
end

