-- ==== Sys2Proof/Machine/Dispatch.lean ====
section
/-! DEFINITION. One arm per command: its meaning, or its rejection by name. -/
namespace Sys2Proof.Machine
open Sys2Proof

def exec (i : Instr) (s : State) : Host.Outcome State Fault Refusal :=
  match i with
  | .mainRailsRising => Sys2Proof.Machine.execMainRailsRising s
  | .bootEntry headSel testN => Sys2Proof.Machine.execBootEntry headSel testN s
  | .mordantVerified resA resB => Sys2Proof.Machine.execMordantVerified resA resB s
  | .glazeRelease resA resB => Sys2Proof.Machine.execGlazeRelease resA resB s
  | .replayComplete scanLost => Sys2Proof.Machine.execReplayComplete scanLost s
  | .pfailFall => Sys2Proof.Machine.execPfailFall s
  | .pgoodFall input => Sys2Proof.Machine.execPgoodFall input s
  | .rstNAssert => Sys2Proof.Machine.execRstNAssert s
  | .perstNAssert => Sys2Proof.Machine.execPerstNAssert s
  | .perstNRise => Sys2Proof.Machine.execPerstNRise s
  | .railMonitorTrip rail => Sys2Proof.Machine.execRailMonitorTrip rail s
  | .vbatRise => Sys2Proof.Machine.execVbatRise s
  | .oscStop => Sys2Proof.Machine.execOscStop s
  | .pllUnlock => Sys2Proof.Machine.execPllUnlock s
  | .refLost => Sys2Proof.Machine.execRefLost s
  | .pllRelocked => Sys2Proof.Machine.execPllRelocked s
  | .flush => Sys2Proof.Machine.execFlush s
  | .flushDieQuiet rank => Sys2Proof.Machine.execFlushDieQuiet rank s
  | .flushProgramDone rank => Sys2Proof.Machine.execFlushProgramDone rank s
  | .flushComplete => Sys2Proof.Machine.execFlushComplete s
  | .shutdown req => Sys2Proof.Machine.execShutdown req s
  | .shutdownComplete => Sys2Proof.Machine.execShutdownComplete s
  | .maintReq req => Sys2Proof.Machine.execMaintReq req s
  | .maintEntry => Sys2Proof.Machine.execMaintEntry s
  | .restart req => Sys2Proof.Machine.execRestart req s
  | .idleTimerExpiry => Sys2Proof.Machine.execIdleTimerExpiry s
  | .quiesceAck => Sys2Proof.Machine.execQuiesceAck s
  | .quiesceLate => Sys2Proof.Machine.execQuiesceLate s
  | .wake cause => Sys2Proof.Machine.execWake cause s
  | .workTimerExpiry => Sys2Proof.Machine.execWorkTimerExpiry s
  | .patrolTimerExpiry => Sys2Proof.Machine.execPatrolTimerExpiry s
  | .patrolEntryComplete => Sys2Proof.Machine.execPatrolEntryComplete s
  | .patrolWake results => Sys2Proof.Machine.execPatrolWake results s
  | .domainStageTimeout dom => Sys2Proof.Machine.execDomainStageTimeout dom s
  | .domainStageReady dom => Sys2Proof.Machine.execDomainStageReady dom s
  | .enSet req ty inst => Sys2Proof.Machine.execEnSet req ty inst s
  | .enClear req ty inst => Sys2Proof.Machine.execEnClear req ty inst s
  | .drain req ty inst => Sys2Proof.Machine.execDrain req ty inst s
  | .srst req ty inst => Sys2Proof.Machine.execSrst req ty inst s
  | .lock req ty inst => Sys2Proof.Machine.execLock req ty inst s
  | .startupComplete ty inst => Sys2Proof.Machine.execStartupComplete ty inst s
  | .drainComplete ty inst => Sys2Proof.Machine.execDrainComplete ty inst s
  | .ownerWrite req ty inst value => Sys2Proof.Machine.execOwnerWrite req ty inst value s
  | .injArm req ty inst value => Sys2Proof.Machine.execInjArm req ty inst value s
  | .injDone ty word => Sys2Proof.Machine.execInjDone ty word s
  | .registerWrite req place size value => Sys2Proof.Machine.execRegisterWrite req place size value s
  | .memberSelWrite req ty value => Sys2Proof.Machine.execMemberSelWrite req ty value s
  | .bar2Access write addr size value => Sys2Proof.Machine.execBar2Access write addr size value s
  | .proxyTimeout => Sys2Proof.Machine.execProxyTimeout s
  | .flr fn => Sys2Proof.Machine.execFlr fn s
  | .flrComplete fn => Sys2Proof.Machine.execFlrComplete fn s
  | .hotReset down => Sys2Proof.Machine.execHotReset down s
  | .bmeClear fn => Sys2Proof.Machine.execBmeClear fn s
  | .bmeSet fn => Sys2Proof.Machine.execBmeSet fn s
  | .mseClear fn => Sys2Proof.Machine.execMseClear fn s
  | .d3hotEntry fn => Sys2Proof.Machine.execD3hotEntry fn s
  | .d0Return fn => Sys2Proof.Machine.execD0Return fn s
  | .aspmL1Entry port sub => Sys2Proof.Machine.execAspmL1Entry port sub s
  | .l0pChange port ask => Sys2Proof.Machine.execL0pChange port ask s
  | .linkRetrain req => Sys2Proof.Machine.execLinkRetrain req s
  | .linkTrained port speed width link => Sys2Proof.Machine.execLinkTrained port speed width link s
  | .vfEnableClear => Sys2Proof.Machine.execVfEnableClear s
  | .vfEnableSet numVfs => Sys2Proof.Machine.execVfEnableSet numVfs s
  | .vfBindWrite req vf value => Sys2Proof.Machine.execVfBindWrite req vf value s
  | .dmaReadError q tag err => Sys2Proof.Machine.execDmaReadError q tag err s
  | .malformedCompletion q tag => Sys2Proof.Machine.execMalformedCompletion q tag s
  | .msixUnmask fn vector => Sys2Proof.Machine.execMsixUnmask fn vector s
  | .forerunnerDoorbell bits => Sys2Proof.Machine.execForerunnerDoorbell bits s
  | .forerunnerRead tag => Sys2Proof.Machine.execForerunnerRead tag s
  | .forerunnerWrite tag => Sys2Proof.Machine.execForerunnerWrite tag s
  | .forerunnerFlush tag => Sys2Proof.Machine.execForerunnerFlush tag s
  | .forerunnerDeallocate tag => Sys2Proof.Machine.execForerunnerDeallocate tag s
  | .forerunnerIdentify tag => Sys2Proof.Machine.execForerunnerIdentify tag s
  | .forerunnerShutdown => Sys2Proof.Machine.execForerunnerShutdown s
  | .doorbell req q bits => Sys2Proof.Machine.execDoorbell req q bits s
  | .slotWrite req q offset data => Sys2Proof.Machine.execSlotWrite req q offset data s
  | .admitNext qe => Sys2Proof.Machine.execAdmit qe s
  | .descriptorFetch q tag list => Sys2Proof.Machine.execDescriptorFetch q tag list s
  | .gateAdmit gate => Sys2Proof.Machine.execGateAdmit gate s
  | .ceilingRecompute => Sys2Proof.Machine.execCeilingRecompute s
  | .dataArrived q tag sectors => Sys2Proof.Machine.execDataArrived q tag sectors s
  | .installWaitLines q tag => Sys2Proof.Machine.execInstallWaitLines q tag s
  | .readDataWritten q tag => Sys2Proof.Machine.execReadDataWritten q tag s
  | .nop q tag => Sys2Proof.Machine.execNop q tag s
  | .read q tag => Sys2Proof.Machine.execRead q tag s
  | .write q tag => Sys2Proof.Machine.execWrite q tag s
  | .flushCmd q tag => Sys2Proof.Machine.execFlushCmd q tag s
  | .deallocate q tag => Sys2Proof.Machine.execDeallocate q tag s
  | .writeZeroes q tag => Sys2Proof.Machine.execWriteZeroes q tag s
  | .verify q tag => Sys2Proof.Machine.execVerify q tag s
  | .append q tag => Sys2Proof.Machine.execAppend q tag s
  | .streamRead q tag => Sys2Proof.Machine.execStreamRead q tag s
  | .seal q tag dst lost => Sys2Proof.Machine.execSeal q tag dst lost s
  | .streamInfo q tag => Sys2Proof.Machine.execStreamInfo q tag s
  | .put q tag name => Sys2Proof.Machine.execPut q tag name s
  | .get q tag name => Sys2Proof.Machine.execGet q tag name s
  | .delete q tag name => Sys2Proof.Machine.execDelete q tag name s
  | .stat q tag name => Sys2Proof.Machine.execStat q tag name s
  | .snapCreate q tag => Sys2Proof.Machine.execSnapCreate q tag s
  | .snapDelete q tag => Sys2Proof.Machine.execSnapDelete q tag s
  | .snapRead q tag => Sys2Proof.Machine.execSnapRead q tag s
  | .attest q tag expected => Sys2Proof.Machine.execAttest q tag expected s
  | .relocate q tag dst lost => Sys2Proof.Machine.execRelocate q tag dst lost s
  | .abort q tag => Sys2Proof.Machine.execAbort q tag s
  | .identify q tag => Sys2Proof.Machine.execIdentify q tag s
  | .updateBlock q tag data sigOk flashOk => Sys2Proof.Machine.execUpdateBlock q tag data sigOk flashOk s
  | .rawRead q tag outs soft given status => Sys2Proof.Machine.execRawRead q tag outs soft given status s
  | .rawProgram q tag data status => Sys2Proof.Machine.execRawProgram q tag data status s
  | .rawErase q tag status => Sys2Proof.Machine.execRawErase q tag status s
  | .destage b start count dst bad => Sys2Proof.Machine.execDestage b start count dst bad s
  | .logUnitHoldExpiry l bad => Sys2Proof.Machine.execLogUnitHoldExpiry l bad s
  | .merge l dst lost => Sys2Proof.Machine.execMerge l dst lost s
  | .fold dst lost => Sys2Proof.Machine.execFold dst lost s
  | .pslcTargetRecompute => Sys2Proof.Machine.execPslcTargetRecompute s
  | .gcCollect dsts lost => Sys2Proof.Machine.execGcCollect dsts lost s
  | .sbAllocate pslc purpose forHost => Sys2Proof.Machine.execSbAllocate pslc purpose forHost s
  | .eraseDone n out => Sys2Proof.Machine.execEraseDone n out s
  | .patrolVisit outs dsts lost => Sys2Proof.Machine.execPatrolVisit outs dsts lost s
  | .checkpointPass => Sys2Proof.Machine.execCheckpointPass s
  | .ckptDone => Sys2Proof.Machine.execCkptDone s
  | .format req arg marks => Sys2Proof.Machine.execFormat req arg marks s
  | .channelDiscovery ch found => Sys2Proof.Machine.execChannelDiscovery ch found s
  | .channelTraining ch => Sys2Proof.Machine.execChannelTraining ch s
  | .trainingDone ch t => Sys2Proof.Machine.execTrainingDone ch t s
  | .retrain ch eye t => Sys2Proof.Machine.execRetrain ch eye t s
  | .listSubmit ch lane lid entries => Sys2Proof.Machine.execListSubmit ch lane lid entries s
  | .entryIssue n => Sys2Proof.Machine.execEntryIssue n s
  | .entryComplete n status value => Sys2Proof.Machine.execEntryComplete n status value s
  | .entryTimeout n => Sys2Proof.Machine.execEntryTimeout n s
  | .dieResetDone n ident => Sys2Proof.Machine.execDieResetDone n ident s
  | .dieResetTimeout n => Sys2Proof.Machine.execDieResetTimeout n s
  | .suspend n => Sys2Proof.Machine.execSuspend n s
  | .resume n => Sys2Proof.Machine.execResume n s
  | .hardDecode q tag idx out => Sys2Proof.Machine.execHardDecode q tag idx out s
  | .softDecode q tag idx out => Sys2Proof.Machine.execSoftDecode q tag idx out s
  | .readRetry q tag idx out => Sys2Proof.Machine.execReadRetry q tag idx out s
  | .degradedRead q tag idx unav mismatch => Sys2Proof.Machine.execDegradedRead q tag idx unav mismatch s
  | .sramCorrected region word symbol bits port => Sys2Proof.Machine.execSramCorrected region word symbol bits port s
  | .sramUncorrectable region word upset port unit idx again => Sys2Proof.Machine.execSramUncorrectable region word upset port unit idx again s
  | .scrubPass hits => Sys2Proof.Machine.execScrubPass hits s
  | .mergeBufferTimeout word upset => Sys2Proof.Machine.execMergeBufferTimeout word upset s
  | .regionCodeWrite req region code => Sys2Proof.Machine.execRegionCodeWrite req region code s
  | .logRowParity l row res => Sys2Proof.Machine.execLogRowParity l row res s
  | .rowCloseTimeout l res => Sys2Proof.Machine.execRowCloseTimeout l res s
  | .journalPageWrite a b => Sys2Proof.Machine.execJournalPageWrite a b s
  | .journalCopyRestore n => Sys2Proof.Machine.execJournalCopyRestore n s
  | .rebuildRelocate dst lost => Sys2Proof.Machine.execRebuildRelocate dst lost s
  | .reshapeStart req value => Sys2Proof.Machine.execReshapeStart req value s
  | .reshapeStep => Sys2Proof.Machine.execReshapeStep s
  | .reshapePause => Sys2Proof.Machine.execReshapePause s
  | .flushDieChoice => Sys2Proof.Machine.execFlushDieChoice s
  | .reservedRotation bad => Sys2Proof.Machine.execReservedRotation bad s
  | .cacheSizeWrite req value => Sys2Proof.Machine.execCacheSizeWrite req value s
  | .cacheShrinkDone => Sys2Proof.Machine.execCacheShrinkDone s
  | .flushRetired seq => Sys2Proof.Machine.execFlushRetired seq s
  | .forcePfail req => Sys2Proof.Machine.execForcePfail req s
  | .forceCut req => Sys2Proof.Machine.execForceCut req s
  | .provCreate req kind => Sys2Proof.Machine.execProvCreate req kind s
  | .provDelete req kind => Sys2Proof.Machine.execProvDelete req kind s
  | .provLoad req kind => Sys2Proof.Machine.execProvLoad req kind s
  | .provModify req kind => Sys2Proof.Machine.execProvModify req kind s
  | .compaction ns band lost => Sys2Proof.Machine.execCompaction ns band lost s
  | .grantSet req tint => Sys2Proof.Machine.execGrantSet req tint s
  | .grantRemove req tint => Sys2Proof.Machine.execGrantRemove req tint s
  | .grantLookup req tint => Sys2Proof.Machine.execGrantLookup req tint s
  | .keyRefWrite req tint n value => Sys2Proof.Machine.execKeyRefWrite req tint n value s
  | .portReset port cause => Sys2Proof.Machine.execPortReset port cause s
  | .tpPerstRise port => Sys2Proof.Machine.execTpPerstRise port s
  | .tpBindWrite req port value => Sys2Proof.Machine.execTpBindWrite req port value s
  | .pushFrame port queue tag flags rsv len offset bad payload => Sys2Proof.Machine.execPushFrame port queue tag flags rsv len offset bad payload s
  | .flDetectTimeout n => Sys2Proof.Machine.execFlDetectTimeout n s
  | .flProbe n found => Sys2Proof.Machine.execFlProbe n found s
  | .flTrained n width => Sys2Proof.Machine.execFlTrained n width s
  | .flTrainTimeout n => Sys2Proof.Machine.execFlTrainTimeout n s
  | .flLinkDown n => Sys2Proof.Machine.execFlLinkDown n s
  | .flTerminationLost n => Sys2Proof.Machine.execFlTerminationLost n s
  | .flRetrain req n => Sys2Proof.Machine.execFlRetrain req n s
  | .forceLinkLoss req n on => Sys2Proof.Machine.execForceLinkLoss req n on s
  | .hello h x => Sys2Proof.Machine.execHello h x s
  | .authHello ask => Sys2Proof.Machine.execAuthHello ask s
  | .authChallenge h => Sys2Proof.Machine.execAuthChallenge h s
  | .authResponse h serial proto ok => Sys2Proof.Machine.execAuthResponse h serial proto ok s
  | .memberUpdate h entries => Sys2Proof.Machine.execMemberUpdate h entries s
  | .heartbeat h time mode => Sys2Proof.Machine.execHeartbeat h time mode s
  | .heartbeatTimer => Sys2Proof.Machine.execHeartbeatTimer s
  | .heartbeatLoss n => Sys2Proof.Machine.execHeartbeatLoss n s
  | .linkState h mask => Sys2Proof.Machine.execLinkState h mask s
  | .messageRetryTimeout seq => Sys2Proof.Machine.execMessageRetryTimeout seq s
  | .barrier req => Sys2Proof.Machine.execBarrier req s
  | .broadcast req => Sys2Proof.Machine.execBroadcast req s
  | .immediateTimeSync req => Sys2Proof.Machine.execImmediateTimeSync req s
  | .barrierArrive h id count => Sys2Proof.Machine.execBarrierArrive h id count s
  | .barrierRelease h id => Sys2Proof.Machine.execBarrierRelease h id s
  | .bcast h id kind words => Sys2Proof.Machine.execBcast h id kind words s
  | .bcastAck h id count result => Sys2Proof.Machine.execBcastAck h id count result s
  | .snapPrepare h vol id reqId tint q tag => Sys2Proof.Machine.execSnapPrepare h vol id reqId tint q tag s
  | .snapHeld h id count result => Sys2Proof.Machine.execSnapHeld h id count result s
  | .snapCommit h vol id cal => Sys2Proof.Machine.execSnapCommit h vol id cal s
  | .snapDone h id count result q tag => Sys2Proof.Machine.execSnapDone h id count result q tag s
  | .snapAbort h vol id => Sys2Proof.Machine.execSnapAbort h vol id s
  | .timeSyncTimer => Sys2Proof.Machine.execTimeSyncTimer s
  | .timeSync h tHead corr seq => Sys2Proof.Machine.execTimeSync h tHead corr seq s
  | .timeEcho h t1 t2 t3 => Sys2Proof.Machine.execTimeEcho h t1 t2 t3 s
  | .fabricReset req => Sys2Proof.Machine.execFabricReset req s
  | .resetPrepare h id => Sys2Proof.Machine.execResetPrepare h id s
  | .resetReady h id count => Sys2Proof.Machine.execResetReady h id count s
  | .resetAt h id tReset => Sys2Proof.Machine.execResetAt h id tReset s
  | .fabricResetTime => Sys2Proof.Machine.execFabricResetTime s
  | .resetReadyTimeout => Sys2Proof.Machine.execResetReadyTimeout s
  | .stripeWrite h vol stripe first xid secs => Sys2Proof.Machine.execStripeWrite h vol stripe first xid secs s
  | .stripeAck h xid status detail => Sys2Proof.Machine.execStripeAck h xid status detail s
  | .shardWrite h vol shard stripe first wseq secs => Sys2Proof.Machine.execShardWrite h vol shard stripe first wseq secs s
  | .shardAck h vol shard status stripe wseq => Sys2Proof.Machine.execShardAck h vol shard status stripe wseq s
  | .shardRead h vol shard stripe first count replyTo xid snap => Sys2Proof.Machine.execShardRead h vol shard stripe first count replyTo xid snap s
  | .shardData h xid status secs => Sys2Proof.Machine.execShardData h xid status secs s
  | .jnlMirror h x secs => Sys2Proof.Machine.execJnlMirror h x secs s
  | .jnlAck h jseq => Sys2Proof.Machine.execJnlAck h jseq s
  | .proxyRd h offset size xid => Sys2Proof.Machine.execProxyRd h offset size xid s
  | .proxyWr h offset size data => Sys2Proof.Machine.execProxyWr h offset size data s
  | .proxyRsp h xid data => Sys2Proof.Machine.execProxyRsp h xid data s
  | .resync member key parts => Sys2Proof.Machine.execResync member key parts s
  | .rejoin req => Sys2Proof.Machine.execRejoin req s
  | .evict req id => Sys2Proof.Machine.execEvict req id s
  | .fabricReshapeStart req value => Sys2Proof.Machine.execFabricReshapeStart req value s
  | .fabricReshapeCopy quota secs => Sys2Proof.Machine.execFabricReshapeCopy quota secs s
  | .fabricReshapePause space => Sys2Proof.Machine.execFabricReshapePause space s
  | .cipherJobGrant group job => Sys2Proof.Machine.execCipherJobGrant group job s
  | .cipherJobDone lane => Sys2Proof.Machine.execCipherJobDone lane s
  | .keyLoad req => Sys2Proof.Machine.execKeyLoad req s
  | .derive req => Sys2Proof.Machine.execDerive req s
  | .unwrap req blob => Sys2Proof.Machine.execUnwrap req blob s
  | .roll req => Sys2Proof.Machine.execRoll req s
  | .keyErase req => Sys2Proof.Machine.execKeyErase req s
  | .eraseAll req => Sys2Proof.Machine.execEraseAll req s
  | .resealDone slot => Sys2Proof.Machine.execResealDone slot s
  | .drbgReseed => Sys2Proof.Machine.execDrbgReseed s
  | .healthFail apt samples => Sys2Proof.Machine.execHealthFail apt samples s
  | .forceAlarm req => Sys2Proof.Machine.execForceAlarm req s
  | .laneFault lane => Sys2Proof.Machine.execLaneFault lane s
  | .secOpen req alg key out compose => Sys2Proof.Machine.execSecOpen req alg key out compose s
  | .secUpdate req bytes => Sys2Proof.Machine.execSecUpdate req bytes s
  | .secFinal req expected => Sys2Proof.Machine.execSecFinal req expected s
  | .secAbort req => Sys2Proof.Machine.execSecAbort req s
  | .digestContextGrant => Sys2Proof.Machine.execDigestContextGrant s
  | .digestBlock => Sys2Proof.Machine.execDigestBlock s
  | .digestCleared what => Sys2Proof.Machine.execDigestCleared what s
  | .loopSample power readLat edge => Sys2Proof.Machine.execLoopSample power readLat edge s
  | .loopCommit req n => Sys2Proof.Machine.execLoopCommit req n s
  | .delayClr req n => Sys2Proof.Machine.execDelayClr req n s
  | .loopMemUncorr n => Sys2Proof.Machine.execLoopMemUncorr n s
  | .traceArm req b => Sys2Proof.Machine.execTraceArm req b s
  | .traceFire req b => Sys2Proof.Machine.execTraceFire req b s
  | .traceStop req b => Sys2Proof.Machine.execTraceStop req b s
  | .flashProgram req offset words => Sys2Proof.Machine.execFlashProgram req offset words s
  | .flashErase req addr => Sys2Proof.Machine.execFlashErase req addr s
  | .programOption req offset words => Sys2Proof.Machine.execProgramOption req offset words s
  | .programOtp req offset words => Sys2Proof.Machine.execProgramOtp req offset words s
  | .flashId req => Sys2Proof.Machine.execFlashId req s
  | .flashReadMode req => Sys2Proof.Machine.execFlashReadMode req s
  | .flashOpDone => Sys2Proof.Machine.execFlashOpDone s
  | .flashOpTimeout => Sys2Proof.Machine.execFlashOpTimeout s
  | .mailboxRequest slot act ready => Sys2Proof.Machine.execMailboxRequest slot act ready s
  | .recData offset data => Sys2Proof.Machine.execRecData offset data s
  | .recRun result => Sys2Proof.Machine.execRecRun result s
  | .recStatus => Sys2Proof.Machine.execRecStatus s
  | .block h data sigOk flashOk => Sys2Proof.Machine.execBlock h data sigOk flashOk s
  | .blockAck h status index pkg => Sys2Proof.Machine.execBlockAck h status index pkg s
  | .report h status pkg => Sys2Proof.Machine.execReport h status pkg s
  | .applyComplete flashBad mordant => Sys2Proof.Machine.execApplyComplete flashBad mordant s
  | .updateAbort req => Sys2Proof.Machine.execUpdateAbort req s
  | .commit req => Sys2Proof.Machine.execCommit req s
  | .confirm req => Sys2Proof.Machine.execConfirm req s
  | .rollback req => Sys2Proof.Machine.execRollback req s
  | .keyImport req slot => Sys2Proof.Machine.execKeyImport req slot s
  | .importPub req => Sys2Proof.Machine.execImportPub req s
  | .optionWrite req flashOk => Sys2Proof.Machine.execOptionWrite req flashOk s
  | .otpOperator req flashOk => Sys2Proof.Machine.execOtpOperator req flashOk s
  | .debugFullOff req flashOk => Sys2Proof.Machine.execDebugFullOff req flashOk s
  | .settingsSave req flashOk => Sys2Proof.Machine.execSettingsSave req flashOk s
  | .settingsClear req flashOk => Sys2Proof.Machine.execSettingsClear req flashOk s
  | .updPrepare h id pkg target => Sys2Proof.Machine.execUpdPrepare h id pkg target s
  | .updGo h id pkg t => Sys2Proof.Machine.execUpdGo h id pkg t s
  | .updAbort h id pkg => Sys2Proof.Machine.execUpdAbort h id pkg s
  | .updConfirm h id pkg => Sys2Proof.Machine.execUpdConfirm h id pkg s
  | .prepareAckTimeout => Sys2Proof.Machine.execPrepareAckTimeout s
  | .activationTime => Sys2Proof.Machine.execActivationTime s
  | .settleTimeout => Sys2Proof.Machine.execSettleTimeout s
  | .faultEvent ty inst bit => Sys2Proof.Machine.execFaultEvent ty inst bit s
  | .railFault ty inst bit => Sys2Proof.Machine.execRailFault ty inst bit s
  | .glazeRestarted => Sys2Proof.Machine.execGlazeRestarted s
  | .svWatchdogExpiry core => Sys2Proof.Machine.execSvWatchdogExpiry core s
  | .sxWatchdogExpiry => Sys2Proof.Machine.execSxWatchdogExpiry s
  | .wdogKick req bits => Sys2Proof.Machine.execWdogKick req bits s
  | .sxKick req => Sys2Proof.Machine.execSxKick req s
  | .lockstepMismatch => Sys2Proof.Machine.execLockstepMismatch s
  | .forceLockstep req => Sys2Proof.Machine.execForceLockstep req s
  | .thermalSample t0 t1 t2 t3 => Sys2Proof.Machine.execThermalSample t0 t1 t2 t3 s
  | .forceTrip req on => Sys2Proof.Machine.execForceTrip req on s
  | .forceCrit req => Sys2Proof.Machine.execForceCrit req s
  | .firstClr req => Sys2Proof.Machine.execFirstClr req s
  | .histClr req => Sys2Proof.Machine.execHistClr req s
  | .cntClr req => Sys2Proof.Machine.execCntClr req s
  | .ovrWrite req value => Sys2Proof.Machine.execOvrWrite req value s
  | .record sev source code p0 p1 => Sys2Proof.Machine.execRecord sev source code p0 p1 s
  | .ringPageProgram okA okB => Sys2Proof.Machine.execRingPageProgram okA okB s
  | .urgentRecordTimeout => Sys2Proof.Machine.execUrgentRecordTimeout s
  | .recordHoldTimeout => Sys2Proof.Machine.execRecordHoldTimeout s
  | .ringRotation bad => Sys2Proof.Machine.execRingRotation bad s
  | .posSecond => Sys2Proof.Machine.execPosSecond s
  | .cursorWrite req value => Sys2Proof.Machine.execCursorWrite req value s
  | .viewLoaded v => Sys2Proof.Machine.execViewLoaded v s
  | .freeze req value => Sys2Proof.Machine.execFreeze req value s
  | .freezeTimeout v => Sys2Proof.Machine.execFreezeTimeout v s
  | .hrecCmd req value => Sys2Proof.Machine.execHrecCmd req value s
  | .recCntClr req => Sys2Proof.Machine.execRecCntClr req s
  | .ringClr req => Sys2Proof.Machine.execRingClr req s
  | .calSet req => Sys2Proof.Machine.execCalSet req s
  | .calAlarm => Sys2Proof.Machine.execCalAlarm s
  | .trimInterval => Sys2Proof.Machine.execTrimInterval s
  | .calSyncTimer => Sys2Proof.Machine.execCalSyncTimer s
  | .calSync h id sec sub flags t => Sys2Proof.Machine.execCalSync h id sec sub flags t s
  | .tapReset => Sys2Proof.Machine.execTapReset s
  | .idcode => Sys2Proof.Machine.execIdcode s
  | .samplePreload cells => Sys2Proof.Machine.execSamplePreload cells s
  | .extest cells => Sys2Proof.Machine.execExtest cells s
  | .highz => Sys2Proof.Machine.execHighz s
  | .bypass code => Sys2Proof.Machine.execBypass code s
  | .challenge => Sys2Proof.Machine.execChallenge s
  | .authRead => Sys2Proof.Machine.execAuthRead s
  | .authPut word => Sys2Proof.Machine.execAuthPut word s
  | .submit => Sys2Proof.Machine.execSubmit s
  | .authStatus => Sys2Proof.Machine.execAuthStatus s
  | .tokenChecked ok => Sys2Proof.Machine.execTokenChecked ok s
  | .levelExpiry => Sys2Proof.Machine.execLevelExpiry s
  | .dbgLock req => Sys2Proof.Machine.execDbgLock req s
  | .dapRead size64 autoinc space addr bad => Sys2Proof.Machine.execDapRead size64 autoinc space addr bad s
  | .dapWrite size64 autoinc space addr data => Sys2Proof.Machine.execDapWrite size64 autoinc space addr data s
  | .dapNop => Sys2Proof.Machine.execDapNop s
  | .coreHalt core => Sys2Proof.Machine.execCoreHalt core s
  | .coreResume core => Sys2Proof.Machine.execCoreResume core s
  | .coreStep core => Sys2Proof.Machine.execCoreStep core s
  | .breakpointHit core index => Sys2Proof.Machine.execBreakpointHit core index s
  | .watchpointHit core index => Sys2Proof.Machine.execWatchpointHit core index s
  | .xHalt unit => Sys2Proof.Machine.execXHalt unit s
  | .xResume unit => Sys2Proof.Machine.execXResume unit s
  | .xStep unit => Sys2Proof.Machine.execXStep unit s
  | .xBreak unit n => Sys2Proof.Machine.execXBreak unit n s
  | .read32 addr => Sys2Proof.Machine.execRead32 addr s
  | .write32 addr value => Sys2Proof.Machine.execWrite32 addr value s
  | .read64 addr => Sys2Proof.Machine.execRead64 addr s
  | .write64 addr value => Sys2Proof.Machine.execWrite64 addr value s
  | .dynamicAddressAssign addr => Sys2Proof.Machine.execDynamicAddressAssign addr s
  | .inBandInterrupt => Sys2Proof.Machine.execInBandInterrupt s
  | .ibiAccepted => Sys2Proof.Machine.execIbiAccepted s
  | .partnerTerminationFound n => Sys2Proof.Machine.execPartnerTerminationFound n s
  | .flitCrcFail n => Sys2Proof.Machine.execFlitCrcFail n s
  | .malformedTlp port kind frame => Sys2Proof.Machine.execMalformedTlp port kind frame s
  | .reshapeCapUpdate => Sys2Proof.Machine.execReshapeCapUpdate s
  | .repairRelocation n dsts lost => Sys2Proof.Machine.execRepairRelocation n dsts lost s
  | .refRestored => Sys2Proof.Machine.execRefRestored s
  | .cclkSelWrite req sel => Sys2Proof.Machine.execCclkSelWrite req sel s
  | .i3cProtocolError => Sys2Proof.Machine.execI3cProtocolError s

end Sys2Proof.Machine
end

