-- ==== Sys2Proof/Machine/Idle.lean ====
section
/-! DEFINITION. What time does while no command waits: one microsecond (the model's choice for an empty queue). -/
namespace Sys2Proof.Machine
open Sys2Proof

/-- Refill of an admission gate over one µs, up to its depth of 1,024 tokens (R24, R495). -/
def Bucket.refill (b : Bucket) : Bucket := { b with level := min 524288 (b.level + b.rate) }

/-- Refill of a tint's ceiling bucket over one µs at EFF_RATE (R393); a full one is not listed. -/
def Dev.tintRefill (d : Dev) : Dev :=
  { d with tints := mfilterMap (fun t b =>
      let b := { b with level := min (1024 * 4096) (b.level + d.regN .TNT t Reg.TNT_EFF_RATE) }
      if b = tintFull then none else some b) d.tints }

/-- The calendar over one µs: 32,768 sub-counts a second (R586). -/
def Backup.tick (b : Backup) : Backup :=
  let f := b.frac + 32768
  if f < 1000000 then { b with frac := f } else ({ b with frac := f - 1000000 }).addSub 1

/-- One µs: the clocks count, the buckets refill, and work that waited for a place or a partner goes on. -/
def Dev.tick (d : Dev) : Dev :=
  let d := { d with life := { d.life with usUp := d.life.usUp + 1 }, bak := d.bak.tick }
  if d.life.mode = .backup then d
  else (({ d with gates := d.gates.map Bucket.refill }).tintRefill.fabKick).recFinish.sxDrain.dapSettle

/-- The block idles for one µs. -/
def idle (s : State) : Host.Outcome State Fault Refusal := runFab Dev.tick s

end Sys2Proof.Machine
end

