-- ==== Sys2Proof/Safety.lean ====
section
/-! DEFINITION. The terms in which the statements speak: canonical form of the byte memories, where a command ends, when a register write is
taken, and the invariants that every step keeps. -/
namespace Sys2Proof.Machine
open Sys2Proof

/-! ### Byte memories -/

/-- Canonical form of a byte memory: addresses strictly rising, and no entry equal to what an unlisted address reads as. -/
def Memory.wf (blank : Byte) (m : List Host.Cell) : Bool := mwf m && m.all (fun e => e.2 != blank)

/-- What an unlisted byte of slot memory (R106) and of the boot flash (R516) reads as. -/
abbrev slotBlank : Byte := 0#8
abbrev flashBlank : Byte := 0xff#8

/-! ### Where a command ends -/

/-- What follows the own effect of a command that moves no command in flight: the fault collector takes the events raised (R552 to R564), and
the mode follows its conditions (R26). -/
def afterAll (d : Dev) : Dev := settle (collect d)

/-- What follows a command that may move commands in flight: shard work and fabric replies first (R416, R424 to R428). -/
def afterFlights (d : Dev) : Dev := afterAll (Dev.fabOn 64 d)

/-- What follows a command that may ask for or answer an operation of the whole fabric: the head's queue of operations, snapshot holds and
the trial's success first (R429, R361, R546). -/
def afterFabric (d : Dev) : Dev := afterFlights ((Dev.opsOn 64 d).holdsFinish.trialOk)

/-- Command `i` at device `d`, whatever waits behind it, answers the next state whose device is `tail e`, the queue unchanged: `e` is the device
after the command's own effect, `tail` what follows it; where the content of the DDT changed on the way, it is published anew (R68). -/
def Ends (tail : Dev → Dev) (i : Instr) (d e : Dev) : Prop :=
  ∀ q : List Instr, exec i ⟨q, d⟩ = .next ⟨q, Dev.published d (tail e)⟩

/-! ### What the tail of a command leaves alone -/

/-- `d` with every field that what follows a command may change set as after reset: what is left is what it never changes, slot memory, boot
flash, keys, media, bindings and VFs among it. -/
def Dev.rest (d : Dev) : Dev :=
  { d with
    life := Dev.first.life, elogs := Dev.first.elogs, regs := Dev.first.regs, evq := Dev.first.evq, out := Dev.first.out,
    fns := Dev.first.fns, gates := Dev.first.gates, pushes := Dev.first.pushes, fab := Dev.first.fab,
    flights := Dev.first.flights, dbOrder := Dev.first.dbOrder, grants := Dev.first.grants, stores := Dev.first.stores,
    ftl := Dev.first.ftl, jnl := Dev.first.jnl, gcHeld := Dev.first.gcHeld, jobRows := Dev.first.jobRows, cache := Dev.first.cache,
    recd := Dev.first.recd, sbd := Dev.first.sbd, bak := Dev.first.bak, doms := Dev.first.doms, wdog := Dev.first.wdog,
    dbg := Dev.first.dbg, dig := Dev.first.dig, chans := Dev.first.chans, listsDone := Dev.first.listsDone,
    dies := Dev.first.dies, ddtGen := Dev.first.ddtGen, pages := Dev.first.pages, traces := Dev.first.traces,
    fltSeq := Dev.first.fltSeq, free := Dev.first.free, cip := Dev.first.cip, softFenced := Dev.first.softFenced }

/-! ### Register writes that are taken -/

/-- A write by requester `r` to offset `off` of a page is taken: the bus runs, no C4 halt is in force (R556), the requester's view shows the page
(R44), OWNER lets its domain write (R58, R59), and from any domain but the secure one the register is neither OWNER nor locked (R58,
R60). -/
def Dev.takes (d : Dev) (r : Requester) (p : PT) (i off : Nat) : Bool :=
  d.busUp && !d.life.fatal && d.shows r p i && d.mayWrite r p i &&
    (r.dom == .secure || !(off == Reg.OWNER || (d.locked p i && decide (0x40 ≤ off))))

/-- The device as a taken write finds it: the wake source noted (R596) and the write counted in PAGE_SEQ (R53). -/
def Dev.taken (d : Dev) (r : Requester) (p : PT) (i : Nat) : Dev := (d.noteWake r p).countWrite p i

/-- A write that a view shows but OWNER or LOCK stops (R58 to R60). -/
def Dev.stops (d : Dev) (r : Requester) (p : PT) (i off : Nat) : Bool :=
  d.busUp && !d.life.fatal && d.shows r p i &&
    (!d.mayWrite r p i || (r.dom != .secure && (off == Reg.OWNER || (d.locked p i && decide (0x40 ≤ off)))))

/-! ### Commands of queues -/

/-- `f` is the command in tag `tag` of queue `q`, just admitted, of this opcode, from a forerunner slot or a native one (R103, R112). -/
abbrev Dev.fresh (d : Dev) (q tag op : Nat) (fore : Bool) (f : Flight) : Prop :=
  d.flight q tag = some f ∧ f.stage = .run ∧ f.cmd.opcode = op ∧ nbit f.cmd.flags 8 = fore ∧ d.awaitsGlaze op = false

/-- `f` names record `k`, which is `v`, and every check of R128 passes, `g` being what its opcode adds to them. -/
abbrev Dev.passes (d : Dev) (f : Flight) (g : Nat → Store → OpChecks) (k : Nat) (v : Store) : Prop :=
  d.denyRecord f g = none ∧ f.key = some k ∧ d.store k = some v

/-- The device in which a taken write of CMD on a provisioning page carries out its command: BUSY set (R333). -/
abbrev Dev.provBegun (d : Dev) (r : Requester) (kind : Nat) : Dev :=
  (d.taken r (kindPage kind) 0).setRegF (kindPage kind) 0 Reg.VOL_STS 0 1 1

/-! ### Background jobs -/

/-- Where no other job holds `what` and every row left passes gate `g` now, the device after the last row's charge, the job's rows forgotten:
what the job then does is done on it (R156, R160). -/
def Dev.jobEnd (d : Dev) (g what : Nat) (forced : Bool) (costs : List Nat) : Option Dev :=
  let k := g * 2 ^ 32 + what
  let n := (mget d.jobRows k).getD 0
  let r := Dev.passRows g forced (costs.drop n) n d
  if d.jobElse g what then none
  else if costs.length ≤ r.1 then some { r.2 with jobRows := mdel r.2.jobRows k }
  else none

/-! ### Messages that are heard -/

/-- A Filush message of type `ty` is heard: the device is in a fabric, lives, has no C4 halt, and the link is in the state for the type (HELLO in
HELLO or DOWN, any other in UP) (R400, R415). -/
def Dev.hears (d : Dev) (ty : Nat) (h : MsgHdr) : Bool :=
  d.fabState != 0 && decide (h.link < 6) && liveMode d.life.mode && !d.life.fatal &&
    (if ty = 1 then d.linkState h.link == 4 || d.linkState h.link == 6 else d.linkState h.link == 5)

/-- The device as a message that breaks no rule of reception finds it: the message remembered, and the device awake unless the type lets it
sleep (R27, R415, R416). -/
def Dev.heard (d : Dev) (ty : Nat) (h : MsgHdr) : Dev :=
  if quietType ty then d.noteSeen h else (d.noteSeen h).wakeFor .filush

/-! ### Invariants -/

/-- The modes that conditions choose (R26). -/
def Mode.conditional : Mode → Bool
  | .active | .degraded | .fenced | .readonly => true
  | _ => false

/-- Where no C4 halt is in force (R31): in a mode that conditions choose, the mode is the condition's of highest precedence that holds (R26);
IDLE and PATROL hold only while no condition does (R28). -/
def Dev.modeSettled (d : Dev) : Prop := d.life.fatal = false →
  (Mode.conditional d.life.mode = true → d.life.mode = d.condMode) ∧
    ((d.life.mode = .idle ∨ d.life.mode = .patrol) → d.condMode = .active)

/-- The idle timer runs exactly while the mode is ACTIVE and the idle condition holds (R594). -/
def Dev.idleSettled (d : Dev) : Prop := d.life.idleSince.isSome = true ↔ d.life.mode = .active ∧ d.idleCond = true

/-- Between commands no event waits for the collector (R552, R561). -/
def Dev.eventsTaken (d : Dev) : Prop := d.evq = []

end Sys2Proof.Machine
end

