-- ==== Sys2Proof/Certificates/Slice0/Obligations.lean ====
section
/-! DEFINITION. The statements about the device, one `def Obligations.<Name> : Prop` each. -/
open Sys2Proof Sys2Proof.Machine

/-- A step runs the command at the front of the queue on the device with the rest of the queue. From spec/opcode_table.json. Model's choices it rests on:
log entry 1. -/
def Obligations.StepRunsFront : Prop :=
  ∀ (c : Instr) (q : List Instr) (d : Dev),
      step ⟨c :: q, d⟩ = exec c ⟨q, d⟩

/-- On an empty queue a step is one microsecond of the device (the model's choice). From spec/21_supplies_clocks_reset.md, spec/19_recorder_and_clock.md.
Model's choices it rests on: log entry 1. -/
def Obligations.IdleStep : Prop :=
  (∀ (d : Dev),
      step ⟨[], d⟩ = .next ⟨[], Dev.published d (afterFabric d.tick)⟩) ∧
  (∀ (d : Dev), d.life.mode = .backup →
      d.tick = { d with life := { d.life with usUp := d.life.usUp + 1 }, bak := d.bak.tick })

/-- Every command, at every state, answers a next state with the waiting queue as it was. From spec/opcode_table.json. Model's choices it rests on: log
entry 2. -/
def Obligations.EveryCommandAnswersNext : Prop :=
  ∀ (i : Instr) (s : State),
      ∃ d : Dev, exec i s = .next ⟨s.pending, d⟩

/-- After reset: RESET mode, no C4 halt, debug level LOCKED, nothing in flight, every register at its reset value. From R33, R188, R645,
spec/02_register_pages.md. Model's choices it rests on: log entries 9, 13. -/
def Obligations.ResetState : Prop :=
  (State.reset.pending = [] ∧ State.reset.dev.life.mode = .reset ∧ State.reset.dev.life.fatal = false ∧ State.reset.dev.dbg.level = 0) ∧
  (State.reset.dev.flights = [] ∧ State.reset.dev.cache = [] ∧ State.reset.dev.keys = []) ∧
  (∀ (p : PT) (i off : Nat), p ≠ .OPT → p ≠ .FAB →
      State.reset.dev.reg p i off = resetOf p off) ∧
  (∀ (a : Nat),
      State.reset.dev.flashByte a = 0xff#8)

/-- The reset state meets the invariant of SettledAlways. From R26, R594, spec/01_architecture.md. Model's choices it rests on: log entry 9. -/
def Obligations.SettledAtReset : Prop :=

    State.reset.dev.eventsTaken ∧ State.reset.dev.modeSettled ∧ State.reset.dev.idleSettled

/-- After every step, from any state: no event waits, the mode is the one its conditions give, the idle timer runs exactly when it must. From R26, R28,
R552, R561, R594, spec/01_architecture.md, spec/18_fault_handling.md. Model's choices it rests on: log entry 3. -/
def Obligations.SettledAlways : Prop :=
  ∀ (s t : State), step s = .next t →
      t.dev.eventsTaken ∧ t.dev.modeSettled ∧ t.dev.idleSettled

/-- From the rails to the release of Glaze: each start-up command completes with the effect of its transition. From R27, R34, R511, R513, R514, R614,
R616, R617, spec/16_firmware_domains.md. Model's choices it rests on: log entries 9, 68, 83, 5, 13, 82. -/
def Obligations.StartUp : Prop :=
  (∀ (d : Dev), d.life.mode = .backup →
      Ends afterAll (.mainRailsRising) d
      (({ d with life := { d.life with rails := true } }).deviceReset true 0 false)) ∧
  (∀ (d : Dev) (headSel : Bool), d.life.mode = .reset →
      let b := ((({ d with life := { d.life with
        rstN := true, pgood := true, pfailN := true, pllLocked := true, refclk := true, strapHead := headSel, strapTest := true
        bootUs := d.life.usUp } }).setRegN .CLK 0 Reg.CLK_STRAP_STS (b2n headSel + 2)).setMode .boot).fabBoot
      Ends afterAll (.bootEntry headSel true) d
        (if (b.hostPort && b.life.perstN) = true then { b with ep := { b.ep with termination := true, cfgReady := true } } else b)) ∧
  (∀ (d : Dev) (headSel : Bool),
      Ends afterAll (.bootEntry headSel false) d d) ∧
  (∀ (d : Dev) (a b m g : Nat), d.life.mode = .boot → d.life.fatal = false → d.life.mordant = false →
      d.regB .SX 0 Reg.SX_BOOT_STS 14 = false → d.namedBanks = (m, g, false, false, 0) → checkCode a = true → checkCode b = true →
      (if m = 0 then a else b) = 1 →
      Ends afterAll (.mordantVerified a b) d
      (((((d.setRegF .SX 0 Reg.SX_BOOT_STS (if m = 0 then 1 else 4) 3 1).setRegF .SX 0 Reg.SX_BOOT_STS 0 1 m).setRegF .SX 0
        Reg.SX_BOOT_STS 15 1 0).mordantStart (((d.setRegF .SX 0 Reg.SX_BOOT_STS (if m = 0 then 1 else 4) 3 1).setRegF .SX 0 Reg.SX_BOOT_STS 0 1 m).setRegF .SX 0
        Reg.SX_BOOT_STS 15 1 0 |>.flashNat (mordantBank m + 8) 4)))) ∧
  (∀ (d : Dev) (a b : Nat), d.life.mode = .boot → d.life.fatal = false → d.life.mordant = false →
      d.regB .SX 0 Reg.SX_BOOT_STS 14 = false → 2 ≤ a → a ≤ 6 → 2 ≤ b → b ≤ 6 →
      let n := d.namedBanks.1
      Ends afterAll (.mordantVerified a b) d (((d.setRegF .SX 0 Reg.SX_BOOT_STS (if n = 0 then 1 else 4) 3 (if n = 0 then a else b)).setRegF .SX 0
        Reg.SX_BOOT_STS (if 1 - n = 0 then 1 else 4) 3 (if 1 - n = 0 then a else b)).setRegF .SX 0 Reg.SX_BOOT_STS 14 1 1)) ∧
  (∀ (d : Dev) (b : Nat), d.life.mode = .boot → d.life.fatal = false → d.life.mordant = true → d.life.glaze = .stopped →
      d.bootInForce = none → d.regF .SX 0 Reg.SX_BOOT_STS 0 1 = 0 → checkCode b = true → d.formatted = true →
      let g : Dev := (d.setRegF .SX 0 Reg.SX_BOOT_STS 8 3 1).setRegF .SX 0 Reg.SX_BOOT_STS 7 1 0
      let r : Dev := ({ g with upd := { g.upd with trialUs := g.life.usUp }, life := { g.life with glaze := .running } })
      let e := (r.setRegN .SX 0 Reg.SX_BOOT_TIME r.us).kickAll.glazeConfig
      Ends afterAll (.glazeRelease 1 b) d (if e.formatted = true then e else ({ e with life := { e.life with replayed := true } }).toMaint)) ∧
  (∀ (d : Dev) (a b : Nat), d.life.mode = .boot → d.life.fatal = false → d.life.mordant = true → d.life.glaze = .stopped →
      d.bootInForce = none → d.regF .SX 0 Reg.SX_BOOT_STS 0 1 = 0 → 2 ≤ a → a ≤ 6 → 2 ≤ b → b ≤ 6 →
      Ends afterAll (.glazeRelease a b) d
      (((d.setRegF .SX 0 Reg.SX_BOOT_STS 8 3 a).setRegF .SX 0 Reg.SX_BOOT_STS 11 3 b).toMaint)) ∧
  (∀ (d : Dev) (lost : List Nat), d.life.mode = .boot → d.life.fatal = false → d.life.glaze = .running → d.life.replayed = false →
      let r := d.replay lost
      Ends afterAll (.replayComplete lost) d (({ r with life := { r.life with replayed := true } }).pslRecompute.bootLeave)) ∧
  (∀ (d : Dev), d.isMember = false → d.life.mode ≠ .backup → d.life.mode ≠ .reset →
      Ends afterAll (.perstNRise) d
      ({ d with life := { d.life with perstN := true }, ep := { d.ep with termination := true, cfgReady := true } }))

/-- Reset inputs and rail losses: a warm source resets directly or through FLUSH, a rail below its minimum leads to BACKUP. From R27, R30, R302, R303,
R304, R614, R615, spec/21_supplies_clocks_reset.md. Model's choices it rests on: log entries 17, 36, 117. -/
def Obligations.ResetInputs : Prop :=
  (∀ (d : Dev), liveMode d.life.mode = true → ({ d with life := { d.life with rstN := false } }).dataPending = false →
      Ends afterAll (.rstNAssert) d
      (({ d with life := { d.life with rstN := false } }).deviceReset false 2 false)) ∧
  (∀ (d : Dev), liveMode d.life.mode = true → ({ d with life := { d.life with rstN := false } }).dataPending = true →
      Ends afterAll (.rstNAssert) d
      (({ d with life := { d.life with rstN := false } }).enterFlush 2)) ∧
  (∀ (d : Dev), d.isMember = false → liveMode d.life.mode = true →
      ({ d with life := { d.life with perstN := false } }).dataPending = false →
      Ends afterAll (.perstNAssert) d
      (({ d with life := { d.life with perstN := false } }).deviceReset false 3 false)) ∧
  (∀ (d : Dev), d.isMember = false → liveMode d.life.mode = true →
      ({ d with life := { d.life with perstN := false } }).dataPending = true →
      Ends afterAll (.perstNAssert) d
      (({ d with life := { d.life with perstN := false } }).enterFlush 3)) ∧
  (∀ (d : Dev), d.isMember = true →
      Ends afterAll .perstNAssert d d) ∧
  (∀ (d : Dev) (r : Rail), d.life.mode ≠ .backup →
      Ends afterAll (.railMonitorTrip r) d
      (d.toBackup))

/-- SHUTDOWN, MAINT_REQ and RESTART writes that are taken, and the completions that answer them. From R27, R34, R35, R326, R614, spec/01_architecture.md.
Model's choices it rests on: log entries 28, 69, 67. -/
def Obligations.ShutdownMaintRestart : Prop :=
  (∀ (d : Dev) (r : Requester), d.takes r .DEV 0 Reg.DEV_MODE_CTL = true → d.life.shutDone = false →
      let t := d.taken r .DEV 0
      Ends afterAll (.shutdown r) d ({ t with life := { t.life with shutting := true }, recd := { t.recd with due := true } })) ∧
  (∀ (d : Dev) (r : Requester), d.takes r .DEV 0 Reg.DEV_MODE_CTL = true → d.life.shutDone = true →
      let t := d.taken r .DEV 0
      Ends afterAll (.shutdown r) d (t)) ∧
  (∀ (d : Dev), d.life.shutting = true → d.flights = [] → d.cache = [] → d.fab.stripes = [] → d.ftl.logs = [] → d.recd.pending = [] →
      d.life.replayed = true →
      let g := (d.closeOpen.journalDown.newGen true).mapGen (fun g => { g with done := g.plan.map List.length, ended := true })
      ∃ e, Ends afterAll .shutdownComplete d { e with life := { e.life with shutting := false, shutDone := true } } ∧
        e = (match g.plp.gens.getLast? with
          | some x => g.showFlush x
          | none => g)) ∧
  (∀ (d : Dev), d.life.shutting = true → d.flights = [] → d.cache = [] → d.fab.stripes = [] → d.ftl.logs = [] → d.recd.pending = [] →
      d.life.replayed = false → d.life.mode = .maint →
      Ends afterAll (.shutdownComplete) d
      ({ d with life := { d.life with shutting := false, shutDone := true } })) ∧
  (∀ (d : Dev) (r : Requester), d.takes r .DEV 0 Reg.DEV_MODE_CTL = true →
      let t := d.taken r .DEV 0
      Ends afterAll (.maintReq r) d ({ t with life := { t.life with maintReq := true } })) ∧
  (∀ (d : Dev), d.life.maintReq = true → d.life.fatal = false → Mode.conditional d.life.mode = true → d.flights = [] → d.cache = [] →
      d.fab.stripes = [] →
      Ends afterAll (.maintEntry) d
      ({ d.toMaint with recd := { d.recd with due := true } })) ∧
  (∀ (d : Dev) (r : Requester), d.takes r .DEV 0 Reg.DEV_MODE_CTL = true →
      ((d.taken r .DEV 0).wakes.life.shutDone = true ∨ (d.taken r .DEV 0).wakes.life.mode = .maint) →
      restartMode (d.taken r .DEV 0).wakes.life.mode = true → (d.taken r .DEV 0).wakes.cache = [] →
      (d.taken r .DEV 0).wakes.fab.stripes = [] →
      let t := d.taken r .DEV 0
      Ends afterAll (.restart r) d (t.wakes.journalDown.deviceReset false 4 false)) ∧
  (∀ (d : Dev) (r : Requester), d.takes r .DEV 0 Reg.DEV_MODE_CTL = true → (d.taken r .DEV 0).wakes.life.shutDone = false →
      (d.taken r .DEV 0).wakes.life.mode ≠ .maint →
      let t := d.taken r .DEV 0
      Ends afterAll (.restart r) d (t.wakes))

/-- The power-loss flush: taken falls, the plan, the pages of each rank, the end, and its two forced forms. From R227, R302, R303, R305, R312, R316, R328,
R654, spec/09_power_loss.md. Model's choices it rests on: log entries 67, 64, 5. -/
def Obligations.PowerLossFlush : Prop :=
  (∀ (d : Dev), liveMode d.life.mode = true →
      Ends afterAll (.pfailFall) d
      (({ d with life := { d.life with pfailN := false }, dbg := { d.dbg with balls := 0 } }).enterFlush 1)) ∧
  (∀ (d : Dev), liveMode d.life.mode = false →
      Ends afterAll (.pfailFall) d
      (({ d with life := { d.life with pfailN := false } }))) ∧
  (∀ (d : Dev) (p : Pgood), liveMode d.life.mode = true →
      Ends afterAll (.pgoodFall p) d
      (({ d with life := { d.life with pgood := false }, dbg := { d.dbg with balls := 0 } }).enterFlush 1)) ∧
  (∀ (d : Dev) (p : Pgood), liveMode d.life.mode = false →
      Ends afterAll (.pgoodFall p) d
      (({ d with life := { d.life with pgood := false } }))) ∧
  (∀ (d : Dev), d.life.mode = .flush → d.plp.flushing = false →
      let w : Dev := { d.stopWork with mbuf := [], sbd := { d.sbd with dyn := none, resp := none } }
      let w : Dev := { w with dbg := { w.dbg with units := w.dbg.units.filter (fun e => decide (128 ≤ e.1)) } }
      let p := w.quiesce.newGen false
      Ends afterAll .flush d { p with plp := { p.plp with flushing := true, quiet := [] } }) ∧
  (∀ (d : Dev) (n : Nat), d.plp.flushing = true → n < d.plp.dies.length → d.dieQuiet (d.plp.dies.getD n 0) = true → n ∉ d.plp.quiet →
      Ends afterAll (.flushDieQuiet n) d
      ({ d with plp := { d.plp with quiet := n :: d.plp.quiet } })) ∧
  (∀ (d : Dev) (n : Nat) (g : Gen), d.plp.flushing = true → n ∈ d.plp.quiet → d.plp.gens.getLast? = some g →
      g.done.getD n 0 < d.flushLimit g n →
      Ends afterAll (.flushProgramDone n) d
      (d.mapGen (fun g => { g with done := g.done.modify n (· + 1), durUs := d.life.usUp - d.plp.startUs }))) ∧
  (∀ (d : Dev) (g : Gen), d.plp.flushing = true → d.plp.gens.getLast? = some g → d.flushDone g = true → d.life.rails = true →
      Ends afterAll (.flushComplete) d
      ((((d.mapGen (fun g => { g with ended := true })).emit (.pin "NAND_CE_N" 1)).emit (.pin "NAND_WP_N" 0)).deviceReset false d.plp.cause true)) ∧
  (∀ (d : Dev) (g : Gen), d.plp.flushing = true → d.plp.gens.getLast? = some g → d.flushDone g = true → d.life.rails = false →
      Ends afterAll (.flushComplete) d
      ((((d.mapGen (fun g => { g with ended := true })).emit (.pin "NAND_CE_N" 1)).emit (.pin "NAND_WP_N" 0)).toBackup)) ∧
  (∀ (d : Dev) (r : Requester), r.dom = .secure → d.takes r .PLP 0 Reg.FORCE = true → liveMode d.life.mode = true →
      let t := d.taken r .PLP 0
      Ends afterAll (.forcePfail r) d (({ t with dbg := { t.dbg with balls := 0 } } : Dev).enterFlush 1)) ∧
  (∀ (d : Dev) (r : Requester), r.dom = .secure → d.takes r .PLP 0 Reg.FORCE = true →
      let t := d.taken r .PLP 0
      Ends afterAll (.forceCut r) d ({ t with plp := { t.plp with cut := true } }))

/-- Upkeep of the flush area and the cache size. From R306, R309, R311, R325, R578, R583, spec/09_power_loss.md. Model's choices it rests on: log entries
64, 67, 92. -/
def Obligations.FlushAreaAndCache : Prop :=
  (∀ (d : Dev), d.mediaMode = true → d.formatted = true → d.plp.dies ≠ d.flushChoice →
      Ends afterAll (.flushDieChoice) d
      (({ d with plp := { d.plp with dies := d.flushChoice } }).reserveSbs)) ∧
  (∀ (d : Dev) (bad : List Nat), d.mediaMode = true → d.formatted = true →
      ((10 - d.plp.usedSlots < 3 ∨ d.plp.rootPages < 2 ∨ d.recd.rotating = true)) → d.otherIndexHeld = false → d.ringFrozen = false →
      Ends afterAll (.reservedRotation bad) d
      (d.rotateReserved (!d.recd.clearing) bad)) ∧
  (∀ (d : Dev) (r : Requester) (v : W32), d.takes r .PLP 0 Reg.PLP_PLP_CFG = true →
      let t := d.taken r .PLP 0
      Ends afterAll (.cacheSizeWrite r v) d (let c := t.setRegN .PLP 0 Reg.PLP_PLP_CFG (fld v 0 8)
        if (c.life.booted && (decide (c.effMib ≤ c.cacheMib) || decide (c.cache.length ≤ linesOfMib c.cacheMib))) = true then c.setRegF .PLP 0 Reg.PLP_PLP_STS 16 8 c.cacheMib else c)) ∧
  (∀ (d : Dev), d.life.booted = true → d.cacheMib < d.effMib → d.cache.length ≤ linesOfMib d.cacheMib →
      Ends afterAll (.cacheShrinkDone) d
      (d.setRegF .PLP 0 Reg.PLP_PLP_STS 16 8 d.cacheMib)) ∧
  (∀ (d : Dev) (n : Nat) (g : Gen), d.plp.gens.find? (fun g => g.seq == n) = some g → d.life.booted = true → g.retired = false →
      d.mayRetire g = true →
      Ends afterAll (.flushRetired n) d
      (({ d with plp := { d.plp with gens := updFirst (fun g => g.seq == n) (fun g => { g with retired := true }) d.plp.gens } }).jrec [.ledger genRetired 0 0 0 0 0 0 0 n]))

/-- The idle timer, quiesce, wake, patrol and power-domain commands. From R27, R28, R592, R593, R594, R595, R596, R597, R598, R599, R602,
spec/20_power_states.md. Model's choices it rests on: log entries 35, 3, 102. -/
def Obligations.IdleAndPatrol : Prop :=
  (∀ (d : Dev) (t : Nat), d.life.idleSince = some t → d.life.fatal = false → d.life.mode = .active → d.idleCond = true →
      d.life.entry = .none → d.idleUs ≠ 0 → d.idleUs ≤ d.life.usUp - t →
      Ends afterAll (.idleTimerExpiry) d
      ({ d.setRegF .PWR 0 Reg.PWR_PWR_STS 2 1 1 with life := { d.life with entry := .quiescing } })) ∧
  (∀ (d : Dev), d.life.entry = .quiescing → d.life.fatal = false → d.life.mode = .active → d.idleCond = true →
      let o := d.entryOver false
      let a : Dev := { o.setMode .idle with doms := o.doms.modify 12 (fun x => { x with retained := true }) }
      Ends afterAll .quiesceAck d (({ a with life := { a.life with idleAt := a.life.usUp } }).incWrap .PWR 0 Reg.PWR_IDLE_CNT 1)) ∧
  (∀ (d : Dev), d.life.entry = .quiescing →
      Ends afterAll (.quiesceLate) d
      ((d.entryOver true).raiseErr .PWR 0 2 noDetail)) ∧
  (∀ (d : Dev) (c : WakeCause), d.life.entry = .none → (d.life.mode = .idle ∨ d.life.mode = .patrol) →
      Ends afterAll (.wake c) d
      (d.wakeFor c)) ∧
  (∀ (d : Dev) (c : WakeCause), d.life.entry = .quiescing → d.life.wakeReq = none →
      Ends afterAll (.wake c) d
      ({ d with life := { d.life with wakeReq := some c } })) ∧
  (∀ (d : Dev), d.life.mode = .idle → d.workDue = true →
      Ends afterAll (.workTimerExpiry) d
      (d.wakeFor .work)) ∧
  (∀ (d : Dev), d.life.mode = .idle → d.life.fatal = false → d.regF .PWR 0 Reg.PWR_PATROL_CFG 0 16 ≠ 0 → d.idleUs ≠ 0 →
      d.regF .PWR 0 Reg.PWR_PATROL_CFG 0 16 * 1000000 ≤ d.life.usUp - d.life.idleAt →
      let w := d.wakeFor .patrolTimer
      let e := w.setRegF .PWR 0 Reg.PWR_PWR_STS 2 1 1
      Ends afterAll .patrolTimerExpiry d (if w.patrolCond = true then { e with life := { e.life with entry := .patrolEntering } } else w)) ∧
  (∀ (d : Dev), d.life.entry = .patrolEntering → d.life.fatal = false → d.life.mode = .active → d.patrolCond = true → d.ftl.rows = [] →
      d.idleCond = true →
      let o := d.entryOver false
      let a : Dev := { o.setMode .patrol with doms := o.doms.mapIdx (fun i x => if i = 0 then x else if i = 10 ∨ i = 13 then { x with stage := 0, retained := true }
        else if x.st = .serving then { x with stage := 0, retained := true } else x) }
      Ends afterAll .patrolEntryComplete d (a.incWrap .PWR 0 Reg.PWR_PATROL_CNT 1)) ∧
  (∀ (d : Dev) (bits : List Nat), d.life.mode = .patrol → d.sentinels = [] →
      Ends afterAll (.patrolWake (bits.map some)) d
      (d)) ∧
  (∀ (d : Dev) (n b : Nat), d.life.mode = .patrol → d.life.fatal = false → d.wakeSentinels = [n] → b < d.patrolBits →
      Ends afterAll (.patrolWake [some b]) d
      ((d.setRegF .PWR 0 (Reg.PWR_SENT_0 + 16 * n + 12) 16 16 (min 0xfffe b)).setRegF .PWR 0 Reg.PWR_PWR_STS 4 6 ((n + 1) % 64))) ∧
  (∀ (d : Dev) (n : Nat), n < 16 → (d.dom n).stage < 4 → (d.dom n).st = .starting →
      Ends afterAll (.domainStageReady n) d
      (d.setDom n { stage := (d.dom n).stage + 1, st := if (d.dom n).stage = 3 then .serving else .starting, retained := false })) ∧
  (∀ (d : Dev) (n : Nat), 1 ≤ n → n ≤ 10 → (d.dom n).stage < 4 → (d.dom n).st = .starting →
      Ends afterAll (.domainStageTimeout n) d
      (d.raiseErrAs .PWR 0 0 2 noDetail n)) ∧
  (∀ (d : Dev) (n : Nat), (n = 0 ∨ 11 ≤ n) → n < 16 → (d.dom n).stage < 4 → (d.dom n).st = .starting →
      Ends afterAll (.domainStageTimeout n) d
      ((d.containDomain n).raiseErr .PWR 0 1 noDetail))

/-- PAGE_CTL on a page with HAS_DRAIN: what each written bit does in each state of R63. From R52, R60, R63, R65, R93, R380, R672,
spec/02_register_pages.md. Model's choices it rests on: log entries 26, 27, 21. -/
def Obligations.PageEnableMachine : Prop :=
  (∀ (d : Dev) (r : Requester) (ty i : Nat) (p : PT), PT.ofCode ty = some p → i < p.count → p.hasDrain = true →
      (¬ (p = .HQ ∧ i = 0 ∧ d.life.mode = .compat)) → d.takes r p i Reg.PAGE_CTL = true → d.unitSt p i = .off → p ≠ .TQ →
      d.unitFlr p i = false →
      let t := d.taken r p i
      Ends afterFabric (.enSet r ty i) d ((t.setUnit p i .starting).cleanUnit p i)) ∧
  (∀ (d : Dev) (r : Requester) (ty i : Nat) (p : PT), PT.ofCode ty = some p → i < p.count → p.hasDrain = true →
      (¬ (p = .HQ ∧ i = 0 ∧ d.life.mode = .compat)) → d.takes r p i Reg.PAGE_CTL = true → d.unitSt p i = .serving →
      let t := d.taken r p i
      Ends afterFabric (.enSet r ty i) d (t.setUnit p i .serving)) ∧
  (∀ (d : Dev) (r : Requester) (ty i : Nat) (p : PT) (e s : Bool), PT.ofCode ty = some p → i < p.count → p.hasDrain = true →
      (¬ (p = .HQ ∧ i = 0 ∧ d.life.mode = .compat)) → d.takes r p i Reg.PAGE_CTL = true → d.unitSt p i = .draining e s →
      let t := d.taken r p i
      Ends afterFabric (.enSet r ty i) d (t.setUnit p i (.draining true s)) ∧
        Ends afterFabric (.enClear r ty i) d ((t.setUnit p i (.draining false s)).drainCut p i)) ∧
  (∀ (d : Dev) (r : Requester) (ty i : Nat) (p : PT), PT.ofCode ty = some p → i < p.count → p.hasDrain = true →
      (¬ (p = .HQ ∧ i = 0 ∧ d.life.mode = .compat)) → d.takes r p i Reg.PAGE_CTL = true → d.unitSt p i = .serving →
      let t := d.taken r p i
      Ends afterFabric (.enClear r ty i) d (((t.setUnit p i (.draining false false)).leaveServing p i .serving).cutWork p i)) ∧
  (∀ (d : Dev) (r : Requester) (ty i : Nat) (p : PT), PT.ofCode ty = some p → i < p.count → p.hasDrain = true →
      (¬ (p = .HQ ∧ i = 0 ∧ d.life.mode = .compat)) → d.takes r p i Reg.PAGE_CTL = true → d.unitSt p i = .serving →
      let t := d.taken r p i
      Ends afterFabric (.drain r ty i) d ((t.setUnit p i (.draining false false)).leaveServing p i .serving)) ∧
  (∀ (d : Dev) (r : Requester) (ty i : Nat) (p : PT), PT.ofCode ty = some p → i < p.count → p.hasDrain = true →
      (¬ (p = .HQ ∧ i = 0 ∧ d.life.mode = .compat)) → d.takes r p i Reg.PAGE_CTL = true → d.unitSt p i = .serving →
      let t := d.taken r p i
      Ends afterFabric (.srst r ty i) d (((t.setUnit p i (.draining false true)).leaveServing p i .serving).cutWork p i)) ∧
  (∀ (d : Dev) (r : Requester) (ty i : Nat) (p : PT), PT.ofCode ty = some p → i < p.count → p.hasDrain = true →
      (¬ (p = .HQ ∧ i = 0 ∧ d.life.mode = .compat)) → d.takes r p i Reg.PAGE_CTL = true → d.unitSt p i = .off →
      let t := d.taken r p i
      Ends afterFabric (.srst r ty i) d (t.loadUnit p i)) ∧
  (∀ (d : Dev) (r : Requester) (ty i : Nat) (p : PT), PT.ofCode ty = some p → i < p.count → p.hasDrain = false → p ≠ .VF → p ≠ .PWR →
      d.takes r p i Reg.PAGE_CTL = true →
      Ends afterFabric (.srst r ty i) d ((d.taken r p i).srstPlain p)) ∧
  (∀ (d : Dev) (r : Requester) (ty i : Nat) (p : PT), PT.ofCode ty = some p → i < p.count → p ≠ .VF → p ≠ .PWR →
      (¬ (p = .HQ ∧ i = 0 ∧ d.life.mode = .compat)) → d.takes r p i Reg.PAGE_CTL = true →
      Ends afterAll (.lock r ty i) d ((d.taken r p i).setRegF p i Reg.PAGE_CTL 3 1 1)) ∧
  (∀ (d : Dev) (i : Nat), i < PT.QE.count → d.page .QE i = .starting →
      Ends afterFabric (.startupComplete PT.QE.code i) d
      (d.setPage .QE i .serving)) ∧
  (∀ (d : Dev) (ty i : Nat) (p : PT) (s : Bool), PT.ofCode ty = some p → unitExists p i = true → d.drainIdle p i = true →
      d.unitSt p i = .draining false s →
      let e := d.drainEnds p i
      Ends afterFabric (.drainComplete ty i) d ((if s = true then e.loadUnit p i else e).setUnit p i .off)) ∧
  (∀ (d : Dev) (ty i : Nat) (p : PT) (s : Bool), PT.ofCode ty = some p → unitExists p i = true → d.drainIdle p i = true →
      d.unitSt p i = .draining true s →
      let e := d.drainEnds p i
      Ends afterFabric (.drainComplete ty i) d ((((if s = true then e.loadUnit p i else e).setUnit p i .off).setUnit p i .starting).cleanUnit p i))

/-- OWNER and INJ_CTL writes, VF Enable and VF bindings. From R51, R53, R56, R58, R82, R83, R84, R85, spec/02_register_pages.md, spec/03_host_endpoint.md.
Model's choices it rests on: log entries 20, 32, 26, 108, 110, 131. -/
def Obligations.OwnerInjectionAndVfs : Prop :=
  (∀ (d : Dev) (r : Requester) (ty i : Nat) (p : PT) (v : W32), PT.ofCode ty = some p → i < p.count → r.dom = .secure →
      d.takes r p i Reg.OWNER = true →
      Ends afterAll (.ownerWrite r ty i v) d ((d.taken r p i).setOwner p i v.toNat)) ∧
  (∀ (d : Dev) (r : Requester) (ty i : Nat) (p : PT) (v : W32), PT.ofCode ty = some p → i < p.count → p.hasInj = true → fld v 25 1 = 0 →
      fld v 24 1 = 1 → d.takes r p i Reg.INJ_CTL = true →
      Ends afterAll (.injArm r ty i v) d (((d.taken r p i).setRegF p i Reg.INJ_CTL 0 24 (fld v 0 24)).setRegF p i Reg.INJ_CTL 24 1 1)) ∧
  (∀ (d : Dev) (ty i a : Nat) (p : PT), PT.ofCode ty = some p → i < p.count → p ≠ .MEM → p ≠ .LDP →
      p.injTarget (d.regF p i Reg.INJ_CTL 16 8) = true → d.regB p i Reg.INJ_CTL 24 = true →
      let e : Dev := { d with injected := (⟨p.code, i, d.regF p i Reg.INJ_CTL 16 8, a, d.regF p i Reg.INJ_CTL 0 16⟩ ::
        d.injected.filter (fun x => !(x.page == p.code && x.inst == i && x.target == d.regF p i Reg.INJ_CTL 16 8 && x.addr == a))) }
      Ends afterAll (.injDone ty ⟨i, a⟩) d ((e.setRegF p i Reg.INJ_CTL 24 1 0).setRegF p i Reg.INJ_CTL 25 1 1)) ∧
  (∀ (d : Dev) (a : Nat), d.regB .MEM 0 Reg.INJ_CTL 24 = true → regionUsed (d.regF .MEM 0 Reg.INJ_CTL 16 8) = true →
      regionAt a = d.regF .MEM 0 Reg.INJ_CTL 16 8 → a < 0x18000000 →
      let m := d.regF .MEM 0 Reg.INJ_CTL 0 16
      Ends afterAll (.injDone PT.MEM.code ⟨0, a⟩) d (((d.setWordErr a (injPattern (d.sym1 (regionAt a)) m)).setRegF .MEM 0 Reg.INJ_CTL 24 1 0).setRegF .MEM 0 Reg.INJ_CTL 25 1 1)) ∧
  (∀ (d : Dev), d.life.mode ≠ .compat → (d.fn .pf).flr = false →
      Ends afterAll .vfEnableClear d (d.vfs.foldl (fun e x => e.unitDisable .VF x.1) { d with ep := { d.ep with vfe := false } })) ∧
  (∀ (d : Dev) (n : Nat), d.life.mode ≠ .compat → (d.fn .pf).flr = false → n ≤ 255 → d.ep.vfe = false →
      Ends afterAll (.vfEnableSet n) d (d.vfs.foldl (fun e x => if x.2.want ∧ x.2.valid ∧ x.1 ≤ n then e.unitEnable .VF x.1 else e) { d with ep := { d.ep with vfe := true, vfMse := true, numVfs := n } })) ∧
  (∀ (d : Dev) (r : Requester) (n : Nat) (v : W32), 1 ≤ n → n ≤ 255 → d.bindBad n v = none →
      d.takes r .VF 0 (Reg.VF_BIND + 4 * (n - 1)) = true →
      let t := d.taken r .VF 0
      Ends afterAll (.vfBindWrite r n v) d (t.setVf n { t.vf n with
        tint := fld v 0 10, qcount := min 64 (fld v 10 7), qbase := fld v 17 11, valid := fld v 31 1 == 1
        want := (t.vf n).want && fld v 31 1 == 1 })) ∧
  (∀ (d : Dev) (r : Requester) (n b : Nat) (v : W32), 1 ≤ n → n ≤ 255 → d.bindBad n v = some b →
      d.takes r .VF 0 (Reg.VF_BIND + 4 * (n - 1)) = true →
      Ends afterAll (.vfBindWrite r n v) d ((d.noteWake r .VF).raiseErr .VF 0 b noDetail))

/-- Function resets, bus mastering, D-states and MSI-X masks of the PCIe functions. From R74, R76, R87, R88, R89, R90, R91, R92, R93, R94, R98,
spec/03_host_endpoint.md. Model's choices it rests on: log entries 33, 11, 12, 110, 137. -/
def Obligations.EndpointFunctions : Prop :=
  (∀ (d : Dev) (n : Nat), d.fnThere (.vf n) = true → (d.fn .pf).flr = false →
      Ends afterFlights (.flr (.vf n)) d
      (((d.fnQueues (.vf n)).foldl Dev.flrQueue d).setFn (.vf n) { fnReset with flr := true })) ∧
  (∀ (d : Dev), d.fnThere .pf = true →
      Ends afterFlights (.flr .pf) d
      (d.pfFlr)) ∧
  (∀ (d : Dev) (n : Nat), (d.fn (.vf n)).flr = true → (d.fn .pf).flr = false →
      let e := d.setFn (.vf n) fnReset
      Ends afterAll (.flrComplete (.vf n)) d ((e.fnQueues (.vf n)).foldl (fun e q => e.finishDrain .HQ q) e)) ∧
  (∀ (d : Dev) (down : Bool), d.fnThere .pf = true →
      Ends afterFlights (.hotReset down) d
      ((if down = true then d.setRegN .EP 0 Reg.EP_LINK_STS (d.regF .EP 0 Reg.EP_LINK_STS 10 1 * 1024) else d).pfFlr)) ∧
  (∀ (d : Dev) (f : Fn), d.fnThere f = true → (d.fn f).bme = true →
      let e := d.setFn f { d.fn f with bme := false }
      Ends afterFlights (.bmeClear f) d ((e.fnQueues f).foldl (fun e q => e.masterFreeze q) e)) ∧
  (∀ (d : Dev) (f : Fn), d.fnThere f = true → (d.fn f).flr = false → (d.fn f).resetting = false →
      Ends afterAll (.bmeSet f) d
      (d.setFn f { d.fn f with bme := true })) ∧
  (∀ (d : Dev) (f : Fn), d.fnThere f = true → (∀ n, f ≠ .vf n) →
      Ends afterAll (.mseClear f) d
      (d.setFn f { d.fn f with mse := false })) ∧
  (∀ (d : Dev) (n : Nat), d.fnThere (.vf n) = true →
      Ends afterAll (.mseClear (.vf n)) d
      ({ d with ep := { d.ep with vfMse := false } })) ∧
  (∀ (d : Dev) (f : Fn), d.fnThere f = true → (d.fn f).d3 = false → (d.fn f).flr = false → (d.fn f).resetting = false →
      let qs := (d.fnQueues f).filter (fun q => d.qSt q == .starting || d.qSt q == .serving)
      Ends afterAll (.d3hotEntry f) d ((qs.foldl (fun e q => e.unitDrain (qPage q).1 (qPage q).2) ((d.fnQueues f).foldl (fun e q => e.clearUnadmitted q) d)).setFn f { d.fn f with d3 := true, slept := qs })) ∧
  (∀ (d : Dev) (f : Fn), d.fnThere f = true → (d.fn f).d3 = true →
      Ends afterAll (.d0Return f) d
      ((d.fn f).slept.foldl (fun e q => e.unitEnable (qPage q).1 (qPage q).2) (d.setFn f { d.fn f with d3 := false, slept := [] }))) ∧
  (∀ (d : Dev) (f : Fn) (v : Nat), d.fnOpen f = true → d.fnThere f = true → v < fnVectors (d.life.mode == .compat) f →
      v ∉ (d.fn f).unmasked →
      Ends afterAll (.msixUnmask f (some v)) d
      ((d.setFn f { d.fn f with unmasked := v :: (d.fn f).unmasked }).pbaSend f)) ∧
  (∀ (d : Dev) (f : Fn), d.fnOpen f = true → d.fnThere f = true →
      Ends afterAll (.msixUnmask f none) d
      ((d.setFn f { d.fn f with fmask := false }).pbaSend f))

/-- Link training and power states, and the root PLL. From R74, R95, R96, R97, R371, R612, R613, spec/03_host_endpoint.md,
spec/21_supplies_clocks_reset.md. Model's choices it rests on: log entries 34, 37, 118, 104. -/
def Obligations.LinksAndClocks : Prop :=
  (∀ (d : Dev) (speed width : Nat) (x : FlitLink), d.mayTrain none = true → 1 ≤ speed →
      speed ≤ max 1 (min 6 (d.regF .EP 0 Reg.EP_LINK_CTL 0 3)) → [1, 2, 4, 8, 16].contains width = true →
      Ends afterAll (.linkTrained none speed width x) d
      (((d.setRegF .EP 0 Reg.EP_LINK_STS 0 10 ((if x.flit = true then speed else 1) + width * 8 + b2n x.flit * 256 + b2n (!x.flit) * 512)).setRegF .EP 0
        Reg.EP_LINK_STS 11 2 0).linkCounts none x.fec x.replays)) ∧
  (∀ (d : Dev) (sub : Nat), sub < 4 → d.mayTrain none = true → d.linkUp none = true → d.aspmAllowed none sub = true →
      Ends afterAll (.aspmL1Entry none sub) d
      (d.setRegF .EP 0 Reg.EP_LINK_STS 11 2 sub)) ∧
  (∀ (d : Dev) (t : Nat), d.mayTrain none = true → d.linkUp none = true → d.regB .EP 0 Reg.EP_LINK_STS 8 = true →
      d.regB .EP 0 Reg.EP_LINK_CTL 3 = true →
      Ends afterAll (.l0pChange none (.own t)) d
      (d.setRegF .EP 0 Reg.EP_LINK_STS 3 5 (d.l0pOwn none t))) ∧
  (∀ (d : Dev) (width : Nat), d.mayTrain none = true → d.linkUp none = true → d.regB .EP 0 Reg.EP_LINK_STS 8 = true →
      (l0pWidths none).contains width = true →
      Ends afterAll (.l0pChange none (.root width)) d
      (d.setRegF .EP 0 Reg.EP_LINK_STS 3 5 width)) ∧
  (∀ (d : Dev) (r : Requester), d.takes r .EP 0 Reg.EP_LINK_CTL = true →
      let t := d.taken r .EP 0
      Ends afterAll (.linkRetrain r) d (t.setRegF .EP 0 Reg.EP_LINK_STS 11 2 0)) ∧
  (∀ (d : Dev), d.life.mode ≠ .backup → d.life.pllLocked = true → d.life.refclk = true →
      Ends afterAll (.pllUnlock) d
      ((({ d with life := { d.life with pllLocked := false } }).incSat .CLK 0 Reg.CLK_UNLOCK_CNT 1).raiseErr .CLK 0 0 noDetail)) ∧
  (∀ (d : Dev), d.life.mode ≠ .backup → d.life.refclk = true →
      Ends afterFabric (.refLost) d
      ((({ d with life := { d.life with refclk := false, pllInternal := true, pllLocked := false } }).linksLost).raiseErr .CLK 0 1 noDetail)) ∧
  (∀ (d : Dev), d.life.mode ≠ .backup → d.life.pllLocked = false → d.life.flushPendingLock = false →
      Ends afterAll (.pllRelocked) d
      ({ d with life := { d.life with pllLocked := true } })) ∧
  (∀ (d : Dev), d.life.mode ≠ .backup → d.life.pllLocked = false → d.life.flushPendingLock = true →
      Ends afterAll (.pllRelocked) d
      (({ d with life := { d.life with pllLocked := true, flushPendingLock := false } }).enterFlush d.plp.cause)) ∧
  (∀ (d : Dev), d.life.mode ≠ .backup → d.life.refclk = false →
      Ends afterAll (.refRestored) d
      (({ d with life := { d.life with refclk := true, refUs := d.life.usUp } }).setIrq .CLK 0 0)) ∧
  (∀ (d : Dev) (r : Requester) (v : Nat), r.dom = .secure → d.takes r .CLK 0 Reg.CLK_CLK_CTL = true → d.life.mode = .maint →
      let t := d.taken r .CLK 0
      Ends afterAll (.cclkSelWrite r v) d (t.setRegF .CLK 0 Reg.CLK_CLK_CTL 0 2 v)) ∧
  (∀ (d : Dev) (r : Requester) (v : Nat), d.takes r .CLK 0 Reg.CLK_CLK_CTL = true → d.life.mode ≠ .maint →
      Ends afterAll (.cclkSelWrite r v) d (d.noteWake r .CLK))

/-- Tenant ports: resets, binding, malformed traffic and pushed frames. From R376, R377, R378, R379, R380, R381, R384, R385, R396,
spec/11_tenant_ports.md. Model's choices it rests on: log entry 49. -/
def Obligations.TenantPorts : Prop :=
  (∀ (d : Dev) (p c : Nat), p < 8 → (c = 0 ∨ c = 2) → d.page .TP p = .serving →
      let a := (portQ p).foldl (fun e i => e.tqOff i) ((d.portQueues p).foldl (fun e q => (e.masterStop q).clearUnadmitted q) d)
      let b := (a.dropPushes p).setFn (.tp p) { fnReset with resetting := true, flr := decide (c = 0) }
      Ends afterFlights (.portReset p c) d (((b.incSat .TP p Reg.TP_PORT_RESETS 1).setIrq .TP p 2).finishDrain .TP p)) ∧
  (∀ (d : Dev) (p : Nat), p < 8 →
      Ends afterAll (.tpPerstRise p) d
      ({ d with tpPerst := bitClr d.tpPerst p })) ∧
  (∀ (d : Dev) (r : Requester) (p : Nat) (v : W32), p < 8 → d.tpBindBad p v = none → d.takes r .TP p Reg.TP_TP_BIND = true →
      (v &&& 0x800003ff#32) ≠ d.reg .TP p Reg.TP_TP_BIND →
      let a := (portQ p).foldl (fun e i => e.unitReset .TQ i) (d.taken r .TP p)
      let b := (a.dropPushes p).setRegN .TP p Reg.TP_MALFORMED 0
      Ends afterAll (.tpBindWrite r p v) d
        (({ b with elogs := mdel b.elogs (256 + p), malTimes := b.malTimes.filter (fun x => x.1 != p) }).setReg .TP p Reg.TP_TP_BIND (v &&& 0x800003ff#32))) ∧
  (∀ (d : Dev) (r : Requester) (p : Nat) (v : W32) (b : Nat), p < 8 → d.tpBindBad p v = some b → d.takes r .TP p Reg.TP_TP_BIND = true →
      Ends afterAll (.tpBindWrite r p v) d ((d.noteWake r .TP).raiseErr .TP p b noDetail)) ∧
  (∀ (d : Dev) (p k : Nat), p < 8 → k < 3 → d.page .TP p = .serving → d.portTrained p = true →
      Ends afterFlights (.malformedTlp p k none) d
      ((d.countMal p).aerLog (.tp p) ([18, 20, 16].getD k 18) false k)) ∧
  (∀ (d : Dev) (p i t : Nat), p < 8 → i < 64 → t < 32 → d.page .TP p = .serving → d.portTrained p = true →
      Ends afterFlights (.malformedTlp p 3 (some (i, t))) d
      (((d.countMal p).aerLog (.tp p) 12 false 3).badFrame (2048 + 64 * p + i) t)) ∧
  (∀ (d : Dev) (p i tag flags off : Nat) (payload : List Byte) (f : Flight), p < 8 → i < 64 → tag < 32 → flags < 2 → 4 ≤ payload.length →
      payload.length ≤ 65536 → payload.length % 4 = 0 → d.page .TP p = .serving → d.fnOpen (.tp p) = true →
      2048 + 64 * p + i ∉ d.pushDead → (2048 + 64 * p + i) * 32 + tag ∉ d.pushSkip → d.tagCmd (2048 + 64 * p + i) tag = some f →
      d.pushes_ f = true → off = ((mget d.pushes ((2048 + 64 * p + i) * 32 + tag)).getD []).length →
      Ends afterFlights (.pushFrame p i tag flags 0 payload.length off false payload) d ((d.noteWake ⟨.tenant, p, false⟩ .TQ).frameTake f (flags == 1) payload)) ∧
  (∀ (d : Dev) (p i tag flags off : Nat) (payload : List Byte), p < 8 → i < 64 → tag < 32 → flags < 2 → 4 ≤ payload.length →
      payload.length ≤ 65536 → payload.length % 4 = 0 → d.page .TP p = .serving → d.fnOpen (.tp p) = true →
      2048 + 64 * p + i ∈ d.pushDead →
      Ends afterFlights (.pushFrame p i tag flags 0 payload.length off false payload) d (d.noteWake ⟨.tenant, p, false⟩ .TQ))

/-- Grants, key references and ceilings of a tint. From R335, R386, R387, R391, R393, R394, spec/11_tenant_ports.md. Model's choices it rests on: log
entries 50, 43. -/
def Obligations.TintsAndGrants : Prop :=
  (∀ (d : Dev) (r : Requester) (t : Nat), t < 1024 → d.regB .TNT t Reg.TNT_GRANT_STS 0 = false →
      d.takes r .TNT t Reg.TNT_GRANT_CMD = true →
      Ends afterFlights (.grantSet r t) d ((d.taken r .TNT t).grantRun t 1)) ∧
  (∀ (d : Dev) (r : Requester) (t : Nat), t < 1024 → d.regB .TNT t Reg.TNT_GRANT_STS 0 = false →
      d.takes r .TNT t Reg.TNT_GRANT_CMD = true →
      Ends afterFlights (.grantRemove r t) d ((d.taken r .TNT t).grantRun t 2)) ∧
  (∀ (d : Dev) (r : Requester) (t : Nat), t < 1024 → d.regB .TNT t Reg.TNT_GRANT_STS 0 = false →
      d.takes r .TNT t Reg.TNT_GRANT_CMD = true →
      Ends afterFlights (.grantLookup r t) d ((d.taken r .TNT t).grantRun t 3)) ∧
  (∀ (d : Dev) (r : Requester) (t : Nat), t < 1024 → d.regB .TNT t Reg.TNT_GRANT_STS 0 = true →
      d.takes r .TNT t Reg.TNT_GRANT_CMD = true →
      Ends afterFlights (.grantSet r t) d ((d.noteWake r .TNT).raiseErr .TNT t 0 noDetail)) ∧
  (∀ (e : Dev) (t : Nat), e.regF .TNT t Reg.TNT_GRANT_ARG 16 2 ≠ 3 →
      (e.setRegN .TNT t Reg.TNT_GRANT_STS 1).liveStore (storeKey (e.regF .TNT t Reg.TNT_GRANT_ARG 16 2) (e.regF .TNT t Reg.TNT_GRANT_ARG 0 16)) = none →
      e.grantRun t 1 = (e.setRegN .TNT t Reg.TNT_GRANT_STS 1).grantEnd t 1 0 ∧ e.grantRun t 2 = (e.setRegN .TNT t Reg.TNT_GRANT_STS 1).grantEnd t 1 0 ∧
        e.grantRun t 3 = (e.setRegN .TNT t Reg.TNT_GRANT_STS 1).grantEnd t 1 0) ∧
  (∀ (d : Dev) (r : Requester) (t n : Nat) (v : W32), t < 1024 → n < 4 → r.dom = .secure → d.page .TNT t = .off →
      d.takes r .TNT t (Reg.TNT_KEY_0 + 4 * n) = true →
      Ends afterAll (.keyRefWrite r t n v) d ((d.taken r .TNT t).setReg .TNT t (Reg.TNT_KEY_0 + 4 * n) (v &&& 0x80003fff#32))) ∧
  (∀ (d : Dev) (r : Requester) (t n : Nat) (v : W32), t < 1024 → n < 4 → r.dom = .secure → d.page .TNT t ≠ .off →
      d.takes r .TNT t (Reg.TNT_KEY_0 + 4 * n) = true →
      Ends afterAll (.keyRefWrite r t n v) d ((d.noteWake r .TNT).raiseErr .TNT t 1 noDetail)) ∧
  (∀ (d : Dev), d.life.booted = true →
      Ends afterAll (.ceilingRecompute) d
      (d.ceilings))

/-- Register writes by address, MEMBER_SEL, BAR2 member windows and proxied accesses. From R46, R48, R49, R50, R53, R73, R110, R418,
spec/02_register_pages.md, spec/12_filush_fabric.md. Model's choices it rests on: log entries 29, 30, 25, 6. -/
def Obligations.RegistersByAddress : Prop :=
  (∀ (d : Dev) (r : Requester) (a i off : Nat) (p : PT) (v : W64),
      (¬ (d.life.mode = .compat ∧ r.dom = .host ∧ r.i3c = false ∧ proxied r = false)) → d.spot r a = .page p i off → a % 4 = 0 →
      0x40 ≤ off → [PT.LOG, .GC, .PSL, .WEAR, .LDP, .STR, .JNL, .CH, .MAP, .RNG, .SBD].contains p = true → d.takes r p i off = true →
      Ends afterFabric (.registerWrite r ⟨.view, a⟩ 4 v) d ((d.taken r p i).storeWord p i off (BitVec.ofNat 32 v.toNat))) ∧
  (∀ (d : Dev) (r : Requester) (a i off n : Nat) (p : PT) (v : W64),
      (¬ (d.life.mode = .compat ∧ r.dom = .host ∧ r.i3c = false ∧ proxied r = false)) → d.spot r a = .page p i off →
      (¬ ((p = .HQ ∨ p = .TQ) ∧ 0x800 ≤ off)) → (¬ (n = 4 ∧ a % 4 = 0)) → (¬ (n = 8 ∧ a % 8 = 0)) →
      Ends afterFabric (.registerWrite r ⟨.view, a⟩ n v) d (d.noteWake r p)) ∧
  (∀ (d : Dev) (r : Requester) (a i off n : Nat) (v : W64),
      (¬ (d.life.mode = .compat ∧ r.dom = .host ∧ r.i3c = false ∧ proxied r = false)) → d.spot r a = .page .HQ i off → 0x800 ≤ off →
      Ends afterFabric (.registerWrite r ⟨.view, a⟩ n v) d (d.slotWrite r i (off - 0x800) (leBytes n v.toNat))) ∧
  (∀ (d : Dev) (r : Requester) (f : Fn) (a n : Nat) (v : W64), fnOf r = some f →
      Ends afterFabric (.registerWrite r ⟨.table, a⟩ n v) d (d.bar4Write f a n v.toNat) ∧
        Ends afterFabric (.registerWrite r ⟨.config, a⟩ n v) d (d.cfgWrite f a n v.toNat)) ∧
  (∀ (d : Dev) (r : Requester) (ty : Nat) (p : PT) (v : W32), PT.ofCode ty = some p → [PT.ERRW, .RECW, .TRCW, .DDTX].contains p = true →
      d.takes r p 0 0x40 = true →
      let t := d.taken r p 0
      Ends afterAll (.memberSelWrite r ty v) d (if t.isHead = true ∧ logViewOf r = 0 then t.setReg p 0 0x40 (v &&& 0x3f#32) else t)) ∧
  (∀ (d : Dev) (a n : Nat) (v : W64), d.bar2Open = true → a < 0x1000000 →
      Ends afterFabric (.bar2Access true a n v) d (d.writeBar hostReq a n v.toNat) ∧
        (d.remoteOf hostReq a = none → Ends afterFabric (.bar2Access false a n v) d (d.emit (.readData hostReq (d.readSpace hostReq a n % 256 ^ n))))) ∧
  (∀ (d : Dev) (a n : Nat) (v : W64), d.fnThere .pf = true → d.fnOpen .pf = false →
      Ends afterFabric (.bar2Access false a n v) d (d.emit (.unsupported .pf))) ∧
  (∀ (d : Dev) (a n : Nat) (v : W64), d.bar2Open = true → 0x1000000 ≤ a → a < 0x40000000 → d.memberState (a / 0x1000000) ≠ 0 →
      ((n = 4 ∧ a % 4 = 0) ∨ (n = 8 ∧ a % 8 = 0)) →
      Ends afterFabric (.bar2Access true a n v) d (d.send 0x39 (a / 0x1000000) [a % 0x1000000, n, v.toNat] false) ∧
        Ends afterFabric (.bar2Access false a n v) d (d.proxyRead (a / 0x1000000) (a % 0x1000000) n .host)) ∧
  (∀ (d : Dev) (a n : Nat) (v : W64), d.bar2Open = true → 0x1000000 ≤ a → a < 0x40000000 → d.memberState (a / 0x1000000) = 0 →
      Ends afterFabric (.bar2Access false a n v) d (d.emit (.readData hostReq (256 ^ n - 1)))) ∧
  (∀ (d : Dev) (x : Proxy), d.fab.proxies.head? = some x → 40 ≤ d.life.usUp - x.atUs →
      Ends afterAll (.proxyTimeout) d
      ((d.proxyEnd x (2 ^ 64 - 1)).raiseErr .FAB 0 30 noDetail)) ∧
  (∀ (d : Dev) (h : MsgHdr) (off n xid : Nat), d.hears 0x38 h = true → d.rxBad 0x38 h = false → (d.heard 0x38 h).isMember = true →
      h.src = 0 → (n = 4 ∨ n = 8) →
      let e := d.heard 0x38 h
      Ends afterFabric (.proxyRd h off n xid) d (e.send 0x3a 0 [xid, e.readSpace headReq off n] false)) ∧
  (∀ (d : Dev) (h : MsgHdr) (off n : Nat) (v : W64), d.hears 0x39 h = true → d.rxBad 0x39 h = false → (d.heard 0x39 h).isMember = true →
      h.src = 0 → (n = 4 ∨ n = 8) →
      let e := d.heard 0x39 h
      Ends afterFabric (.proxyWr h off n v) d (e.writeBar headReq off n v.toNat)) ∧
  (∀ (d : Dev) (h : MsgHdr) (xid : Nat) (v : W64) (x : Proxy), d.hears 0x3a h = true → d.rxBad 0x3a h = false →
      ((d.heard 0x3a h).fab.proxies.take 64).find? (fun e => e.xid == xid && e.dst == h.src) = some x →
      let e := d.heard 0x3a h
      Ends afterFabric (.proxyRsp h xid v) d (e.proxyEnd x v.toNat))

/-- Filush links: detection, training, identity, loss. From R398, R400, R401, R402, R404, R407, spec/12_filush_fabric.md. Model's choices it rests on: log
entries 72, 70. -/
def Obligations.FilushLinks : Prop :=
  (∀ (d : Dev) (n : Nat), n < 6 → liveMode d.life.mode = true → d.linkState n = 1 → d.linkWaited n 100 = true →
      Ends afterFabric (.flDetectTimeout n) d
      (d.setLink n 2)) ∧
  (∀ (d : Dev) (n : Nat) (b : Bool), n < 6 → liveMode d.life.mode = true → d.linkState n = 2 → d.linkWaited n 10000 = true →
      Ends afterFabric (.flProbe n b) d
      (d.setLink n (if b = true then 3 else 2))) ∧
  (∀ (d : Dev) (n : Nat), n < 6 → liveMode d.life.mode = true → d.linkState n = 1 →
      Ends afterFabric (.partnerTerminationFound n) d
      (d.setLink n 3)) ∧
  (∀ (d : Dev) (n w : Nat), n < 6 → liveMode d.life.mode = true → d.linkState n = 3 →
      (w = 8 ∨ (w = 4 ∧ d.regB .FL n Reg.FL_FL_CFG 1 = true)) →
      Ends afterFabric (.flTrained n w) d
      (((d.setLink n 4).setRegF .FL n Reg.FL_FL_STS 3 4 w).sayHello n)) ∧
  (∀ (d : Dev) (n : Nat), n < 6 → liveMode d.life.mode = true → d.linkState n = 3 → d.linkWaited n 2000 = true →
      Ends afterFabric (.flTrainTimeout n) d
      (d.setLink n 1)) ∧
  (∀ (d : Dev) (n : Nat), n < 6 → liveMode d.life.mode = true →
      Ends afterFabric (.flLinkDown n) d
      (d.linkDrop n)) ∧
  (∀ (d : Dev) (r : Requester) (n : Nat), n < 6 → d.takes r .FL n Reg.FL_FL_CFG = true →
      Ends afterFabric (.flRetrain r n) d ((d.taken r .FL n).linkDrop n)) ∧
  (∀ (d : Dev) (r : Requester) (n : Nat) (on : Bool), n < 6 → r.dom = .secure → d.takes r .FL n Reg.FORCE = true →
      let t := (d.taken r .FL n).setRegF .FL n Reg.FORCE 0 1 (b2n on)
      Ends afterFabric (.forceLinkLoss r n on) d (if on = true then t.linkDrop n else t)) ∧
  (∀ (d : Dev) (n : Nat), n < 6 → liveMode d.life.mode = true → d.linkState n = 5 →
      ((d.flLink n).replays.filter (fun t => decide (d.life.usUp - t < 1000))).length + 1 < ((d.incSat .FL n Reg.FL_CRC_ERR 1).incSat .FL n Reg.FL_REPLAY 1).errMax n →
      let c := (d.incSat .FL n Reg.FL_CRC_ERR 1).incSat .FL n Reg.FL_REPLAY 1
      Ends afterFabric (.flitCrcFail n) d (c.mapLink n (fun l => { l with replays := d.life.usUp :: (d.flLink n).replays.filter (fun t => decide (d.life.usUp - t < 1000)) }))) ∧
  (∀ (d : Dev) (n : Nat), n < 6 → liveMode d.life.mode = true → (d.linkState n = 5 ∨ d.linkState n = 6) →
      let a := (d.setLink n 2).setRegF .FL n Reg.FL_FL_STS 3 4 0
      Ends afterFabric (.flTerminationLost n) d (if d.linkState n = 5 then (a.setIrq .FL n 1).linkChanged else a.linkChanged)) ∧
  (∀ (d : Dev) (h : MsgHdr) (x : HelloId), d.hears 0x01 h = true → d.rxBad 0x01 h = false → (d.heard 0x01 h).linkState h.link = 4 →
      ((d.heard 0x01 h).showPeer h.link x).helloFits h.link x = true →
      let e := d.heard 0x01 h
      Ends afterFabric (.hello h x) d ((((e.showPeer h.link x).mapLink h.link (fun l => { l with partner := some (x.serial, x.fabId) })).notePartner x).linkRise h.link)) ∧
  (∀ (d : Dev) (h : MsgHdr) (x : HelloId), d.hears 0x01 h = true → d.rxBad 0x01 h = false → (d.heard 0x01 h).linkState h.link = 4 →
      ((d.heard 0x01 h).showPeer h.link x).helloFits h.link x = false →
      let e := d.heard 0x01 h
      Ends afterFabric (.hello h x) d ((((e.showPeer h.link x).setLink h.link 7).setRegF .FL h.link Reg.FL_FL_STS 3 4 0).raiseErr .FL h.link 1 noDetail))

/-- Membership of the fabric: authentication, the member table, heartbeats, rejoin and evict. From R409, R410, R411, R412, R413, R417, R436, R441, R442,
spec/12_filush_fabric.md. Model's choices it rests on: log entries 74, 73, 75, 70, 7. -/
def Obligations.FabricMembership : Prop :=
  (∀ (d : Dev) (h : MsgHdr) (ver : Nat), d.hears 2 h = true → d.rxBad 2 h = false → (d.heard 2 h).sxHalted = false →
      (d.heard 2 h).isHead = true → h.src ≠ 0 → h.src < (d.heard 2 h).places → (d.heard 2 h).carries h.src = false →
      let e := d.heard 2 h
      Ends afterFabric (.authHello ⟨h, ver⟩) d (let m := (mget e.fab.members h.src).getD ⟨0, 0, 0, false, 0, none⟩
        (({ e with free := e.free + 1, fab := { e.fab with members := mput e.fab.members h.src { m with nonce := some e.free } } }).noteVersion h.src ver).send 0x03 h.src
          [Config.freeNat e.free % 2 ^ 256] false)) ∧
  (∀ (d : Dev) (h : MsgHdr), d.hears 3 h = true → d.rxBad 3 h = false → (d.heard 3 h).sxHalted = false → (d.heard 3 h).fabState = 1 →
      h.src = 0 →
      let e := d.heard 3 h
      Ends afterFabric (.authChallenge h) d (e.sayResponse 0)) ∧
  (∀ (d : Dev) (h : MsgHdr) (serial proto : Nat) (x : Member), d.hears 4 h = true → d.rxBad 4 h = false → (d.heard 4 h).sxHalted = false →
      (d.heard 4 h).isHead = true → mget (d.heard 4 h).fab.members h.src = some x → x.nonce.isSome = true →
      (d.heard 4 h).carries h.src = false → proto = 1 →
      let e := d.heard 4 h
      Ends afterFabric (.authResponse h serial proto true) d (let m := ({ state := x.state, links := x.links, serial := x.serial, full := x.full, hbUs := x.hbUs, nonce := none } : Member)
        ({ e with fab := { e.fab with members := mput e.fab.members h.src m } }).authPassed h.src serial m)) ∧
  (∀ (d : Dev) (h : MsgHdr) (serial proto : Nat), d.hears 4 h = true → d.rxBad 4 h = false → (d.heard 4 h).sxHalted = false →
      (d.heard 4 h).isHead = false → (d.heard 4 h).fab.nonce.isSome = true →
      let e := d.heard 4 h
      Ends afterFabric (.authResponse h serial proto false) d (({ e with fab := { e.fab with nonce := none } }).raiseErr .FAB 0 2 noDetail)) ∧
  (∀ (d : Dev) (h : MsgHdr) (es : List (Nat × Nat)), d.hears 0x05 h = true → d.rxBad 0x05 h = false → es.length = 64 →
      (es.all (fun x => decide (x.1 ≤ 4 ∧ x.2 < 64)) = true) → (d.heard 0x05 h).isMember = true →
      let e := d.heard 0x05 h
      Ends afterFabric (.memberUpdate h es) d (let new := es.zipIdx.foldl (fun t (x : (Nat × Nat) × Nat) =>
          if x.1 = (0, 0) ∧ !mhas t x.2 then t else mput t x.2 (Member.heard (mget t x.2) x.1.1 x.1.2)) e.fab.members
        let f := (({ e with fab := { e.fab with members := new } }).setRegN .FAB 0 Reg.FAB_EPOCH h.epoch).gathersEpoch
        let g := (f.ownState (es.getD f.fabId (0, 0)).1)
        let k := (g.tableApplied e.fab.members).down 0x05 g.tableWords false
        if f.fabState = 1 ∧ k.fabState = 2 then k.settleOwn.linkChanged else k)) ∧
  (∀ (d : Dev) (h : MsgHdr) (t m : Nat), d.hears 0x06 h = true → d.rxBad 0x06 h = false → (d.heard 0x06 h).isHead = true →
      let e := d.heard 0x06 h
      Ends afterFabric (.heartbeat h t m) d ({ e with fab := { e.fab with
          members := e.fab.members.map (fun (x : Nat × Member) => if x.1 = h.src then (x.1, { x.2 with hbUs := e.life.usUp }) else x) } })) ∧
  (∀ (d : Dev) (h : MsgHdr) (t m : Nat), d.hears 0x06 h = true → d.rxBad 0x06 h = false → (d.heard 0x06 h).isHead = false → h.src = 0 →
      let e := d.heard 0x06 h
      Ends afterFabric (.heartbeat h t m) d (let f := ({ e with fab := { e.fab with headHb := some e.life.usUp } }).down 0x06 [t, m] false
        if f.fabState = 4 then (f.setFab 1).seek else f)) ∧
  (∀ (d : Dev), d.isHead = true → liveMode d.life.mode = true → d.hbUs ≤ d.life.usUp - d.fab.hbTx →
      let e : Dev := { d with fab := { d.fab with hbTx := d.life.usUp } }
      let body := [d.fabNow, modeCode d.life.mode]
      Ends afterFabric .heartbeatTimer d ((e.fab.members.filter (fun x => x.2.state == 3)).foldl (fun f x => f.send 0x06 x.1 body false) (e.down 0x06 body false))) ∧
  (∀ (d : Dev) (n : Nat) (m : Member), liveMode d.life.mode = true → d.isHead = true → mget d.fab.members n = some m → n ≠ 0 →
      (m.state = 1 ∨ m.state = 2) → d.lossUs ≤ d.life.usUp - m.hbUs →
      Ends afterFabric (.heartbeatLoss n) d
      (d.listMember n 3)) ∧
  (∀ (d : Dev) (n : Nat), liveMode d.life.mode = true → d.isHead = false → (d.fabState = 2 ∨ d.fabState = 3) →
      d.lossUs ≤ d.life.usUp - d.fab.headHb.getD 0 →
      Ends afterFabric (.heartbeatLoss n) d
      (d.fence true)) ∧
  (∀ (d : Dev) (h : MsgHdr) (mask : Nat) (m : Member), d.hears 0x07 h = true → d.rxBad 0x07 h = false → (d.heard 0x07 h).isHead = true →
      mget (d.heard 0x07 h).fab.members h.src = some m → m.links ≠ mask % 64 → h.src ≠ 0 →
      let e := d.heard 0x07 h
      Ends afterFabric (.linkState h mask) d (e.setMember h.src { m with links := mask % 64 })) ∧
  (∀ (d : Dev) (r : Requester), d.takes r .FAB 0 Reg.FAB_FAB_CTL = true → d.fabState = 4 →
      let t := d.taken r .FAB 0
      Ends afterFabric (.rejoin r) d ((t.setFab 1).seek)) ∧
  (∀ (d : Dev) (r : Requester) (n : Nat), d.takes r .FAB 0 Reg.FAB_FAB_CTL = true →
      Ends afterFabric (.evict r n) d (((d.taken r .FAB 0).setRegF .FAB 0 Reg.FAB_FAB_CTL 8 6 n).evict)) ∧
  (∀ (d : Dev) (n : Nat), d.regF .FAB 0 Reg.FAB_FAB_CTL 8 6 = n → d.isHead = true → n ≠ 0 → d.memberState n ≠ 0 → d.memberState n ≠ 4 →
      d.evict = d.listMember n 4)

/-- Global operations: barriers, broadcasts, time and fabric resets. From R429, R430, R431, R433, R434, R447, spec/12_filush_fabric.md. Model's choices it
rests on: log entries 77, 70. -/
def Obligations.FabricOperations : Prop :=
  (∀ (d : Dev) (r : Requester), d.takes r .FAB 0 Reg.FAB_OP_CMD = true → (d.taken r .FAB 0).isHead = true →
      d.regB .FAB 0 Reg.FAB_OP_STS 0 = false →
      let t := d.taken r .FAB 0
      Ends afterFabric (.barrier r) d ((t.setRegN .FAB 0 Reg.FAB_OP_STS 1).opAsk 1 [0] true)) ∧
  (∀ (d : Dev) (r : Requester), d.takes r .FAB 0 Reg.FAB_OP_CMD = true → (d.taken r .FAB 0).isHead = true →
      d.regB .FAB 0 Reg.FAB_OP_STS 0 = false →
      let t := d.taken r .FAB 0
      Ends afterFabric (.broadcast r) d ((t.setRegN .FAB 0 Reg.FAB_OP_STS 1).opAsk 2 [0] true)) ∧
  (∀ (d : Dev) (r : Requester), d.takes r .FAB 0 Reg.FAB_OP_CMD = true → (d.taken r .FAB 0).isHead = true →
      d.regB .FAB 0 Reg.FAB_OP_STS 0 = false →
      let t := d.taken r .FAB 0
      Ends afterFabric (.immediateTimeSync r) d (({ t with free := t.free + 1 }).timeSyncOut.hostOpEnd 0 (Config.freeNat t.free % ((t.dLive + 1) * 200 + 1)))) ∧
  (∀ (d : Dev) (h : MsgHdr) (id n : Nat), d.hears 0x10 h = true → d.rxBad 0x10 h = false → goesUp h = true →
      let e := d.heard 0x10 h
      Ends afterFabric (.barrierArrive h id n) d (e.gatherIn 1 id h.src n 0)) ∧
  (∀ (d : Dev) (h : MsgHdr) (id n : Nat), d.hears 0x10 h = true → d.rxBad 0x10 h = false → goesUp h = false → goesDown h = true →
      (d.heard 0x10 h).isMember = true →
      let e := d.heard 0x10 h
      Ends afterFabric (.barrierArrive h id n) d (((e.gatherBegin 1 id).down 0x10 [id, 0] false).gatherMe 1 id 0)) ∧
  (∀ (d : Dev) (h : MsgHdr) (id : Nat), d.hears 0x11 h = true → d.rxBad 0x11 h = false → goesDown h = true →
      (d.heard 0x11 h).isMember = true →
      let e := d.heard 0x11 h
      Ends afterFabric (.barrierRelease h id) d (e.down 0x11 [id] false)) ∧
  (∀ (d : Dev) (h : MsgHdr) (id kind : Nat) (ws : List Nat), d.hears 0x12 h = true → d.rxBad 0x12 h = false → goesUp h = false →
      goesDown h = true → (d.heard 0x12 h).isMember = true →
      let e := d.heard 0x12 h
      Ends afterFabric (.bcast h id kind ws) d (((e.gatherBegin 2 id).down 0x12 ([id, kind] ++ ws) (decide (kind < 2))).bcastTake id kind ws)) ∧
  (∀ (d : Dev) (h : MsgHdr) (id n res : Nat), d.hears 0x13 h = true → d.rxBad 0x13 h = false →
      let e := d.heard 0x13 h
      Ends afterFabric (.bcastAck h id n res) d ((e.answered (fun u => u.ty == 0x12 && u.dst == h.src)).gatherIn 2 id h.src n res)) ∧
  (∀ (d : Dev), d.isHead = true → liveMode d.life.mode = true → 1000 ≤ d.life.usUp - d.fab.syncUs →
      let n := d.fab.syncSeq + 1
      Ends afterFabric .timeSyncTimer d (({ d with fab := { d.fab with syncSeq := n, syncUs := d.life.usUp } }).down 0x20 [d.fabNow, 0, n] false)) ∧
  (∀ (d : Dev) (h : MsgHdr) (tHead corr n : Nat), d.hears 0x20 h = true → d.rxBad 0x20 h = false → (d.heard 0x20 h).fabState = 3 →
      (d.heard 0x20 h).isMember = true →
      let e := d.heard 0x20 h
      Ends afterFabric (.timeSync h tHead corr n) d (let c := corr + e.regF .FL h.link Reg.FL_RTT 0 16 / 2
        let err : Int := ((tHead + c : Nat) : Int) - e.fabNow
        let f := ({ e with fab := { e.fab with
          time := ((e.fabNow : Int) + slewed err).toNat, timeUs := e.life.usUp, syncs := e.fab.syncs + 1, syncSeq := n } }).setRegN .FAB 0 Reg.FAB_TIME_STS
            (unsigned 16 (clampI err (-32768) 32767) + b2n (decide (2 ≤ e.fab.syncs + 1)) * 2 ^ 16)
        (f.down 0x20 [tHead, c, n] false).send 0x21 h.src [f.fabNow, 0, 0] false)) ∧
  (∀ (d : Dev) (h : MsgHdr) (t1 : Nat), d.hears 0x21 h = true → d.rxBad 0x21 h = false →
      let e := d.heard 0x21 h
      Ends afterFabric (.timeEcho h t1 0 0) d (e.send 0x21 h.src [t1, e.fabNow, e.fabNow] false)) ∧
  (∀ (d : Dev) (h : MsgHdr) (t1 t2 t3 : Nat), d.hears 0x21 h = true → d.rxBad 0x21 h = false → t2 ≠ 0 →
      let e := d.heard 0x21 h
      Ends afterFabric (.timeEcho h t1 t2 t3) d (e.setRegN .FL h.link Reg.FL_RTT (min 0xffff (e.fabNow - t1 - (t3 - t2))))) ∧
  (∀ (d : Dev) (r : Requester), d.takes r .FAB 0 Reg.FAB_FAB_CTL = true → (d.taken r .FAB 0).isHead = true →
      let t := d.taken r .FAB 0
      Ends afterFabric (.fabricReset r) d (t.opAsk 5 [] false)) ∧
  (∀ (d : Dev) (h : MsgHdr) (id : Nat), d.hears 0x28 h = true → d.rxBad 0x28 h = false → goesDown h = true →
      (d.heard 0x28 h).isMember = true →
      let e := d.heard 0x28 h
      Ends afterFabric (.resetPrepare h id) d (let f := ((e.gatherBegin 5 id).down 0x28 [id] false).flushNow
        ({ f with fab := { f.fab with resetId := id, resetUs := f.life.usUp } }).gatherMe 5 id 0)) ∧
  (∀ (d : Dev) (h : MsgHdr) (id n : Nat), d.hears 0x29 h = true → d.rxBad 0x29 h = false →
      let e := d.heard 0x29 h
      Ends afterFabric (.resetReady h id n) d (e.gatherIn 5 id h.src n 0)) ∧
  (∀ (d : Dev) (h : MsgHdr) (id t : Nat), d.hears 0x2a h = true → d.rxBad 0x2a h = false → goesDown h = true →
      (d.heard 0x2a h).isMember = true →
      let e := d.heard 0x2a h
      Ends afterFabric (.resetAt h id t) d ({ e.down 0x2a [id, t] false with fab := { (e.down 0x2a [id, t] false).fab with resetAt := some t } })) ∧
  (∀ (d : Dev) (t : Nat), d.fab.resetAt = some t → restartMode d.life.mode = true → t ≤ d.fabNow →
      Ends afterFabric (.fabricResetTime) d
      (d.deviceReset false 5 true)) ∧
  (∀ (d : Dev), d.flushUs + 1000 ≤ d.life.usUp - d.fab.resetUs →
      Ends afterFabric (.resetReadyTimeout) d
      ((d.fab.gathers.filter (fun g => g.kind == 5)).foldl (fun e g => e.gatherPut { g with children := [] }) d))

/-- Snapshots and reshaping of fabric volumes. From R431, R432, R443, R444, R445, spec/12_filush_fabric.md. Model's choices it rests on: log entries 55,
78, 70. -/
def Obligations.FabricSnapshotsAndReshape : Prop :=
  (∀ (d : Dev) (h : MsgHdr) (vol id reqId tint qn tag : Nat), d.hears 0x14 h = true → d.rxBad 0x14 h = false → goesUp h = true →
      (d.heard 0x14 h).isHead = true →
      let e := d.heard 0x14 h
      Ends afterFabric (.snapPrepare h vol id reqId tint qn tag) d (e.opAsk 4 [vol, reqId, tint, h.src, qn, tag, 0, 0, 0] false)) ∧
  (∀ (d : Dev) (h : MsgHdr) (vol id reqId tint qn tag : Nat), d.hears 0x14 h = true → d.rxBad 0x14 h = false → goesUp h = false →
      goesDown h = true → (d.heard 0x14 h).isMember = true →
      let e := d.heard 0x14 h
      Ends afterFabric (.snapPrepare h vol id reqId tint qn tag) d (((e.gatherBegin 3 id).down 0x14 [vol, id, reqId] false).snapPrepare vol id reqId)) ∧
  (∀ (d : Dev) (h : MsgHdr) (id n res : Nat), d.hears 0x15 h = true → d.rxBad 0x15 h = false →
      let e := d.heard 0x15 h
      Ends afterFabric (.snapHeld h id n res) d (e.gatherIn 3 id h.src n res)) ∧
  (∀ (d : Dev) (h : MsgHdr) (vol id cal : Nat), d.hears 0x16 h = true → d.rxBad 0x16 h = false → goesDown h = true →
      (d.heard 0x16 h).isMember = true →
      let e := d.heard 0x16 h
      Ends afterFabric (.snapCommit h vol id cal) d (let f := (e.gatherBegin 4 id).down 0x16 [vol, id, cal] false
        { f with fab := { f.fab with snapHold := f.fab.snapHold.map (fun x => if x.volume = vol ∧ x.id = id then { x with commit := some cal } else x) } })) ∧
  (∀ (d : Dev) (h : MsgHdr) (id n res qn tag : Nat), d.hears 0x17 h = true → d.rxBad 0x17 h = false → goesUp h = true →
      let e := d.heard 0x17 h
      Ends afterFabric (.snapDone h id n res qn tag) d (e.gatherIn 4 id h.src n res)) ∧
  (∀ (d : Dev) (h : MsgHdr) (id n res qn tag : Nat), d.hears 0x17 h = true → d.rxBad 0x17 h = false → goesUp h = false →
      goesDown h = true → (d.heard 0x17 h).isMember = true →
      let e := d.heard 0x17 h
      Ends afterFabric (.snapDone h id n res qn tag) d ((e.down 0x17 [id, n, res] false).snapRelease)) ∧
  (∀ (d : Dev) (h : MsgHdr) (id n res qn tag : Nat), d.hears 0x17 h = true → d.rxBad 0x17 h = false → goesUp h = false →
      goesDown h = false →
      let e := d.heard 0x17 h
      Ends afterFabric (.snapDone h id n res qn tag) d ((e.answered (fun u => u.ty == 0x14 && u.body.getD 5 0 == tag && u.body.getD 4 0 == qn)).snapEnd qn tag n res id)) ∧
  (∀ (d : Dev) (h : MsgHdr) (vol id : Nat), d.hears 0x18 h = true → d.rxBad 0x18 h = false → goesDown h = true →
      (d.heard 0x18 h).isMember = true →
      let e := d.heard 0x18 h
      Ends afterFabric (.snapAbort h vol id) d (let f := e.down 0x18 [vol, id] false
        ({ f with fab := { f.fab with gathers := f.fab.gathers.filter (fun g => !((g.kind == 3 || g.kind == 4) && g.id == id)) } }).snapRelease)) ∧
  (∀ (d : Dev) (r : Requester) (v : W32), d.takes r .FAB 0 Reg.FAB_RSHP_CTL = true → (d.taken r .FAB 0).isHead = true →
      d.regB .FAB 0 Reg.FAB_RSHP_CTL 20 = false → fld v 20 1 = 1 →
      let t := d.taken r .FAB 0
      Ends afterFabric (.fabricReshapeStart r v) d (let f := ((t.setRegF .FAB 0 Reg.FAB_RSHP_CTL 0 20 (fld v 0 20)).setRegF .FAB 0 Reg.FAB_RSHP_CTL 21 1 (fld v 21 1)).rshpCheck
        if f.rshpRefused (fld v 0 12) (fld v 12 5) (fld v 17 3) = true then f.raiseErr .FAB 0 4 noDetail
        else (f.setRegF .FAB 0 Reg.FAB_RSHP_CTL 20 1 1).opAsk 6 [1, 7, fld v 0 12, fld v 12 5 + 32 * fld v 17 3, f.volSet, 0] false)) ∧
  (∀ (d : Dev) (secs : List (Nat × SectorIn)) (x : Reshape) (v w : Store), d.fab.reshape = some x → d.store x.volume = some v →
      d.store (shadowKey x.volume) = some w → d.rshpHeld x = false → d.mayRelocate = true → d.gateOpen 14 = true →
      d.regN .FAB 0 Reg.FAB_RSHP_CURSOR < v.bands →
      Ends afterFabric (.fabricReshapeCopy true secs) d
      (({ d with fab := { d.fab with reshape := some { x with space := true } } }).rshpCheck)) ∧
  (∀ (d : Dev) (secs : List (Nat × SectorIn)) (x : Reshape) (v w : Store), d.fab.reshape = some x → d.store x.volume = some v →
      d.store (shadowKey x.volume) = some w → d.rshpHeld x = false → d.mayRelocate = true → d.gateOpen 14 = true →
      d.regN .FAB 0 Reg.FAB_RSHP_CURSOR < v.bands → x.again = [] →
      let c := d.charge 14 (d.sourceSecs v (d.regN .FAB 0 Reg.FAB_RSHP_CURSOR))
      let g := (if w.base = 0xffffff then c else secs.foldl (fun (f : Dev) (s : Nat × SectorIn) =>
        if s.1 < w.shardBands * 4096 then f.shardFlight 0x101 (shadowKey x.volume) s.1 1 f.fabId 0 0 0 [fabIn s.2] else f) c).setRegN .FAB 0 Reg.FAB_RSHP_CURSOR (d.regN .FAB 0 Reg.FAB_RSHP_CURSOR + 1)
      let left : List Nat := match g.fab.reshape with
        | some r => r.again
        | none => []
      Ends afterFabric (.fabricReshapeCopy false secs) d
        (if g.isHead = true ∧ left.isEmpty = true ∧ g.regN .FAB 0 Reg.FAB_RSHP_CURSOR = v.bands then
          (g.newEpoch g.fab.members).opAsk 6 [1, 8, x.volume, 0, x.newSet, 0] false
        else g)) ∧
  (∀ (d : Dev) (secs : List (Nat × SectorIn)) (x : Reshape) (v w : Store) (b : Nat) (bs : List Nat), d.fab.reshape = some x →
      d.store x.volume = some v → d.store (shadowKey x.volume) = some w → d.rshpHeld x = false → d.mayRelocate = true →
      d.gateOpen 14 = true → x.again.filter (fun b => decide (b < d.regN .FAB 0 Reg.FAB_RSHP_CURSOR)) = b :: bs →
      let c := d.charge 14 (d.sourceSecs v b)
      let e := (if w.base = 0xffffff then c else secs.foldl (fun (f : Dev) (s : Nat × SectorIn) =>
        if s.1 < w.shardBands * 4096 then f.shardFlight 0x101 (shadowKey x.volume) s.1 1 f.fabId 0 0 0 [fabIn s.2] else f) c)
      let g : Dev := { e with fab := { e.fab with reshape := some { x with again := x.again.filter (· != b) } } }
      let left : List Nat := match g.fab.reshape with
        | some r => r.again
        | none => []
      Ends afterFabric (.fabricReshapeCopy false secs) d
        (if g.isHead = true ∧ left.isEmpty = true ∧ g.regN .FAB 0 Reg.FAB_RSHP_CURSOR = v.bands then
          (g.newEpoch g.fab.members).opAsk 6 [1, 8, x.volume, 0, x.newSet, 0] false
        else g)) ∧
  (∀ (d : Dev) (x : Reshape) (b : Bool), d.fab.reshape = some x →
      Ends afterFabric (.fabricReshapePause b) d
      (({ d with fab := { d.fab with reshape := some { x with space := b } } }).rshpCheck))

/-- The path of a command: doorbell, slot, admission, list, gate, data, completion of a read. From R15, R20, R79, R88, R103, R110, R112, R113, R114, R131,
R132, R135. Model's choices it rests on: log entries 38, 39, 42, 14, 119, 116. -/
def Obligations.QueuePath : Prop :=
  (∀ (d : Dev) (r : Requester) (q : Nat) (bits : W32), d.takes r (qPage q).1 (qPage q).2 Reg.HQ_DOORBELL = true → d.doorOpen q = true →
      let t := d.taken r (qPage q).1 (qPage q).2
      let ts := bitList bits.toNat 32
      let e := if ts.any (t.rung q) = true then t.raiseErr (qPage q).1 (qPage q).2 1 noDetail else t
      Ends afterAll (.doorbell r q bits) d (e.ring q (ts.filter (fun x => !e.rung q x)))) ∧
  (∀ (d : Dev) (r : Requester) (q : Nat) (bits : W32), d.takes r (qPage q).1 (qPage q).2 Reg.HQ_DOORBELL = true → d.doorOpen q = false →
      bits ≠ 0#32 →
      Ends afterAll (.doorbell r q bits) d ((d.noteWake r (qPage q).1).raiseErr (qPage q).1 (qPage q).2 2 noDetail)) ∧
  (∀ (d : Dev) (r : Requester) (q o : Nat) (bs : List Byte), slotForm o bs.length = true →
      d.takes r (qPage q).1 (qPage q).2 (0x800 + o) = true → d.rung q (o / 64) = false →
      (¬ (d.life.mode = .compat ∧ r.dom = .host ∧ r.i3c = false ∧ q = 0)) →
      Ends afterAll (.slotWrite r q o bs) d ((d.taken r (qPage q).1 (qPage q).2).slotStore q o bs)) ∧
  (∀ (d : Dev) (r : Requester) (q o : Nat) (bs : List Byte), slotForm o bs.length = true →
      d.takes r (qPage q).1 (qPage q).2 (0x800 + o) = true → d.rung q (o / 64) = true →
      (¬ (d.life.mode = .compat ∧ r.dom = .host ∧ r.i3c = false ∧ q = 0)) →
      Ends afterAll (.slotWrite r q o bs) d ((d.noteWake r (qPage q).1).raiseErr (qPage q).1 (qPage q).2 0 noDetail)) ∧
  (∀ (d : Dev) (e t q g : Nat), e < 4 → d.fetching = true → d.choose e = some (t, q, g) →
      Ends afterFlights (.admitNext e) d ((((d.arbWin (arbTint e) 1024 t).arbWin (arbQueue e t) 2560 q).arbWin (arbTag q) 32 g).admitTag e t q g)) ∧
  (∀ (d : Dev) (q tag : Nat) (f : Flight) (xs : List Desc), d.flight q tag = some f → f.stage = .list → nbit f.cmd.flags 8 = false →
      walkList f.buffer 0 0 (f.descs ++ xs.take (listBlock f.cmd.dataAddr f.descs.length)) = .more →
      listBlock f.cmd.dataAddr f.descs.length ≤ xs.length →
      Ends afterFlights (.descriptorFetch q tag xs) d (d.setFlight { f with descs := f.descs ++ xs.take (listBlock f.cmd.dataAddr f.descs.length) })) ∧
  (∀ (d : Dev) (q tag : Nat) (f : Flight) (xs : List Desc), d.flight q tag = some f → f.stage = .list → nbit f.cmd.flags 8 = false →
      walkList f.buffer 0 0 (f.descs ++ xs.take (listBlock f.cmd.dataAddr f.descs.length)) = .ok →
      Ends afterFlights (.descriptorFetch q tag xs) d (d.listGood { f with descs := listUsed f.buffer 0 (f.descs ++ xs.take (listBlock f.cmd.dataAddr f.descs.length)) })) ∧
  (∀ (d : Dev) (q tag : Nat) (f : Flight) (xs : List Desc) (dt n : Nat), d.flight q tag = some f → f.stage = .list →
      nbit f.cmd.flags 8 = false → walkList f.buffer 0 0 (f.descs ++ xs.take (listBlock f.cmd.dataAddr f.descs.length)) = .bad dt n →
      Ends afterFlights (.descriptorFetch q tag xs) d (((d.post f St.lengthMismatch 0 dt f.buffer n f.cmd.addr 0).padExtent f).freeze q Fz.length (some (tag, f.cmd.shownOp)) [])) ∧
  (∀ (d : Dev) (g : Nat) (b : Bucket) (f : Flight), d.gates[g]? = some b → d.nextWaiter g b.waiters [] = some f →
      let e : Dev := { d with gates := d.gates.modify g (fun x => { x with waiters := x.waiters.filter (fun w => !(w.1 == f.q && w.2 == f.tag)) }) }
      Ends afterFlights (.gateAdmit g) d ((e.chargeFor f).passed f)) ∧
  (∀ (d : Dev) (q tag : Nat) (f : Flight) (ss xs : List SectorIn) (e : Dev), d.flight q tag = some f → f.stage = .data →
      [0x02, 0x10, 0x20].contains f.cmd.opcode = true → d.withPushed f ss = some (xs, e) →
      Ends afterFlights (.dataArrived q tag ss) d (e.dataIn f xs)) ∧
  (∀ (d : Dev) (q tag : Nat) (f : Flight), d.flight q tag = some f → f.stage = .lines →
      d.flights.any (fun x => x.stage == .lines && decide (x.order < f.order)) = false →
      Ends afterFlights (.installWaitLines q tag) d ((d.atInstall f).fabKick)) ∧
  (∀ (d : Dev) (q tag : Nat) (f : Flight), d.flight q tag = some f → f.stage = .xfer → settledJobs f.jobs = true →
      [0x01, 0x11, 0x21, 0x23, 0x32, 0x61].contains f.cmd.opcode = true →
      Ends afterFlights (.readDataWritten q tag) d (((d.dmaOut f (f.jobs.flatMap (fun j => j.st.data))).piDma f).postOk f f.readResult)) ∧
  (∀ (d : Dev) (q tag : Nat) (f : Flight) (err : DmaError), d.flight q tag = some f → f.reads = true →
      Ends afterFlights (.dmaReadError q tag err) d (((d.failFreeze f St.dmaFault Fz.dma (dmaDetail err) 0 0).padExtent f).aerLog (d.qOwner q) (dmaAerBit (dmaDetail err)) true (dmaDetail err))) ∧
  (∀ (d : Dev) (q tag : Nat) (f : Flight), d.flight q tag = some f → f.reads = true →
      Ends afterFlights (.malformedCompletion q tag) d (((d.failFreeze f St.dmaFault Fz.dma 5 0 0).padExtent f).aerLog (d.qOwner q) (dmaAerBit 5) true 5))

/-- The opcodes of volumes and streams, past their checks. From R16, R119, R121, R128, R181, R182, R337, R344, R346, R347, R348,
spec/04_command_queues.md. Model's choices it rests on: log entries 38, 46, 41, 44, 47, 116. -/
def Obligations.VolumeAndStreamCommands : Prop :=
  (∀ (d : Dev) (q tag : Nat) (f : Flight), d.fresh q tag 0 false f → d.denyPlain f false = none →
      Ends afterFlights (.nop q tag) d (d.postOk f 0)) ∧
  (∀ (d : Dev) (q tag : Nat) (f : Flight) (k : Nat) (v : Store), d.fresh q tag 3 false f → d.passes f (fun _ _ => OpChecks.none) k v →
      Ends afterFlights (.flushCmd q tag) d (d.postOk f 0)) ∧
  (∀ (d : Dev) (q tag : Nat) (f : Flight) (k : Nat) (v : Store), d.fresh q tag 19 false f → d.passes f (fun _ _ => OpChecks.none) k v →
      Ends afterFlights (.streamInfo q tag) d (d.postOk f (v.committed % 2 ^ 48 + b2n (nbit v.flags 0) * 2 ^ 63))) ∧
  (∀ (d : Dev) (q tag : Nat) (f : Flight) (k : Nat) (v : Store), d.fresh q tag 1 false f →
      d.passes f (fun _ v => { OpChecks.none with bad := f.beyond v }) k v →
      Ends afterFlights (.read q tag) d (d.toGate { f with charge := d.readTokens v f, moved := f.cmd.count })) ∧
  (∀ (d : Dev) (q tag : Nat) (f : Flight) (k : Nat) (v : Store), d.fresh q tag 6 false f →
      d.passes f (fun _ v => { OpChecks.none with bad := f.beyond v }) k v →
      Ends afterFlights (.verify q tag) d (d.toGate { f with charge := d.readTokens v f, moved := 0 })) ∧
  (∀ (d : Dev) (q tag : Nat) (f : Flight) (k : Nat) (v : Store), d.fresh q tag 17 false f →
      (d.passes f (fun _ v => { OpChecks.none with bad := decide (f.cmd.addr < v.floor ∨ v.committed < f.cmd.addr + f.cmd.count) }) k v) →
      Ends afterFlights (.streamRead q tag) d (d.toGate { f with charge := d.readTokens v f, moved := f.cmd.count })) ∧
  (∀ (d : Dev) (q tag : Nat) (f : Flight) (k : Nat) (v : Store), d.fresh q tag 2 false f →
      d.passes f (fun _ v => { OpChecks.none with bad := f.beyond v, late := d.quotaDeny v (v.bandsAt f.cmd.addr f.cmd.count) }) k v →
      Ends afterFlights (.write q tag) d (d.toGate { f with charge := f.cmd.count, moved := f.cmd.count, bands := d.unmappedOf v (v.bandsAt f.cmd.addr f.cmd.count) })) ∧
  (∀ (d : Dev) (q tag : Nat) (f : Flight) (k : Nat) (v : Store), d.fresh q tag 5 false f →
      (d.passes f (fun _ v => { OpChecks.none with bad := f.beyond v, late := d.quotaDeny v (if f.cmd.count = 4096 ∧ f.cmd.addr % 4096 = 0 then [] else v.bandsAt f.cmd.addr f.cmd.count) }) k v) →
      Ends afterFlights (.writeZeroes q tag) d (d.toGate { f with bands := d.unmappedOf v (if f.cmd.count = 4096 ∧ f.cmd.addr % 4096 = 0 then [] else v.bandsAt f.cmd.addr f.cmd.count) })) ∧
  (∀ (d : Dev) (q tag : Nat) (f : Flight) (k : Nat) (v : Store), d.fresh q tag 4 false f →
      d.passes f (fun _ v => { OpChecks.none with bad := f.bandsBad v }) k v →
      Ends afterFlights (.deallocate q tag) d (d.toGate (if v.fabric = true then { f with cmd := { f.cmd with count := f.cmd.bandCount * 4096 } } else f))) ∧
  (∀ (d : Dev) (q tag : Nat) (f : Flight) (k : Nat) (v : Store), d.fresh q tag 16 false f →
      d.passes f (fun k v =>
        let mark := d.reserveMark k v
        let any := nbit f.cmd.arg0 63
        { OpChecks.none with
          bad := any && nbit f.cmd.flags 2 && v.refMode 1 == 0
          late := firstDeny [denyIf (decide (v.bands * 4096 < mark + f.cmd.count)) St.quota 4, d.quotaDeny v (v.bandsAt mark f.cmd.count),
            if !any && f.cmd.addr != mark then some ⟨St.conflict, 0, mark⟩ else none] }) k v →
      Ends afterFlights (.append q tag) d (d.toGate { f with
          cmd := { f.cmd with refTag := if (nbit f.cmd.arg0 63 && v.refMode 1 == 0) = true then d.reserveMark k v % 2 ^ v.tagBits else f.cmd.refTag }
          resv := d.reserveMark k v, charge := f.cmd.count, moved := f.cmd.count
          bands := d.unmappedOf v (v.bandsAt (d.reserveMark k v) f.cmd.count) })) ∧
  (∀ (d : Dev) (q tag : Nat) (f : Flight) (k : Nat) (v : Store) (dst : Nat) (lost : List Nat), d.fresh q tag 18 false f →
      d.passes f (fun _ _ => OpChecks.none) k v → nbit v.flags 0 = false →
      Ends afterFlights (.seal q tag dst lost) d ((((d.mapStore k (fun w => { w with flags := w.flags ||| 1 })).jrec [.service]).sealTail v dst lost).postOk f v.committed)) ∧
  (∀ (d : Dev) (q tag : Nat) (f : Flight) (k : Nat) (v : Store) (dst : Nat) (lost : List Nat), d.fresh q tag 18 false f →
      d.passes f (fun _ _ => OpChecks.none) k v → nbit v.flags 0 = true →
      Ends afterFlights (.seal q tag dst lost) d (d.postOk f v.committed)) ∧
  (∀ (d : Dev) (q tag : Nat) (f : Flight), d.fresh q tag 0x61 false f → d.denyPlain f false = none →
      Ends afterFlights (.identify q tag) d (d.toGate { f with jobs := [⟨0, 0, .got (d.identify f) 0 0 0⟩] })) ∧
  (∀ (d : Dev) (q tag : Nat) (f : Flight) (x : Deny), d.fresh q tag 1 false f →
      d.denyRecord f (fun _ v => { OpChecks.none with bad := f.beyond v }) = some x →
      Ends afterFlights (.read q tag) d (d.refuse f x)) ∧
  (∀ (d : Dev) (q tag : Nat) (f : Flight) (x : Deny), d.fresh q tag 2 false f →
      d.denyRecord f (fun _ v => { OpChecks.none with bad := f.beyond v, late := d.quotaDeny v (v.bandsAt f.cmd.addr f.cmd.count) }) = some x →
      Ends afterFlights (.write q tag) d (d.refuse f x))

/-- The forerunner view in COMPAT: doorbell, opcodes and shutdown. From R101, R103, R104, R105, spec/03_host_endpoint.md. Model's choices it rests on: log
entries 40, 31, 120. -/
def Obligations.ForerunnerView : Prop :=
  (∀ (d : Dev) (bits : W32), d.life.mode = .compat → d.fnOpen .pf = true → d.doorOpen 0 = true →
      Ends afterAll (.forerunnerDoorbell bits) d
      (d.ring 0 ((bitList bits.toNat 32).filter (fun t => !d.rung 0 t)))) ∧
  (∀ (d : Dev) (tag : Nat) (f : Flight) (k : Nat) (v : Store), d.fresh 0 tag 1 true f →
      d.passes f (fun _ v => { OpChecks.none with bad := f.beyond v }) k v →
      Ends afterFlights (.forerunnerRead tag) d (d.toGate { f with charge := d.readTokens v f, moved := f.cmd.count })) ∧
  (∀ (d : Dev) (tag : Nat) (f : Flight) (k : Nat) (v : Store), d.fresh 0 tag 2 true f →
      d.passes f (fun _ v => { OpChecks.none with bad := f.beyond v, late := d.quotaDeny v (v.bandsAt f.cmd.addr f.cmd.count) }) k v →
      Ends afterFlights (.forerunnerWrite tag) d (d.toGate { f with charge := f.cmd.count, moved := f.cmd.count, bands := d.unmappedOf v (v.bandsAt f.cmd.addr f.cmd.count) })) ∧
  (∀ (d : Dev) (tag : Nat) (f : Flight) (k : Nat) (v : Store), d.fresh 0 tag 3 true f → d.passes f (fun _ _ => OpChecks.none) k v →
      Ends afterFlights (.forerunnerFlush tag) d (d.postOk f 0)) ∧
  (∀ (d : Dev) (tag : Nat) (f : Flight) (k : Nat) (v : Store), d.fresh 0 tag 4 true f →
      d.passes f (fun _ v => { OpChecks.none with bad := f.beyond v }) k v →
      Ends afterFlights (.forerunnerDeallocate tag) d (d.toGate { f with cmd := { f.cmd with
          addr := (f.cmd.addr + 4095) / 4096 * 4096, count := 0, arg0 := (f.cmd.addr + f.cmd.count) / 4096 - (f.cmd.addr + 4095) / 4096 } })) ∧
  (∀ (d : Dev) (tag : Nat) (f : Flight), d.fresh 0 tag 0x61 true f → d.denyPlain f false = none →
      Ends afterFlights (.forerunnerIdentify tag) d (d.toGate { f with jobs := [⟨0, 0, .got d.foreIdentify 0 0 0⟩] })) ∧
  (∀ (d : Dev), d.life.mode = .compat → d.fnOpen .pf = true → d.life.fatal = false →
      Ends afterAll (.forerunnerShutdown) d
      (d.shutdown))

/-- The opcodes of object namespaces, past their checks, and compaction. From R119, R121, R349, R350, R351, R352, R353, R354, R355, R356,
spec/10_services.md. Model's choices it rests on: log entries 52, 53, 54. -/
def Obligations.NamespaceCommands : Prop :=
  (∀ (d : Dev) (q tag : Nat) (f : Flight) (nm : List Byte) (k : Nat) (v : Store) (dir b start : Nat) (fill : Option (Nat × Nat)),
      d.fresh q tag 32 false f → f.cmd.nameLen = nm.length → nm ≠ [] → d.nameWaits { f with name := nm } nm = false →
      d.passes { f with name := nm } (d.putChecks { f with name := nm }) k v → d.dirFor k v nm = some dir →
      d.placeExtent v (extentLen f.cmd.count) = some (b, start, fill) → d.sealBad k v dir = false →
      let n := { f with name := nm }
      Ends afterFlights (.put q tag nm) d ((d.mapStore k (fun v => { v with fill := fill, extents := v.extents + 1 })).toGate
          { n with obj := some ⟨nm, v.genOf nm + 1, f.cmd.addr, f.cmd.count, 0, b, start, v.extents + 1, dir⟩
                   charge := extentLen f.cmd.count + 1, moved := f.cmd.count, bands := d.putBands v dir b })) ∧
  (∀ (d : Dev) (q tag : Nat) (f : Flight) (nm : List Byte) (k : Nat) (v : Store) (o : Obj), d.fresh q tag 33 false f →
      f.cmd.nameLen = nm.length → nm ≠ [] → d.passes { f with name := nm } (fun _ v => Flight.getChecks { f with name := nm } v) k v →
      v.objOf nm = some o → d.sealBad k v o.dir = false →
      let n := { f with name := nm }
      Ends afterFlights (.get q tag nm) d (d.toGate { n with obj := some o, result := o.gen, charge := d.readCharge v { n with obj := some o, result := o.gen }, moved := f.cmd.count })) ∧
  (∀ (d : Dev) (q tag : Nat) (f : Flight) (nm : List Byte) (k : Nat) (v : Store) (o : Obj), d.fresh q tag 34 false f →
      f.cmd.nameLen = nm.length → nm ≠ [] → d.nameWaits { f with name := nm } nm = false →
      d.passes { f with name := nm } (fun _ v => { OpChecks.none with
        absent := f.cmd.any && (v.objOf nm).isNone
        late := firstDeny [d.keyDeny v false, Flight.genDeny { f with name := nm } v] }) k v →
      v.objOf nm = some o → d.sealBad k v o.dir = false →
      let n := { f with name := nm }
      Ends afterFlights (.delete q tag nm) d (d.toGate { n with obj := some o, charge := 1 })) ∧
  (∀ (d : Dev) (q tag : Nat) (f : Flight) (nm : List Byte) (k : Nat) (v : Store) (o : Obj), d.fresh q tag 35 false f →
      f.cmd.nameLen = nm.length → nm ≠ [] →
      d.passes { f with name := nm } (fun _ v => { OpChecks.none with absent := (v.objOf nm).isNone }) k v → v.objOf nm = some o →
      d.sealBad k v o.dir = false →
      let n := { f with name := nm }
      Ends afterFlights (.stat q tag nm) d (d.toGate { n with obj := some o, result := o.gen, moved := 1, jobs := [⟨0, 0, .got (statSector o) 0 0 0⟩] })) ∧
  (∀ (d : Dev) (ns band : Nat) (lost : List Nat) (v : Store) (o : Obj) (b start : Nat) (fill : Option (Nat × Nat)) (x w : Dev),
      d.liveStore (storeKey 2 ns) = some v → v.compactObj band = some o → d.placeExtent v (extentLen o.sects) = some (b, start, fill) →
      d.mayRelocate = true → d.cacheHeld = false → d.quotaTest v.owner (d.putBands v o.dir b) = 0 →
      d.cacheUsed + d.newLines (v.dirKey o.dir :: (List.range (extentLen o.sects)).map (fun i => b * 4096 + (start + i))) ≤ d.cacheLines →
      d.jobEnd 10 band false ((List.range ((extentLen o.sects + 255) / 256)).map (fun r => 2 * min 256 (extentLen o.sects - 256 * r))) = some x →
      x.dirWrite (x.compactFlight v.owner) (storeKey 2 ns) v o.dir = some w →
      let len := extentLen o.sects
      let r := w.jobReads band lost (x.readKeys band ((List.range len).map (fun i => o.start + i)))
      let c := (List.range len).foldl (fun (c : Dev) i => c.putLine (b * 4096 + (start + i)) (x.sectorLine band (o.start + i) lost v.owner (storeKey 2 ns % 65536))) r
      Ends afterFlights (.compaction ns band lost) d (c.mapStore (storeKey 2 ns) (fun v => { v with
        fill := fill, objs := v.objs.map (fun x => if x = o then { x with band := b, start := start } else x) })))

/-- Provisioning through the VOL, STM and OBJ pages, and snapshots. From R122, R330, R331, R333, R334, R335, R336, R338, R358, R363, R419,
spec/10_services.md. Model's choices it rests on: log entries 56, 55. -/
def Obligations.ProvisioningAndSnapshots : Prop :=
  (∀ (d : Dev) (r : Requester) (kind : Nat), kind < 3 → d.takes r (kindPage kind) 0 Reg.VOL_CMD = true →
      d.regB (kindPage kind) 0 Reg.VOL_STS 0 = false → (d.provBegun r kind).provCheck kind false = 0 →
      (d.provBegun r kind).store ((d.provBegun r kind).provKey kind) = none → imageOk kind ((d.provBegun r kind).recImage kind) = true →
      imgFabric kind ((d.provBegun r kind).recImage kind) = false →
      let e := d.provBegun r kind
      Ends afterFabric (.provCreate r kind) d ((e.createLocal (e.provKey kind) (e.recImage kind) 0).2.provEnd kind (e.createLocal (e.provKey kind) (e.recImage kind) 0).1)) ∧
  (∀ (d : Dev) (r : Requester) (kind : Nat) (v : Store), kind < 3 → d.takes r (kindPage kind) 0 Reg.VOL_CMD = true →
      d.regB (kindPage kind) 0 Reg.VOL_STS 0 = false → (d.provBegun r kind).provCheck kind false = 0 →
      (d.provBegun r kind).liveStore ((d.provBegun r kind).provKey kind) = some v →
      (d.provBegun r kind).deleteBlocked ((d.provBegun r kind).provKey kind) v = false → v.fabric = false →
      let e := d.provBegun r kind
      Ends afterFabric (.provDelete r kind) d ((e.deleteLocal (e.provKey kind)).2)) ∧
  (∀ (d : Dev) (r : Requester) (kind : Nat) (v : Store), kind < 3 → d.takes r (kindPage kind) 0 Reg.VOL_CMD = true →
      d.regB (kindPage kind) 0 Reg.VOL_STS 0 = false → (d.provBegun r kind).provCheck kind true = 0 →
      (d.provBegun r kind).liveStore ((d.provBegun r kind).provKey kind) = some v →
      let e := d.provBegun r kind
      Ends afterFabric (.provLoad r kind) d ((if (v.fabric && (e.setImage kind (e.imageOf kind v)).isHead) = true then
          (e.setImage kind (e.imageOf kind v)).setReg64 .FAB 0 Reg.FAB_VOL_SET v.fabSet else e.setImage kind (e.imageOf kind v)).provEnd kind provOk)) ∧
  (∀ (d : Dev) (r : Requester) (kind : Nat) (v : Store), kind < 3 → d.takes r (kindPage kind) 0 Reg.VOL_CMD = true →
      d.regB (kindPage kind) 0 Reg.VOL_STS 0 = false → (d.provBegun r kind).provCheck kind false = 0 →
      (d.provBegun r kind).liveStore ((d.provBegun r kind).provKey kind) = some v →
      (d.provBegun r kind).modifyOk kind v ((d.provBegun r kind).recImage kind) = false →
      let e := d.provBegun r kind
      Ends afterFabric (.provModify r kind) d (e.provEnd kind provInvalid)) ∧
  (∀ (d : Dev) (r : Requester) (kind : Nat) (v w : Store), kind < 3 → d.takes r (kindPage kind) 0 Reg.VOL_CMD = true →
      d.regB (kindPage kind) 0 Reg.VOL_STS 0 = false → (d.provBegun r kind).provCheck kind false = 0 →
      (d.provBegun r kind).liveStore ((d.provBegun r kind).provKey kind) = some v →
      (d.provBegun r kind).modifyOk kind v ((d.provBegun r kind).recImage kind) = true → v.fabric = false →
      ((d.provBegun r kind).modifyLocal ((d.provBegun r kind).provKey kind) ((d.provBegun r kind).recImage kind)).1 = provOk →
      ((d.provBegun r kind).modifyLocal ((d.provBegun r kind).provKey kind) ((d.provBegun r kind).recImage kind)).2.store ((d.provBegun r kind).provKey kind) = some w →
      w.oldBands ≠ 0 →
      let e := d.provBegun r kind
      Ends afterFabric (.provModify r kind) d ((e.modifyLocal (e.provKey kind) (e.recImage kind)).2)) ∧
  (∀ (d : Dev) (r : Requester) (kind : Nat) (v w : Store), kind < 3 → d.takes r (kindPage kind) 0 Reg.VOL_CMD = true →
      d.regB (kindPage kind) 0 Reg.VOL_STS 0 = false → (d.provBegun r kind).provCheck kind false = 0 →
      (d.provBegun r kind).liveStore ((d.provBegun r kind).provKey kind) = some v →
      (d.provBegun r kind).modifyOk kind v ((d.provBegun r kind).recImage kind) = true → v.fabric = false →
      ((d.provBegun r kind).modifyLocal ((d.provBegun r kind).provKey kind) ((d.provBegun r kind).recImage kind)).1 = provOk →
      ((d.provBegun r kind).modifyLocal ((d.provBegun r kind).provKey kind) ((d.provBegun r kind).recImage kind)).2.store ((d.provBegun r kind).provKey kind) = some w →
      w.oldBands = 0 →
      let e := d.provBegun r kind
      Ends afterFabric (.provModify r kind) d ((e.modifyLocal (e.provKey kind) (e.recImage kind)).2.provEnd kind provOk)) ∧
  (∀ (d : Dev) (r : Requester) (kind : Nat), kind < 3 → d.takes r (kindPage kind) 0 Reg.VOL_CMD = true →
      d.regB (kindPage kind) 0 Reg.VOL_STS 0 = true →
      Ends afterFabric (.provCreate r kind) d ((d.noteWake r (kindPage kind)).raiseErr (kindPage kind) 0 0 noDetail)) ∧
  (∀ (d : Dev) (q tag : Nat) (f : Flight) (k : Nat) (v : Store), d.flight q tag = some f → f.cmd.opcode = 0x30 →
      nbit f.cmd.flags 8 = false → f.stage = .run → d.passes f (fun _ v => { OpChecks.none with late := d.snapDeny f v }) k v →
      v.fabric = false → v.sameRequest f.cmd.arg0 = none → v.hold = false →
      Ends afterFabric (.snapCreate q tag) d ((d.setFlight { f with stage := .xfer, resv := d.life.usUp }).holdStart k)) ∧
  (∀ (d : Dev) (q tag : Nat) (f : Flight) (k : Nat) (v : Store) (x : Nat), d.flight q tag = some f → f.cmd.opcode = 0x30 →
      nbit f.cmd.flags 8 = false → f.stage = .run → d.passes f (fun _ v => { OpChecks.none with late := d.snapDeny f v }) k v →
      v.fabric = false → v.sameRequest f.cmd.arg0 = some x →
      Ends afterFabric (.snapCreate q tag) d (d.postOk f x)) ∧
  (∀ (d : Dev) (q tag : Nat) (f : Flight) (k : Nat) (v : Store), d.flight q tag = some f → f.cmd.opcode = 0x30 →
      nbit f.cmd.flags 8 = false → f.stage = .run → d.passes f (fun _ v => { OpChecks.none with late := d.snapDeny f v }) k v →
      v.fabric = true →
      let w := d.setFlight { f with stage := .xfer, resv := d.life.usUp }
      Ends afterFabric (.snapCreate q tag) d (if d.isHead = true then w.opAsk 4 [k, f.cmd.arg0, f.tint, d.fabId, f.q, f.tag, 0, 0, 0] false
        else w.sendF 0x14 0 4 [k, 0, f.cmd.arg0, f.tint, f.q, f.tag] true)) ∧
  (∀ (d : Dev) (q tag : Nat) (f : Flight) (k : Nat) (v : Store), d.flight q tag = some f → f.cmd.opcode = 0x30 →
      nbit f.cmd.flags 8 = false → f.stage = .xfer → f.key = some k → d.store k = some v → v.fabric = false → d.snapReady v = true →
      Ends afterFabric (.snapCreate q tag) d (((d.snapMark k (v.snapNewest + 1) (if d.bak.valid then d.bak.sec else 0) f.cmd.arg0 f.tint f.resv).postOk f (v.snapNewest + 1)).holdEnd k)) ∧
  (∀ (d : Dev) (q tag : Nat) (f : Flight) (k : Nat) (v : Store), d.fresh q tag 0x31 false f →
      d.passes f (fun _ v => { OpChecks.none with absent := !v.snapLive (f.cmd.arg0 % 2 ^ 32) }) k v → v.fabric = false →
      Ends afterFabric (.snapDelete q tag) d ((d.snapDrop k (f.cmd.arg0 % 2 ^ 32)).postOk f 0))

/-- SNAP_READ, ATTEST, RELOCATE, ABORT and the RAW opcodes. From R133, R134, R221, R222, R223, R362, R365, R366, R368, spec/04_command_queues.md,
spec/10_services.md. Model's choices it rests on: log entries 57, 47, 51, 15, 112, 127. -/
def Obligations.AdministrativeCommands : Prop :=
  (∀ (d : Dev) (q tag : Nat) (f : Flight) (k : Nat) (v : Store), d.fresh q tag 50 false f →
      d.passes f (fun _ v => { OpChecks.none with bad := f.beyond v, absent := !v.snapLive (f.cmd.arg0 % 2 ^ 32) }) k v →
      Ends afterFlights (.snapRead q tag) d (d.toGate { f with charge := d.readTokens v f, moved := f.cmd.count })) ∧
  (∀ (d : Dev) (q tag : Nat) (f : Flight) (k : Nat) (v : Store) (x : List Byte), d.fresh q tag 64 false f →
      d.passes f (fun _ v => { OpChecks.none with
        bad := f.beyond v
        denied := algKeyed (f.cmd.arg0 % 256) && !d.tintHoldsKey f.tint (f.cmd.arg0 / 256 % 4096) 2 }) k v →
      x.length = algLen (f.cmd.arg0 % 256) →
      Ends afterFlights (.attest q tag x) d (d.toGate { f with name := x, charge := d.readTokens v f })) ∧
  (∀ (d : Dev) (q tag dst : Nat) (lost : List Nat) (f : Flight) (v : Store) (k : Nat), d.flight q tag = some f → f.cmd.opcode = 0x50 →
      f.stage = .run → d.passes f (fun _ v => { OpChecks.none with bad := f.bandsBad v }) k v →
      Ends afterFlights (.relocate q tag dst lost) d (d.setFlight { f with stage := .media })) ∧
  (∀ (d : Dev) (q tag dst : Nat) (lost : List Nat) (f : Flight) (v : Store) (i b : Nat) (e : BandEnt) (x : Dev), d.flight q tag = some f →
      f.cmd.opcode = 0x50 → f.stage = .media → f.key.bind d.store = some v → f.order = 0 → d.nextReloc f v = some (i, b) →
      d.jnlFull = false → d.destOk dst false = true → d.band b = some e → d.jobElse 14 b = false →
      (d.holdLog e).jobEnd 14 b false wholeCosts = some x →
      Ends afterFlights (.relocate q tag dst lost) d ((x.relocateWork b dst 14 lost).relocNext q tag i)) ∧
  (∀ (d : Dev) (q tag dst : Nat) (lost : List Nat) (f : Flight) (v : Store), d.flight q tag = some f → f.cmd.opcode = 0x50 →
      f.stage = .media → f.key.bind d.store = some v → f.order = 0 → d.nextReloc f v = none →
      Ends afterFlights (.relocate q tag dst lost) d (d.postOk f f.result)) ∧
  (∀ (d : Dev) (q tag dst : Nat) (lost : List Nat) (f : Flight) (v : Store), d.flight q tag = some f → f.cmd.opcode = 0x50 →
      f.stage = .media → f.key.bind d.store = some v → f.order = 1 → d.relocBusy f = false →
      Ends afterFlights (.relocate q tag dst lost) d (d.post f St.aborted 0 0 0 0 f.cmd.addr f.result)) ∧
  (∀ (d : Dev) (q tag : Nat) (f : Flight), d.fresh q tag 0x60 false f →
      d.denyPlain f (decide (32 ≤ f.cmd.arg0) || f.cmd.arg0 % 32 == tag || (match d.flight q (f.cmd.arg0 % 32) with | some x => x.cmd.opcode == 0x60 | none => false)) = none →
      d.flight q (f.cmd.arg0 % 32) = none →
      Ends afterFlights (.abort q tag) d ((d.postOk f 2).holdsFinish)) ∧
  (∀ (d : Dev) (q tag : Nat) (f : Flight) (x : Flight), d.fresh q tag 0x60 false f →
      d.denyPlain f (decide (32 ≤ f.cmd.arg0) || f.cmd.arg0 % 32 == tag || (match d.flight q (f.cmd.arg0 % 32) with | some x => x.cmd.opcode == 0x60 | none => false)) = none →
      d.flight q (f.cmd.arg0 % 32) = some x → d.committed x = true →
      Ends afterFlights (.abort q tag) d ((d.setFlight { f with stage := .xfer, result := 1 }).holdsFinish)) ∧
  (∀ (d : Dev) (q tag : Nat) (f : Flight) (x : Flight), d.fresh q tag 0x60 false f →
      d.denyPlain f (decide (32 ≤ f.cmd.arg0) || f.cmd.arg0 % 32 == tag || (match d.flight q (f.cmd.arg0 % 32) with | some x => x.cmd.opcode == 0x60 | none => false)) = none →
      d.flight q (f.cmd.arg0 % 32) = some x → d.committed x = false → x.cmd.opcode ≠ 0x50 →
      Ends afterFlights (.abort q tag) d (((d.caught x).postOk f 0).holdsFinish)) ∧
  (∀ (d : Dev) (q tag : Nat) (f : Flight) (x : Flight), d.fresh q tag 0x60 false f →
      d.denyPlain f (decide (32 ≤ f.cmd.arg0) || f.cmd.arg0 % 32 == tag || (match d.flight q (f.cmd.arg0 % 32) with | some x => x.cmd.opcode == 0x60 | none => false)) = none →
      d.flight q (f.cmd.arg0 % 32) = some x → d.committed x = false → x.cmd.opcode = 0x50 →
      Ends afterFlights (.abort q tag) d ((if d.relocBusy x = true
        then (d.setFlight { x with order := 1 }).setFlight { f with stage := .xfer, result := 0 } else (d.caught x).postOk f 0).holdsFinish)) ∧
  (∀ (d : Dev) (q tag : Nat) (f : Flight), d.flight q tag = some f → f.cmd.opcode = 0x60 → f.stage = .xfer →
      d.targetRuns f (f.cmd.arg0 % 32) = false →
      Ends afterFlights (.abort q tag) d ((d.postOk f f.result).holdsFinish)) ∧
  (∀ (d : Dev) (q tag : Nat) (f : Flight) (outs : List Decoded) (soft : Bool) (given : List Byte) (st : Nat), d.flight q tag = some f →
      f.cmd.opcode = 112 → f.stage = .run → nbit f.cmd.flags 8 = false → d.awaitsGlaze 112 = false → d.rawDeny f = none →
      Ends afterFlights (.rawRead q tag outs soft given st) d (d.toGate { f with charge := if f.cmd.rawMode = 0 then f.cmd.count else 4 * f.cmd.count })) ∧
  (∀ (d : Dev) (q tag : Nat) (f : Flight) (outs : List Decoded) (soft : Bool) (given : List Byte) (st : Nat), d.flight q tag = some f →
      f.cmd.opcode = 112 → f.stage = .xfer →
      Ends afterFlights (.rawRead q tag outs soft given st) d (d.rawIssue f)) ∧
  (∀ (d : Dev) (q tag : Nat) (f : Flight) (outs : List Decoded) (soft : Bool) (given : List Byte) (st : Nat) (l : ListDone),
      d.flight q tag = some f → f.cmd.opcode = 112 → f.stage = .media → d.rawDone f = some l →
      (¬ (l.status = 4 ∨ l.status = 5 ∨ l.status = 8 ∨ l.status = 9)) → given.length = f.buffer → f.cmd.rawMode = 1 →
      let e : Dev := ({ d with listsDone := d.listsDone.filter (fun x => !(x == l)) })
      Ends afterFlights (.rawRead q tag outs soft given st) d ((e.dmaOut f (e.rawData f.cmd outs given)).postOk f (st % 256))) ∧
  (∀ (d : Dev) (q tag : Nat) (f : Flight) (given : List Byte) (st : Nat), d.flight q tag = some f → f.cmd.opcode = 113 → f.stage = .run →
      nbit f.cmd.flags 8 = false → d.awaitsGlaze 113 = false → d.rawDeny f = none →
      Ends afterFlights (.rawProgram q tag given st) d (d.toGate { f with charge := 16 })) ∧
  (∀ (d : Dev) (q tag : Nat) (f : Flight) (given : List Byte) (st : Nat), d.flight q tag = some f → f.cmd.opcode = 113 → f.stage = .data →
      given.length = f.buffer →
      Ends afterFlights (.rawProgram q tag given st) d (d.rawIssue { f with staged := [{ data := given }] })) ∧
  (∀ (d : Dev) (q tag : Nat) (f : Flight) (given : List Byte) (st : Nat) (l : ListDone), d.flight q tag = some f → f.cmd.opcode = 113 →
      f.stage = .media → d.rawDone f = some l → (¬ (l.status = 4 ∨ l.status = 5 ∨ l.status = 8 ∨ l.status = 9)) →
      let e : Dev := ({ d with listsDone := d.listsDone.filter (fun x => !(x == l)) })
      let bytes := (f.staged.head?.map (fun x => x.data)).getD []
      Ends afterFlights (.rawProgram q tag given st) d ((e.rawPut (f.cmd.rawChan * 16 + f.cmd.rawDie) f.cmd.rawBlock f.cmd.rawPage bytes).postOk f (st % 256))) ∧
  (∀ (d : Dev) (q tag : Nat) (f : Flight) (st : Nat), d.flight q tag = some f → f.cmd.opcode = 114 → f.stage = .run →
      nbit f.cmd.flags 8 = false → d.awaitsGlaze 114 = false → d.rawDeny f = none →
      Ends afterFlights (.rawErase q tag st) d (d.toGate { f with charge := 0 })) ∧
  (∀ (d : Dev) (q tag : Nat) (f : Flight) (st : Nat), d.flight q tag = some f → f.cmd.opcode = 114 → f.stage = .xfer →
      Ends afterFlights (.rawErase q tag st) d (d.rawIssue f)) ∧
  (∀ (d : Dev) (q tag : Nat) (f : Flight) (st : Nat) (l : ListDone), d.flight q tag = some f → f.cmd.opcode = 114 → f.stage = .media →
      d.rawDone f = some l → (¬ (l.status = 4 ∨ l.status = 5 ∨ l.status = 8 ∨ l.status = 9)) →
      let e : Dev := ({ d with listsDone := d.listsDone.filter (fun x => !(x == l)) })
      Ends afterFlights (.rawErase q tag st) d ((e.rawWipe (f.cmd.rawChan * 16 + f.cmd.rawDie) f.cmd.rawBlock).postOk f (st % 256)))

/-- Band translation: destage, merges, folds, collection, allocation, patrol and checkpoints. From R153, R157, R160, R162, R164, R166, R167, R170, R172,
R179, R184, spec/05_band_translation.md. Model's choices it rests on: log entries 4, 59, 60, 58, 109, 121, 133, 128, 129. -/
def Obligations.BandTranslation : Prop :=
  (∀ (d : Dev) (b start dst : Nat) (bad : Option Nat) (ls : List (Nat × Line)) (n : Nat) (e : BandEnt) (x : LogBand), d.mayPlace = true →
      d.streamTurn b start = true → d.jobOn b = false → d.atReserve = false → d.writeRun b start n = some ls → n ≠ 4096 →
      d.band b = some e → e.logged = true → d.logBand e.logIdx = some x →
      Ends afterAll (.destage b start n dst bad) d (if (x.direct && !(x.fill == start)) = true then d.endDirect b e.logIdx dst else d.placeLog e.logIdx bad ls)) ∧
  (∀ (d : Dev) (b start dst : Nat) (bad : Option Nat) (ls : List (Nat × Line)) (n : Nat), d.mayPlace = true →
      d.streamTurn b start = true → d.jobOn b = false → d.atReserve = false → d.writeRun b start n = some ls → d.band b = none →
      Ends afterAll (.destage b start n dst bad) d (if n = 4096 then (if ls.all (·.2.zero) = true then d.unmapBand b else d.placeWhole b dst bad ls) else d.placeNew b start dst bad ls)) ∧
  (∀ (d : Dev) (l : Nat) (x : LogBand), d.logBand l = some x → d.mayPlace = true → x.unit.isEmpty = false → x.more = true →
      (x.holdUs ≤ d.life.usUp - x.unitUs ∨ d.linesWanted = true) →
      Ends afterAll (.logUnitHoldExpiry l none) d
      (d.programUnit l)) ∧
  (∀ (d : Dev) (l m : Nat) (x : LogBand), d.logBand l = some x → d.mayPlace = true → x.unit.isEmpty = false → x.more = true →
      (x.holdUs ≤ d.life.usUp - x.unitUs ∨ d.linesWanted = true) →
      Ends afterAll (.logUnitHoldExpiry l (some m)) d
      (d.unitFail l m)) ∧
  (∀ (d : Dev) (l dst : Nat) (lost : List Nat), d.mayRelocate = true → d.mergeDue l = true →
      Ends afterAll (.merge l dst lost) d
      (d.endLog l dst d.mergeFast (d.forcedLog l || d.heldLog l || d.ahead) lost)) ∧
  -- the rows of a merge pass G12 one by one, over several commands where it has to wait
  (∀ (d x : Dev) (l dst : Nat) (fast forced : Bool) (lost : List Nat) (y : LogBand), d.mergeWaits l dst fast = false →
      (d.settleUnit l).logBand l = some y →
      ((d.settleUnit l).setLog l { y with state := 3 }).jobEnd 12 y.band forced ((d.settleUnit l).mergeCosts y) = some x →
      d.endLog l dst fast forced lost = x.mergeWork l dst fast lost) ∧
  (∀ (d : Dev) (dst b : Nat) (lost bs : List Nat), d.mayRelocate = true → d.ftl.fastOrder = b :: bs →
      Ends afterAll (.fold dst lost) d
      (d.relocateBand b dst 11 d.ahead lost id)) ∧
  -- so do those of a relocation, each of 512 tokens
  (∀ (d x : Dev) (b dst gate : Nat) (forced : Bool) (lost : List Nat) (after : Dev → Dev) (e : BandEnt), d.band b = some e →
      d.destOk dst false = true → d.jobElse gate b = false → (d.holdLog e).jobEnd gate b forced wholeCosts = some x →
      d.relocateBand b dst gate forced lost after = after (x.relocateWork b dst gate lost)) ∧
  (∀ (d : Dev), d.life.booted = true →
      Ends afterAll (.pslcTargetRecompute) d
      (d.pslRecompute.shrinkClose)) ∧
  (∀ (d : Dev) (dsts lost : List Nat) (v : Nat), d.mayRelocate = true → (0 < d.gcPressure ∨ d.jobAt 10 = true) → d.gcNext = some v →
      let a := d.setRegN .GC 0 Reg.GC_VICTIM (v % 2 ^ 20 + (d.sb v).valid % 64 * 2 ^ 20 + 2 ^ 26)
      let e := a.toReclaim v 2
      Ends afterAll (.gcCollect dsts lost) d (if (e.sb v).valid = 0 then e.sbSettle v
        else e.emptySb v 10 dsts lost (fun d => d.inc64 .GC 0 Reg.GC_RELOCATED 1))) ∧
  (∀ (d : Dev) (pslc fh : Bool) (p g n : Nat), d.mayPlace = true → (fh = true → d.atReserve = false) →
      (pslc = true → d.curSb + d.pslcComing < d.pslTarget) → 1 ≤ p → p ≤ 4 → d.allocGroup = some g → d.oldestFree g = some n →
      d.lookupOpen n = false →
      let e := (d.arbWin 0x320 128 g).setRegF .REB 0 Reg.REB_REB_STS 3 1 0
      Ends afterAll (.sbAllocate pslc p fh) d (((e.setSb n { e.sb n with
        state := 1, pslc := pslc, purpose := p, valid := 0, next := 0, failed := [], kind := 0 }).ledgerIntent n).pslRecompute)) ∧
  (∀ (d : Dev) (n a b : Nat) (bad : List Nat), (d.sb n).state = 1 → d.openHeld n = false → d.copyOk a b = true → d.life.fatal = false →
      bad = [] →
      let m : Dev := { d with
        media := d.media.filter (fun x => keySb x.1 != n)
        injected := d.injected.filter (fun x => !(x.page == PT.LDP.code && keySb x.addr == n)) }
      let e := (m.countErases n bad).ledgerClose n bad
      let f := e.copyPage a b 7 (headerPage (e.headerRec n))
      Ends afterAll (.eraseDone n ⟨bad, a, b⟩) d (f.setSb n { e.sb n with state := 2 })) ∧
  (∀ (d : Dev) (n a b : Nat) (bad : List Nat), (d.sb n).state = 1 → bad.isEmpty = false →
      let m : Dev := { d with
        media := d.media.filter (fun x => keySb x.1 != n)
        injected := d.injected.filter (fun x => !(x.page == PT.LDP.code && keySb x.addr == n)) }
      let e := (m.countErases n bad).ledgerClose n bad
      Ends afterAll (.eraseDone n ⟨bad, a, b⟩) d ((bad.foldl (fun e m => e.blockFail n m) e).sbSettle n)) ∧
  (∀ (d : Dev) (outs : List (Nat × Nat × Decoded)) (dsts lost : List Nat) (n : Nat), d.mayRelocate = true → d.gateOpen 13 = true →
      d.ftl.sbs.find? (fun e => e.2.state == 4 && e.2.kind == 1) = none → d.patrolNext = some n →
      let rows := d.visitRows n
      let mine := outs.filter (fun e => rows.contains (keyRow e.1) && mhas d.media e.1)
      let e := (d.charge 13 (256 * rows.length)).visitCounts (d.media.filter (fun e => rows.contains (keyRow e.1))).length mine
      let f := e.setSb n { e.sb n with visitS := e.nowS, visits := (e.sb n).visits + 1 }
      Ends afterAll (.patrolVisit outs dsts lost) d (if mine.any (fun e => d.visitFinds e.2.1 e.2.2) = true then
        (((f.finding n).emptySb n 13 dsts lost (fun d => d.incWrap .WEAR 0 Reg.WEAR_REFRESHED 1)).sbSettle n) else f)) ∧
  (∀ (d : Dev) (outs : List (Nat × Nat × Decoded)) (dsts lost : List Nat) (n : Nat) (s : Sb), d.mayRelocate = true →
      d.ftl.sbs.find? (fun e => e.2.state == 4 && e.2.kind == 1) = some (n, s) →
      Ends afterAll (.patrolVisit outs dsts lost) d ((d.emptySb n 13 dsts lost (fun d => d.incWrap .WEAR 0 Reg.WEAR_REFRESHED 1)).sbSettle n)) ∧
  (∀ (d : Dev), d.mayPlace = true → d.regB .MAP 0 Reg.MAP_CKPT_STS 8 = false → d.deltaMax ≤ d.jnl.deltas.length → d.plp.rootPages ≠ 0 →
      let recs := d.ftl.groups.flatMap (fun e => d.groupRecs e.1) ++ d.ftl.unprot.map (fun k => d.rowRec rowUnprot k true (d.bandOfSlot (k / 1024) (k / 16 % 64)) 16) ++
        d.ftl.rows.map (fun e => d.rowRec rowProgress e.1 true (d.bandOfSlot (e.1 / 1024) (e.1 / 16 % 64)) e.2.units)
      let e : Dev := { d with
        plp := { d.plp with rootPages := d.plp.rootPages - 1 }
        jnl := { d.jnl with rootSeq := d.jnl.rootSeq + 1, passSeq := d.reg64 .JNL 0 Reg.JNL_JSEQ } }
      Ends afterAll .checkpointPass d ((e.setRegN .MAP 0 Reg.MAP_CKPT_STS 0x100).jrec recs)) ∧
  (∀ (d : Dev), d.life.fatal = false → d.regB .MAP 0 Reg.MAP_CKPT_STS 8 = true →
      Ends afterAll .checkpointPass d (d.setRegF .MAP 0 Reg.MAP_CKPT_STS 0 8 (min 192 (d.regF .MAP 0 Reg.MAP_CKPT_STS 0 8 + 1)))) ∧
  (∀ (d : Dev), d.regB .MAP 0 Reg.MAP_CKPT_STS 8 = true → d.regF .MAP 0 Reg.MAP_CKPT_STS 0 8 = 192 →
      let e : Dev := { d with jnl := { d.jnl with deltas := [], copies := [], media := d.ftl, waiting := d.jnl.waiting.map (fun p => { p with state := d.ftl }) } }
      Ends afterAll .ckptDone d ((e.setRegN .MAP 0 Reg.MAP_CKPT_STS 192).setIrq .MAP 0 0).formatFinish)

/-- Stripe parity, journal pages, rebuild and reshape. From R167, R271, R272, R276, R277, R284, R288, R294, R295, R296, R297, spec/08_stripes_rebuild.md.
Model's choices it rests on: log entries 4, 60, 79, 114, 115, 134. -/
def Obligations.StripesAndRebuild : Prop :=
  (∀ (d : Dev) (l row : Nat) (x : LogBand) (r : RowSt), d.logBand l = some x →
      mget d.ftl.rows ((x.sb * 64 + x.slot) * 16 + row) = some r → d.mayPlace = true → 16 ≤ r.units → row < 16 →
      let k := (x.sb * 64 + x.slot) * 16 + row
      Ends afterAll (.logRowParity l row .ok) d (((d.charge 12 240).closeRow k).jrec [(d.charge 12 240).rowRec rowClosed k true x.band 17])) ∧
  (∀ (d : Dev) (l row : Nat) (x : LogBand) (r : RowSt), d.logBand l = some x →
      mget d.ftl.rows ((x.sb * 64 + x.slot) * 16 + row) = some r → d.mayPlace = true → 16 ≤ r.units → row < 16 →
      let k := (x.sb * 64 + x.slot) * 16 + row
      Ends afterAll (.logRowParity l row .undecodable) d ((((d.charge 12 240).unprotect k).raiseErr .STR 0 2 noDetail).urge l false)) ∧
  (∀ (d : Dev) (l row : Nat) (x : LogBand) (r : RowSt) (m : Nat), d.logBand l = some x →
      mget d.ftl.rows ((x.sb * 64 + x.slot) * 16 + row) = some r → d.mayPlace = true → 16 ≤ r.units → row < 16 →
      let k := (x.sb * 64 + x.slot) * 16 + row
      Ends afterAll (.logRowParity l row (.programFail m)) d (((((d.charge 12 240).blockFail x.sb m).unprotect k).raiseErr .STR 0 2 noDetail).urge l true)) ∧
  (∀ (d : Dev) (l : Nat) (x : LogBand) (res : Parity) (r : RowSt), d.logBand l = some x → x.unit = [] → x.more = true → x.state ≠ 3 →
      mget d.ftl.rows ((x.sb * 64 + x.slot) * 16 + x.fill / 256) = some r → d.mayPlace = true →
      (d.rowCloseUs < d.life.usUp - r.firstUs ∨ d.life.entry = .patrolEntering) → r.units < 16 →
      let row := x.fill / 256
      let pads := (row + 1) * 256 - x.fill
      let k := (x.sb * 64 + x.slot) * 16 + row
      let e := ((d.programAt x.sb x.slot (d.padCws x x.fill ((row + 1) * 256))).inc64 .LOG 0 Reg.LOG_PAD_SECT pads).charge 12 pads
      let f := e.setLog l { x with fill := (row + 1) * 256, inOrder := x.inOrder && decide (pads = 0), state := if (row + 1) * 256 = 4096 then 2 else x.state }
      Ends afterAll (.rowCloseTimeout l res) d
        ((f.jrec ((List.range (pads / 16)).map (fun i => f.rowRec rowProgress k true x.band (r.units + i + 1)))).rowParity l row res)) ∧
  (∀ (d : Dev) (a b : Nat) (p : JPage) (ps : List JPage), d.jnl.waiting = p :: ps → d.copyOk a b = true → d.life.fatal = false →
      let e : Dev := { d with jnl := { d.jnl with
        waiting := ps, media := p.state, copies := (a, b) :: d.jnl.copies, seqMedia := d.jnl.seqMedia + 2048 } }
      Ends afterAll (.journalPageWrite a b) d ((e.copyPage a b 2 p.bytes).inc64 .JNL 0 Reg.JNL_PAGES 1)) ∧
  (∀ (d : Dev) (n : Nat) (c : Nat × Nat), d.jnl.copies.find? d.oneCopy = some c →
      d.copyOk (if d.dieGone c.1 = true then c.2 else c.1) n = true →
      Ends afterAll (.journalCopyRestore n) d
      ({ d with jnl := { d.jnl with copies := updFirst (fun x => x == c) (fun _ => (if d.dieGone c.1 = true then c.2 else c.1, n)) d.jnl.copies } })) ∧
  (∀ (d : Dev) (dst b : Nat) (lost : List Nat) (out : List Nat) (g : Nat), d.mayRelocate = true →
      (d.ftl.groups.filter (fun e => e.2.state == 2)).map (·.1) = g :: out → d.destOk dst false = true →
      ((g :: out).findSome? d.rebuildHere).or (d.leaving.findSome? (fun g => d.rebuildNext g)) = some b →
      let e := d.relocateBand b dst 14 false lost (fun d => d.inc64 .REB 0 Reg.REB_MOVED 1)
      Ends afterAll (.rebuildRelocate dst lost) d ((d.leaving.foldl (fun e g => e.groupDone g) e).formFromPool)) ∧
  (∀ (d : Dev) (dst : Nat) (lost : List Nat) (out : List Nat) (g : Nat) (h : SnapEnt), d.mayRelocate = true →
      (d.ftl.groups.filter (fun e => e.2.state == 2)).map (·.1) = g :: out → d.destOk dst false = true →
      (g :: out).findSome? d.rebuildHere = none → d.leaving.findSome? (fun g => d.rebuildNext g) = none →
      d.leaving.findSome? (fun g => (d.heldOfGroup g).head?) = some h →
      Ends afterAll (.rebuildRelocate dst lost) d ((d.leaving.foldl (fun e g => e.groupDone g) (d.relocateHeld h dst 14 false lost)).formFromPool)) ∧
  (∀ (d : Dev) (n : Nat) (dsts lost : List Nat), d.mayRelocate = true → (d.sb n).state = 5 →
      Ends afterAll (.repairRelocation n dsts lost) d
      ((d.emptySb n 14 dsts lost id).sbSettle n)) ∧
  (∀ (d : Dev), d.life.booted = true →
      Ends afterAll (.reshapeCapUpdate) d
      ((d.setRegN .REB 0 Reg.REB_RESHAPE_CAP (d.reshapeCap (d.regF .REB 0 Reg.REB_REB_CTL 1 1) % 2 ^ 25)).setRegN .REB 0
        Reg.REB_RESHAPE_NEED (d.reshapeNeed % 2 ^ 25))) ∧
  (∀ (d : Dev) (r : Requester) (v : W32), d.takes r .REB 0 Reg.REB_REB_CTL = true →
      let t := d.taken r .REB 0
      Ends afterAll (.reshapeStart r v) d (t.reshapeWrite v)) ∧
  (∀ (d : Dev) (v : W32), d.regB .REB 0 Reg.REB_REB_CTL 0 = false → fld v 0 1 = 1 →
      let e := (d.setRegF .REB 0 Reg.REB_REB_CTL 1 1 (fld v 1 1)).setRegF .REB 0 Reg.REB_REB_CTL 2 1 (fld v 2 1)
      let w := e.regF .REB 0 Reg.REB_REB_CTL 1 1
      d.reshapeWrite v = if w = e.regF .STR 0 Reg.STR_STR_STS 0 1 then e
        else if e.ftl.groups.any (fun g => g.2.state == 2) = true then e.raiseErr .REB 0 1 noDetail
        else if e.reshapeCap w < e.reshapeNeed then e.raiseErr .REB 0 0 noDetail
        else (e.setRegF .REB 0 Reg.REB_REB_CTL 0 1 1).setRegF .REB 0 Reg.REB_REB_STS 2 2 0) ∧
  (∀ (d : Dev), d.regB .REB 0 Reg.REB_REB_CTL 0 = true → d.reshapePaused = false → d.mayRelocate = true →
      d.formFromPool.ftl.groups.all (fun e => e.2.width == d.formFromPool.formWidth) = true →
      let e := d.formFromPool
      let f := (e.setRegF .STR 0 Reg.STR_STR_STS 0 1 (e.formWidth - 17)).jrec [.prot (e.formWidth - 17)]
      Ends afterAll .reshapeStep d (((f.setRegF .REB 0 Reg.REB_REB_CTL 0 1 0).setRegF .REB 0 Reg.REB_REB_STS 2 2 0).setIrq .REB 0 1)) ∧
  (∀ (d : Dev), d.regB .REB 0 Reg.REB_REB_CTL 0 = true →
      let was := d.regB .REB 0 Reg.REB_REB_STS 3
      let stall : Bool := if d.freeSb ≤ d.effReserve then true else if d.effReserve + d.sbMax ≤ d.freeSb then false else was
      let paused := stall || d.regB .REB 0 Reg.REB_REB_CTL 2 || d.ftl.groups.any (fun e => e.2.state == 2 && e.2.cause == 1)
      let e := (d.setRegF .REB 0 Reg.REB_REB_STS 2 1 (b2n paused)).setRegF .REB 0 Reg.REB_REB_STS 3 1 (b2n stall)
      Ends afterAll .reshapePause d (if (stall && !was) = true then e.setIrq .REB 0 2 else e))

/-- Flash channels: discovery, training, lists, entries, resets, suspend and resume. From R201, R203, R207, R208, R209, R210, R212, R214, R216, R218,
R224, spec/06_flash_channels.md. Model's choices it rests on: log entries 65, 63, 5, 122, 123, 124, 111, 112. -/
def Obligations.FlashChannels : Prop :=
  (∀ (d : Dev) (ch : Nat) (p : PkgFound), ch < 128 → d.page .CH ch = .starting →
      let found := pkgDies p
      let a := found.foldl (fun a e => { a with dies := mput a.dies (ch * 16 + e.1) (a.foundDie (ch * 16 + e.1) e.2.1 e.2.2) }) (d.discoverBus ch p)
      let pg := (found.head?.map (fun e => e.2.1)).getD []
      let old := a.chan ch
      let c : ChSt := {
        puevo := puevoOf pg, modes := Config.nvModes pg, tR := fieldAt pg 137 2, tProg := fieldAt pg 133 2, tBers := fieldAt pg 135 2
        lists := (old.map (fun c => c.lists)).getD [], ready := false, below := none, trainS := a.nowS
        trainTemp := (old.map (fun c => c.trainTemp)).getD 0, fenced := (old.map (fun c => c.fenced)).getD [], rated := pageRated pg
        bits := fieldAt pg 102 1, jedec := fieldAt pg 64 1, manuf := (pg.drop 32).take 12, model := (pg.drop 44).take 20, trainRd := [] }
      let b : Dev := { a with chans := mput a.chans ch c }
      let e := b.setRegF .CH ch Reg.CH_CH_STS 8 5 (b.presentOf ch).length
      Ends afterAll (.channelDiscovery ch p) d (if p.any (fun c => c.present && c.page.isNone) = true then e.raiseErr .CH ch 8 noDetail else e)) ∧
  (∀ (d : Dev) (ch : Nat) (c : ChSt), d.chan ch = some c → d.page .CH ch = .starting →
      Ends afterAll (.channelTraining ch) d
      (d.setRegF .CH ch Reg.CH_CH_STS 13 1 1)) ∧
  (∀ (d : Dev) (ch : Nat) (c : ChSt) (t : Trained) (tried : List Nat) (won : Option (Nat × Nat)), d.chan ch = some c →
      d.regB .CH ch Reg.CH_CH_STS 13 = true → d.trainWalk ch (d.trainRates ch c) t.eyes = some (tried, won) →
      let was := d.regF .CH ch Reg.CH_CH_STS 0 4
      let had := d.regB .CH ch Reg.CH_CH_STS 5
      let r := (won.map (fun x => x.1)).getD 0
      let a := (d.triedRates ch c tried).mapChan ch (fun c => { c with
        trainS := d.nowS, trainTemp := t.temp, trainRd := t.rd, ready := true, below := none })
      let b := (a.phySts ch ((won.map (fun x => x.2)).getD 0) t (won.isSome && tried.length == 1)).setReg64 .CH ch Reg.CH_TRAIN_WR (t.wr % 2 ^ 60)
      let service := if (b.presentOf ch).any (fun e => e.2.data) = true then b.presentOf ch else []
      let e := (b.diesOf ch).foldl (fun e x => e.mapDie x.1 (fun y => { y with
        state := if y.state = 9 then 1 else y.state, data := e.dataDie ch y r })) b
      let f := ((e.setRegF .CH ch Reg.CH_CH_STS 0 6 (r + b2n (decide (6 ≤ r)) * 16 + b2n won.isSome * 32)).setRegF .CH ch Reg.CH_CH_STS 13 1 0).setIrq .CH ch 0
      let g := if r < 3 then f.raiseErr .CH ch 4 noDetail else f
      let m := if had = true ∧ r < was ∧ g.page .CH ch = .serving then g.setIrq .CH ch 1 else g
      let n := if had = true ∧ 3 ≤ was ∧ r < 3 then service.foldl (fun m x => m.dieFail x.1 4) m else m
      Ends afterAll (.trainingDone ch t) d ((n.diesOf ch).foldl (fun n x => if x.2.data = true then n.poolDie x.1 else n) n)) ∧
  (∀ (d : Dev) (ch : Nat) (c : ChSt) (eye : Option Nat) (t : Trained), d.chan ch = some c → d.page .CH ch = .serving →
      d.regB .CH ch Reg.CH_CH_STS 13 = false → d.regF .CH ch Reg.CH_PHY_CFG 0 16 ≠ 0 →
      d.regF .CH ch Reg.CH_PHY_CFG 0 16 ≤ d.nowS - c.trainS → d.eyePasses ch (d.regF .CH ch Reg.CH_CH_STS 0 4) eye = true →
      let a := d.mapChan ch (fun c => { c with trainS := d.nowS, trainTemp := t.temp, trainRd := t.rd })
      let y := eyeAt (d.regF .CH ch Reg.CH_CH_STS 0 4) (eye.getD 0)
      Ends afterAll (.retrain ch eye t) d (((a.phySts ch y t true).setReg64 .CH ch Reg.CH_TRAIN_WR (t.wr % 2 ^ 60)).setIrq .CH ch 0)) ∧
  (∀ (d : Dev) (ch : Nat) (c : ChSt) (eye : Option Nat) (t : Trained), d.chan ch = some c → d.page .CH ch = .serving →
      d.regB .CH ch Reg.CH_CH_STS 13 = false → d.regF .CH ch Reg.CH_PHY_CFG 0 16 ≠ 0 →
      d.regF .CH ch Reg.CH_PHY_CFG 0 16 ≤ d.nowS - c.trainS → d.eyePasses ch (d.regF .CH ch Reg.CH_CH_STS 0 4) eye = false →
      Ends afterAll (.retrain ch eye t) d
      ((d.mapChan ch (fun c => { c with below := some (d.regF .CH ch Reg.CH_CH_STS 0 4) })).setRegF .CH ch Reg.CH_CH_STS 13 1 1)) ∧
  (∀ (d : Dev) (ch lane lid : Nat) (es : List Entry) (c : ChSt), d.chan ch = some c →
      (d.page .CH ch = .serving ∨ d.page .CH ch = .starting) →
      (lane < 4 ∧ 1 ≤ es.length ∧ es.length ≤ 64 ∧ c.queued lane + es.length ≤ 128) → (lane != 0 || es.all (fun e => e.op == 1)) = true →
      (d.life.mode != .flush || lane == 3) = true → es.all (d.eraseMode ch) = true →
      Ends afterAll (.listSubmit ch lane lid es) d
      (d.mapChan ch (fun c => { c with lists := c.lists ++ [⟨d.freeList ch, lid, lane, es.map (fun e => (e, EntryRun.queued)), 0, none, 0⟩] }))) ∧
  (∀ (d : Dev) (n lane id i : Nat) (e : Entry) (x : DieSt), d.nextEntry n = some (lane, id, i, e) → d.mayIssue (n / 16) = true →
      d.busDie (n / 16) = some (n % 16) → d.die n = some x → x.state = 8 →
      let w := ((d.arbWin (0x1000 + n) 4 lane).arbWin (0x1800 + n / 16) 16 (n % 16)).seqIssued (n / 16)
      Ends afterAll (.entryIssue n) d (w.endEntry (n / 16) id i 4)) ∧
  (∀ (d : Dev) (n lane id i : Nat) (e : Entry) (x : DieSt), d.nextEntry n = some (lane, id, i, e) → d.mayIssue (n / 16) = true →
      d.busDie (n / 16) = some (n % 16) → d.die n = some x → (x.state = 0 ∨ (x.state ≠ 8 ∧ entryInvalid e x.blocks = true)) →
      let w := ((d.arbWin (0x1000 + n) 4 lane).arbWin (0x1800 + n / 16) 16 (n % 16)).seqIssued (n / 16)
      Ends afterAll (.entryIssue n) d ((w.endEntry (n / 16) id i 8).raiseErr .CH (n / 16) 6 noDetail)) ∧
  (∀ (d : Dev) (n lane id i : Nat) (e : Entry), d.nextEntry n = some (lane, id, i, e) → d.mayIssue (n / 16) = true →
      d.busDie (n / 16) = some (n % 16) → d.die n = none →
      let w := ((d.arbWin (0x1000 + n) 4 lane).arbWin (0x1800 + n / 16) 16 (n % 16)).seqIssued (n / 16)
      Ends afterAll (.entryIssue n) d ((w.endEntry (n / 16) id i 8).raiseErr .CH (n / 16) 6 noDetail)) ∧
  (∀ (d : Dev) (n lane id i : Nat) (e : Entry) (x : DieSt), d.nextEntry n = some (lane, id, i, e) → d.mayIssue (n / 16) = true →
      d.busDie (n / 16) = some (n % 16) → d.die n = some x → x.state ≠ 0 → x.state ≠ 8 → entryInvalid e x.blocks = false → e.op = 1 →
      d.erasing n = some e.block →
      let w := ((d.arbWin (0x1000 + n) 4 lane).arbWin (0x1800 + n / 16) 16 (n % 16)).seqIssued (n / 16)
      Ends afterAll (.entryIssue n) d (if nbit e.flags 5 = true then w.endEntry (n / 16) id i 5 else (w.endEntry (n / 16) id i 6).raiseErr .CH (n / 16) 5 noDetail)) ∧
  (∀ (d : Dev) (n lane id i : Nat) (e : Entry) (x : DieSt), d.nextEntry n = some (lane, id, i, e) → d.mayIssue (n / 16) = true →
      d.busDie (n / 16) = some (n % 16) → d.die n = some x → x.state ≠ 0 → x.state ≠ 8 → entryInvalid e x.blocks = false →
      (e.op ≠ 1 ∨ d.erasing n ≠ some e.block) →
      let w := ((d.arbWin (0x1000 + n) 4 lane).arbWin (0x1800 + n / 16) 16 (n % 16)).seqIssued (n / 16)
      Ends afterAll (.entryIssue n) d (w.issue n id i e)) ∧
  (∀ (d : Dev) (n id i v : Nat) (e : Entry) (x : DieSt), d.die n = some x → d.curEntry n = some (id, i, e) → x.state ≠ 7 → x.state ≠ 8 →
      e.op ≠ 4 → e.op ≠ 6 → (e.op = 0x0c → e.arg ≤ d.life.usUp - d.curSince n) →
      let a := d.mapDie n (fun x => { x with cur := none, state := if x.state ≤ 4 then 1 else x.state })
      Ends afterAll (.entryComplete n 0 v) d (a.endEntry (n / 16) id i 0)) ∧
  (∀ (d : Dev) (n id i v : Nat) (e : Entry) (x : DieSt), d.die n = some x → d.curEntry n = some (id, i, e) → x.state ≠ 7 → x.state ≠ 8 →
      e.op = 2 →
      let a := d.mapDie n (fun x => { x with cur := none, state := if x.state ≤ 4 then 1 else x.state })
      Ends afterAll (.entryComplete n 1 v) d ((((a.incWrap .CH (n / 16) Reg.CH_PGM_FAIL_CNT 1).raiseErr .CH (n / 16) 0 noDetail).entryBlockFail n e).endEntry (n / 16) id i 1)) ∧
  (∀ (d : Dev) (n id i v : Nat) (e : Entry) (x : DieSt), d.die n = some x → d.curEntry n = some (id, i, e) → x.state ≠ 7 → x.state ≠ 8 →
      (e.op = 4 ∨ e.op = 6) →
      let a := d.mapDie n (fun x => { x with cur := none, state := if x.state ≤ 4 then 1 else x.state })
      let b := a.mapChan (n / 16) (fun c => { c with lists := updFirst (fun l => l.id == id) (fun l => { l with value := v % 2 ^ 32 }) c.lists })
      Ends afterAll (.entryComplete n 0 v) d (b.endEntry (n / 16) id i 0)) ∧
  (∀ (d : Dev) (n : Nat) (x : DieSt) (q : Nat × Nat × Entry) (c : ChSt), d.die n = some x → d.curEntry n = some q →
      d.chan (n / 16) = some c → x.busy q.2.2 = true → 4 * c.declared q.2.2 < d.busyUs n x → x.lastTimeout = none →
      let a := d.mapDie n (fun x => { x with lastTimeout := some d.life.usUp })
      Ends afterAll (.entryTimeout n) d (a.mapDie n (fun x => { x with state := 7, resetFor := 1, runUs := a.life.usUp }))) ∧
  (∀ (d : Dev) (n : Nat) (x : DieSt) (q : Nat × Nat × Entry) (c : ChSt) (t : Nat), d.die n = some x → d.curEntry n = some q →
      d.chan (n / 16) = some c → x.busy q.2.2 = true → 4 * c.declared q.2.2 < d.busyUs n x → x.lastTimeout = some t →
      d.life.usUp - t ≤ 60000000 →
      Ends afterAll (.entryTimeout n) d
      ((d.mapDie n (fun x => { x with lastTimeout := some d.life.usUp })).dieFail n 1)) ∧
  (∀ (d : Dev) (n : Nat) (x : DieSt) (ident : List Byte), d.die n = some x → x.state = 7 → ident ≠ x.ident →
      Ends afterAll (.dieResetDone n ident) d
      (d.dieFail n 3)) ∧
  (∀ (d : Dev) (n id i : Nat) (x : DieSt) (e : Entry), d.die n = some x → x.state = 7 → d.curEntry n = some (id, i, e) → x.resetFor = 1 →
      let a := d.mapDie n (fun x => { x with state := 1, cur := none, resetFor := 0, retry := 0, shift := 0, pslc := false })
      let b := (a.incWrap .CH (n / 16) Reg.CH_TIMEOUT_CNT 1).raiseErr .CH (n / 16) 2 noDetail
      Ends afterAll (.dieResetDone n x.ident) d (((if e.op = 2 ∨ e.op = 3 then b.entryBlockFail n e else b).endEntry (n / 16) id i 3).settleHeld n)) ∧
  (∀ (d : Dev) (n : Nat) (x : DieSt), d.die n = some x → x.state = 7 → d.curEntry n = none →
      Ends afterAll (.dieResetDone n x.ident) d
      ((d.mapDie n (fun x => { x with state := 1, cur := none, resetFor := 0, retry := 0, shift := 0, pslc := false })).settleHeld n)) ∧
  (∀ (d : Dev) (n : Nat) (x : DieSt), d.die n = some x → x.state = 7 → 4000 < d.life.usUp - x.runUs →
      Ends afterAll (.dieResetTimeout n) d
      (d.dieFail n 2)) ∧
  (∀ (d : Dev) (n id i lane rid ri : Nat) (x : DieSt) (e r : Entry) (c : ChSt), d.die n = some x → d.curEntry n = some (id, i, e) →
      d.chan (n / 16) = some c → d.nextEntry n = some (lane, rid, ri, r) → x.state = 4 → r.op = 1 → r.block ≠ x.block →
      nbit e.flags 4 = true → c.puevo.valid = true → nbit c.puevo.flags 4 = true → d.regB .CH (n / 16) Reg.CH_SUSP_CFG 29 = true →
      d.regF .CH (n / 16) Reg.CH_SUSP_CFG 0 12 ≤ d.life.usUp - x.runUs → x.susp < d.maxSusp (n / 16) c → d.mayIssue (n / 16) = true →
      let a := d.mapDie n (fun x => { x with
        state := x.state + 2, held := x.cur, cur := none, susp := x.susp + 1, reads := 0, sinceUs := d.life.usUp - x.sinceUs })
      Ends afterAll (.suspend n) d ((a.mapChan (n / 16) (fun c => { c with
        lists := updFirst (fun l => l.id == id) (fun l => { l with suspends := l.suspends + 1 }) c.lists })).incWrap .CH (n / 16) Reg.CH_SUSP_CNT 1)) ∧
  (∀ (d : Dev) (n : Nat) (x : DieSt), d.die n = some x → d.xHalted (n / 16) = false → (x.state = 5 ∨ x.state = 6) → x.cur = none →
      (d.suspReads (n / 16) ≤ x.reads ∨ d.readWaits n = false) →
      Ends afterAll (.resume n) d
      (d.mapDie n (fun x => { x with state := x.state - 2, cur := x.held, held := none, sinceUs := d.life.usUp - x.sinceUs, runUs := d.life.usUp })))

/-- Decoding of codewords and the on-chip memories. From R243, R244, R245, R253, R254, R256, R258, R260, R261, R280, R289, spec/07_media_codes.md. Model's
choices it rests on: log entries 61, 62, 5, 132, 130, 131, 113, 124. -/
def Obligations.DecodingAndMemory : Prop :=
  (∀ (d w : Dev) (q tag i : Nat) (f : Flight) (j : SecJob) (k : Nat) (x : Esc) (o : Decoded), d.life.fatal = false →
      d.flight q tag = some f → f.stage = .media → f.job i = some (j, k, x) → x.step = 1 → d.decoder q tag i k x = some w →
      Ends afterFlights (.hardDecode q tag i o) d ((w.cwRead k 0).decoded f i k x o)) ∧
  (∀ (d w : Dev) (q tag i : Nat) (f : Flight) (j : SecJob) (k : Nat) (x : Esc) (o : Decoded), d.life.fatal = false →
      d.flight q tag = some f → f.stage = .media → f.job i = some (j, k, x) → x.step = 2 → d.decoder q tag i k x = some w →
      Ends afterFlights (.softDecode q tag i o) d ((w.cwSoftReads k 0 x.retry).decoded f i k x o)) ∧
  (∀ (d w : Dev) (q tag i : Nat) (f : Flight) (j : SecJob) (k : Nat) (x : Esc) (o : Decoded), d.life.fatal = false →
      d.flight q tag = some f → f.stage = .media → f.job i = some (j, k, x) → x.step = 4 → d.decoder q tag i k x = some w →
      Ends afterFlights (.softDecode q tag i o) d ((w.cwSoftReads k x.best x.retry).decoded f i k x o)) ∧
  (∀ (d w : Dev) (q tag i : Nat) (f : Flight) (j : SecJob) (k : Nat) (x : Esc) (o : Decoded), d.life.fatal = false →
      d.flight q tag = some f → f.stage = .media → f.job i = some (j, k, x) → x.step = 3 → d.decoder q tag i k x = some w →
      Ends afterFlights (.readRetry q tag i o) d ((w.cwRead k x.idx).decoded f i k x o)) ∧
  (∀ (d : Dev) (f : Flight) (i k n : Nat) (x : Esc) (o : Decoded), d.struck k o = .ok n →
      d.decoded f i k x o = d.accept f i k x) ∧
  (∀ (d : Dev) (f : Flight) (i k : Nat) (x : Esc) (o : Decoded), d.struck k o = .miscorrect → ((x.note .miscorrect).next).step ≠ 5 →
      d.decoded f i k x o = (d.inc64 .LDP 0 Reg.LDP_MISCORRECT 1).setJob f i (.media k (x.note .miscorrect).next)) ∧
  (∀ (d : Dev) (q tag i : Nat) (f : Flight) (j : SecJob) (k : Nat) (x : Esc) (unav : List Nat) (g : Group), d.life.fatal = false →
      d.flight q tag = some f → f.stage = .media → f.job i = some (j, k, x) → x.step = 5 → d.group (sbGroup (keySb k)) = some g →
      d.rowCause k = 1 →
      maskCount ((unav.getD (k % 16) 0 % 2 ^ g.members.length) ||| d.goneMask g ||| 2 ^ memberOf g.members.length (16 * (k / 4096 % 64) + k % 4096 / 256) (keySb k % 8192) (k % 256 / 16)) g.members.length ≤ g.members.length - 16 →
      Ends afterFlights (.degradedRead q tag i unav false) d (d.accept f i k x)) ∧
  -- a row without parity: lost where a die is gone, else uncorrectable
  (∀ (d : Dev) (q tag i : Nat) (f : Flight) (j : SecJob) (k : Nat) (x : Esc) (unav : List Nat) (m : Bool) (g : Group),
      d.life.fatal = false → d.flight q tag = some f → f.stage = .media → f.job i = some (j, k, x) → x.step = 5 →
      d.group (sbGroup (keySb k)) = some g → (d.rowCause k == 1) = false → d.goneMask g ≠ 0 →
      let w := g.members.length
      let page := 16 * (k / 4096 % 64) + k % 4096 / 256
      let b := keySb k % 8192
      let masks := fun (c : Nat) => (unav.getD c 0 % 2 ^ w) ||| d.goneMask g ||| (if c = k % 16 then 2 ^ memberOf w page b (k % 256 / 16) else 0)
      let keys := lostKeys w k page b false masks
      Ends afterFlights (.degradedRead q tag i unav m) d ((d.lostRow (d.rowCause k) (masks (k % 16)) (if keys.contains k = true then keys else k :: keys)).setJob f i (.failed St.stripeLost 0 0 0))) ∧
  (∀ (d : Dev) (q tag i : Nat) (f : Flight) (j : SecJob) (k : Nat) (x : Esc) (unav : List Nat) (m : Bool) (g : Group),
      d.life.fatal = false → d.flight q tag = some f → f.stage = .media → f.job i = some (j, k, x) → x.step = 5 →
      d.group (sbGroup (keySb k)) = some g → (d.rowCause k == 1) = false → d.goneMask g = 0 →
      Ends afterFlights (.degradedRead q tag i unav m) d (d.setJob f i (.failed St.mediaUncorr (if x.erased = true then 5 else if x.misdirect = true then 2 else 1) 0 0))) ∧
  (∀ (d : Dev) (r w k b p j : Nat), d.busUp = true → regionUsed r = true → regionAt (regionWord r w) = r →
      d.wordClass (regionWord r w) (b % 256 * 256 ^ k) = .corrected j →
      let a := regionWord r w
      let off := regionOff r + 4
      let e := (d.setWordErr a 0).setRegF .MEM 0 off 0 16 (min 0xffff (d.regF .MEM 0 off 0 16 + 1))
      Ends afterAll (.sramCorrected r w k b p) d ((e.memLast a j p false false).raiseErr .MEM 0 0 noDetail)) ∧
  (∀ (d : Dev) (r w u p n i : Nat) (ag : Bool), d.busUp = true → regionUsed r = true → regionAt (regionWord r w) = r →
      d.wordClass (regionWord r w) u = .uncorr →
      let a := regionWord r w
      let off := regionOff r + 4
      let l := d.setWordErr a (if r = 4 then d.wordErr a ^^^ u else 0)
      let e := l.setRegF .MEM 0 off 16 16 (min 0xffff (l.regF .MEM 0 off 16 16 + 1))
      Ends afterFlights (.sramUncorrectable r w u p n i ag) d
        (((e.memLast a 0xf p true false).raiseErr .MEM 0 1 noDetail).memAction r ((slotAddr a).elim n (fun x => x / 2048)) i ag)) ∧
  (∀ (d : Dev) (hits : List ScrubHit), d.busUp = true → d.regB .MEM 0 Reg.MEM_MEM_STS 0 = true → d.regF .MEM 0 Reg.MEM_MEM_CFG 0 16 ≠ 0 →
      d.scrubWords.all (fun a => hits.any (fun h => h.addr / 8 * 8 == a)) = true →
      Ends afterFlights (.scrubPass hits) d
      (((sortBy (fun i => (hits[i]?.map (fun h => h.addr)).getD 0) (List.range hits.length)).filterMap (fun i => hits[i]?)).foldl Dev.scrubWord d)) ∧
  (∀ (d : Dev) (w u : Nat), d.mbuf.any (fun e => e.2.1 == w) = true →
      Ends afterAll (.mergeBufferTimeout w u) d
      (d.evictWord w u)) ∧
  (∀ (d : Dev) (w u p m : Nat), d.mbuf.find? (fun e => e.2.1 == w) = some (p, w, m) → m ≠ 255 →
      let e : Dev := { d with mbuf := d.mbuf.filter (fun x => x.2.1 != w) }
      d.evictWord w u = if e.wordClass (slotWord w) u = .uncorr then (e.setWordErr (slotWord w) badPattern).raiseErr .MEM 0 3 noDetail
        else (e.memServe (slotWord w) u p false).freshWord (slotWord w)) ∧
  (∀ (d : Dev) (r : Requester) (rg c : Nat), rg < 16 → d.takes r .MEM 0 (regionOff rg) = true → d.regB .MEM 0 Reg.MEM_MEM_STS 0 = false →
      let t := d.taken r .MEM 0
      Ends afterAll (.regionCodeWrite r rg c) d (if c % 2 = 1 ∧ t.regB .MEM 0 (regionOff rg) 27 = true then t else t.setRegF .MEM 0 (regionOff rg) 26 1 c)) ∧
  (∀ (d : Dev) (r : Requester) (rg c : Nat), rg < 16 → d.takes r .MEM 0 (regionOff rg) = true → d.regB .MEM 0 Reg.MEM_MEM_STS 0 = true →
      Ends afterAll (.regionCodeWrite r rg c) d ((d.noteWake r .MEM).raiseErr .MEM 0 2 noDetail))

/-- Stripe, shard and mirror messages, retries and resynchronisation. From R416, R421, R423, R424, R425, R426, R427, R428, R437, R439,
spec/12_filush_fabric.md. Model's choices it rests on: log entries 76, 75, 70. -/
def Obligations.FabricStripesAndShards : Prop :=
  (∀ (d : Dev) (h : MsgHdr) (vol st fi xid : Nat) (secs : List SectorIn), d.hears 0x30 h = true → d.rxBad 0x30 h = false →
      let e := d.heard 0x30 h
      Ends afterFabric (.stripeWrite h vol st fi xid secs) d (e.stripeTake vol st fi (secs.map fabIn) h.src xid)) ∧
  (∀ (d : Dev) (h : MsgHdr) (xid st dt : Nat), d.hears 0x31 h = true → d.rxBad 0x31 h = false →
      let e := d.heard 0x31 h
      Ends afterFabric (.stripeAck h xid st dt) d ((e.answered (fun u => u.ty == 0x30 && u.body.getD 4 0 == xid)).fabAcked xid st dt)) ∧
  (∀ (d : Dev) (h : MsgHdr) (vol j st fi ws : Nat) (secs : List SectorIn) (v : Store), d.hears 0x32 h = true → d.rxBad 0x32 h = false →
      (d.heard 0x32 h).store vol = some v → v.base ≠ 0xffffff → v.holder st j = (d.heard 0x32 h).fabId →
      let e := d.heard 0x32 h
      Ends afterFabric (.shardWrite h vol j st fi ws secs) d (e.shardFlight 0x101 vol (v.shardIdx st j fi) secs.length h.src (st * 32 + j) 0 ws (secs.map fabIn))) ∧
  (∀ (d : Dev) (h : MsgHdr) (vol j st fi ws : Nat) (secs : List SectorIn), d.hears 0x32 h = true → d.rxBad 0x32 h = false →
      (d.heard 0x32 h).store vol = none →
      let e := d.heard 0x32 h
      Ends afterFabric (.shardWrite h vol j st fi ws secs) d (e.send 0x33 h.src [vol, j, St.notFound, st, ws] false)) ∧
  (∀ (d : Dev) (h : MsgHdr) (vol j st i ws : Nat), d.hears 0x33 h = true → d.rxBad 0x33 h = false →
      let e := d.heard 0x33 h
      Ends afterFabric (.shardAck h vol j st i ws) d ((e.answered (fun u => u.ty == 0x32 && u.dst == h.src && u.body.getD 0 0 == vol && u.body.getD 1 0 == j &&
          u.body.getD 2 0 == i && u.body.getD 5 0 == ws)).shardAcked vol i j st ws)) ∧
  (∀ (d : Dev) (h : MsgHdr) (x : StripeRec) (secs : List SectorIn), d.hears 0x36 h = true → d.rxBad 0x36 h = false → x.ty = 0x30 →
      (d.heard 0x36 h).fab.closed.contains (x.owner, x.volume, x.stripe) = false →
      let e := d.heard 0x36 h
      Ends afterFabric (.jnlMirror h x secs) d (let m := mirrorOf x (secs.map fabIn) (e.reg64 .JNL 0 Reg.JNL_JSEQ + 1)
        let f := (e.dropMirror x).jrec [m.jrec 0x30]
        ({ f with fab := { f.fab with stripes := f.fab.stripes ++ [m] } }).send 0x37 h.src [x.jseq] false)) ∧
  (∀ (d : Dev) (h : MsgHdr) (x : StripeRec) (secs : List SectorIn), d.hears 0x36 h = true → d.rxBad 0x36 h = false → x.ty = 0x32 →
      nbit x.flags 1 = false →
      let e := d.heard 0x36 h
      Ends afterFabric (.jnlMirror h x secs) d ((e.dropMirror x).jrec [(mirrorOf x [] 0).jrec 0x32])) ∧
  (∀ (d : Dev) (h : MsgHdr) (s : Nat) (x : FStripe), d.hears 0x37 h = true → d.rxBad 0x37 h = false →
      ((d.heard 0x37 h).answered (fun u => u.ty == 0x36 && u.dst == h.src && u.body.getD 10 0 == s)).fab.stripes.find? (fun r => !r.mirror && r.jseq == s && r.buddy == h.src && s != 0) = some x →
      let e := d.heard 0x37 h
      Ends afterFabric (.jnlAck h s) d ((e.answered (fun u => u.ty == 0x36 && u.dst == h.src && u.body.getD 10 0 == s)).mirrored x.volume x.stripe)) ∧
  (∀ (d : Dev) (h : MsgHdr) (vol j st fi n rt xid sn : Nat) (v : Store), d.hears 0x34 h = true → d.rxBad 0x34 h = false →
      (d.heard 0x34 h).store vol = some v →
      ((List.range n).filter (fun i => sn == 0 && ((d.heard 0x34 h).openSector vol st j (fi + i)).isSome) = [] ∨ ((List.range n).filter (fun i => sn == 0 && ((d.heard 0x34 h).openSector vol st j (fi + i)).isSome)).length = n) →
      let e := d.heard 0x34 h
      Ends afterFabric (.shardRead h vol j st fi n rt xid sn) d (if e.fabFenced = true then e.shardReply rt xid St.fenced [] else e.shardServe v vol j st fi n rt xid sn)) ∧
  (∀ (d : Dev) (h : MsgHdr) (vol j st fi n rt xid sn : Nat), d.hears 0x34 h = true → d.rxBad 0x34 h = false →
      (d.heard 0x34 h).store vol = none →
      let e := d.heard 0x34 h
      Ends afterFabric (.shardRead h vol j st fi n rt xid sn) d (e.shardReply rt xid St.notFound [])) ∧
  (∀ (d : Dev) (h : MsgHdr) (xid st : Nat) (secs : List SectorIn), d.hears 0x35 h = true → d.rxBad 0x35 h = false →
      let e := d.heard 0x35 h
      Ends afterFabric (.shardData h xid st secs) d (let f := (e.answered (fun u => u.ty == 0x34 && u.body.getD 6 0 == xid)).fabGot xid st ((secs.map fabIn).head?)
        f.fab.stripes.foldl (fun g r => g.stripeShards r.volume r.stripe) f)) ∧
  (∀ (d : Dev) (s : Nat) (u : Unacked), d.fab.unacked.find? (fun u => u.seq == s) = some u → 20 ≤ d.life.usUp - u.sentUs →
      liveMode d.life.mode = true → 4 ≤ u.tries →
      Ends afterFabric (.messageRetryTimeout s) d
      (({ d with fab := { d.fab with unacked := d.fab.unacked.filter (fun x => x.seq != s) } }).unreachable u)) ∧
  (∀ (d : Dev) (s : Nat) (u : Unacked), d.fab.unacked.find? (fun u => u.seq == s) = some u → 20 ≤ d.life.usUp - u.sentUs →
      liveMode d.life.mode = true → u.tries < 4 →
      let tree := if (u.ty = 0x12 ∧ u.dst ≠ 0) then 2 else if u.ty = 0x12 ∨ u.ty = 0x14 then 4 else 0
      let us := updFirst (fun x => x.seq == s) (fun _ => { u with tries := u.tries + 1, sentUs := d.life.usUp }) d.fab.unacked
      Ends afterFabric (.messageRetryTimeout s) d
        (({ d with fab := { d.fab with unacked := us } }).emit (.filush u.ty u.dst ([9 + tree, d.epoch, s] ++ u.body) (wireBytes u.ty (9 + tree) d.fabId u.dst d.epoch s u.body)))) ∧
  (∀ (d : Dev) (m k : Nat) (parts : List (Nat × Nat × List (Nat × SectorIn))) (left : List Nat) (v : Store),
      mget d.fab.resync m = some left → d.store (k / 2 ^ 24) = some v → left.contains k = true → d.memberState m = 1 → d.fabState = 3 →
      d.gateOpen 14 = true → d.resyncWork v m (k % 2 ^ 24) = [] →
      let e := d.charge 14 0
      Ends afterFabric (.resync m k parts) d (({ e with fab := { e.fab with resync := mput e.fab.resync m (left.filter (· != k)) } }).joinDone m)) ∧
  (∀ (d : Dev) (m k : Nat) (parts : List (Nat × Nat × List (Nat × SectorIn))) (left : List Nat) (v : Store),
      mget d.fab.resync m = some left → d.store (k / 2 ^ 24) = some v → left.contains k = true → d.memberState m = 1 → d.fabState = 3 →
      d.gateOpen 14 = true → (d.resyncWork v m (k % 2 ^ 24)).all (resyncGood v parts) = true →
      let work := d.resyncWork v m (k % 2 ^ 24)
      let e := work.foldl (fun (f : Dev) (w : Nat × Nat × Nat) => f.send 0x32 m
        ([k / 2 ^ 24, w.2.1, w.1, w.2.2, 1, 0] ++ (rebuildShard v.fabK w.2.1 (resyncGiven v parts w.1 w.2.2)).words) true) (d.charge 14 (work.length * v.fabK))
      Ends afterFabric (.resync m k parts) d (({ e with fab := { e.fab with resync := mput e.fab.resync m (left.filter (· != k)) } }).joinDone m))

/-- Cipher jobs, key commands, entropy and alarms. From R449, R461, R462, R463, R465, R466, R467, R469, R470, R472, spec/13_cipher_cells.md. Model's
choices it rests on: log entries 7, 6, 24, 66. -/
def Obligations.CipherAndKeys : Prop :=
  (∀ (d : Dev) (g : Nat) (j : CipherJob), j.req < 5 → d.cip.alarm = false →
      Ends afterAll (.cipherJobGrant g (some j)) d
      ((d.dealJob j).groupGrant (g % 8))) ∧
  (∀ (d : Dev) (g l r : Nat) (j : CipherJob), d.cip.alarm = false → d.seeded = true → d.freeLane g = some l →
      rrPick 5 (d.arbPtr (0x310 + g)) (fun r => d.cip.waiting.any (fun e => e.1 == g && e.2.req == r)) = some r →
      d.cip.waiting.find? (fun e => e.1 == g && e.2.req == r) = some (g, j) →
      let e := ({ d with cip := { d.cip with waiting := d.cip.waiting.eraseP (fun e => e.1 == g && e.2.req == r) } } : Dev).arbWin (0x310 + g) 5 r
      d.groupGrant g = if e.jobRefusal j = 0 then e.grantLane l j else { e with cip := { e.cip with results := e.cip.results ++ [e.jobRefusal j] } }) ∧
  (∀ (d : Dev) (l : Nat), mhas d.cip.busy l = true →
      Ends afterAll (.cipherJobDone l) d
      (({ d with cip := { d.cip with busy := mdel d.cip.busy l, results := d.cip.results ++ [0] } }).cipherJobs 1)) ∧
  (∀ (d : Dev) (l : Nat) (j : CipherJob), l < 640 → d.cip.fenced.contains l = false → mget d.cip.busy l = some j →
      Ends afterAll (.laneFault l) d
      (({ d with cip := { d.cip with
        fenced := l :: d.cip.fenced, busy := mdel d.cip.busy l, waiting := [(l / 80, j)] ++ d.cip.waiting } }).raiseErrAs .CIP 0 0 2 noDetail l)) ∧
  (∀ (d : Dev) (r : Requester), d.takes r .KEY 0 Reg.KEY_KEY_CMD = true → (d.taken r .KEY 0).sxHalted = false →
      let t := d.taken r .KEY 0
      Ends afterAll (.keyLoad r) d (t.keyAct 1 [])) ∧
  (∀ (d : Dev) (r : Requester), d.takes r .KEY 0 Reg.KEY_KEY_CMD = true → (d.taken r .KEY 0).sxHalted = false →
      let t := d.taken r .KEY 0
      Ends afterAll (.derive r) d (t.keyAct 2 [])) ∧
  (∀ (d : Dev) (r : Requester) (b : List Byte), d.takes r .KEY 0 Reg.KEY_KEY_CMD = true → (d.taken r .KEY 0).sxHalted = false →
      let t := d.taken r .KEY 0
      Ends afterAll (.unwrap r b) d (t.keyAct 3 b)) ∧
  (∀ (d : Dev) (r : Requester), d.takes r .KEY 0 Reg.KEY_KEY_CMD = true → (d.taken r .KEY 0).sxHalted = false →
      let t := d.taken r .KEY 0
      Ends afterAll (.roll r) d (t.keyAct 4 [])) ∧
  (∀ (d : Dev) (r : Requester), d.takes r .KEY 0 Reg.KEY_KEY_CMD = true → (d.taken r .KEY 0).sxHalted = false →
      let t := d.taken r .KEY 0
      Ends afterAll (.keyErase r) d (t.keyAct 5 [])) ∧
  (∀ (d : Dev) (r : Requester), d.takes r .KEY 0 Reg.KEY_KEY_CMD = true → (d.taken r .KEY 0).sxHalted = false →
      let t := d.taken r .KEY 0
      Ends afterAll (.eraseAll r) d (t.keyAct 6 [])) ∧
  (∀ (d : Dev) (r : Requester), d.takes r .KEY 0 Reg.KEY_KEY_CMD = true → (d.taken r .KEY 0).sxHalted = true →
      let t := d.taken r .KEY 0
      Ends afterAll (.keyLoad r) d (({ t with dbg := { t.dbg with sxWait := t.dbg.sxWait ++ [SxWait.key 1 []] } }).setRegF .KEY 0 Reg.KEY_KEY_STS 0 1 1)) ∧
  (∀ (d : Dev), d.cip.alarm = true →
      ∀ op b, d.keyAct op b = (d.keyResult 7).clearKeyData) ∧
  (∀ (d : Dev) (n : Nat), d.regF .KEY 0 Reg.KEY_KEY_SEL 0 12 = n → d.cip.alarm = false → d.key n = none →
      useFits (if d.regF .KEY 0 Reg.KEY_KEY_ATTR 0 2 = 3 then 0 else d.regF .KEY 0 Reg.KEY_KEY_ATTR 0 2) n = true →
      let u := if d.regF .KEY 0 Reg.KEY_KEY_ATTR 0 2 = 3 then 0 else d.regF .KEY 0 Reg.KEY_KEY_ATTR 0 2
      let bits := if d.regB .KEY 0 Reg.KEY_KEY_ATTR 2 = true then 256 else 128
      d.keyAct 1 [] = (((d.setKey n (freshSlot u bits 0 0 (d.keyData 16))).sealRecord n).keyResult 0).clearKeyData) ∧
  (∀ (d : Dev) (n : Nat) (k : KeySlot), d.regF .KEY 0 Reg.KEY_KEY_SEL 0 12 = n → d.cip.alarm = false → d.key n = some k → k.gen ≠ 0xff →
      (k.gen = 0 ∨ d.sealedBy n (k.gen - 1) = []) →
      d.keyAct 4 [] = (((d.setKey n (rollSlot k)).sealRecord n).keyResult 0).clearKeyData) ∧
  (∀ (d : Dev) (n : Nat), d.regF .KEY 0 Reg.KEY_KEY_SEL 0 12 = n → d.cip.alarm = false →
      d.keyAct 5 [] = ((d.eraseKey n).keyResult 0).clearKeyData) ∧
  (∀ (d : Dev) (n : Nat) (k : KeySlot), d.key n = some k → d.reseal.contains n = true → k.gen = 0 →
      Ends afterAll (.resealDone n) d
      ((({ d with reseal := d.reseal.filter (· != n) } : Dev).setKey n (rollSlot k)).sealRecord n)) ∧
  (∀ (d : Dev), d.cip.alarm = false →
      Ends afterAll (.drbgReseed) d
      ({ ((d.setRegF .RNG 0 Reg.RNG_RNG_STS 0 3 3).incWrap .RNG 0 Reg.RNG_RESEEDS 1) with rng := { requests := 0 } })) ∧
  (∀ (d : Dev) (a : Bool) (n : Nat),
      let e := ((d.incSat .RNG 0 (if a then Reg.RNG_APT_FAIL else Reg.RNG_RCT_FAIL) 1).raiseErr .RNG 0 0 noDetail).setRegF .RNG 0 Reg.RNG_RNG_STS 2 1 1
      Ends afterAll (.healthFail a n) d (if (d.regB .RNG 0 Reg.RNG_RNG_STS 2 && decide (n ≤ 1024)) = true then e.cipherAlarm 0 else e)) ∧
  (∀ (d : Dev) (r : Requester), r.dom = .secure → d.takes r .KEY 0 Reg.FORCE = true →
      let t := d.taken r .KEY 0
      Ends afterAll (.forceAlarm r) d (t.cipherAlarm 2))

/-- The digest engine: the SEC interface, contexts, blocks and cleared memories. From R475, R477, R479, R480, R484, R485, R486, R487,
spec/14_digest_engine.md. Model's choices it rests on: log entries 80, 7, 81. -/
def Obligations.DigestEngine : Prop :=
  (∀ (d : Dev) (r : Requester) (a k o : Nat) (c : Bool), d.takes r .DIG 0 Reg.DIG_SEC_CMD = true → d.secBusy = false →
      let t := d.taken r .DIG 0
      Ends afterAll (.secOpen r a k o c) d (t.secOpen a k o c)) ∧
  (∀ (d : Dev) (a k o : Nat) (c : Bool),
      ((List.range 16).foldl (fun e i => e.setRegN .DIG 0 (Reg.DIG_OUT_0 + 4 * i) 0) d).secKeyOk a k o = true →
      ((List.range 16).foldl (fun e i => e.setRegN .DIG 0 (Reg.DIG_OUT_0 + 4 * i) 0) d).secCtx = none →
      let e := ((List.range 16).foldl (fun e i => e.setRegN .DIG 0 (Reg.DIG_OUT_0 + 4 * i) 0) d).digOpen
        { req := 4, alg := a, key := k, mode := o, composed := c && algKeyed a, msg := [], done := 0, final := false, expected := [], q := 0, tag := 0
          fresh := true }
      d.secOpen a k o c = if e.secCtx.isSome = true then e else e.setRegF .DIG 0 Reg.DIG_SEC_STS 0 1 1) ∧
  (∀ (d : Dev) (r : Requester) (b : List Byte), d.takes r .DIG 0 Reg.DIG_SEC_CMD = true → d.secBusy = false →
      let t := d.taken r .DIG 0
      Ends afterAll (.secUpdate r b) d (t.secUpdate b)) ∧
  (∀ (d : Dev) (b : List Byte) (n : Nat) (c : DigCtx), d.secCtx = some (n, c) → d.regF .DIG 0 Reg.DIG_SEC_LEN 0 25 ≠ 0 →
      c.msg.length + d.regF .DIG 0 Reg.DIG_SEC_LEN 0 25 ≤ 2 ^ 48 - 1 →
      d.secUpdate b = ({ d with dig := { d.dig with ctxs := mput d.dig.ctxs n { c with
        msg := c.msg ++ b.take (d.regF .DIG 0 Reg.DIG_SEC_LEN 0 25) } } }).setRegF .DIG 0 Reg.DIG_SEC_STS 1 3 0) ∧
  (∀ (d : Dev) (r : Requester) (b : List Byte), d.takes r .DIG 0 Reg.DIG_SEC_CMD = true → d.secBusy = false →
      let t := d.taken r .DIG 0
      Ends afterAll (.secFinal r b) d (t.secFinal b)) ∧
  (∀ (d : Dev) (b : List Byte) (n : Nat) (c : DigCtx), d.secCtx = some (n, c) →
      d.secFinal b = ({ d with dig := { d.dig with
        ctxs := mput d.dig.ctxs n { c with final := true, expected := b.take (algLen c.alg) } } }).setRegF .DIG 0 Reg.DIG_SEC_STS 0 1 1) ∧
  (∀ (d : Dev) (r : Requester), d.takes r .DIG 0 Reg.DIG_SEC_CMD = true → d.secBusy = false →
      let t := d.taken r .DIG 0
      Ends afterAll (.secAbort r) d (t.secAbort)) ∧
  (∀ (d : Dev) (n : Nat) (c : DigCtx), d.secCtx = some (n, c) →
      d.secAbort = (d.digClose n).secEnd 0) ∧
  (∀ (d : Dev), d.secCtx = none →
      d.secAbort = d.setRegF .DIG 0 Reg.DIG_SEC_STS 1 3 4 ∧ (∀ b, d.secUpdate b = d.setRegF .DIG 0 Reg.DIG_SEC_STS 1 3 4) ∧
        ∀ b, d.secFinal b = d.setRegF .DIG 0 Reg.DIG_SEC_STS 1 3 4) ∧
  (∀ (d : Dev),
      Ends afterAll (.digestContextGrant) d
      (d.digGrant)) ∧
  (∀ (d : Dev) (n : Nat) (fr : Bool) (c : DigCtx), d.digPick = some (n, fr) → mget d.dig.ctxs n = some c →
      let k := { c with done := c.done + 1, fresh := false }
      let e := (if fr = true then d.arbWin 0x301 16 n else d).inc64 .DIG 0 Reg.DIG_BLOCKS 1
      let f : Dev := { e with dig := { e.dig with ctxs := mput e.dig.ctxs n k, last := n } }
      Ends afterAll .digestBlock d (if k.final = true ∧ k.total ≤ k.done then f.digFinish n k else f)) ∧
  (∀ (d : Dev),
      let e := (d.dig.ctxs.map (·.2) ++ d.dig.waiting).foldl (fun e c =>
        if c.req < 4 then e.attestFail c St.internalMemory 0x30 else if c.req = 4 then e.secEnd 3 else e) (d.digZero false)
      Ends afterAll (.digestCleared .bus) d (e.raiseErr .DIG 0 0 noDetail)) ∧
  (∀ (d : Dev) (n : Nat) (c : DigCtx), mget d.dig.ctxs n = some c →
      Ends afterAll (.digestCleared (.ctx n)) d
      ((d.digAbort n c St.internalMemory 0x30 3).raiseErr .DIG 0 1 noDetail))

/-- Madder: samples, commits, traces and uncorrectable loop memories. From R488, R493, R494, R498, R499, R500, R502, R503, spec/15_madder_control.md.
Model's choices it rests on: log entries 82, 23, 5. -/
def Obligations.MadderControl : Prop :=
  (∀ (d : Dev) (p g : Nat) (ls : List Nat), d.madderRuns = true →
      let order := ((List.range 16).map (fun i => (d.arbPtr 0x330 + i) % 16)).filter d.loopsDue.contains
      let e := order.foldl (fun e n => e.loopTick n) d
      Ends afterAll (.loopSample p ls g) d (((e.loopsRun (min 1 g) (order.map (fun n => (n, e.loopInput n p ls))) 0).setRates).madComputed order)) ∧
  (∀ (d : Dev) (r : Requester) (n : Nat), n < 16 → d.takes r .MLP n Reg.MLP_LOOP_CTL = true →
      let t := d.taken r .MLP n
      Ends afterAll (.loopCommit r n) d (t.setLoop n { t.loop n with commit := true })) ∧
  (∀ (d : Dev) (r : Requester) (n : Nat), n < 16 → d.takes r .MLP n Reg.MLP_LOOP_CTL = true →
      let t := d.taken r .MLP n
      Ends afterAll (.delayClr r n) d (t.setRegN .MLP n Reg.MLP_LOOP_STS 0)) ∧
  (∀ (d : Dev) (n : Nat), n < 16 →
      Ends afterAll (.loopMemUncorr n) d
      (d.raiseErrAs .MLP n 2 2 noDetail n)) ∧
  (∀ (d : Dev) (r : Requester) (b : Nat), b < 4 → d.takes r .MAD 0 (Reg.MAD_TRC_CTL + 0x10 * b) = true →
      ((d.taken r .MAD 0).trcState b = 0 ∨ (d.taken r .MAD 0).trcState b = 3) →
      let t := d.taken r .MAD 0
      Ends afterAll (.traceArm r b) d ((t.setRegN .MAD 0 (Reg.MAD_TRC_STS + 0x10 * b) 1).setTrace b { traceReset with prev := (t.trace b).prev })) ∧
  (∀ (d : Dev) (r : Requester) (b : Nat), b < 4 → d.takes r .MAD 0 (Reg.MAD_TRC_CTL + 0x10 * b) = true →
      (d.taken r .MAD 0).trcState b = 1 →
      let t := d.taken r .MAD 0
      Ends afterAll (.traceFire r b) d (t.setTrace b { t.trace b with fire := true })) ∧
  (∀ (d : Dev) (r : Requester) (b : Nat), b < 4 → d.takes r .MAD 0 (Reg.MAD_TRC_CTL + 0x10 * b) = true →
      ((d.taken r .MAD 0).trcState b = 1 ∨ (d.taken r .MAD 0).trcState b = 2) →
      let t := d.taken r .MAD 0
      Ends afterAll (.traceStop r b) d (t.traceDone b true))

/-- The boot flash's command sequences and the mailbox. From R505, R507, R516, R517, R518, R526, R528, spec/16_firmware_domains.md. Model's choices it
rests on: log entries 84, 13, 88, 100. -/
def Obligations.BootFlashAndMailbox : Prop :=
  (∀ (d : Dev) (r : Requester) (o : Nat) (ws : List W32), d.busUp = true → r.dom = .secure →
      Ends afterAll (.flashProgram r o ws) d ((seqCycles 0x10 (dataCycles o ws)).foldl (fun e x => e.seqWrite x.1 x.2) d)) ∧
  (∀ (d : Dev) (r : Requester) (a : Nat), d.busUp = true → r.dom = .secure →
      Ends afterAll (.flashErase r a) d ((seqCycles 0x20 [(a, 0x30#32)]).foldl (fun e x => e.seqWrite x.1 x.2) d)) ∧
  (∀ (d : Dev) (r : Requester) (o : Nat) (ws : List W32), d.busUp = true → r.dom = .secure →
      Ends afterAll (.programOption r o ws) d ((seqCycles 0x40 (dataCycles (optWin + o) ws)).foldl (fun e x => e.seqWrite x.1 x.2) d)) ∧
  (∀ (d : Dev) (r : Requester) (o : Nat) (ws : List W32), d.busUp = true → r.dom = .secure →
      Ends afterAll (.programOtp r o ws) d ((seqCycles 0x60 (dataCycles (otpWin + o) ws)).foldl (fun e x => e.seqWrite x.1 x.2) d)) ∧
  (∀ (d : Dev) (r : Requester), d.busUp = true → r.dom = .secure →
      Ends afterAll (.flashId r) d ((seqCycles 0x90 []).foldl (fun e x => e.seqWrite x.1 x.2) d)) ∧
  (∀ (d : Dev) (r : Requester), d.busUp = true → r.dom = .secure →
      Ends afterAll (.flashReadMode r) d (([(0xaaa8, 0xf0#32)]).foldl (fun e x => e.seqWrite x.1 x.2) d)) ∧
  (∀ (d : Dev) (r : Requester) (o : Nat) (ws : List W32), d.busUp = true → r.dom = .glaze →
      Ends afterAll (.flashProgram r o ws) d (d.raiseErr .BFL 0 2 noDetail)) ∧
  (∀ (d : Dev) (c b : Nat) (ws : List W32), d.bfl.op = some (c, b, ws) →
      let a : Dev := { d with bfl := { d.bfl with op := none } }
      let e := if c = 0x20 then (a.flashErase b (opSize c b)).incWrap .BFL 0 Reg.BFL_ERASE_CNT 1
        else (a.flashProgram b (ws.flatMap (fun w => leBytes 4 w.toNat))).incWrap .BFL 0 Reg.BFL_PROG_CNT 1
      Ends afterAll .flashOpDone d (((e.setRegN .BFL 0 Reg.BFL_BFL_STS (if e.bfl.idMode then 10 else 0)).setIrq .BFL 0 0).dapSettle)) ∧
  (∀ (d : Dev), d.bfl.op.isSome = true →
      Ends afterAll (.flashOpTimeout) d
      (((({ d with bfl := { d.bfl with idMode := false } }).opLost).raiseErr .BFL 0 3 noDetail).dapSettle)) ∧
  (∀ (d : Dev) (s a : Nat) (rd : Bool), s < 64 → d.life.glaze = .running → d.sxHalted = false →
      Ends afterAll (.mailboxRequest s a rd) d ({ d with mailbox := ⟨s, a, !rd || !d.life.mordant || d.life.fatal⟩ :: d.mailbox.filter (fun m => m.slot != s) })) ∧
  (∀ (d : Dev) (s a : Nat) (rd : Bool), s < 64 → d.life.glaze = .running → d.sxHalted = true →
      Ends afterAll (.mailboxRequest s a rd) d ({ d with dbg := { d.dbg with sxWait := d.dbg.sxWait ++ [SxWait.mailbox s a rd] } }))

/-- The I3C sideband: register reads and writes, the recovery mailbox, addresses and interrupts. From R514, R600, R634, R635, R636, R637, R638, R639,
spec/22_package_and_pins.md. Model's choices it rests on: log entry 101. -/
def Obligations.SidebandPort : Prop :=
  (∀ (d : Dev) (a : Nat), d.i3cUp = true → a % 4 = 0 → a < 2 ^ 32 → (d.i3cTake.i3cWake a).remoteOf i3cReq a = none →
      let e := d.i3cTake
      Ends afterAll (.read32 a) d ((e.i3cWake a).i3cReply (i3cOk :: leBytes 4 (e.readSpace i3cReq a 4)))) ∧
  (∀ (d : Dev) (a m : Nat), d.i3cUp = true → a % 4 = 0 → a < 2 ^ 32 → (d.i3cTake.i3cWake a).remoteOf i3cReq a = some m →
      let e := d.i3cTake.i3cWake a
      Ends afterAll (.read32 a) d (if e.memberState m = 0 then e.i3cReply (i3cOk :: leBytes 4 (256 ^ 4 - 1)) else e.proxyRead m a 4 .i3c)) ∧
  (∀ (d : Dev) (a : Nat), d.i3cUp = true → a % 8 = 0 → a < 2 ^ 32 → (d.i3cTake.i3cWake a).remoteOf i3cReq a = none →
      let e := d.i3cTake
      Ends afterAll (.read64 a) d ((e.i3cWake a).i3cReply (i3cOk :: leBytes 8 (e.readSpace i3cReq a 8)))) ∧
  (∀ (d : Dev) (a m : Nat), d.i3cUp = true → a % 8 = 0 → a < 2 ^ 32 → (d.i3cTake.i3cWake a).remoteOf i3cReq a = some m →
      let e := d.i3cTake.i3cWake a
      Ends afterAll (.read64 a) d (if e.memberState m = 0 then e.i3cReply (i3cOk :: leBytes 8 (256 ^ 8 - 1)) else e.proxyRead m a 8 .i3c)) ∧
  (∀ (d : Dev) (a : Nat) (v : W32), d.i3cUp = true → a % 4 = 0 → a < 2 ^ 32 →
      Ends afterFabric (.write32 a v) d (d.i3cTake.writeBar i3cReq a 4 v.toNat)) ∧
  (∀ (d : Dev) (a : Nat) (v : W64), d.i3cUp = true → a % 8 = 0 → a < 2 ^ 32 →
      Ends afterFabric (.write64 a v) d (d.i3cTake.writeBar i3cReq a 8 v.toNat)) ∧
  (∀ (d : Dev) (a : Nat), d.i3cUp = true → a % 4 ≠ 0 →
      Ends afterAll (.read32 a) d
      (d.i3cRefuse)) ∧
  (∀ (d : Dev) (a : Nat) (v : W32), d.i3cUp = true → a % 4 ≠ 0 →
      Ends afterFabric (.write32 a v) d
      (d.i3cRefuse)) ∧
  (∀ (d : Dev) (o : Nat) (bs : List Byte), d.i3cUp = true → d.recOpen = true → o % 64 = 0 → o ≤ 0x81fc0 → bs.length = 64 →
      let e := d.i3cTake
      Ends afterAll (.recData o bs) d (if e.sbd.checking.isSome = true then e.i3cReply [i3cBusy]
        else ({ e with sbd := { e.sbd with staged := mput e.sbd.staged (o / 64) bs } }).i3cReply [i3cOk])) ∧
  (∀ (d : Dev) (n : Nat), d.i3cUp = true → d.recOpen = true →
      let e := d.i3cTake
      Ends afterAll (.recRun n) d (if e.sbd.checking.isSome = true ∨ e.life.fatal = true ∨ e.life.mordant = true ∨ checkCode n = false then e.i3cReply [i3cBusy]
        else ({ e with sbd := { e.sbd with checking := some n } }).i3cReply [i3cOk])) ∧
  (∀ (d : Dev), d.i3cUp = true → d.recOpen = true →
      Ends afterAll (.recStatus) d
      (d.i3cTake.i3cReply (i3cOk :: leBytes 4 (packF [(0, d.i3cTake.sbd.recResult % 8), (8, 1), (9, b2n d.i3cTake.sbd.checking.isSome)])))) ∧
  (∀ (d : Dev), d.i3cUp = true → d.recOpen = false →
      Ends afterAll .recStatus d d.i3cRefuse ∧ (∀ n, Ends afterAll (.recRun n) d d.i3cRefuse) ∧ ∀ o bs, Ends afterAll (.recData o bs) d d.i3cRefuse) ∧
  (∀ (d : Dev) (a : Nat), d.i3cUp = true →
      Ends afterAll (.dynamicAddressAssign a) d
      (({ d with sbd := { d.sbd with dyn := some (a % 128) } }).setIrq .SBD 0 0)) ∧
  (∀ (d : Dev) (c : Nat) (cs : List Nat), d.i3cUp = true → d.sbd.ibiNow = 0 → d.regB .SBD 0 Reg.SBD_SBD_CFG 0 = true →
      bitList d.sbd.ibi 8 = c :: cs →
      Ends afterAll (.inBandInterrupt) d
      (({ d with sbd := { d.sbd with ibi := bitClr d.sbd.ibi c, ibiNow := c } }).emit (.ibi c))) ∧
  (∀ (d : Dev), d.sbd.ibiNow ≠ 0 →
      Ends afterAll (.ibiAccepted) d
      (({ d with sbd := { d.sbd with ibiNow := 0 } }).ibiSend)) ∧
  (∀ (d : Dev), d.i3cUp = true →
      Ends afterAll (.i3cProtocolError) d
      (d.i3cRefuse))

/-- The event recorder and the calendar. From R573, R576, R577, R578, R581, R583, R584, R586, R587, R588, R589, spec/19_recorder_and_clock.md. Model's
choices it rests on: log entries 92, 89, 1. -/
def Obligations.RecorderAndCalendar : Prop :=
  (∀ (d : Dev) (sv so co p0 p1 : Nat), sv ≤ 4 → d.life.mode ≠ .backup →
      Ends afterAll (.record sv so co p0 p1) d
      (d.record false sv (so % 65536) (co % 65536) (p0 % 2 ^ 32) (p1 % 2 ^ 32) 0)) ∧
  (∀ (d : Dev) (a b : Bool), d.ringReady = true → d.pageDue = true → (a = true ∨ b = true) →
      let e := d.ringStep d.recd.pending
      Ends afterAll (.ringPageProgram a b) d (({ e with recd := { e.recd with pending := [], due := false } }).setIrq .REC 0 1)) ∧
  (∀ (d : Dev), d.ringReady = true → d.pageDue = true →
      Ends afterAll (.ringPageProgram false false) d
      ((d.ringStep []).raiseErr .REC 0 0 noDetail)) ∧
  (∀ (d : Dev), (d.recd.pending.any (fun r => decide (3 ≤ r.sev ∧ 10000 ≤ d.life.usUp - r.atUs)) = true) →
      Ends afterAll (.urgentRecordTimeout) d
      ({ d with recd := { d.recd with due := true } })) ∧
  (∀ (d : Dev) (x : Rec) (xs : List Rec), d.recd.pending = x :: xs → d.holdS * 1000000 ≤ d.life.usUp - x.atUs →
      Ends afterAll (.recordHoldTimeout) d
      ({ d with recd := { d.recd with due := true } })) ∧
  (∀ (d : Dev) (bad : List Nat), d.recd.rotating = true → d.mayRotate = true →
      Ends afterAll (.ringRotation bad) d
      (d.rotateReserved (!d.recd.clearing) bad)) ∧
  (∀ (d : Dev), d.life.mode ≠ .backup →
      Ends afterAll (.posSecond) d
      ({ d with bak := { d.bak with pos := (d.bak.pos + 1) % 2 ^ 32 } })) ∧
  (∀ (d : Dev) (r : Requester) (v : W64), d.takes r .RECW 0 Reg.RECW_CURSOR = true →
      let t := d.taken r .RECW 0
      Ends afterAll (.cursorWrite r v) d (t.loadView (viewOf r) v.toNat)) ∧
  (∀ (d : Dev) (v : Nat), (d.view v).loading = true →
      Ends afterAll (.viewLoaded v) d
      (d.setView v { d.view v with loading := false })) ∧
  (∀ (d : Dev) (r : Requester) (v : W32), d.takes r .RECW 0 Reg.RECW_FREEZE_CTL = true →
      let t := d.taken r .RECW 0
      Ends afterAll (.freeze r v) d (t.freezeWrite (viewOf r) v)) ∧
  (∀ (d : Dev) (v : Nat), (d.view v).freeze = true →
      (if (d.view v).maxS = 0 then 60 else (d.view v).maxS) * 1000000 ≤ d.life.usUp - (d.view v).freezeUs →
      Ends afterAll (.freezeTimeout v) d
      (d.setView v { d.view v with freeze := false, lost := true })) ∧
  (∀ (d : Dev) (r : Requester) (v : W32), d.takes r .REC 0 Reg.REC_HREC_CMD = true →
      let t := d.taken r .REC 0
      Ends afterAll (.hrecCmd r v) d (t.hostRecord r v)) ∧
  (∀ (d : Dev) (r : Requester), d.takes r .REC 0 Reg.REC_REC_CLR = true →
      let t := d.taken r .REC 0
      Ends afterAll (.recCntClr r) d ({ t with recd := { t.recd with lost := 0, dropped := 0 } })) ∧
  (∀ (d : Dev) (r : Requester), r.dom = .secure → d.takes r .REC 0 Reg.REC_REC_CLR = true →
      let t := d.taken r .REC 0
      Ends afterAll (.ringClr r) d (t.ringClr 0)) ∧
  (∀ (d : Dev) (r : Requester), d.takes r .CAL 0 Reg.CAL_CAL_CTL = true → (d.taken r .CAL 0).calFollows = false →
      let t := d.taken r .CAL 0
      Ends afterAll (.calSet r) d ({ t with
        bak := { t.bak with sub := t.reg64 .CAL 0 Reg.CAL_CAL_SET % 32768, sec := t.reg64 .CAL 0 Reg.CAL_CAL_SET / 65536 % 2 ^ 32, valid := true, vbatLost := false, frac := 0 }
        fab := { t.fab with calUs := 0 } })) ∧
  (∀ (d : Dev) (r : Requester), d.takes r .CAL 0 Reg.CAL_CAL_CTL = true → (d.taken r .CAL 0).calFollows = true →
      let t := d.taken r .CAL 0
      Ends afterAll (.calSet r) d (t.raiseErr .CAL 0 0 noDetail)) ∧
  (∀ (d : Dev), d.life.mode ≠ .backup → d.regB .CAL 0 Reg.CAL_CAL_CTL 1 = true → d.bak.sec = d.regN .CAL 0 Reg.CAL_ALARM_SEC →
      let e := d.setRegF .CAL 0 Reg.CAL_CAL_CTL 1 1 0
      Ends afterAll .calAlarm d (if e.life.mode = .idle ∨ e.life.mode = .patrol then { e with bak := { e.bak with alarmWaits := true } } else e.setIrq .CAL 0 0)) ∧
  (∀ (d : Dev),
      Ends afterAll (.trimInterval) d
      ({ d with bak := d.bak.addSub (signed 8 (d.regF .CAL 0 Reg.CAL_TRIM 0 8)) })) ∧
  (∀ (d : Dev),
      Ends afterAll (.vbatRise) d
      ({ d with
        regs := d.regs.filter (fun e => !calKey e.1)
        bak := { sec := 0, sub := 0, valid := false, vbatLost := true, frac := 0, pos := 0, pcc := 0, lostAtPower := true, alarmWaits := false } })) ∧
  (∀ (d : Dev), d.life.mode ≠ .backup →
      Ends afterAll (.oscStop) d
      (({ d with bak := { d.bak with valid := false } }).raiseErr .CAL 0 1 noDetail))

/-- Fault inputs, watchdogs, lockstep, the thermal monitor, and the collector's clears. From R552, R553, R555, R559, R563, R565, R566, R567, R568, R570,
R571, spec/18_fault_handling.md. Model's choices it rests on: log entries 91, 22, 93, 6. -/
def Obligations.FaultsAndWatchdogs : Prop :=
  (∀ (d : Dev) (ty i b : Nat) (p : PT), PT.ofCode ty = some p → i < p.units → b < p.errClasses.length → i < p.count → p ≠ .LDP →
      Ends afterAll (.faultEvent ty i b) d
      (d.raiseErr p i b noDetail)) ∧
  -- a unit among several behind one page instance: the event names the unit
  (∀ (d : Dev) (ty i b : Nat) (p : PT), PT.ofCode ty = some p → i < p.units → b < p.errClasses.length → (p.count ≤ i ∨ p = .LDP) →
      Ends afterAll (.faultEvent ty i b) d
      (d.raiseErrAs p 0 b (p.errClasses.getD b 0) noDetail i)) ∧
  (∀ (d : Dev) (ty i b : Nat) (p : PT), PT.ofCode ty = some p → i < p.units →
      let e := d.event { ty := ty, inst := if p.count = 1 then 0 else i, bit := b, fixed := false, rail := true, cls := railClass p, detail := noDetail, unit := i }
      Ends afterAll (.railFault ty i b) d { e with railMute := if e.railMute.contains (ty, i, b) = true then e.railMute else (ty, i, b) :: e.railMute }) ∧
  (∀ (d : Dev), d.life.glaze = .restarting → d.life.fatal = false →
      let e := if d.cip.alarm = true then d.reloadKeys else d
      Ends afterAll .glazeRestarted d (({ e with life := { e.life with glaze := .running } }).kickAll)) ∧
  (∀ (d : Dev) (n : Nat), n < 32 → d.life.glaze = .running → d.wdogCounts (nbit d.haltMask n) = true →
      max 10 (d.regF .FLT 0 Reg.FLT_WDOG_CFG 0 16) * 1000 ≤ d.wdogAge n →
      let e := d.setRegF .FLT 0 Reg.FLT_WDOG_STS 0 6 (n + 32)
      Ends afterAll (.svWatchdogExpiry n) d (({ e with wdog := mput e.wdog n e.life.usUp }).fixedEvent .SVC 0 3 n)) ∧
  (∀ (d : Dev), d.wdogCounts d.sxHalted = true → max 10 (d.regF .FLT 0 Reg.FLT_WDOG_CFG 16 16) * 1000 ≤ d.wdogAge 32 →
      Ends afterAll (.sxWatchdogExpiry) d
      ((d.setRegF .FLT 0 Reg.FLT_WDOG_STS 6 1 1).fixedEvent .SX 0 4 noDetail)) ∧
  (∀ (d : Dev) (r : Requester) (v : W32), (r.dom = .glaze ∨ r.dom = .secure) → d.takes r .FLT 0 Reg.FLT_WDOG_KICK = true →
      let t := d.taken r .FLT 0
      Ends afterAll (.wdogKick r v) d ({ t with wdog := (bitList v.toNat 32).foldl (fun w i => mput w i t.life.usUp) t.wdog })) ∧
  (∀ (d : Dev) (r : Requester), r.dom = .secure → d.takes r .FLT 0 Reg.FLT_SX_KICK = true →
      let t := d.taken r .FLT 0
      Ends afterAll (.sxKick r) d ({ t with wdog := mput t.wdog 32 t.life.usUp })) ∧
  (∀ (d : Dev) (r : Requester), r.dom ≠ .secure →
      Ends afterAll (.sxKick r) d
      (d.notAllowed r .FLT 0 Reg.FLT_SX_KICK)) ∧
  (∀ (d : Dev), d.life.mode ≠ .backup →
      Ends afterAll (.lockstepMismatch) d
      (d.fixedEvent .SX 0 4 noDetail)) ∧
  (∀ (d : Dev) (r : Requester), r.dom = .secure → d.takes r .SX 0 Reg.FORCE = true →
      let t := d.taken r .SX 0
      Ends afterAll (.forceLockstep r) d (t.fixedEvent .SX 0 4 noDetail)) ∧
  (∀ (d : Dev) (r : Requester) (b : Bool), r.dom = .secure → d.takes r .THM 0 Reg.FORCE = true →
      let t := d.taken r .THM 0
      Ends afterAll (.forceTrip r b) d (if b = true then (t.setRegF .THM 0 Reg.FORCE 0 1 (b2n b)).throttle true else t.setRegF .THM 0 Reg.FORCE 0 1 (b2n b))) ∧
  (∀ (d : Dev) (r : Requester), r.dom = .secure → d.takes r .THM 0 Reg.FORCE = true →
      let t := d.taken r .THM 0
      Ends afterAll (.forceCrit r) d ((t.setRegF .THM 0 Reg.THM_THM_STS 1 1 1).raiseErr .THM 0 1 noDetail)) ∧
  (∀ (d : Dev) (t0 t1 t2 t3 : Int), d.life.mode ≠ .backup →
      let crit := temp12 (d.regF .THM 0 Reg.THM_CRIT_CFG 0 12)
      let trip := temp12 (d.regF .THM 0 Reg.THM_THM_CFG 0 12)
      let hyst : Int := max 1 (d.regF .THM 0 Reg.THM_THM_CFG 12 8)
      let raw := [t0, t1, t2, t3]
      let ts := raw.map (fun t => if t < -512 ∨ 1600 < t then crit - 1 else t)
      let a := (List.range 4).foldl (fun d i => d.setRegF .THM 0 (Reg.THM_TEMP_0 + 4 * i) 0 12 (unsigned 12 (ts.getD i 0))) d
      let hot := (List.range 4).foldl (fun b i => if ts.getD b 0 < ts.getD i 0 then i else b) 0
      let top := ts.getD hot 0
      let b := a.setRegF .THM 0 Reg.THM_THM_STS 2 2 hot
      let c := if temp12 (b.regF .THM 0 Reg.THM_MAX_TEMP 0 12) < top then b.setRegF .THM 0 Reg.THM_MAX_TEMP 0 12 (unsigned 12 top) else b
      let e := if raw.any (fun t => decide (t < -512 ∨ 1600 < t)) = true then c.raiseErr .THM 0 2 noDetail else c
      let zone := if e.regB .THM 0 Reg.FORCE 0 = true then max top trip else top
      let f := if trip ≤ zone then e.throttle true else if zone < trip - hyst then e.throttle false else e
      Ends afterAll (.thermalSample t0 t1 t2 t3) d (if crit ≤ top then
          if f.regB .THM 0 Reg.THM_THM_STS 1 = true then f else (f.setRegF .THM 0 Reg.THM_THM_STS 1 1 1).raiseErr .THM 0 1 noDetail
        else f.setRegF .THM 0 Reg.THM_THM_STS 1 1 0)) ∧
  (∀ (d : Dev) (r : Requester), d.takes r .FLT 0 Reg.FLT_FLT_CLR = true →
      let t := d.taken r .FLT 0
      Ends afterAll (.firstClr r) d (t.setRegF .FLT 0 Reg.FLT_FLT_STS 14 1 0)) ∧
  (∀ (d : Dev) (r : Requester), d.takes r .FLT 0 Reg.FLT_FLT_CLR = true →
      let t := d.taken r .FLT 0
      Ends afterAll (.histClr r) d (((List.range 64).foldl (fun e k => e.setRegN .FLT 0 (Reg.FLT_HIST_0 + 4 * k) 0) t).setRegF .FLT 0 Reg.FLT_FLT_STS 5 5 0)) ∧
  (∀ (d : Dev) (r : Requester), d.takes r .FLT 0 Reg.FLT_FLT_CLR = true →
      let t := d.taken r .FLT 0
      Ends afterAll (.cntClr r) d (((List.range 5).foldl (fun e k => e.setRegN .FLT 0 (Reg.FLT_CNT_C0 + 4 * k) 0) t).setRegF .FLT 0 Reg.FLT_FLT_STS 1 4 0)) ∧
  (∀ (d : Dev) (r : Requester) (v : W32), d.takes r .FLT 0 Reg.FLT_OVR = true →
      let t := d.taken r .FLT 0
      Ends afterAll (.ovrWrite r v) d (if r.dom ≠ .secure ∧ fld v 29 3 ≤ 4 ∧ fld v 29 3 < defaultClass (fld v 0 12) (fld v 24 5) then t.raiseErr .FLT 0 0 noDetail
        else { t with ovr := if v = 0xe0000000#32 then mdel t.ovr (t.regF .FLT 0 Reg.FLT_OVR_SEL 0 5) else mput t.ovr (t.regF .FLT 0 Reg.FLT_OVR_SEL 0 5) v }))

/-- Package blocks along the chain, the staged package, trial reports and the update broadcasts. From R436, R535, R536, R537, R539, R540, R541, R542,
R544, R545, R546, R590. Model's choices it rests on: log entries 86, 87, 90, 7. -/
def Obligations.FieldUpdate : Prop :=
  (∀ (d : Dev) (q tag : Nat) (data : List Byte) (sigOk flashOk : Bool) (f : Flight), d.flight q tag = some f → f.cmd.opcode = 0x62 →
      f.stage = .run → d.denyPlain f false = none →
      Ends afterFabric (.updateBlock q tag data sigOk flashOk) d (d.setFlight { f with stage := if nbit f.cmd.flags 1 = true then .list else .data })) ∧
  (∀ (d : Dev) (q tag : Nat) (data : List Byte) (sigOk flashOk : Bool) (f : Flight), d.flight q tag = some f → f.cmd.opcode = 0x62 →
      f.stage = .data → data.length = 65536 → d.blockRefused data f.cmd.addr = none → bytesAt data 0x18 4 ≠ f.cmd.count * 4096 →
      Ends afterFabric (.updateBlock q tag data sigOk flashOk) d (d.failFreeze f St.lengthMismatch Fz.length 5 65536 (bytesAt data 0x18 4))) ∧
  (∀ (d : Dev) (q tag : Nat) (data : List Byte) (sigOk flashOk : Bool) (f : Flight) (x : Nat), d.flight q tag = some f →
      f.cmd.opcode = 0x62 → f.stage = .data → data.length = 65536 → d.blockRefused data f.cmd.addr = some x →
      Ends afterFabric (.updateBlock q tag data sigOk flashOk) d (d.postFail f (if x = 0x22 then St.accessDenied else St.invalidField) x)) ∧
  (∀ (d : Dev) (q tag : Nat) (data : List Byte) (sigOk flashOk : Bool) (f : Flight), d.flight q tag = some f → f.cmd.opcode = 0x62 →
      f.stage = .data → data.length = 65536 → bytesAt data 0x18 4 = f.cmd.count * 4096 → d.blockRefused data f.cmd.addr = none →
      mget d.upd.blocks (bytesAt data 0x10 4) = none → d.blocksOut < 32 →
      Ends afterFabric (.updateBlock q tag data sigOk flashOk) d (((d.stageChecked data sigOk flashOk).forwardBlock data).postOk f 0)) ∧
  (∀ (d : Dev) (h : MsgHdr) (data : List Byte) (sigOk flashOk : Bool), d.hears 0x40 h = true → d.rxBad 0x40 h = false →
      (d.heard 0x40 h).isMember = true → data.length = 65536 → blockOk data = false →
      let e := (d.heard 0x40 h).forwardBlock data
      Ends afterFabric (.block h data sigOk flashOk) d (e.send 0x40 0 [1, 1, bytesAt data 0x10 4, bytesAt data 8 8] false)) ∧
  (∀ (d : Dev) (h : MsgHdr) (data : List Byte) (sigOk : Bool), d.hears 0x40 h = true → d.rxBad 0x40 h = false →
      (d.heard 0x40 h).isMember = true → data.length = 65536 → blockOk data = true →
      ((d.heard 0x40 h).forwardBlock data).blockRefused data (bytesAt data 0x10 4) = none →
      mget ((d.heard 0x40 h).forwardBlock data).upd.blocks (bytesAt data 0x10 4) = none →
      let e := ((d.heard 0x40 h).forwardBlock data).stageBlock data sigOk
      Ends afterFabric (.block h data sigOk true) d (if e.updState = 7 then e else e.send 0x40 0 [1, 0, bytesAt data 0x10 4, bytesAt data 8 8] false)) ∧
  (∀ (d : Dev) (h : MsgHdr) (ix pkg : Nat), d.hears 0x40 h = true → d.rxBad 0x40 h = false → (d.heard 0x40 h).isHead = true →
      pkg = (d.heard 0x40 h).reg64 .UPD 0 Reg.UPD_PKG_ID →
      let e := d.heard 0x40 h
      Ends afterFabric (.blockAck h 0 ix pkg) d ({ e with upd := { e.upd with acks := (((h.src * 65536 + ix % 65536) :: e.upd.acks)).eraseDups, sent := e.upd.sent.filter (fun x => x != h.src * 65536 + ix % 65536) } })) ∧
  (∀ (d : Dev) (h : MsgHdr) (pkg : Nat), d.hears 0x40 h = true → d.rxBad 0x40 h = false → (d.heard 0x40 h).isHead = true →
      ((d.heard 0x40 h).updState = 5 ∨ (d.heard 0x40 h).updState = 6) → (d.heard 0x40 h).pkgMembers.contains h.src = true →
      pkg = (d.heard 0x40 h).runPkg →
      let e := d.heard 0x40 h
      Ends afterFabric (.report h 0 pkg) d ({ e with upd := { e.upd with reports := (h.src :: e.upd.reports).eraseDups } })) ∧
  (∀ (d : Dev) (h : MsgHdr) (st pkg : Nat), d.hears 0x40 h = true → d.rxBad 0x40 h = false → (d.heard 0x40 h).isHead = true →
      ((d.heard 0x40 h).updState = 5 ∨ (d.heard 0x40 h).updState = 6) → (d.heard 0x40 h).pkgMembers.contains h.src = true →
      (st ≠ 0 ∨ pkg ≠ (d.heard 0x40 h).runPkg) →
      let e := d.heard 0x40 h
      Ends afterFabric (.report h st pkg) d (e.startRollback)) ∧
  (∀ (d : Dev), d.updState = 2 → (d.writeParts d.manifest [1, 2, 3, 4, 5, 6, 7]).1 = 0 →
      ((d.writeParts d.manifest [1, 2, 3, 4, 5, 6, 7]).2.2).badDigest d.manifest = none →
      let e := (d.writeParts d.manifest [1, 2, 3, 4, 5, 6, 7]).2.2
      Ends afterFabric (.applyComplete none 1) d (((e.flashRewrite (glazeBank (1 - e.runG)) 0x2000 d.manifest).updSet 3).setIrq .UPD 0 0)) ∧
  (∀ (d : Dev) (k m : Nat), d.updState = 2 → checkCode m = true → (d.writeParts d.manifest [1, 2, 3, 4, 5, 6, 7]).1 = 0 →
      Ends afterFabric (.applyComplete (some k) m) d
      (((d.writeParts d.manifest [1, 2, 3, 4, 5, 6, 7]).2.2).updFail 7 (k % 8))) ∧
  (∀ (d : Dev), d.life.mordant = true → d.life.glaze ≠ .stopped → d.isMember = true → d.updState = 5 → d.fabState ≠ 3 →
      d.settleOver = true → d.upd.reports.contains d.fabId = false →
      Ends afterFabric (.settleTimeout) d
      (({ d with upd := { d.upd with reports := d.fabId :: d.upd.reports } }).sayReport 3)) ∧
  (∀ (d : Dev), d.life.mordant = true → d.life.glaze ≠ .stopped → d.isMember = false → d.updState = 5 → d.settleOver = true →
      Ends afterFabric (.settleTimeout) d
      (d.startRollback)) ∧
  (∀ (d : Dev) (h : MsgHdr) (id pkg x : Nat), d.hears 0x12 h = true → d.rxBad 0x12 h = false → goesUp h = false → goesDown h = true →
      (d.heard 0x12 h).isMember = true →
      let e := d.heard 0x12 h
      Ends afterFabric (.updPrepare h id pkg x) d (((e.gatherBegin 2 id).down 0x12 ([id, 0x100] ++ [pkg, x]) false).bcastTake id 0x100 [pkg, x])) ∧
  (∀ (d : Dev) (h : MsgHdr) (id pkg x : Nat), d.hears 0x12 h = true → d.rxBad 0x12 h = false → goesUp h = false → goesDown h = true →
      (d.heard 0x12 h).isMember = true →
      let e := d.heard 0x12 h
      Ends afterFabric (.updGo h id pkg x) d (((e.gatherBegin 2 id).down 0x12 ([id, 0x101] ++ [pkg, x]) false).bcastTake id 0x101 [pkg, x])) ∧
  (∀ (d : Dev) (h : MsgHdr) (id pkg : Nat), d.hears 0x12 h = true → d.rxBad 0x12 h = false → goesUp h = false → goesDown h = true →
      (d.heard 0x12 h).isMember = true →
      let e := d.heard 0x12 h
      Ends afterFabric (.updAbort h id pkg) d (((e.gatherBegin 2 id).down 0x12 ([id, 0x102] ++ [pkg]) false).bcastTake id 0x102 [pkg])) ∧
  (∀ (d : Dev) (h : MsgHdr) (id pkg : Nat), d.hears 0x12 h = true → d.rxBad 0x12 h = false → goesUp h = false → goesDown h = true →
      (d.heard 0x12 h).isMember = true →
      let e := d.heard 0x12 h
      Ends afterFabric (.updConfirm h id pkg) d (((e.gatherBegin 2 id).down 0x12 ([id, 0x103] ++ [pkg]) false).bcastTake id 0x103 [pkg])) ∧
  (∀ (d : Dev) (h : MsgHdr) (id sec sub fl w : Nat), d.hears 0x12 h = true → d.rxBad 0x12 h = false → goesUp h = false →
      goesDown h = true → (d.heard 0x12 h).isMember = true →
      let e := d.heard 0x12 h
      Ends afterFabric (.calSync h id sec sub fl w) d (((e.gatherBegin 2 id).down 0x12 ([id, 0x200] ++ [sec % 2 ^ 32, sub % 32768, fl, w]) false).bcastTake id 0x200
        [sec % 2 ^ 32, sub % 32768, fl, w])) ∧
  (∀ (d : Dev) (o : GlobalOp), d.fab.op = some o → o.kind = 7 → wordAt o.body 0 = 0x100 → o.awaiting ≠ 0 →
      1000000000 ≤ d.fabNow - o.startNs →
      Ends afterFabric (.prepareAckTimeout) d
      (({ d with fab := { d.fab with gathers := d.fab.gathers.filter (fun g => !(g.kind == 2 && g.id == o.id)) } }).updDone { o with result := 1 })) ∧
  (∀ (d : Dev) (t : Nat), d.upd.go = some t → restartMode d.life.mode = true → t ≤ d.fabNow →
      let e := d.deviceReset false 6 true
      Ends afterFabric .activationTime d (if d.upd.target = 1 then ((e.setRegF .UPD 0 Reg.UPD_UPD_STS 4 8 9).raiseErr .UPD 0 1 noDetail).setIrq .UPD 0 2 else e.setIrq .UPD 0 1)) ∧
  (∀ (d : Dev), d.isHead = true → liveMode d.life.mode = true → (d.fab.calUs = 0 ∨ 1000000 ≤ d.life.usUp - d.fab.calUs) →
      Ends afterFabric (.calSyncTimer) d
      (({ d with fab := { d.fab with calUs := max 1 d.life.usUp } }).opAsk 8 [0x200, d.bak.sec, d.bak.sub, b2n d.bak.valid, d.fabNow] false))

/-- The requests of UPD.REQ: package, keys, option area, OTP row, settings and format. From R186, R335, R523, R526, R541, R545, R546, R547, R550,
spec/17_field_update.md. Model's choices it rests on: log entries 88, 85, 81, 129. -/
def Obligations.UpdateRequests : Prop :=
  (∀ (d : Dev) (r : Requester), d.takes r .UPD 0 Reg.UPD_REQ = true → d.reqBusy = false → r.dom ≠ .glaze →
      let u := (d.taken r .UPD 0).reqSaid 1 0
      Ends afterFabric (.updateAbort r) d (if u.isMember = true then u.reqEnd 3 0 else if (!List.contains [1, 2, 3, 4, 7] u.updState) = true then u.reqEnd 1 0
        else (u.setRegN .UPD 0 Reg.UPD_REQ_STS 1).opAsk 7 [0x102, (u.setRegN .UPD 0 Reg.UPD_REQ_STS 1).reg64 .UPD 0 Reg.UPD_PKG_ID] false)) ∧
  (∀ (d : Dev) (r : Requester), d.takes r .UPD 0 Reg.UPD_REQ = true → d.reqBusy = false → r.dom ≠ .glaze →
      let u := (d.taken r .UPD 0).reqSaid 2 0
      Ends afterFabric (.commit r) d (let b := u.setRegN .UPD 0 Reg.UPD_REQ_STS 1
        if u.isMember = true then u.reqEnd 3 0 else if (!List.contains [3] u.updState) = true then u.reqEnd 1 0
        else ({ b with upd := { b.upd with prepare := some (0, b.pkgMembers, b.life.usUp) } }).opAsk 7 [0x100, b.reg64 .UPD 0 Reg.UPD_PKG_ID, 0] false)) ∧
  (∀ (d : Dev) (r : Requester), d.takes r .UPD 0 Reg.UPD_REQ = true → d.reqBusy = false → r.dom ≠ .glaze →
      let u := (d.taken r .UPD 0).reqSaid 3 0
      Ends afterFabric (.confirm r) d (if u.isMember = true then u.reqEnd 3 0 else if (!List.contains [6] u.updState) = true then u.reqEnd 1 0
        else (u.setRegN .UPD 0 Reg.UPD_REQ_STS 1).opAsk 7 [0x103, (u.setRegN .UPD 0 Reg.UPD_REQ_STS 1).runPkg] false)) ∧
  (∀ (d : Dev) (r : Requester), d.takes r .UPD 0 Reg.UPD_REQ = true → d.reqBusy = false → r.dom ≠ .glaze →
      let u := (d.taken r .UPD 0).reqSaid 4 0
      Ends afterFabric (.rollback r) d (if u.isMember = true then u.reqEnd 3 0 else if (!List.contains [5, 6] u.updState) = true then u.reqEnd 1 0
        else (u.setRegN .UPD 0 Reg.UPD_REQ_STS 1).startRollback)) ∧
  (∀ (d : Dev) (r : Requester) (slot : Nat), d.takes r .UPD 0 Reg.UPD_REQ = true → d.reqBusy = false → r.dom ≠ .glaze →
      let u := (d.taken r .UPD 0).reqSaid 5 slot
      Ends afterFabric (.keyImport r slot) d (let w := if u.cip.alarm = true then u.keyResult 7 else u.unwrapBlob (slot % 4096) (u.mbox 0 0xe0)
        let res := w.regF .KEY 0 Reg.KEY_KEY_STS 1 4
        if res = 0 then w.reqEnd 0 0 else w.reqEnd 6 res)) ∧
  (∀ (d : Dev) (r : Requester), d.takes r .UPD 0 Reg.UPD_REQ = true → d.reqBusy = false → r.dom ≠ .glaze →
      let u := (d.taken r .UPD 0).reqSaid 6 0
      Ends afterFabric (.importPub r) d (((({ u with free := u.free + 96 }).mboxPut 0 ((List.range 97).map Config.importPub)).mboxPut 0x64
        ((List.range 96).map (fun i => Config.freeByte (u.free + i)))).reqEnd 0 0)) ∧
  (∀ (d : Dev) (r : Requester) (ok : Bool), d.takes r .UPD 0 Reg.UPD_REQ = true → d.reqBusy = false → r.dom ≠ .glaze →
      optionOk (((d.taken r .UPD 0).reqSaid 7 0).mbox 0 0x230) = false →
      let u := (d.taken r .UPD 0).reqSaid 7 0
      Ends afterFabric (.optionWrite r ok) d (u.reqEnd 5 0)) ∧
  (∀ (d : Dev) (r : Requester), d.takes r .UPD 0 Reg.UPD_REQ = true → d.reqBusy = false → r.dom ≠ .glaze →
      optionOk (((d.taken r .UPD 0).reqSaid 7 0).mbox 0 0x230) = true →
      let u := (d.taken r .UPD 0).reqSaid 7 0
      Ends afterFabric (.optionWrite r true) d (u.reqOption true)) ∧
  (∀ (d : Dev) (r : Requester), d.takes r .UPD 0 Reg.UPD_REQ = true → d.reqBusy = false → r.dom ≠ .glaze →
      let u := (d.taken r .UPD 0).reqSaid 8 0
      Ends afterFabric (.otpOperator r true) d (if u.life.mode ≠ .maint then u.reqEnd 2 0 else if r.dom ≠ .host ∨ r.i3c = true then u.reqEnd 4 0
        else if (!(u.flashBytes (otpWin + 0xc0) 48).all (fun b => b == 0xff#8)) = true then u.reqEnd 1 0
        else ((u.otpProgram 0xc0 (u.mbox 0 48) true).otpProgram 0x160 (leBytes 4 0xfffffffd) true).reqEnd 0 0)) ∧
  (∀ (d : Dev) (r : Requester) (ok : Bool), d.takes r .UPD 0 Reg.UPD_REQ = true → d.reqBusy = false → r.dom ≠ .glaze →
      let u := (d.taken r .UPD 0).reqSaid 9 0
      Ends afterFabric (.debugFullOff r ok) d (if u.life.mode ≠ .maint then u.reqEnd 2 0 else if r.dom ≠ .host ∨ r.i3c = true then u.reqEnd 4 0
        else (u.otpProgram 0x160 (leBytes 4 0xfffffffe) ok).reqEnd (if ok = true then 0 else 7) 0)) ∧
  (∀ (d : Dev) (r : Requester) (ok : Bool), d.takes r .UPD 0 Reg.UPD_REQ = true → d.reqBusy = false →
      let u := (d.taken r .UPD 0).reqSaid 0xa 0
      Ends afterFabric (.settingsSave r ok) d (u.reqSettings u.settingEntries ok)) ∧
  (∀ (d : Dev) (r : Requester) (ok : Bool), d.takes r .UPD 0 Reg.UPD_REQ = true → d.reqBusy = false → r.dom ≠ .glaze →
      let u := (d.taken r .UPD 0).reqSaid 0xb 0
      Ends afterFabric (.settingsClear r ok) d (u.reqSettings [] ok)) ∧
  (∀ (d : Dev) (r : Requester) (arg : Nat) (marks : List (Nat × List Nat)), d.takes r .UPD 0 Reg.UPD_REQ = true → d.reqBusy = false →
      r.dom ≠ .glaze →
      let u := (d.taken r .UPD 0).reqSaid 0xc arg
      Ends afterFabric (.format r arg marks) d (if u.life.mode ≠ .maint then u.reqEnd 2 0 else if 2 ≤ arg % 2 ^ 24 then u.reqEnd 5 0
        else if u.stores.any (fun (e : Nat × Store) => e.2.fabric && e.2.base != 0xffffff) = true then u.reqEnd 1 0
        else (u.formatClear.formatGroups (arg % 2) marks).formatErase)) ∧
  -- the checkpoint pass that a format starts ends the request
  (∀ (d : Dev) (w : FormatRec), d.formatting = some w →
      let a : Dev := { d with format := some w, formatting := none, firstStart := true, life := { d.life with replayed := true } }
      let bs := fmtBytes w ++ leBytes 4 (crc32c (fmtBytes w))
      let b := [0, 1].foldl (fun (x : Dev) i => (x.flashProgram (fmtCopy i) bs).incWrap .BFL 0 Reg.BFL_PROG_CNT ((bs.length + 31) / 32)) a
      let e := ((b.setRegN .WEAR 0 Reg.WEAR_RO_CAUSE 0).setRegF .STR 0 Reg.STR_STR_STS 0 1 w.prot).setRegF .REB 0 Reg.REB_REB_CTL 0 1 0
      d.formatFinish = ((e.setRegF .SNP 0 Reg.SNP_HOLD_VOL 31 1 0).pslRecompute).reqEnd 0 0) ∧
  (∀ (d : Dev) (r : Requester), d.takes r .UPD 0 Reg.UPD_REQ = true → d.reqBusy = false → r.dom = .glaze →
      Ends afterFabric (.updateAbort r) d (((d.taken r .UPD 0).reqSaid 1 0).reqEnd 4 0)) ∧
  (∀ (d : Dev) (r : Requester), d.takes r .UPD 0 Reg.UPD_REQ = true → d.reqBusy = false → r.dom = .glaze →
      Ends afterFabric (.commit r) d (((d.taken r .UPD 0).reqSaid 2 0).reqEnd 4 0)) ∧
  (∀ (d : Dev) (r : Requester), d.takes r .UPD 0 Reg.UPD_REQ = true → d.reqBusy = false → r.dom = .glaze →
      Ends afterFabric (.settingsClear r true) d (((d.taken r .UPD 0).reqSaid 0xb 0).reqEnd 4 0))

/-- The TAP, authentication, debug access, halts, steps and breakpoints. From R640, R641, R644, R645, R646, R647, R648, R649, R651, R652, R653, R654.
Model's choices it rests on: log entries 96, 97, 98, 99, 100. -/
def Obligations.DebugPort : Prop :=
  (∀ (d : Dev), d.tapUp = true →
      Ends afterAll (.tapReset) d
      ({ d with dbg := { d.dbg with ir := 1, balls := 0 } })) ∧
  (∀ (d : Dev), d.tapUp = true →
      Ends afterAll (.idcode) d
      ((d.tapSelect 1).emit (.tap 0xb640049f))) ∧
  (∀ (d : Dev) (c : Nat), d.tapUp = true →
      d.tapSelect c = ({ d with dbg := { d.dbg with ir := c, balls := 0 } }).emit (.tap 1)) ∧
  (∀ (d : Dev) (c : Nat), d.tapUp = true →
      Ends afterAll (.samplePreload c) d
      ((d.tapSelect 2).boundaryScan c)) ∧
  (∀ (d : Dev) (c : Nat), d.tapUp = true → (d.life.mode = .reset ∨ (d.life.mode = .maint ∧ d.dbg.level = 2)) →
      let e := (d.tapSelect 3).boundaryScan c
      Ends afterAll (.extest (some c)) d (({ e with dbg := { e.dbg with balls := 1 } }).emit (.pin "BOUNDARY" e.dbg.cells))) ∧
  (∀ (d : Dev) (c : Option Nat), d.tapUp = true → d.scanAllowed = false →
      Ends afterAll (.extest c) d (d.tapSelect 3) ∧
      Ends afterAll .highz d (d.tapSelect 4)) ∧
  (∀ (d : Dev), d.tapUp = true → d.scanAllowed = true →
      let e := d.tapSelect 4
      Ends afterAll .highz d { e with dbg := { e.dbg with balls := 2 } }) ∧
  (∀ (d : Dev) (c : Nat), c < 256 → c ∉ [0x01, 0x02, 0x03, 0x04, 0x20, 0x21] →
      Ends afterAll (.bypass c) d
      (d.tapSelect c)) ∧
  (∀ (d : Dev), d.tapUp = true → d.life.mode ≠ .flush → d.dbg.refused = false → d.mordantActs = true → d.dbg.busy = false →
      let e : Dev := { d with dbg := { d.dbg with ir := 0x20, balls := 0 } }
      Ends afterAll (.challenge) d (({ e with free := e.free + 32, dbg := { e.dbg with nonce := some e.free, word := 0, token := [], last := 0 } }).authReply authOk 0)) ∧
  (∀ (d : Dev), d.tapUp = true → d.life.mode ≠ .flush → d.dbg.refused = true →
      let e : Dev := { d with dbg := { d.dbg with ir := 0x20, balls := 0 } }
      Ends afterAll (.challenge) d (e.authReply authRefused 0)) ∧
  (∀ (d : Dev) (n : Nat), d.tapUp = true → d.life.mode ≠ .flush → d.dbg.busy = false → d.dbg.nonce = some n → d.dbg.word < 10 →
      let e : Dev := { d with dbg := { d.dbg with ir := 0x20, balls := 0 } }
      Ends afterAll (.authRead) d (({ e with dbg := { e.dbg with word := e.dbg.word + 1 } }).authReply authOk
        (leNat (((leBytes 8 e.serial ++ nonceBytes n).drop (4 * e.dbg.word)).take 4)))) ∧
  (∀ (d : Dev) (w : W32), d.tapUp = true → d.life.mode ≠ .flush → d.dbg.busy = false →
      let e : Dev := { d with dbg := { d.dbg with ir := 0x20, balls := 0 } }
      Ends afterAll (.authPut w) d (({ e with dbg := { e.dbg with token := e.dbg.token ++ leBytes 4 w.toNat } }).authReply authOk 0)) ∧
  (∀ (d : Dev), d.tapUp = true → d.life.mode ≠ .flush → d.dbg.busy = false →
      let e : Dev := { d with dbg := { d.dbg with ir := 0x20, balls := 0 } }
      Ends afterAll (.submit) d (({ e with dbg := { e.dbg with busy := true, last := 0 } }).authReply authOk 0)) ∧
  (∀ (d : Dev), d.tapUp = true → d.life.mode ≠ .flush →
      let e : Dev := { d with dbg := { d.dbg with ir := 0x20, balls := 0 } }
      Ends afterAll (.authStatus) d (e.authReply (if d.dbg.busy = true then authBusy else if d.dbg.last = 2 then authFail else authOk) 0)) ∧
  (∀ (d : Dev), d.dbg.busy = true → d.mordantActs = true → d.tokenFits = true →
      let e := d.grantLevel
      Ends afterAll (.tokenChecked true) d { e with dbg := { e.dbg with busy := false, nonce := none, token := [] } }) ∧
  (∀ (d : Dev) (ok : Bool), d.dbg.busy = true → d.mordantActs = true → (ok = false ∨ d.tokenFits = false) →
      let e := (d.incSat .DBG 0 Reg.DBG_AUTH_FAILS 1).raiseErr .DBG 0 0 noDetail
      Ends afterAll (.tokenChecked ok) d { e with dbg := { e.dbg with
        busy := false, nonce := none, token := [], last := 2, refused := e.dbg.refused || decide (8 ≤ e.regN .DBG 0 Reg.DBG_AUTH_FAILS) } }) ∧
  (∀ (d : Dev), d.regN .DBG 0 Reg.DBG_LEVEL_EXPIRY ≠ 0 → d.regN .DBG 0 Reg.DBG_LEVEL_EXPIRY ≤ d.bak.pos →
      Ends afterAll (.levelExpiry) d
      (d.levelFall)) ∧
  (∀ (d : Dev) (r : Requester), d.takes r .DBG 0 Reg.DBG_DBG_CTL = true →
      let t := d.taken r .DBG 0
      Ends afterAll (.dbgLock r) d (t.levelFall)) ∧
  (∀ (d : Dev) (r : Requester), d.life.fatal = true → r.dom = .secure → d.dbg.level = 2 →
      Ends afterAll (.dbgLock r) d
      ((d.countWrite .DBG 0).levelFall)) ∧
  (∀ (d : Dev), d.dbg.level ≠ 0 →
      let e := d.debugRelease
      d.levelFall = ((({ e with dbg := { e.dbg with level := 0 } }).setRegF .CIP 0 Reg.CIP_CIP_CTL 4 1 1).setRegN .DBG 0 Reg.DBG_LEVEL_EXPIRY 0).setIrq .DBG 0 1) ∧
  (∀ (d : Dev), d.tapUp = true → d.life.mode ≠ .flush → d.dbg.dapWait = false →
      let e := ({ d with dbg := { d.dbg with ir := 0x21, balls := 0 } }).emit (.tap (dapWord d.dbg.dapSts d.dbg.dapEcho d.dbg.dapAddr d.dbg.dapData))
      Ends afterAll .dapNop d e) ∧
  (∀ (d : Dev), d.tapUp = true → (d.life.mode = .flush ∨ d.dbg.dapWait = true) →
      let e := ({ d with dbg := { d.dbg with ir := 0x21, balls := 0 } }).emit (.tap (dapWord 1 d.dbg.dapEcho d.dbg.dapAddr 0))
      Ends afterAll .dapNop d e) ∧
  (∀ (d : Dev) (b i : Bool) (sp a : Nat) (x : Option (Nat × Nat × Bool)), d.tapUp = true → d.life.mode ≠ .flush → d.dbg.dapWait = false →
      a < 2 ^ 32 →
      let e := ({ d with dbg := { d.dbg with ir := 0x21, balls := 0 } }).emit (.tap (dapWord d.dbg.dapSts d.dbg.dapEcho d.dbg.dapAddr d.dbg.dapData))
      let f := e.dapNote b i sp a
      Ends afterFabric (.dapRead b i sp a x) d
        (if a % (if b = true then 8 else 4) ≠ 0 ∨ (!f.dapReach false sp a) = true then f.dapDenied else f.dapDoRead sp a (if b = true then 8 else 4) x)) ∧
  (∀ (d : Dev) (b i : Bool) (sp a : Nat) (v : W64), d.tapUp = true → d.life.mode ≠ .flush → d.dbg.dapWait = false → a < 2 ^ 32 →
      d.life.fatal = false → a % (if b = true then 8 else 4) = 0 →
      ((({ d with dbg := { d.dbg with ir := 0x21, balls := 0 } }).emit (.tap (dapWord d.dbg.dapSts d.dbg.dapEcho d.dbg.dapAddr d.dbg.dapData))).dapNote b i sp a).dapReach true sp a = true →
      let e := ({ d with dbg := { d.dbg with ir := 0x21, balls := 0 } }).emit (.tap (dapWord d.dbg.dapSts d.dbg.dapEcho d.dbg.dapAddr d.dbg.dapData))
      Ends afterFabric (.dapWrite b i sp a v) d ((e.dapNote b i sp a).dapDoWrite sp a (if b = true then 8 else 4) v.toNat)) ∧
  (∀ (d : Dev) (n : Nat), d.dapWrites = true → d.coreReach n = true →
      Ends afterAll (.coreHalt n) d
      (d.haltGroup n 1 0)) ∧
  (∀ (d : Dev) (n : Nat), d.dapWrites = true → d.coreReach n = true →
      Ends afterAll (.coreResume n) d
      (d.resumeGroup n)) ∧
  (∀ (d : Dev) (n : Nat), d.dapWrites = true → d.coreReach n = true →
      Ends afterAll (.coreStep n) d
      (if (d.coreDbg n).reason = 0 then d.haltGroup n 2 0 else d.stepCore n)) ∧
  (∀ (d : Dev) (n : Nat), (d.coreDbg n).reason ≠ 0 →
      let e : Dev := { d with free := d.free + 65 }
      d.stepCore n = (e.setCore n { d.coreDbg n with reason := 2, index := 0, ran := true, shown := d.free, gprs := [] }).setIrq .DBG 0 2) ∧
  (∀ (d : Dev) (n : Nat), (d.dapWrites = false ∨ d.coreReach n = false) →
      Ends afterAll (.coreHalt n) d d ∧ Ends afterAll (.coreResume n) d d ∧ Ends afterAll (.coreStep n) d d) ∧
  (∀ (d : Dev) (n k : Nat), n < 33 → d.coreHalted n = false → ((mget (d.coreDbg n).bps k).getD 0) % 2 = 1 →
      Ends afterAll (.breakpointHit n k) d
      (d.haltGroup n 3 k)) ∧
  (∀ (d : Dev) (n k : Nat), n < 33 → d.coreHalted n = false → wpArmed ((mget (d.coreDbg n).wpCtl k).getD 0) = true →
      Ends afterAll (.watchpointHit n k) d
      (d.haltGroup n 4 k)) ∧
  (∀ (d : Dev) (u : Nat), d.dapWrites = true → 1 ≤ d.dbg.level → u ≤ 128 →
      Ends afterAll (.xHalt u) d
      (d.haltX u 1 0)) ∧
  (∀ (d : Dev) (u : Nat), d.dapWrites = true → 1 ≤ d.dbg.level → u ≤ 128 →
      Ends afterAll (.xResume u) d
      (d.resumeX u)) ∧
  (∀ (d : Dev) (u : Nat), d.dapWrites = true → 1 ≤ d.dbg.level → u ≤ 128 →
      Ends afterAll (.xStep u) d
      ((d.haltX u 2 0).setX u { (d.haltX u 2 0).xDbg u with step := true })) ∧
  (∀ (d : Dev) (k n : Nat), (d.xDbg 128).hit = some k →
      Ends afterAll (.xBreak 128 n) d
      (d.haltX 128 3 k))

/-- A locked page discards non-secure writes to OWNER and to offsets 0x040 and above, and leaves the common registers writable. Formalises R60. -/
def Obligations.LockedPageWrites : Prop :=
  (∀ (d : Dev) (r : Requester) (p : PT) (i off : Nat) (f g : Dev → Dev) (ok : Bool), d.busUp = true → d.life.fatal = false →
      d.shows r p i = true → r.dom ≠ .secure → d.locked p i = true → (off = Reg.OWNER ∨ 0x40 ≤ off) →
      d.regWrite r p i off f = (d.noteWake r p).ownerViol r p i off ∧ d.regWriteIf r p i off ok f = (d.noteWake r p).ownerViol r p i off ∧
        d.regWriteElse r p i off ok f g = (d.noteWake r p).ownerViol r p i off) ∧
  (∀ (d : Dev) (r : Requester) (p q : PT) (i j off x : Nat), q.key j x ≠ p.key i Reg.ERR_STS → q.key j x ≠ p.key i Reg.IRQ_STS →
      ((d.noteWake r p).ownerViol r p i off).reg q j x = d.reg q j x) ∧
  (∀ (d : Dev) (r : Requester) (p : PT) (i off : Nat) (f : Dev → Dev), d.busUp = true → d.life.fatal = false → d.shows r p i = true →
      d.mayWrite r p i = true → (off = Reg.PAGE_CTL ∨ off = Reg.IRQ_STS ∨ off = Reg.IRQ_EN ∨ off = Reg.ERR_STS ∨ off = Reg.ERR_ACT) →
      d.regWrite r p i off f = f (d.taken r p i)) ∧
  (∀ (d : Dev) (r : Requester) (p : PT) (i off : Nat) (f : Dev → Dev), d.busUp = true → d.life.fatal = false → d.shows r p i = true →
      r.dom = .secure →
      d.regWrite r p i off f = f (d.taken r p i))

/-- A non-secure write that would clear an ERR_ACT bit of default class C3 or C4 is ignored, and FORCE takes writes of the secure domain alone. Formalises
R55. -/
def Obligations.ProtectedActsAndForce : Prop :=
  (∀ (d : Dev) (r : Requester) (p : PT) (i b : Nat) (v : W32), d.takes r p i Reg.ERR_ACT = true → r.dom ≠ .secure →
      b < p.errClasses.length → 3 ≤ p.errClasses.getD b 0 → d.regB p i Reg.ERR_ACT b = true → fld v b 1 = 0 →
      ∃ (w : Option WakeCause) (rs : List (Nat × W32)), Dev.commonWord r p i Reg.ERR_ACT v d = { d with life := { d.life with wakeReq := w }, regs := rs } ∧
        ∀ (q : PT) (j x : Nat), q.key j x ≠ p.key i Reg.PAGE_SEQ → ({ d with regs := rs } : Dev).reg q j x = d.reg q j x) ∧
  (∀ (d : Dev) (r : Requester) (p : PT) (i : Nat) (f : Dev → Dev), d.takes r p i Reg.FORCE = true → r.dom ≠ .secure →
      ∃ (w : Option WakeCause) (rs : List (Nat × W32)), d.forceWrite r p i f = { d with life := { d.life with wakeReq := w }, regs := rs } ∧
        ∀ (q : PT) (j x : Nat), q.key j x ≠ p.key i Reg.PAGE_SEQ → ({ d with regs := rs } : Dev).reg q j x = d.reg q j x) ∧
  (∀ (d : Dev) (r : Requester) (p : PT) (i : Nat) (f : Dev → Dev), d.takes r p i Reg.FORCE = true → r.dom = .secure →
      d.forceWrite r p i f = f (d.taken r p i))

/-- A page requests its interrupt exactly while some bit stands in both IRQ_STS and IRQ_EN. Formalises R54. -/
def Obligations.PageInterruptRequest : Prop :=
  ∀ (d : Dev) (p : PT) (i : Nat),
      d.irqReq p i = true ↔ ∃ b, b < 32 ∧ (d.reg p i Reg.IRQ_STS).getLsbD b = true ∧ (d.reg p i Reg.IRQ_EN).getLsbD b = true

/-- IDCODE reads 0xB640_049F, with its version, part, manufacturer and final 1. Formalises R641. -/
def Obligations.DebugIdentification : Prop :=
  (∀ (d : Dev), d.tapUp = true →
      Ends afterAll (.idcode) d
      ((d.tapSelect 1).emit (.tap 0xB640049F))) ∧
  (fld 0xB640049F#32 28 4 = 0xB ∧ fld 0xB640049F#32 12 16 = 0x6400 ∧ fld 0xB640049F#32 1 11 = 0x24F ∧ fld 0xB640049F#32 0 1 = 1)

/-- A masked vector collects its events in one PBA bit and sends no message; an open one sends one message for each signal. From R87, R88,
spec/03_host_endpoint.md. Model's choices it rests on: log entry 11. -/
def Obligations.MsixMasking : Prop :=
  (∀ (d : Dev) (f : Fn) (v : Nat), (d.fn f).masked v = true →
      (d.sendMsix f v).out = d.out ∧ ((d.sendMsix f v).fn f).pba.contains v = true ∧ ((d.sendMsix f v).fn f).masked v = true ∧
        (∀ g : Fn, fnIdx g ≠ fnIdx f → (d.sendMsix f v).fn g = d.fn g) ∧ (d.sendMsix f v).sendMsix f v = d.sendMsix f v) ∧
  (∀ (d : Dev) (f : Fn) (v : Nat), (d.fn f).masked v = false →
      d.sendMsix f v = if (d.fn f).bme = true then d.emit (.msix f v) else d)

/-- A Filush message that is not heard has no effect, one that breaks a rule of reception is only counted, and a repeat breaks a rule. From R400, R415,
R416, spec/12_filush_fabric.md. Model's choices it rests on: log entry 71. -/
def Obligations.MessageDrops : Prop :=
  (∀ (d : Dev) (ty : Nat) (h : MsgHdr) (f : Dev → Dev), d.hears ty h = false →
      d.rx ty h f = d) ∧
  (∀ (d : Dev) (ty : Nat) (h : MsgHdr) (f : Dev → Dev), d.hears ty h = true →
      d.rx ty h f = if d.rxBad ty h = true then d.incSat .FL h.link Reg.FL_CRC_ERR 1 else f (d.heard ty h)) ∧
  (∀ (d : Dev) (ty : Nat) (h g : MsgHdr), ty ≠ 1 → g.src = h.src → g.seq = h.seq →
      (d.noteSeen h).rxBad ty g = true)

/-- A register write that no view shows, or that comes during a C4 halt, is lost; one that OWNER does not allow is discarded and reported. From R44, R58,
R59, R90, R556, spec/02_register_pages.md. Model's choices it rests on: log entry 18. -/
def Obligations.LostAndStoppedWrites : Prop :=
  (∀ (d : Dev) (r : Requester) (p : PT) (i off : Nat) (f g : Dev → Dev) (ok : Bool),
      (d.busUp = false ∨ d.life.fatal = true ∨ d.shows r p i = false) →
      d.regWrite r p i off f = d.noteWake r p ∧ d.regWriteIf r p i off ok f = d.noteWake r p ∧ d.regWriteElse r p i off ok f g = d.noteWake r p) ∧
  (∀ (d : Dev) (r : Requester) (p : PT) (i off : Nat) (f g : Dev → Dev) (ok : Bool), d.busUp = true → d.life.fatal = false →
      d.shows r p i = true → d.mayWrite r p i = false →
      d.regWrite r p i off f = (d.noteWake r p).ownerViol r p i off ∧ d.regWriteIf r p i off ok f = (d.noteWake r p).ownerViol r p i off ∧
        d.regWriteElse r p i off ok f g = (d.noteWake r p).ownerViol r p i off) ∧
  (∀ (d : Dev) (r : Requester) (p : PT) (i : Nat), r.dom = .host → r.i3c = false → r.num = 0 → (d.fn .pf).mse = false →
      d.shows r p i = false)

/-- A register reads what was stored in it, a field store leaves the other bits, and every other register stays as it was. From R46, R48,
spec/02_register_pages.md. -/
def Obligations.RegisterStore : Prop :=
  (∀ (d : Dev) (p : PT) (i off : Nat) (v : W32),
      (d.setReg p i off v).reg p i off = v ∧
        ∀ (q : PT) (j x : Nat), q.key j x ≠ p.key i off → (d.setReg p i off v).reg q j x = d.reg q j x) ∧
  (∀ (d : Dev) (p : PT) (i off lo n v : Nat), lo + n ≤ 32 →
      (d.setRegF p i off lo n v).regF p i off lo n = v % 2 ^ n ∧
        ∀ b, b < lo ∨ lo + n ≤ b → (d.setRegF p i off lo n v).regB p i off b = d.regB p i off b) ∧
  (∀ (p q : PT) (i j x y : Nat), (p ≠ q ∨ i % 0x1000 ≠ j % 0x1000 ∨ x % 0x1000 ≠ y % 0x1000) →
      p.key i x ≠ q.key j y)

/-- Slot memory: a byte reads what was last stored, every other byte reads as before, and equal contents are equal lists. From R106, R110, R139,
spec/04_command_queues.md. -/
def Obligations.SlotMemoryBytes : Prop :=
  (∀ (m : List Host.Cell) (a : Nat) (bs : List Byte),
      (∀ (k : Nat) (h : k < bs.length), (mget (putBytes m a bs) (a + k)).getD slotBlank = bs[k]) ∧
        (∀ x, x < a ∨ a + bs.length ≤ x → (mget (putBytes m a bs) x).getD slotBlank = (mget m x).getD slotBlank)) ∧
  (∀ (m : List Host.Cell) (a : Nat) (bs : List Byte), Memory.wf slotBlank m = true →
      Memory.wf slotBlank (putBytes m a bs) = true)

/-- Boot flash: programming ANDs each byte of its run, erasing sets each byte of its range, and every other byte stays. From R516, R518,
spec/16_firmware_domains.md. Model's choices it rests on: log entry 13. -/
def Obligations.BootFlashBytes : Prop :=
  (∀ (d : Dev) (a : Nat) (bs : List Byte),
      (∀ (k : Nat) (h : k < bs.length), (d.flashProgram a bs).flashByte (a + k) = d.flashByte (a + k) &&& bs[k]) ∧
        (∀ x, x < a ∨ a + bs.length ≤ x → (d.flashProgram a bs).flashByte x = d.flashByte x)) ∧
  (∀ (d : Dev) (a n x : Nat),
      (d.flashErase a n).flashByte x = if a ≤ x ∧ x < a + n then 0xff#8 else d.flashByte x) ∧
  (∀ (d : Dev) (a n : Nat) (bs : List Byte), Memory.wf flashBlank d.flash = true →
      Memory.wf flashBlank (d.flashProgram a bs).flash = true ∧ Memory.wf flashBlank (d.flashErase a n).flash = true)

/-- Where a command raises no event and moves no condition, nothing follows its own effect. From R26, R552, R561, R594, spec/18_fault_handling.md. Model's
choices it rests on: log entry 3. -/
def Obligations.QuietTail : Prop :=
  ∀ (e : Dev), e.eventsTaken → e.recordsFinish = e → e.updateArmed = e → e.life.wakeReq = none → e.modeSettled → e.idleSettled →
      afterAll e = e

/-- What follows a command leaves slot memory, boot flash, keys, media, bindings and the rest of Dev.rest as they are. From spec/18_fault_handling.md,
spec/01_architecture.md. Model's choices it rests on: log entry 3. -/
def Obligations.TailFrame : Prop :=
  (∀ (d : Dev),
      (afterAll d).rest = d.rest) ∧
  (∀ (d : Dev) (a : Nat),
      (afterAll d).slotByte a = d.slotByte a ∧ (afterAll d).flashByte a = d.flashByte a)

/-- Taking a register write changes, before the write's own effect, only PAGE_SEQ of the page and the wake source. From R53, R596,
spec/02_register_pages.md. Model's choices it rests on: log entry 35. -/
def Obligations.TakenWriteFrame : Prop :=
  ∀ (d : Dev) (r : Requester) (p : PT) (i : Nat),
      d.taken r p i = { d with life := { d.life with wakeReq := (d.noteWake r p).life.wakeReq }, regs := (d.taken r p i).regs } ∧
        (d.taken r p i).reg p i Reg.PAGE_SEQ = d.reg p i Reg.PAGE_SEQ + 1#32 ∧
        (∀ (q : PT) (j off : Nat), q.key j off ≠ p.key i Reg.PAGE_SEQ → (d.taken r p i).reg q j off = d.reg q j off)

/-- Receiving a Filush message changes, before the message's own effect, nothing that Dev.rest keeps. From R27, R415, R416, spec/12_filush_fabric.md.
Model's choices it rests on: log entry 71. -/
def Obligations.HeardFrame : Prop :=
  ∀ (d : Dev) (ty : Nat) (h : MsgHdr),
      (d.heard ty h).rest = d.rest ∧ (d.heard ty h).fab.members = d.fab.members ∧ (d.heard ty h).fab.op = d.fab.op ∧
        (d.heard ty h).fab.stripes = d.fab.stripes ∧ (d.heard ty h).fab.proxies = d.fab.proxies
end

