-- ==== Sys2Proof/Laws/Access.lean ====
section
/-! SUPPORT. What a register write does, once for every row that passes one (R43 to R62). -/
namespace Sys2Proof.Machine
open Sys2Proof

/-- Noting a wake source touches nothing that an access looks at. -/
theorem noteWake_eq (d : Dev) (r : Requester) (p : PT) :
    d.noteWake r p = { d with life := { d.life with wakeReq := (d.noteWake r p).life.wakeReq } } := by
  unfold Dev.noteWake; split <;> rfl

theorem noteWake_shows (d : Dev) (r : Requester) (p q : PT) (i : Nat) : (d.noteWake r p).shows r q i = d.shows r q i := by
  rw [noteWake_eq]; rfl

theorem noteWake_mayWrite (d : Dev) (r : Requester) (p q : PT) (i : Nat) : (d.noteWake r p).mayWrite r q i = d.mayWrite r q i := by
  rw [noteWake_eq]; rfl

theorem noteWake_busUp (d : Dev) (r : Requester) (p : PT) : (d.noteWake r p).busUp = d.busUp := by rw [noteWake_eq]; rfl

theorem noteWake_fatal (d : Dev) (r : Requester) (p : PT) : (d.noteWake r p).life.fatal = d.life.fatal := by rw [noteWake_eq]

theorem noteWake_locked (d : Dev) (r : Requester) (p q : PT) (i : Nat) : (d.noteWake r p).locked q i = d.locked q i := by
  rw [noteWake_eq]; rfl

/-- A write that is taken is counted and carried out. -/
theorem regWrite_takes {d : Dev} {r : Requester} {p : PT} {i off : Nat} (f : Dev → Dev) (h : d.takes r p i off = true) :
    d.regWrite r p i off f = f (d.taken r p i) := by
  simp only [Dev.takes, Bool.and_eq_true, Bool.or_eq_true, Bool.not_eq_true', Bool.or_eq_false_iff] at h
  obtain ⟨⟨⟨⟨hb, hf⟩, hs⟩, hm⟩, hl⟩ := h
  unfold Dev.regWrite Dev.taken
  simp only [noteWake_busUp, noteWake_fatal, noteWake_shows, noteWake_mayWrite, noteWake_locked, hb, hf, hs, hm]
  rcases hl with hl | ⟨h1, h2⟩
  · simp [bne, hl]
  · simp [h1, h2]

theorem regWriteIf_takes {d : Dev} {r : Requester} {p : PT} {i off : Nat} (f : Dev → Dev) (h : d.takes r p i off = true) :
    d.regWriteIf r p i off true f = f (d.taken r p i) := by
  simpa [Dev.regWriteIf, Dev.regWrite] using regWrite_takes f h

/-- A taken write that the owning rule discards is not counted. -/
theorem regWriteIf_drops {d : Dev} {r : Requester} {p : PT} {i off : Nat} (f : Dev → Dev) (h : d.takes r p i off = true) :
    d.regWriteIf r p i off false f = d.noteWake r p := by
  simp only [Dev.takes, Bool.and_eq_true, Bool.or_eq_true, Bool.not_eq_true', Bool.or_eq_false_iff] at h
  obtain ⟨⟨⟨⟨hb, hf⟩, hs⟩, hm⟩, hl⟩ := h
  unfold Dev.regWriteIf
  simp only [noteWake_busUp, noteWake_fatal, noteWake_shows, noteWake_mayWrite, noteWake_locked, hb, hf, hs, hm]
  rcases hl with hl | ⟨h1, h2⟩
  · simp [bne, hl]
  · simp [h1, h2]

theorem regWriteElse_takes {d : Dev} {r : Requester} {p : PT} {i off : Nat} (f g : Dev → Dev) (h : d.takes r p i off = true) :
    d.regWriteElse r p i off true f g = f (d.taken r p i) := by
  simpa [Dev.regWriteElse, Dev.regWrite] using regWrite_takes f h

theorem regWriteElse_else {d : Dev} {r : Requester} {p : PT} {i off : Nat} (f g : Dev → Dev) (h : d.takes r p i off = true) :
    d.regWriteElse r p i off false f g = g (d.noteWake r p) := by
  simp only [Dev.takes, Bool.and_eq_true, Bool.or_eq_true, Bool.not_eq_true', Bool.or_eq_false_iff] at h
  obtain ⟨⟨⟨⟨hb, hf⟩, hs⟩, hm⟩, hl⟩ := h
  unfold Dev.regWriteElse
  simp only [noteWake_busUp, noteWake_fatal, noteWake_shows, noteWake_mayWrite, noteWake_locked, hb, hf, hs, hm]
  rcases hl with hl | ⟨h1, h2⟩
  · simp [bne, hl]
  · simp [h1, h2]

/-- A write that OWNER or LOCK stops is discarded, with OWNER_VIOL (R59, R60). -/
theorem regWrite_stops {d : Dev} {r : Requester} {p : PT} {i off : Nat} (f : Dev → Dev) (h : d.stops r p i off = true) :
    d.regWrite r p i off f = (d.noteWake r p).ownerViol r p i off := by
  simp only [Dev.stops, Bool.and_eq_true, Bool.or_eq_true, Bool.not_eq_true'] at h
  obtain ⟨⟨⟨hb, hf⟩, hs⟩, hm⟩ := h
  unfold Dev.regWrite
  simp only [noteWake_busUp, noteWake_fatal, noteWake_shows, noteWake_mayWrite, noteWake_locked, hb, hf, hs]
  rcases hm with hm | ⟨h1, h2⟩
  · simp [hm]
  · simp only [Bool.not_true, Bool.false_or]
    by_cases h3 : d.mayWrite r p i = true
    · simp_all
    · simp [h3]

/-- A write while the bus is down, during a C4 halt or in a view that does not show the page changes nothing but the wake source (R44,
R556). -/
theorem regWrite_lost {d : Dev} {r : Requester} {p : PT} {i off : Nat} (f : Dev → Dev)
    (h : (!d.busUp || d.life.fatal || !d.shows r p i) = true) : d.regWrite r p i off f = d.noteWake r p := by
  unfold Dev.regWrite
  simp only [noteWake_busUp, noteWake_fatal, noteWake_shows, h, if_true]

/-! ### What a taken write leaves in place before its own effect -/

theorem taken_eq (d : Dev) (r : Requester) (p : PT) (i : Nat) :
    d.taken r p i = { d with life := { d.life with wakeReq := (d.taken r p i).life.wakeReq }, regs := (d.taken r p i).regs } := by
  unfold Dev.taken; rw [noteWake_eq]; rfl

theorem taken_shutDone (d : Dev) (r : Requester) (p : PT) (i : Nat) : (d.taken r p i).life.shutDone = d.life.shutDone := by rw [taken_eq]
theorem taken_mode (d : Dev) (r : Requester) (p : PT) (i : Nat) : (d.taken r p i).life.mode = d.life.mode := by rw [taken_eq]
theorem taken_booted (d : Dev) (r : Requester) (p : PT) (i : Nat) : (d.taken r p i).life.booted = d.life.booted := by rw [taken_eq]
theorem taken_glaze (d : Dev) (r : Requester) (p : PT) (i : Nat) : (d.taken r p i).life.glaze = d.life.glaze := by rw [taken_eq]
theorem taken_mordant (d : Dev) (r : Requester) (p : PT) (i : Nat) : (d.taken r p i).life.mordant = d.life.mordant := by rw [taken_eq]
theorem taken_fatal (d : Dev) (r : Requester) (p : PT) (i : Nat) : (d.taken r p i).life.fatal = d.life.fatal := by rw [taken_eq]
theorem taken_replayed (d : Dev) (r : Requester) (p : PT) (i : Nat) : (d.taken r p i).life.replayed = d.life.replayed := by rw [taken_eq]
theorem taken_usUp (d : Dev) (r : Requester) (p : PT) (i : Nat) : (d.taken r p i).life.usUp = d.life.usUp := by rw [taken_eq]
theorem taken_bootUs (d : Dev) (r : Requester) (p : PT) (i : Nat) : (d.taken r p i).life.bootUs = d.life.bootUs := by rw [taken_eq]
theorem taken_cache (d : Dev) (r : Requester) (p : PT) (i : Nat) : (d.taken r p i).cache = d.cache := by rw [taken_eq]
theorem taken_fab (d : Dev) (r : Requester) (p : PT) (i : Nat) : (d.taken r p i).fab = d.fab := by rw [taken_eq]
theorem taken_flights (d : Dev) (r : Requester) (p : PT) (i : Nat) : (d.taken r p i).flights = d.flights := by rw [taken_eq]
theorem taken_ftl (d : Dev) (r : Requester) (p : PT) (i : Nat) : (d.taken r p i).ftl = d.ftl := by rw [taken_eq]
theorem taken_recd (d : Dev) (r : Requester) (p : PT) (i : Nat) : (d.taken r p i).recd = d.recd := by rw [taken_eq]
theorem taken_plp (d : Dev) (r : Requester) (p : PT) (i : Nat) : (d.taken r p i).plp = d.plp := by rw [taken_eq]
theorem taken_dbg (d : Dev) (r : Requester) (p : PT) (i : Nat) : (d.taken r p i).dbg = d.dbg := by rw [taken_eq]
theorem taken_pages (d : Dev) (r : Requester) (p : PT) (i : Nat) : (d.taken r p i).pages = d.pages := by rw [taken_eq]
theorem taken_mem (d : Dev) (r : Requester) (p : PT) (i : Nat) : (d.taken r p i).mem = d.mem := by rw [taken_eq]
theorem taken_ep (d : Dev) (r : Requester) (p : PT) (i : Nat) : (d.taken r p i).ep = d.ep := by rw [taken_eq]
theorem taken_stores (d : Dev) (r : Requester) (p : PT) (i : Nat) : (d.taken r p i).stores = d.stores := by rw [taken_eq]
theorem taken_keys (d : Dev) (r : Requester) (p : PT) (i : Nat) : (d.taken r p i).keys = d.keys := by rw [taken_eq]
theorem taken_sbd (d : Dev) (r : Requester) (p : PT) (i : Nat) : (d.taken r p i).sbd = d.sbd := by rw [taken_eq]
theorem taken_bfl (d : Dev) (r : Requester) (p : PT) (i : Nat) : (d.taken r p i).bfl = d.bfl := by rw [taken_eq]
theorem taken_upd (d : Dev) (r : Requester) (p : PT) (i : Nat) : (d.taken r p i).upd = d.upd := by rw [taken_eq]
theorem taken_dig (d : Dev) (r : Requester) (p : PT) (i : Nat) : (d.taken r p i).dig = d.dig := by rw [taken_eq]
theorem taken_cip (d : Dev) (r : Requester) (p : PT) (i : Nat) : (d.taken r p i).cip = d.cip := by rw [taken_eq]
theorem taken_loops (d : Dev) (r : Requester) (p : PT) (i : Nat) : (d.taken r p i).loops = d.loops := by rw [taken_eq]
theorem taken_traces (d : Dev) (r : Requester) (p : PT) (i : Nat) : (d.taken r p i).traces = d.traces := by rw [taken_eq]
theorem taken_fns (d : Dev) (r : Requester) (p : PT) (i : Nat) : (d.taken r p i).fns = d.fns := by rw [taken_eq]
theorem taken_vfs (d : Dev) (r : Requester) (p : PT) (i : Nat) : (d.taken r p i).vfs = d.vfs := by rw [taken_eq]
theorem taken_chans (d : Dev) (r : Requester) (p : PT) (i : Nat) : (d.taken r p i).chans = d.chans := by rw [taken_eq]
theorem taken_dies (d : Dev) (r : Requester) (p : PT) (i : Nat) : (d.taken r p i).dies = d.dies := by rw [taken_eq]
theorem taken_jnl (d : Dev) (r : Requester) (p : PT) (i : Nat) : (d.taken r p i).jnl = d.jnl := by rw [taken_eq]
theorem taken_doms (d : Dev) (r : Requester) (p : PT) (i : Nat) : (d.taken r p i).doms = d.doms := by rw [taken_eq]
theorem taken_flash (d : Dev) (r : Requester) (p : PT) (i : Nat) : (d.taken r p i).flash = d.flash := by rw [taken_eq]
theorem taken_grants (d : Dev) (r : Requester) (p : PT) (i : Nat) : (d.taken r p i).grants = d.grants := by rw [taken_eq]
theorem taken_ovr (d : Dev) (r : Requester) (p : PT) (i : Nat) : (d.taken r p i).ovr = d.ovr := by rw [taken_eq]
theorem taken_wdog (d : Dev) (r : Requester) (p : PT) (i : Nat) : (d.taken r p i).wdog = d.wdog := by rw [taken_eq]
theorem taken_bak (d : Dev) (r : Requester) (p : PT) (i : Nat) : (d.taken r p i).bak = d.bak := by rw [taken_eq]
theorem taken_gates (d : Dev) (r : Requester) (p : PT) (i : Nat) : (d.taken r p i).gates = d.gates := by rw [taken_eq]
theorem taken_tints (d : Dev) (r : Requester) (p : PT) (i : Nat) : (d.taken r p i).tints = d.tints := by rw [taken_eq]
theorem taken_rng (d : Dev) (r : Requester) (p : PT) (i : Nat) : (d.taken r p i).rng = d.rng := by rw [taken_eq]
theorem taken_media (d : Dev) (r : Requester) (p : PT) (i : Nat) : (d.taken r p i).media = d.media := by rw [taken_eq]

/-- A message that is heard and breaks no rule of reception is handled. -/
theorem rx_heard {d : Dev} {ty : Nat} {h : MsgHdr} (f : Dev → Dev) (hh : d.hears ty h = true) (hb : d.rxBad ty h = false) :
    d.rx ty h f = f (d.heard ty h) := by
  simp only [Dev.hears, Bool.and_eq_true, bne_iff_ne, decide_eq_true_eq, Bool.not_eq_true'] at hh
  obtain ⟨⟨⟨⟨h1, h2⟩, h3⟩, h4⟩, h5⟩ := hh
  have h2' : ¬ 6 ≤ h.link := by omega
  unfold Dev.rx Dev.heard
  simp only [h1, h2', h3, h4, h5, hb, Bool.not_true, Bool.false_eq_true, or_self, if_false]

/-- A message that breaks a rule of reception is dropped and counted. -/
theorem rx_bad {d : Dev} {ty : Nat} {h : MsgHdr} (f : Dev → Dev) (hh : d.hears ty h = true) (hb : d.rxBad ty h = true) :
    d.rx ty h f = d.incSat .FL h.link Reg.FL_CRC_ERR 1 := by
  simp only [Dev.hears, Bool.and_eq_true, bne_iff_ne, decide_eq_true_eq, Bool.not_eq_true'] at hh
  obtain ⟨⟨⟨⟨h1, h2⟩, h3⟩, h4⟩, h5⟩ := hh
  have h2' : ¬ 6 ≤ h.link := by omega
  unfold Dev.rx
  simp only [h1, h2', h3, h4, h5, hb, Bool.not_true, Bool.false_eq_true, or_self, if_false, if_true]

/-- A message that is not heard has no effect. -/
theorem rx_deaf {d : Dev} {ty : Nat} {h : MsgHdr} (f : Dev → Dev) (hh : d.hears ty h = false) : d.rx ty h f = d := by
  unfold Dev.rx
  rw [if_pos]
  simp only [Dev.hears] at hh
  by_cases h1 : d.fabState = 0
  · simp [h1]
  · by_cases h2 : h.link < 6
    · have h2' : ¬ 6 ≤ h.link := by omega
      cases h3 : liveMode d.life.mode <;> cases h4 : d.life.fatal <;> simp_all
    · simp [Nat.le_of_not_lt h2]

/-- Where every command runs: its own effect, then what follows every command. -/
theorem run_eq (f : Dev → Dev) (q : List Instr) (d : Dev) : run f ⟨q, d⟩ = .next ⟨q, Dev.published d (afterAll (f d))⟩ := rfl

theorem runCmd_eq (f : Dev → Dev) (q : List Instr) (d : Dev) : runCmd f ⟨q, d⟩ = .next ⟨q, Dev.published d (afterFlights (f d))⟩ := rfl

theorem runFab_eq (f : Dev → Dev) (q : List Instr) (d : Dev) : runFab f ⟨q, d⟩ = .next ⟨q, Dev.published d (afterFabric (f d))⟩ := rfl

end Sys2Proof.Machine
end

