-- ==== Sys2Proof/Laws/Commands.lean ====
section
/-! SUPPORT. How a command of a queue is taken up and checked (R112, R128). -/
namespace Sys2Proof.Machine
open Sys2Proof

theorem take_fresh {d : Dev} {q tag op : Nat} {fore : Bool} {f : Flight} (go : Dev → Flight → Dev) (h : d.fresh q tag op fore f) :
    d.take q tag op fore go = go d f := by
  obtain ⟨h1, h2, h3, h4⟩ := h
  simp only [Dev.take, h1, h2, h3, h4, and_self, if_true]

/-- A command taken up stands at its queue and tag, of its opcode. -/
theorem fresh_flight {d : Dev} {q tag op : Nat} {fore : Bool} {f : Flight} (h : d.fresh q tag op fore f) : d.flight q tag = some f := h.1
theorem fresh_op {d : Dev} {q tag op : Nat} {fore : Bool} {f : Flight} (h : d.fresh q tag op fore f) : f.cmd.opcode = op := h.2.2.1

theorem onChecked_passes {d : Dev} {f : Flight} {g : Nat → Store → OpChecks} {k : Nat} {v : Store} (go : Dev → Nat → Store → Dev)
    (h : d.passes f g k v) : d.onChecked f g go = go d k v := by
  obtain ⟨h1, h2, h3⟩ := h
  simp only [Dev.onChecked, h1, h2, Option.bind_some, h3, Option.map_some]

theorem onChecked_fails {d : Dev} {f : Flight} {g : Nat → Store → OpChecks} {x : Deny} (go : Dev → Nat → Store → Dev)
    (h : d.denyRecord f g = some x) : d.onChecked f g go = d.refuse f x := by
  simp only [Dev.onChecked, h]

/-- A job whose last row passes does its work on the device that the rows leave. -/
theorem job_end {d x : Dev} {g what : Nat} {forced : Bool} {costs : List Nat} (go : Dev → Dev)
    (h : d.jobEnd g what forced costs = some x) : d.job g what forced costs go = go x := by
  unfold Dev.jobEnd at h
  unfold Dev.job
  dsimp only at h ⊢
  split at h
  · cases h
  · rename_i e
    rw [if_neg e]
    split at h
    · rename_i l
      cases h
      rw [if_pos l]
    · cases h

/-- A job whose rows do not all pass leaves everything but the gate it meets and its own progress. -/
theorem job_waits {d : Dev} {g what : Nat} {forced : Bool} {costs : List Nat} (go : Dev → Dev)
    (h : d.jobEnd g what forced costs = none) : d.job g what forced costs go = d ∨
      ∃ n m x, Dev.passRows g forced (costs.drop n) n d = (m, x) ∧ d.job g what forced costs go =
        { x with jobRows := mput x.jobRows (g * 2 ^ 32 + what) m } := by
  unfold Dev.jobEnd at h
  unfold Dev.job
  dsimp only at h ⊢
  split at h
  · rename_i e
    exact .inl (if_pos e)
  · rename_i e
    rw [if_neg e]
    split at h
    · cases h
    · rename_i l
      exact .inr ⟨_, _, _, rfl, if_neg l⟩

end Sys2Proof.Machine
end

