-- ==== Sys2Proof/Laws/Dispatch.lean ====
section
/-! SUPPORT. One equation per command: `exec` runs that command's meaning. -/
namespace Sys2Proof.Machine
open Sys2Proof

theorem exec_mainRailsRising (s : State) : exec (.mainRailsRising) s = execMainRailsRising s := rfl
theorem exec_bootEntry (headSel : Bool) (testN : Bool) (s : State) : exec (.bootEntry headSel testN) s = execBootEntry headSel testN s := rfl
theorem exec_mordantVerified (resA : Nat) (resB : Nat) (s : State) : exec (.mordantVerified resA resB) s = execMordantVerified resA resB s := rfl
theorem exec_glazeRelease (resA : Nat) (resB : Nat) (s : State) : exec (.glazeRelease resA resB) s = execGlazeRelease resA resB s := rfl
theorem exec_replayComplete (scanLost : List Nat) (s : State) : exec (.replayComplete scanLost) s = execReplayComplete scanLost s := rfl
theorem exec_pfailFall (s : State) : exec (.pfailFall) s = execPfailFall s := rfl
theorem exec_pgoodFall (input : Pgood) (s : State) : exec (.pgoodFall input) s = execPgoodFall input s := rfl
theorem exec_rstNAssert (s : State) : exec (.rstNAssert) s = execRstNAssert s := rfl
theorem exec_perstNAssert (s : State) : exec (.perstNAssert) s = execPerstNAssert s := rfl
theorem exec_perstNRise (s : State) : exec (.perstNRise) s = execPerstNRise s := rfl
theorem exec_railMonitorTrip (rail : Rail) (s : State) : exec (.railMonitorTrip rail) s = execRailMonitorTrip rail s := rfl
theorem exec_vbatRise (s : State) : exec (.vbatRise) s = execVbatRise s := rfl
theorem exec_oscStop (s : State) : exec (.oscStop) s = execOscStop s := rfl
theorem exec_pllUnlock (s : State) : exec (.pllUnlock) s = execPllUnlock s := rfl
theorem exec_refLost (s : State) : exec (.refLost) s = execRefLost s := rfl
theorem exec_pllRelocked (s : State) : exec (.pllRelocked) s = execPllRelocked s := rfl
theorem exec_flush (s : State) : exec (.flush) s = execFlush s := rfl
theorem exec_flushDieQuiet (rank : Nat) (s : State) : exec (.flushDieQuiet rank) s = execFlushDieQuiet rank s := rfl
theorem exec_flushProgramDone (rank : Nat) (s : State) : exec (.flushProgramDone rank) s = execFlushProgramDone rank s := rfl
theorem exec_flushComplete (s : State) : exec (.flushComplete) s = execFlushComplete s := rfl
theorem exec_shutdown (req : Requester) (s : State) : exec (.shutdown req) s = execShutdown req s := rfl
theorem exec_shutdownComplete (s : State) : exec (.shutdownComplete) s = execShutdownComplete s := rfl
theorem exec_maintReq (req : Requester) (s : State) : exec (.maintReq req) s = execMaintReq req s := rfl
theorem exec_maintEntry (s : State) : exec (.maintEntry) s = execMaintEntry s := rfl
theorem exec_restart (req : Requester) (s : State) : exec (.restart req) s = execRestart req s := rfl
theorem exec_idleTimerExpiry (s : State) : exec (.idleTimerExpiry) s = execIdleTimerExpiry s := rfl
theorem exec_quiesceAck (s : State) : exec (.quiesceAck) s = execQuiesceAck s := rfl
theorem exec_quiesceLate (s : State) : exec (.quiesceLate) s = execQuiesceLate s := rfl
theorem exec_wake (cause : WakeCause) (s : State) : exec (.wake cause) s = execWake cause s := rfl
theorem exec_workTimerExpiry (s : State) : exec (.workTimerExpiry) s = execWorkTimerExpiry s := rfl
theorem exec_patrolTimerExpiry (s : State) : exec (.patrolTimerExpiry) s = execPatrolTimerExpiry s := rfl
theorem exec_patrolEntryComplete (s : State) : exec (.patrolEntryComplete) s = execPatrolEntryComplete s := rfl
theorem exec_patrolWake (results : List (Option Nat)) (s : State) : exec (.patrolWake results) s = execPatrolWake results s := rfl
theorem exec_domainStageTimeout (dom : Nat) (s : State) : exec (.domainStageTimeout dom) s = execDomainStageTimeout dom s := rfl
theorem exec_domainStageReady (dom : Nat) (s : State) : exec (.domainStageReady dom) s = execDomainStageReady dom s := rfl
theorem exec_enSet (req : Requester) (ty : Nat) (inst : Nat) (s : State) : exec (.enSet req ty inst) s = execEnSet req ty inst s := rfl
theorem exec_enClear (req : Requester) (ty : Nat) (inst : Nat) (s : State) : exec (.enClear req ty inst) s = execEnClear req ty inst s := rfl
theorem exec_drain (req : Requester) (ty : Nat) (inst : Nat) (s : State) : exec (.drain req ty inst) s = execDrain req ty inst s := rfl
theorem exec_srst (req : Requester) (ty : Nat) (inst : Nat) (s : State) : exec (.srst req ty inst) s = execSrst req ty inst s := rfl
theorem exec_lock (req : Requester) (ty : Nat) (inst : Nat) (s : State) : exec (.lock req ty inst) s = execLock req ty inst s := rfl
theorem exec_startupComplete (ty : Nat) (inst : Nat) (s : State) : exec (.startupComplete ty inst) s = execStartupComplete ty inst s := rfl
theorem exec_drainComplete (ty : Nat) (inst : Nat) (s : State) : exec (.drainComplete ty inst) s = execDrainComplete ty inst s := rfl
theorem exec_ownerWrite (req : Requester) (ty : Nat) (inst : Nat) (value : W32) (s : State) : exec (.ownerWrite req ty inst value) s = execOwnerWrite req ty inst value s := rfl
theorem exec_injArm (req : Requester) (ty : Nat) (inst : Nat) (value : W32) (s : State) : exec (.injArm req ty inst value) s = execInjArm req ty inst value s := rfl
theorem exec_injDone (ty : Nat) (word : PageWord) (s : State) : exec (.injDone ty word) s = execInjDone ty word s := rfl
theorem exec_registerWrite (req : Requester) (place : SpaceAddr) (size : Nat) (value : W64) (s : State) : exec (.registerWrite req place size value) s = execRegisterWrite req place size value s := rfl
theorem exec_memberSelWrite (req : Requester) (ty : Nat) (value : W32) (s : State) : exec (.memberSelWrite req ty value) s = execMemberSelWrite req ty value s := rfl
theorem exec_bar2Access (write : Bool) (addr : Nat) (size : Nat) (value : W64) (s : State) : exec (.bar2Access write addr size value) s = execBar2Access write addr size value s := rfl
theorem exec_proxyTimeout (s : State) : exec (.proxyTimeout) s = execProxyTimeout s := rfl
theorem exec_flr (fn : Fn) (s : State) : exec (.flr fn) s = execFlr fn s := rfl
theorem exec_flrComplete (fn : Fn) (s : State) : exec (.flrComplete fn) s = execFlrComplete fn s := rfl
theorem exec_hotReset (down : Bool) (s : State) : exec (.hotReset down) s = execHotReset down s := rfl
theorem exec_bmeClear (fn : Fn) (s : State) : exec (.bmeClear fn) s = execBmeClear fn s := rfl
theorem exec_bmeSet (fn : Fn) (s : State) : exec (.bmeSet fn) s = execBmeSet fn s := rfl
theorem exec_mseClear (fn : Fn) (s : State) : exec (.mseClear fn) s = execMseClear fn s := rfl
theorem exec_d3hotEntry (fn : Fn) (s : State) : exec (.d3hotEntry fn) s = execD3hotEntry fn s := rfl
theorem exec_d0Return (fn : Fn) (s : State) : exec (.d0Return fn) s = execD0Return fn s := rfl
theorem exec_aspmL1Entry (port : Option Nat) (sub : Nat) (s : State) : exec (.aspmL1Entry port sub) s = execAspmL1Entry port sub s := rfl
theorem exec_l0pChange (port : Option Nat) (ask : L0pAsk) (s : State) : exec (.l0pChange port ask) s = execL0pChange port ask s := rfl
theorem exec_linkRetrain (req : Requester) (s : State) : exec (.linkRetrain req) s = execLinkRetrain req s := rfl
theorem exec_linkTrained (port : Option Nat) (speed : Nat) (width : Nat) (link : FlitLink) (s : State) : exec (.linkTrained port speed width link) s = execLinkTrained port speed width link s := rfl
theorem exec_vfEnableClear (s : State) : exec (.vfEnableClear) s = execVfEnableClear s := rfl
theorem exec_vfEnableSet (numVfs : Nat) (s : State) : exec (.vfEnableSet numVfs) s = execVfEnableSet numVfs s := rfl
theorem exec_vfBindWrite (req : Requester) (vf : Nat) (value : W32) (s : State) : exec (.vfBindWrite req vf value) s = execVfBindWrite req vf value s := rfl
theorem exec_dmaReadError (q : Nat) (tag : Nat) (err : DmaError) (s : State) : exec (.dmaReadError q tag err) s = execDmaReadError q tag err s := rfl
theorem exec_malformedCompletion (q : Nat) (tag : Nat) (s : State) : exec (.malformedCompletion q tag) s = execMalformedCompletion q tag s := rfl
theorem exec_msixUnmask (fn : Fn) (vector : Option Nat) (s : State) : exec (.msixUnmask fn vector) s = execMsixUnmask fn vector s := rfl
theorem exec_forerunnerDoorbell (bits : W32) (s : State) : exec (.forerunnerDoorbell bits) s = execForerunnerDoorbell bits s := rfl
theorem exec_forerunnerRead (tag : Nat) (s : State) : exec (.forerunnerRead tag) s = execForerunnerRead tag s := rfl
theorem exec_forerunnerWrite (tag : Nat) (s : State) : exec (.forerunnerWrite tag) s = execForerunnerWrite tag s := rfl
theorem exec_forerunnerFlush (tag : Nat) (s : State) : exec (.forerunnerFlush tag) s = execForerunnerFlush tag s := rfl
theorem exec_forerunnerDeallocate (tag : Nat) (s : State) : exec (.forerunnerDeallocate tag) s = execForerunnerDeallocate tag s := rfl
theorem exec_forerunnerIdentify (tag : Nat) (s : State) : exec (.forerunnerIdentify tag) s = execForerunnerIdentify tag s := rfl
theorem exec_forerunnerShutdown (s : State) : exec (.forerunnerShutdown) s = execForerunnerShutdown s := rfl
theorem exec_doorbell (req : Requester) (q : Nat) (bits : W32) (s : State) : exec (.doorbell req q bits) s = execDoorbell req q bits s := rfl
theorem exec_slotWrite (req : Requester) (q : Nat) (offset : Nat) (data : List Byte) (s : State) : exec (.slotWrite req q offset data) s = execSlotWrite req q offset data s := rfl
theorem exec_admitNext (qe : Nat) (s : State) : exec (.admitNext qe) s = execAdmit qe s := rfl
theorem exec_descriptorFetch (q : Nat) (tag : Nat) (list : List Desc) (s : State) : exec (.descriptorFetch q tag list) s = execDescriptorFetch q tag list s := rfl
theorem exec_gateAdmit (gate : Nat) (s : State) : exec (.gateAdmit gate) s = execGateAdmit gate s := rfl
theorem exec_ceilingRecompute (s : State) : exec (.ceilingRecompute) s = execCeilingRecompute s := rfl
theorem exec_dataArrived (q : Nat) (tag : Nat) (sectors : List SectorIn) (s : State) : exec (.dataArrived q tag sectors) s = execDataArrived q tag sectors s := rfl
theorem exec_installWaitLines (q : Nat) (tag : Nat) (s : State) : exec (.installWaitLines q tag) s = execInstallWaitLines q tag s := rfl
theorem exec_readDataWritten (q : Nat) (tag : Nat) (s : State) : exec (.readDataWritten q tag) s = execReadDataWritten q tag s := rfl
theorem exec_nop (q : Nat) (tag : Nat) (s : State) : exec (.nop q tag) s = execNop q tag s := rfl
theorem exec_read (q : Nat) (tag : Nat) (s : State) : exec (.read q tag) s = execRead q tag s := rfl
theorem exec_write (q : Nat) (tag : Nat) (s : State) : exec (.write q tag) s = execWrite q tag s := rfl
theorem exec_flushCmd (q : Nat) (tag : Nat) (s : State) : exec (.flushCmd q tag) s = execFlushCmd q tag s := rfl
theorem exec_deallocate (q : Nat) (tag : Nat) (s : State) : exec (.deallocate q tag) s = execDeallocate q tag s := rfl
theorem exec_writeZeroes (q : Nat) (tag : Nat) (s : State) : exec (.writeZeroes q tag) s = execWriteZeroes q tag s := rfl
theorem exec_verify (q : Nat) (tag : Nat) (s : State) : exec (.verify q tag) s = execVerify q tag s := rfl
theorem exec_append (q : Nat) (tag : Nat) (s : State) : exec (.append q tag) s = execAppend q tag s := rfl
theorem exec_streamRead (q : Nat) (tag : Nat) (s : State) : exec (.streamRead q tag) s = execStreamRead q tag s := rfl
theorem exec_seal (q : Nat) (tag : Nat) (dst : Nat) (lost : List Nat) (s : State) : exec (.seal q tag dst lost) s = execSeal q tag dst lost s := rfl
theorem exec_streamInfo (q : Nat) (tag : Nat) (s : State) : exec (.streamInfo q tag) s = execStreamInfo q tag s := rfl
theorem exec_put (q : Nat) (tag : Nat) (name : List Byte) (s : State) : exec (.put q tag name) s = execPut q tag name s := rfl
theorem exec_get (q : Nat) (tag : Nat) (name : List Byte) (s : State) : exec (.get q tag name) s = execGet q tag name s := rfl
theorem exec_delete (q : Nat) (tag : Nat) (name : List Byte) (s : State) : exec (.delete q tag name) s = execDelete q tag name s := rfl
theorem exec_stat (q : Nat) (tag : Nat) (name : List Byte) (s : State) : exec (.stat q tag name) s = execStat q tag name s := rfl
theorem exec_snapCreate (q : Nat) (tag : Nat) (s : State) : exec (.snapCreate q tag) s = execSnapCreate q tag s := rfl
theorem exec_snapDelete (q : Nat) (tag : Nat) (s : State) : exec (.snapDelete q tag) s = execSnapDelete q tag s := rfl
theorem exec_snapRead (q : Nat) (tag : Nat) (s : State) : exec (.snapRead q tag) s = execSnapRead q tag s := rfl
theorem exec_attest (q : Nat) (tag : Nat) (expected : List Byte) (s : State) : exec (.attest q tag expected) s = execAttest q tag expected s := rfl
theorem exec_relocate (q : Nat) (tag : Nat) (dst : Nat) (lost : List Nat) (s : State) : exec (.relocate q tag dst lost) s = execRelocate q tag dst lost s := rfl
theorem exec_abort (q : Nat) (tag : Nat) (s : State) : exec (.abort q tag) s = execAbort q tag s := rfl
theorem exec_identify (q : Nat) (tag : Nat) (s : State) : exec (.identify q tag) s = execIdentify q tag s := rfl
theorem exec_updateBlock (q : Nat) (tag : Nat) (data : List Byte) (sigOk : Bool) (flashOk : Bool) (s : State) : exec (.updateBlock q tag data sigOk flashOk) s = execUpdateBlock q tag data sigOk flashOk s := rfl
theorem exec_rawRead (q : Nat) (tag : Nat) (outs : List Decoded) (soft : Bool) (given : List Byte) (status : Nat) (s : State) : exec (.rawRead q tag outs soft given status) s = execRawRead q tag outs soft given status s := rfl
theorem exec_rawProgram (q : Nat) (tag : Nat) (data : List Byte) (status : Nat) (s : State) : exec (.rawProgram q tag data status) s = execRawProgram q tag data status s := rfl
theorem exec_rawErase (q : Nat) (tag : Nat) (status : Nat) (s : State) : exec (.rawErase q tag status) s = execRawErase q tag status s := rfl
theorem exec_destage (b : Nat) (start : Nat) (count : Nat) (dst : Nat) (bad : Option Nat) (s : State) : exec (.destage b start count dst bad) s = execDestage b start count dst bad s := rfl
theorem exec_logUnitHoldExpiry (l : Nat) (bad : Option Nat) (s : State) : exec (.logUnitHoldExpiry l bad) s = execLogUnitHoldExpiry l bad s := rfl
theorem exec_merge (l : Nat) (dst : Nat) (lost : List Nat) (s : State) : exec (.merge l dst lost) s = execMerge l dst lost s := rfl
theorem exec_fold (dst : Nat) (lost : List Nat) (s : State) : exec (.fold dst lost) s = execFold dst lost s := rfl
theorem exec_pslcTargetRecompute (s : State) : exec (.pslcTargetRecompute) s = execPslcTargetRecompute s := rfl
theorem exec_gcCollect (dsts : List Nat) (lost : List Nat) (s : State) : exec (.gcCollect dsts lost) s = execGcCollect dsts lost s := rfl
theorem exec_sbAllocate (pslc : Bool) (purpose : Nat) (forHost : Bool) (s : State) : exec (.sbAllocate pslc purpose forHost) s = execSbAllocate pslc purpose forHost s := rfl
theorem exec_eraseDone (n : Nat) (out : EraseEnd) (s : State) : exec (.eraseDone n out) s = execEraseDone n out s := rfl
theorem exec_patrolVisit (outs : List (Nat × Nat × Decoded)) (dsts : List Nat) (lost : List Nat) (s : State) : exec (.patrolVisit outs dsts lost) s = execPatrolVisit outs dsts lost s := rfl
theorem exec_checkpointPass (s : State) : exec (.checkpointPass) s = execCheckpointPass s := rfl
theorem exec_ckptDone (s : State) : exec (.ckptDone) s = execCkptDone s := rfl
theorem exec_format (req : Requester) (arg : Nat) (marks : List (Nat × List Nat)) (s : State) : exec (.format req arg marks) s = execFormat req arg marks s := rfl
theorem exec_channelDiscovery (ch : Nat) (found : PkgFound) (s : State) : exec (.channelDiscovery ch found) s = execChannelDiscovery ch found s := rfl
theorem exec_channelTraining (ch : Nat) (s : State) : exec (.channelTraining ch) s = execChannelTraining ch s := rfl
theorem exec_trainingDone (ch : Nat) (t : Trained) (s : State) : exec (.trainingDone ch t) s = execTrainingDone ch t s := rfl
theorem exec_retrain (ch : Nat) (eye : Option Nat) (t : Trained) (s : State) : exec (.retrain ch eye t) s = execRetrain ch eye t s := rfl
theorem exec_listSubmit (ch : Nat) (lane : Nat) (lid : Nat) (entries : List Entry) (s : State) : exec (.listSubmit ch lane lid entries) s = execListSubmit ch lane lid entries s := rfl
theorem exec_entryIssue (n : Nat) (s : State) : exec (.entryIssue n) s = execEntryIssue n s := rfl
theorem exec_entryComplete (n : Nat) (status : Nat) (value : Nat) (s : State) : exec (.entryComplete n status value) s = execEntryComplete n status value s := rfl
theorem exec_entryTimeout (n : Nat) (s : State) : exec (.entryTimeout n) s = execEntryTimeout n s := rfl
theorem exec_dieResetDone (n : Nat) (ident : List Byte) (s : State) : exec (.dieResetDone n ident) s = execDieResetDone n ident s := rfl
theorem exec_dieResetTimeout (n : Nat) (s : State) : exec (.dieResetTimeout n) s = execDieResetTimeout n s := rfl
theorem exec_suspend (n : Nat) (s : State) : exec (.suspend n) s = execSuspend n s := rfl
theorem exec_resume (n : Nat) (s : State) : exec (.resume n) s = execResume n s := rfl
theorem exec_hardDecode (q : Nat) (tag : Nat) (idx : Nat) (out : Decoded) (s : State) : exec (.hardDecode q tag idx out) s = execHardDecode q tag idx out s := rfl
theorem exec_softDecode (q : Nat) (tag : Nat) (idx : Nat) (out : Decoded) (s : State) : exec (.softDecode q tag idx out) s = execSoftDecode q tag idx out s := rfl
theorem exec_readRetry (q : Nat) (tag : Nat) (idx : Nat) (out : Decoded) (s : State) : exec (.readRetry q tag idx out) s = execReadRetry q tag idx out s := rfl
theorem exec_degradedRead (q : Nat) (tag : Nat) (idx : Nat) (unav : List Nat) (mismatch : Bool) (s : State) : exec (.degradedRead q tag idx unav mismatch) s = execDegradedRead q tag idx unav mismatch s := rfl
theorem exec_sramCorrected (region : Nat) (word : Nat) (symbol : Nat) (bits : Nat) (port : Nat) (s : State) : exec (.sramCorrected region word symbol bits port) s = execSramCorrected region word symbol bits port s := rfl
theorem exec_sramUncorrectable (region : Nat) (word : Nat) (upset : Nat) (port : Nat) (unit : Nat) (idx : Nat) (again : Bool) (s : State) : exec (.sramUncorrectable region word upset port unit idx again) s = execSramUncorrectable region word upset port unit idx again s := rfl
theorem exec_scrubPass (hits : List ScrubHit) (s : State) : exec (.scrubPass hits) s = execScrubPass hits s := rfl
theorem exec_mergeBufferTimeout (word : Nat) (upset : Nat) (s : State) : exec (.mergeBufferTimeout word upset) s = execMergeBufferTimeout word upset s := rfl
theorem exec_regionCodeWrite (req : Requester) (region : Nat) (code : Nat) (s : State) : exec (.regionCodeWrite req region code) s = execRegionCodeWrite req region code s := rfl
theorem exec_logRowParity (l : Nat) (row : Nat) (res : Parity) (s : State) : exec (.logRowParity l row res) s = execLogRowParity l row res s := rfl
theorem exec_rowCloseTimeout (l : Nat) (res : Parity) (s : State) : exec (.rowCloseTimeout l res) s = execRowCloseTimeout l res s := rfl
theorem exec_journalPageWrite (a : Nat) (b : Nat) (s : State) : exec (.journalPageWrite a b) s = execJournalPageWrite a b s := rfl
theorem exec_journalCopyRestore (n : Nat) (s : State) : exec (.journalCopyRestore n) s = execJournalCopyRestore n s := rfl
theorem exec_rebuildRelocate (dst : Nat) (lost : List Nat) (s : State) : exec (.rebuildRelocate dst lost) s = execRebuildRelocate dst lost s := rfl
theorem exec_reshapeStart (req : Requester) (value : W32) (s : State) : exec (.reshapeStart req value) s = execReshapeStart req value s := rfl
theorem exec_reshapeStep (s : State) : exec (.reshapeStep) s = execReshapeStep s := rfl
theorem exec_reshapePause (s : State) : exec (.reshapePause) s = execReshapePause s := rfl
theorem exec_flushDieChoice (s : State) : exec (.flushDieChoice) s = execFlushDieChoice s := rfl
theorem exec_reservedRotation (bad : List Nat) (s : State) : exec (.reservedRotation bad) s = execReservedRotation bad s := rfl
theorem exec_cacheSizeWrite (req : Requester) (value : W32) (s : State) : exec (.cacheSizeWrite req value) s = execCacheSizeWrite req value s := rfl
theorem exec_cacheShrinkDone (s : State) : exec (.cacheShrinkDone) s = execCacheShrinkDone s := rfl
theorem exec_flushRetired (seq : Nat) (s : State) : exec (.flushRetired seq) s = execFlushRetired seq s := rfl
theorem exec_forcePfail (req : Requester) (s : State) : exec (.forcePfail req) s = execForcePfail req s := rfl
theorem exec_forceCut (req : Requester) (s : State) : exec (.forceCut req) s = execForceCut req s := rfl
theorem exec_provCreate (req : Requester) (kind : Nat) (s : State) : exec (.provCreate req kind) s = execProvCreate req kind s := rfl
theorem exec_provDelete (req : Requester) (kind : Nat) (s : State) : exec (.provDelete req kind) s = execProvDelete req kind s := rfl
theorem exec_provLoad (req : Requester) (kind : Nat) (s : State) : exec (.provLoad req kind) s = execProvLoad req kind s := rfl
theorem exec_provModify (req : Requester) (kind : Nat) (s : State) : exec (.provModify req kind) s = execProvModify req kind s := rfl
theorem exec_compaction (ns : Nat) (band : Nat) (lost : List Nat) (s : State) : exec (.compaction ns band lost) s = execCompaction ns band lost s := rfl
theorem exec_grantSet (req : Requester) (tint : Nat) (s : State) : exec (.grantSet req tint) s = execGrantSet req tint s := rfl
theorem exec_grantRemove (req : Requester) (tint : Nat) (s : State) : exec (.grantRemove req tint) s = execGrantRemove req tint s := rfl
theorem exec_grantLookup (req : Requester) (tint : Nat) (s : State) : exec (.grantLookup req tint) s = execGrantLookup req tint s := rfl
theorem exec_keyRefWrite (req : Requester) (tint : Nat) (n : Nat) (value : W32) (s : State) : exec (.keyRefWrite req tint n value) s = execKeyRefWrite req tint n value s := rfl
theorem exec_portReset (port : Nat) (cause : Nat) (s : State) : exec (.portReset port cause) s = execPortReset port cause s := rfl
theorem exec_tpPerstRise (port : Nat) (s : State) : exec (.tpPerstRise port) s = execTpPerstRise port s := rfl
theorem exec_tpBindWrite (req : Requester) (port : Nat) (value : W32) (s : State) : exec (.tpBindWrite req port value) s = execTpBindWrite req port value s := rfl
theorem exec_pushFrame (port : Nat) (queue : Nat) (tag : Nat) (flags : Nat) (rsv : Nat) (len : Nat) (offset : Nat) (bad : Bool) (payload : List Byte) (s : State) : exec (.pushFrame port queue tag flags rsv len offset bad payload) s = execPushFrame port queue tag flags rsv len offset bad payload s := rfl
theorem exec_flDetectTimeout (n : Nat) (s : State) : exec (.flDetectTimeout n) s = execFlDetectTimeout n s := rfl
theorem exec_flProbe (n : Nat) (found : Bool) (s : State) : exec (.flProbe n found) s = execFlProbe n found s := rfl
theorem exec_flTrained (n : Nat) (width : Nat) (s : State) : exec (.flTrained n width) s = execFlTrained n width s := rfl
theorem exec_flTrainTimeout (n : Nat) (s : State) : exec (.flTrainTimeout n) s = execFlTrainTimeout n s := rfl
theorem exec_flLinkDown (n : Nat) (s : State) : exec (.flLinkDown n) s = execFlLinkDown n s := rfl
theorem exec_flTerminationLost (n : Nat) (s : State) : exec (.flTerminationLost n) s = execFlTerminationLost n s := rfl
theorem exec_flRetrain (req : Requester) (n : Nat) (s : State) : exec (.flRetrain req n) s = execFlRetrain req n s := rfl
theorem exec_forceLinkLoss (req : Requester) (n : Nat) (on : Bool) (s : State) : exec (.forceLinkLoss req n on) s = execForceLinkLoss req n on s := rfl
theorem exec_hello (h : MsgHdr) (x : HelloId) (s : State) : exec (.hello h x) s = execHello h x s := rfl
theorem exec_authHello (ask : AuthAsk) (s : State) : exec (.authHello ask) s = execAuthHello ask s := rfl
theorem exec_authChallenge (h : MsgHdr) (s : State) : exec (.authChallenge h) s = execAuthChallenge h s := rfl
theorem exec_authResponse (h : MsgHdr) (serial : Nat) (proto : Nat) (ok : Bool) (s : State) : exec (.authResponse h serial proto ok) s = execAuthResponse h serial proto ok s := rfl
theorem exec_memberUpdate (h : MsgHdr) (entries : List (Nat × Nat)) (s : State) : exec (.memberUpdate h entries) s = execMemberUpdate h entries s := rfl
theorem exec_heartbeat (h : MsgHdr) (time : Nat) (mode : Nat) (s : State) : exec (.heartbeat h time mode) s = execHeartbeat h time mode s := rfl
theorem exec_heartbeatTimer (s : State) : exec (.heartbeatTimer) s = execHeartbeatTimer s := rfl
theorem exec_heartbeatLoss (n : Nat) (s : State) : exec (.heartbeatLoss n) s = execHeartbeatLoss n s := rfl
theorem exec_linkState (h : MsgHdr) (mask : Nat) (s : State) : exec (.linkState h mask) s = execLinkState h mask s := rfl
theorem exec_messageRetryTimeout (seq : Nat) (s : State) : exec (.messageRetryTimeout seq) s = execMessageRetryTimeout seq s := rfl
theorem exec_barrier (req : Requester) (s : State) : exec (.barrier req) s = execBarrier req s := rfl
theorem exec_broadcast (req : Requester) (s : State) : exec (.broadcast req) s = execBroadcast req s := rfl
theorem exec_immediateTimeSync (req : Requester) (s : State) : exec (.immediateTimeSync req) s = execImmediateTimeSync req s := rfl
theorem exec_barrierArrive (h : MsgHdr) (id : Nat) (count : Nat) (s : State) : exec (.barrierArrive h id count) s = execBarrierArrive h id count s := rfl
theorem exec_barrierRelease (h : MsgHdr) (id : Nat) (s : State) : exec (.barrierRelease h id) s = execBarrierRelease h id s := rfl
theorem exec_bcast (h : MsgHdr) (id : Nat) (kind : Nat) (words : List Nat) (s : State) : exec (.bcast h id kind words) s = execBcast h id kind words s := rfl
theorem exec_bcastAck (h : MsgHdr) (id : Nat) (count : Nat) (result : Nat) (s : State) : exec (.bcastAck h id count result) s = execBcastAck h id count result s := rfl
theorem exec_snapPrepare (h : MsgHdr) (vol : Nat) (id : Nat) (reqId : Nat) (tint : Nat) (q : Nat) (tag : Nat) (s : State) : exec (.snapPrepare h vol id reqId tint q tag) s = execSnapPrepare h vol id reqId tint q tag s := rfl
theorem exec_snapHeld (h : MsgHdr) (id : Nat) (count : Nat) (result : Nat) (s : State) : exec (.snapHeld h id count result) s = execSnapHeld h id count result s := rfl
theorem exec_snapCommit (h : MsgHdr) (vol : Nat) (id : Nat) (cal : Nat) (s : State) : exec (.snapCommit h vol id cal) s = execSnapCommit h vol id cal s := rfl
theorem exec_snapDone (h : MsgHdr) (id : Nat) (count : Nat) (result : Nat) (q : Nat) (tag : Nat) (s : State) : exec (.snapDone h id count result q tag) s = execSnapDone h id count result q tag s := rfl
theorem exec_snapAbort (h : MsgHdr) (vol : Nat) (id : Nat) (s : State) : exec (.snapAbort h vol id) s = execSnapAbort h vol id s := rfl
theorem exec_timeSyncTimer (s : State) : exec (.timeSyncTimer) s = execTimeSyncTimer s := rfl
theorem exec_timeSync (h : MsgHdr) (tHead : Nat) (corr : Nat) (seq : Nat) (s : State) : exec (.timeSync h tHead corr seq) s = execTimeSync h tHead corr seq s := rfl
theorem exec_timeEcho (h : MsgHdr) (t1 : Nat) (t2 : Nat) (t3 : Nat) (s : State) : exec (.timeEcho h t1 t2 t3) s = execTimeEcho h t1 t2 t3 s := rfl
theorem exec_fabricReset (req : Requester) (s : State) : exec (.fabricReset req) s = execFabricReset req s := rfl
theorem exec_resetPrepare (h : MsgHdr) (id : Nat) (s : State) : exec (.resetPrepare h id) s = execResetPrepare h id s := rfl
theorem exec_resetReady (h : MsgHdr) (id : Nat) (count : Nat) (s : State) : exec (.resetReady h id count) s = execResetReady h id count s := rfl
theorem exec_resetAt (h : MsgHdr) (id : Nat) (tReset : Nat) (s : State) : exec (.resetAt h id tReset) s = execResetAt h id tReset s := rfl
theorem exec_fabricResetTime (s : State) : exec (.fabricResetTime) s = execFabricResetTime s := rfl
theorem exec_resetReadyTimeout (s : State) : exec (.resetReadyTimeout) s = execResetReadyTimeout s := rfl
theorem exec_stripeWrite (h : MsgHdr) (vol : Nat) (stripe : Nat) (first : Nat) (xid : Nat) (secs : List SectorIn) (s : State) : exec (.stripeWrite h vol stripe first xid secs) s = execStripeWrite h vol stripe first xid secs s := rfl
theorem exec_stripeAck (h : MsgHdr) (xid : Nat) (status : Nat) (detail : Nat) (s : State) : exec (.stripeAck h xid status detail) s = execStripeAck h xid status detail s := rfl
theorem exec_shardWrite (h : MsgHdr) (vol : Nat) (shard : Nat) (stripe : Nat) (first : Nat) (wseq : Nat) (secs : List SectorIn) (s : State) : exec (.shardWrite h vol shard stripe first wseq secs) s = execShardWrite h vol shard stripe first wseq secs s := rfl
theorem exec_shardAck (h : MsgHdr) (vol : Nat) (shard : Nat) (status : Nat) (stripe : Nat) (wseq : Nat) (s : State) : exec (.shardAck h vol shard status stripe wseq) s = execShardAck h vol shard status stripe wseq s := rfl
theorem exec_shardRead (h : MsgHdr) (vol : Nat) (shard : Nat) (stripe : Nat) (first : Nat) (count : Nat) (replyTo : Nat) (xid : Nat) (snap : Nat) (s : State) : exec (.shardRead h vol shard stripe first count replyTo xid snap) s = execShardRead h vol shard stripe first count replyTo xid snap s := rfl
theorem exec_shardData (h : MsgHdr) (xid : Nat) (status : Nat) (secs : List SectorIn) (s : State) : exec (.shardData h xid status secs) s = execShardData h xid status secs s := rfl
theorem exec_jnlMirror (h : MsgHdr) (x : StripeRec) (secs : List SectorIn) (s : State) : exec (.jnlMirror h x secs) s = execJnlMirror h x secs s := rfl
theorem exec_jnlAck (h : MsgHdr) (jseq : Nat) (s : State) : exec (.jnlAck h jseq) s = execJnlAck h jseq s := rfl
theorem exec_proxyRd (h : MsgHdr) (offset : Nat) (size : Nat) (xid : Nat) (s : State) : exec (.proxyRd h offset size xid) s = execProxyRd h offset size xid s := rfl
theorem exec_proxyWr (h : MsgHdr) (offset : Nat) (size : Nat) (data : W64) (s : State) : exec (.proxyWr h offset size data) s = execProxyWr h offset size data s := rfl
theorem exec_proxyRsp (h : MsgHdr) (xid : Nat) (data : W64) (s : State) : exec (.proxyRsp h xid data) s = execProxyRsp h xid data s := rfl
theorem exec_resync (member : Nat) (key : Nat) (parts : List (Nat × Nat × List (Nat × SectorIn))) (s : State) : exec (.resync member key parts) s = execResync member key parts s := rfl
theorem exec_rejoin (req : Requester) (s : State) : exec (.rejoin req) s = execRejoin req s := rfl
theorem exec_evict (req : Requester) (id : Nat) (s : State) : exec (.evict req id) s = execEvict req id s := rfl
theorem exec_fabricReshapeStart (req : Requester) (value : W32) (s : State) : exec (.fabricReshapeStart req value) s = execFabricReshapeStart req value s := rfl
theorem exec_fabricReshapeCopy (quota : Bool) (secs : List (Nat × SectorIn)) (s : State) : exec (.fabricReshapeCopy quota secs) s = execFabricReshapeCopy quota secs s := rfl
theorem exec_fabricReshapePause (space : Bool) (s : State) : exec (.fabricReshapePause space) s = execFabricReshapePause space s := rfl
theorem exec_cipherJobGrant (group : Nat) (job : Option CipherJob) (s : State) : exec (.cipherJobGrant group job) s = execCipherJobGrant group job s := rfl
theorem exec_cipherJobDone (lane : Nat) (s : State) : exec (.cipherJobDone lane) s = execCipherJobDone lane s := rfl
theorem exec_keyLoad (req : Requester) (s : State) : exec (.keyLoad req) s = execKeyLoad req s := rfl
theorem exec_derive (req : Requester) (s : State) : exec (.derive req) s = execDerive req s := rfl
theorem exec_unwrap (req : Requester) (blob : List Byte) (s : State) : exec (.unwrap req blob) s = execUnwrap req blob s := rfl
theorem exec_roll (req : Requester) (s : State) : exec (.roll req) s = execRoll req s := rfl
theorem exec_keyErase (req : Requester) (s : State) : exec (.keyErase req) s = execKeyErase req s := rfl
theorem exec_eraseAll (req : Requester) (s : State) : exec (.eraseAll req) s = execEraseAll req s := rfl
theorem exec_resealDone (slot : Nat) (s : State) : exec (.resealDone slot) s = execResealDone slot s := rfl
theorem exec_drbgReseed (s : State) : exec (.drbgReseed) s = execDrbgReseed s := rfl
theorem exec_healthFail (apt : Bool) (samples : Nat) (s : State) : exec (.healthFail apt samples) s = execHealthFail apt samples s := rfl
theorem exec_forceAlarm (req : Requester) (s : State) : exec (.forceAlarm req) s = execForceAlarm req s := rfl
theorem exec_laneFault (lane : Nat) (s : State) : exec (.laneFault lane) s = execLaneFault lane s := rfl
theorem exec_secOpen (req : Requester) (alg : Nat) (key : Nat) (out : Nat) (compose : Bool) (s : State) : exec (.secOpen req alg key out compose) s = execSecOpen req alg key out compose s := rfl
theorem exec_secUpdate (req : Requester) (bytes : List Byte) (s : State) : exec (.secUpdate req bytes) s = execSecUpdate req bytes s := rfl
theorem exec_secFinal (req : Requester) (expected : List Byte) (s : State) : exec (.secFinal req expected) s = execSecFinal req expected s := rfl
theorem exec_secAbort (req : Requester) (s : State) : exec (.secAbort req) s = execSecAbort req s := rfl
theorem exec_digestContextGrant (s : State) : exec (.digestContextGrant) s = execDigestContextGrant s := rfl
theorem exec_digestBlock (s : State) : exec (.digestBlock) s = execDigestBlock s := rfl
theorem exec_digestCleared (what : DigClear) (s : State) : exec (.digestCleared what) s = execDigestCleared what s := rfl
theorem exec_loopSample (power : Nat) (readLat : List Nat) (edge : Nat) (s : State) : exec (.loopSample power readLat edge) s = execLoopSample power readLat edge s := rfl
theorem exec_loopCommit (req : Requester) (n : Nat) (s : State) : exec (.loopCommit req n) s = execLoopCommit req n s := rfl
theorem exec_delayClr (req : Requester) (n : Nat) (s : State) : exec (.delayClr req n) s = execDelayClr req n s := rfl
theorem exec_loopMemUncorr (n : Nat) (s : State) : exec (.loopMemUncorr n) s = execLoopMemUncorr n s := rfl
theorem exec_traceArm (req : Requester) (b : Nat) (s : State) : exec (.traceArm req b) s = execTraceArm req b s := rfl
theorem exec_traceFire (req : Requester) (b : Nat) (s : State) : exec (.traceFire req b) s = execTraceFire req b s := rfl
theorem exec_traceStop (req : Requester) (b : Nat) (s : State) : exec (.traceStop req b) s = execTraceStop req b s := rfl
theorem exec_flashProgram (req : Requester) (offset : Nat) (words : List W32) (s : State) : exec (.flashProgram req offset words) s = execFlashProgram req offset words s := rfl
theorem exec_flashErase (req : Requester) (addr : Nat) (s : State) : exec (.flashErase req addr) s = execFlashErase req addr s := rfl
theorem exec_programOption (req : Requester) (offset : Nat) (words : List W32) (s : State) : exec (.programOption req offset words) s = execProgramOption req offset words s := rfl
theorem exec_programOtp (req : Requester) (offset : Nat) (words : List W32) (s : State) : exec (.programOtp req offset words) s = execProgramOtp req offset words s := rfl
theorem exec_flashId (req : Requester) (s : State) : exec (.flashId req) s = execFlashId req s := rfl
theorem exec_flashReadMode (req : Requester) (s : State) : exec (.flashReadMode req) s = execFlashReadMode req s := rfl
theorem exec_flashOpDone (s : State) : exec (.flashOpDone) s = execFlashOpDone s := rfl
theorem exec_flashOpTimeout (s : State) : exec (.flashOpTimeout) s = execFlashOpTimeout s := rfl
theorem exec_mailboxRequest (slot : Nat) (act : Nat) (ready : Bool) (s : State) : exec (.mailboxRequest slot act ready) s = execMailboxRequest slot act ready s := rfl
theorem exec_recData (offset : Nat) (data : List Byte) (s : State) : exec (.recData offset data) s = execRecData offset data s := rfl
theorem exec_recRun (result : Nat) (s : State) : exec (.recRun result) s = execRecRun result s := rfl
theorem exec_recStatus (s : State) : exec (.recStatus) s = execRecStatus s := rfl
theorem exec_block (h : MsgHdr) (data : List Byte) (sigOk : Bool) (flashOk : Bool) (s : State) : exec (.block h data sigOk flashOk) s = execBlock h data sigOk flashOk s := rfl
theorem exec_blockAck (h : MsgHdr) (status : Nat) (index : Nat) (pkg : Nat) (s : State) : exec (.blockAck h status index pkg) s = execBlockAck h status index pkg s := rfl
theorem exec_report (h : MsgHdr) (status : Nat) (pkg : Nat) (s : State) : exec (.report h status pkg) s = execReport h status pkg s := rfl
theorem exec_applyComplete (flashBad : Option Nat) (mordant : Nat) (s : State) : exec (.applyComplete flashBad mordant) s = execApplyComplete flashBad mordant s := rfl
theorem exec_updateAbort (req : Requester) (s : State) : exec (.updateAbort req) s = execUpdateAbort req s := rfl
theorem exec_commit (req : Requester) (s : State) : exec (.commit req) s = execCommit req s := rfl
theorem exec_confirm (req : Requester) (s : State) : exec (.confirm req) s = execConfirm req s := rfl
theorem exec_rollback (req : Requester) (s : State) : exec (.rollback req) s = execRollback req s := rfl
theorem exec_keyImport (req : Requester) (slot : Nat) (s : State) : exec (.keyImport req slot) s = execKeyImport req slot s := rfl
theorem exec_importPub (req : Requester) (s : State) : exec (.importPub req) s = execImportPub req s := rfl
theorem exec_optionWrite (req : Requester) (flashOk : Bool) (s : State) : exec (.optionWrite req flashOk) s = execOptionWrite req flashOk s := rfl
theorem exec_otpOperator (req : Requester) (flashOk : Bool) (s : State) : exec (.otpOperator req flashOk) s = execOtpOperator req flashOk s := rfl
theorem exec_debugFullOff (req : Requester) (flashOk : Bool) (s : State) : exec (.debugFullOff req flashOk) s = execDebugFullOff req flashOk s := rfl
theorem exec_settingsSave (req : Requester) (flashOk : Bool) (s : State) : exec (.settingsSave req flashOk) s = execSettingsSave req flashOk s := rfl
theorem exec_settingsClear (req : Requester) (flashOk : Bool) (s : State) : exec (.settingsClear req flashOk) s = execSettingsClear req flashOk s := rfl
theorem exec_updPrepare (h : MsgHdr) (id : Nat) (pkg : Nat) (target : Nat) (s : State) : exec (.updPrepare h id pkg target) s = execUpdPrepare h id pkg target s := rfl
theorem exec_updGo (h : MsgHdr) (id : Nat) (pkg : Nat) (t : Nat) (s : State) : exec (.updGo h id pkg t) s = execUpdGo h id pkg t s := rfl
theorem exec_updAbort (h : MsgHdr) (id : Nat) (pkg : Nat) (s : State) : exec (.updAbort h id pkg) s = execUpdAbort h id pkg s := rfl
theorem exec_updConfirm (h : MsgHdr) (id : Nat) (pkg : Nat) (s : State) : exec (.updConfirm h id pkg) s = execUpdConfirm h id pkg s := rfl
theorem exec_prepareAckTimeout (s : State) : exec (.prepareAckTimeout) s = execPrepareAckTimeout s := rfl
theorem exec_activationTime (s : State) : exec (.activationTime) s = execActivationTime s := rfl
theorem exec_settleTimeout (s : State) : exec (.settleTimeout) s = execSettleTimeout s := rfl
theorem exec_faultEvent (ty : Nat) (inst : Nat) (bit : Nat) (s : State) : exec (.faultEvent ty inst bit) s = execFaultEvent ty inst bit s := rfl
theorem exec_railFault (ty : Nat) (inst : Nat) (bit : Nat) (s : State) : exec (.railFault ty inst bit) s = execRailFault ty inst bit s := rfl
theorem exec_glazeRestarted (s : State) : exec (.glazeRestarted) s = execGlazeRestarted s := rfl
theorem exec_svWatchdogExpiry (core : Nat) (s : State) : exec (.svWatchdogExpiry core) s = execSvWatchdogExpiry core s := rfl
theorem exec_sxWatchdogExpiry (s : State) : exec (.sxWatchdogExpiry) s = execSxWatchdogExpiry s := rfl
theorem exec_wdogKick (req : Requester) (bits : W32) (s : State) : exec (.wdogKick req bits) s = execWdogKick req bits s := rfl
theorem exec_sxKick (req : Requester) (s : State) : exec (.sxKick req) s = execSxKick req s := rfl
theorem exec_lockstepMismatch (s : State) : exec (.lockstepMismatch) s = execLockstepMismatch s := rfl
theorem exec_forceLockstep (req : Requester) (s : State) : exec (.forceLockstep req) s = execForceLockstep req s := rfl
theorem exec_thermalSample (t0 : Int) (t1 : Int) (t2 : Int) (t3 : Int) (s : State) : exec (.thermalSample t0 t1 t2 t3) s = execThermalSample t0 t1 t2 t3 s := rfl
theorem exec_forceTrip (req : Requester) (on : Bool) (s : State) : exec (.forceTrip req on) s = execForceTrip req on s := rfl
theorem exec_forceCrit (req : Requester) (s : State) : exec (.forceCrit req) s = execForceCrit req s := rfl
theorem exec_firstClr (req : Requester) (s : State) : exec (.firstClr req) s = execFirstClr req s := rfl
theorem exec_histClr (req : Requester) (s : State) : exec (.histClr req) s = execHistClr req s := rfl
theorem exec_cntClr (req : Requester) (s : State) : exec (.cntClr req) s = execCntClr req s := rfl
theorem exec_ovrWrite (req : Requester) (value : W32) (s : State) : exec (.ovrWrite req value) s = execOvrWrite req value s := rfl
theorem exec_record (sev : Nat) (source : Nat) (code : Nat) (p0 : Nat) (p1 : Nat) (s : State) : exec (.record sev source code p0 p1) s = execRecord sev source code p0 p1 s := rfl
theorem exec_ringPageProgram (okA : Bool) (okB : Bool) (s : State) : exec (.ringPageProgram okA okB) s = execRingPageProgram okA okB s := rfl
theorem exec_urgentRecordTimeout (s : State) : exec (.urgentRecordTimeout) s = execUrgentRecordTimeout s := rfl
theorem exec_recordHoldTimeout (s : State) : exec (.recordHoldTimeout) s = execRecordHoldTimeout s := rfl
theorem exec_ringRotation (bad : List Nat) (s : State) : exec (.ringRotation bad) s = execRingRotation bad s := rfl
theorem exec_posSecond (s : State) : exec (.posSecond) s = execPosSecond s := rfl
theorem exec_cursorWrite (req : Requester) (value : W64) (s : State) : exec (.cursorWrite req value) s = execCursorWrite req value s := rfl
theorem exec_viewLoaded (v : Nat) (s : State) : exec (.viewLoaded v) s = execViewLoaded v s := rfl
theorem exec_freeze (req : Requester) (value : W32) (s : State) : exec (.freeze req value) s = execFreeze req value s := rfl
theorem exec_freezeTimeout (v : Nat) (s : State) : exec (.freezeTimeout v) s = execFreezeTimeout v s := rfl
theorem exec_hrecCmd (req : Requester) (value : W32) (s : State) : exec (.hrecCmd req value) s = execHrecCmd req value s := rfl
theorem exec_recCntClr (req : Requester) (s : State) : exec (.recCntClr req) s = execRecCntClr req s := rfl
theorem exec_ringClr (req : Requester) (s : State) : exec (.ringClr req) s = execRingClr req s := rfl
theorem exec_calSet (req : Requester) (s : State) : exec (.calSet req) s = execCalSet req s := rfl
theorem exec_calAlarm (s : State) : exec (.calAlarm) s = execCalAlarm s := rfl
theorem exec_trimInterval (s : State) : exec (.trimInterval) s = execTrimInterval s := rfl
theorem exec_calSyncTimer (s : State) : exec (.calSyncTimer) s = execCalSyncTimer s := rfl
theorem exec_calSync (h : MsgHdr) (id : Nat) (sec : Nat) (sub : Nat) (flags : Nat) (t : Nat) (s : State) : exec (.calSync h id sec sub flags t) s = execCalSync h id sec sub flags t s := rfl
theorem exec_tapReset (s : State) : exec (.tapReset) s = execTapReset s := rfl
theorem exec_idcode (s : State) : exec (.idcode) s = execIdcode s := rfl
theorem exec_samplePreload (cells : Nat) (s : State) : exec (.samplePreload cells) s = execSamplePreload cells s := rfl
theorem exec_extest (cells : Option Nat) (s : State) : exec (.extest cells) s = execExtest cells s := rfl
theorem exec_highz (s : State) : exec (.highz) s = execHighz s := rfl
theorem exec_bypass (code : Nat) (s : State) : exec (.bypass code) s = execBypass code s := rfl
theorem exec_challenge (s : State) : exec (.challenge) s = execChallenge s := rfl
theorem exec_authRead (s : State) : exec (.authRead) s = execAuthRead s := rfl
theorem exec_authPut (word : W32) (s : State) : exec (.authPut word) s = execAuthPut word s := rfl
theorem exec_submit (s : State) : exec (.submit) s = execSubmit s := rfl
theorem exec_authStatus (s : State) : exec (.authStatus) s = execAuthStatus s := rfl
theorem exec_tokenChecked (ok : Bool) (s : State) : exec (.tokenChecked ok) s = execTokenChecked ok s := rfl
theorem exec_levelExpiry (s : State) : exec (.levelExpiry) s = execLevelExpiry s := rfl
theorem exec_dbgLock (req : Requester) (s : State) : exec (.dbgLock req) s = execDbgLock req s := rfl
theorem exec_dapRead (size64 : Bool) (autoinc : Bool) (space : Nat) (addr : Nat) (bad : Option (Nat × Nat × Bool)) (s : State) : exec (.dapRead size64 autoinc space addr bad) s = execDapRead size64 autoinc space addr bad s := rfl
theorem exec_dapWrite (size64 : Bool) (autoinc : Bool) (space : Nat) (addr : Nat) (data : W64) (s : State) : exec (.dapWrite size64 autoinc space addr data) s = execDapWrite size64 autoinc space addr data s := rfl
theorem exec_dapNop (s : State) : exec (.dapNop) s = execDapNop s := rfl
theorem exec_coreHalt (core : Nat) (s : State) : exec (.coreHalt core) s = execCoreHalt core s := rfl
theorem exec_coreResume (core : Nat) (s : State) : exec (.coreResume core) s = execCoreResume core s := rfl
theorem exec_coreStep (core : Nat) (s : State) : exec (.coreStep core) s = execCoreStep core s := rfl
theorem exec_breakpointHit (core : Nat) (index : Nat) (s : State) : exec (.breakpointHit core index) s = execBreakpointHit core index s := rfl
theorem exec_watchpointHit (core : Nat) (index : Nat) (s : State) : exec (.watchpointHit core index) s = execWatchpointHit core index s := rfl
theorem exec_xHalt (unit : Nat) (s : State) : exec (.xHalt unit) s = execXHalt unit s := rfl
theorem exec_xResume (unit : Nat) (s : State) : exec (.xResume unit) s = execXResume unit s := rfl
theorem exec_xStep (unit : Nat) (s : State) : exec (.xStep unit) s = execXStep unit s := rfl
theorem exec_xBreak (unit : Nat) (n : Nat) (s : State) : exec (.xBreak unit n) s = execXBreak unit n s := rfl
theorem exec_read32 (addr : Nat) (s : State) : exec (.read32 addr) s = execRead32 addr s := rfl
theorem exec_write32 (addr : Nat) (value : W32) (s : State) : exec (.write32 addr value) s = execWrite32 addr value s := rfl
theorem exec_read64 (addr : Nat) (s : State) : exec (.read64 addr) s = execRead64 addr s := rfl
theorem exec_write64 (addr : Nat) (value : W64) (s : State) : exec (.write64 addr value) s = execWrite64 addr value s := rfl
theorem exec_dynamicAddressAssign (addr : Nat) (s : State) : exec (.dynamicAddressAssign addr) s = execDynamicAddressAssign addr s := rfl
theorem exec_inBandInterrupt (s : State) : exec (.inBandInterrupt) s = execInBandInterrupt s := rfl
theorem exec_ibiAccepted (s : State) : exec (.ibiAccepted) s = execIbiAccepted s := rfl
theorem exec_partnerTerminationFound (n : Nat) (s : State) : exec (.partnerTerminationFound n) s = execPartnerTerminationFound n s := rfl
theorem exec_flitCrcFail (n : Nat) (s : State) : exec (.flitCrcFail n) s = execFlitCrcFail n s := rfl
theorem exec_malformedTlp (port : Nat) (kind : Nat) (frame : Option (Nat × Nat)) (s : State) : exec (.malformedTlp port kind frame) s = execMalformedTlp port kind frame s := rfl
theorem exec_reshapeCapUpdate (s : State) : exec (.reshapeCapUpdate) s = execReshapeCapUpdate s := rfl
theorem exec_repairRelocation (n : Nat) (dsts : List Nat) (lost : List Nat) (s : State) : exec (.repairRelocation n dsts lost) s = execRepairRelocation n dsts lost s := rfl
theorem exec_refRestored (s : State) : exec (.refRestored) s = execRefRestored s := rfl
theorem exec_cclkSelWrite (req : Requester) (sel : Nat) (s : State) : exec (.cclkSelWrite req sel) s = execCclkSelWrite req sel s := rfl
theorem exec_i3cProtocolError (s : State) : exec (.i3cProtocolError) s = execI3cProtocolError s := rfl

end Sys2Proof.Machine
end

