-- ==== Sys2Proof/Laws/Registers.lean ====
section
/-! SUPPORT. Sorted key lists and registers: what a store changes and what it leaves. -/
namespace Sys2Proof.Machine
open Sys2Proof

/-! ### Sorted key lists -/

theorem mget_mput_same {α : Type} (m : List (Nat × α)) (k : Nat) (v : α) : mget (mput m k v) k = some v := by
  induction m with
  | nil => simp [mput, mget]
  | cons e m ih =>
    obtain ⟨j, w⟩ := e
    unfold mput; split
    · simp [mget]
    · split
      · simp [mget]
      · rename_i h1 h2; simp only [mget]; rw [if_neg (fun h => h2 h.symm), ih]

theorem mget_mput_ne {α : Type} (m : List (Nat × α)) {k k' : Nat} (v : α) (h : k' ≠ k) : mget (mput m k v) k' = mget m k' := by
  induction m with
  | nil => simp [mput, mget, Ne.symm h]
  | cons e m ih =>
    obtain ⟨j, w⟩ := e
    unfold mput; split
    · simp [mget, Ne.symm h]
    · split
      · rename_i h1 h2; subst h2; simp [mget, Ne.symm h]
      · simp only [mget, ih]

theorem mget_mdel_ne {α : Type} (m : List (Nat × α)) {k k' : Nat} (h : k' ≠ k) : mget (mdel m k) k' = mget m k' := by
  induction m with
  | nil => simp [mdel]
  | cons e m ih =>
    obtain ⟨j, w⟩ := e
    unfold mdel; split
    · rename_i h1; subst h1; rw [ih]; simp [mget, Ne.symm h]
    · simp only [mget, ih]

theorem mget_mdel_same {α : Type} (m : List (Nat × α)) (k : Nat) : mget (mdel m k) k = none := by
  induction m with
  | nil => rfl
  | cons e m ih =>
    obtain ⟨j, w⟩ := e
    unfold mdel; split
    · exact ih
    · rename_i hj; simp only [mget, hj, if_false, ih]

/-- In a canonical list no key below the first stands later. -/
theorem mget_of_lt {α : Type} {m : List (Nat × α)} {k j : Nat} {w : α} (h : mwf ((j, w) :: m) = true) (hk : k ≤ j) : mget m k = none := by
  induction m generalizing j w with
  | nil => rfl
  | cons e m ih =>
    obtain ⟨i, x⟩ := e
    simp only [mwf, Bool.and_eq_true, decide_eq_true_eq] at h
    have hik : ¬ i = k := by omega
    simp only [mget, hik, if_false]
    exact ih h.2 (by omega)

theorem mwf_tail {α : Type} {e : Nat × α} {m : List (Nat × α)} (h : mwf (e :: m) = true) : mwf m = true := by
  cases m with
  | nil => rfl
  | cons f m => simp only [mwf, Bool.and_eq_true] at h; exact h.2

/-! ### Keys of registers -/

/-- Keys of registers inside one page are apart. -/
theorem key_off (p : PT) (i : Nat) {a b : Nat} (h : a % 0x1000 ≠ b % 0x1000) : p.key i a ≠ p.key i b := by
  unfold PT.key; omega

/-- A page type is found by its code (R51). -/
theorem ofCode_code (p : PT) : PT.ofCode p.code = some p := by cases p <;> rfl

theorem code_inj {p q : PT} (h : p.code = q.code) : p = q := by
  have := ofCode_code p; rw [h, ofCode_code] at this; exact (Option.some.inj this).symm

/-- Keys of registers of different page types are apart. -/
theorem key_page {p q : PT} (i j a b : Nat) (h : p ≠ q) : p.key i a ≠ q.key j b := by
  have hc : p.code ≠ q.code := fun e => h (code_inj e)
  unfold PT.key; omega

/-- Keys of registers of different instances are apart. -/
theorem key_inst (p : PT) {i j : Nat} (a b : Nat) (h : i % 0x1000 ≠ j % 0x1000) : p.key i a ≠ p.key j b := by
  unfold PT.key; omega

/-! ### Registers -/

theorem reg_setReg_same (d : Dev) (p : PT) (i off : Nat) (v : W32) : (d.setReg p i off v).reg p i off = v := by
  unfold Dev.reg Dev.setReg
  by_cases hv : v = resetOf p off
  · simp only [hv, if_true, mget_mdel_same]
  · simp only [hv, if_false, mget_mput_same]

theorem reg_setReg_ne (d : Dev) {p p' : PT} {i i' off off' : Nat} (v : W32) (h : p'.key i' off' ≠ p.key i off) :
    (d.setReg p i off v).reg p' i' off' = d.reg p' i' off' := by
  unfold Dev.reg Dev.setReg
  by_cases hv : v = resetOf p off
  · simp only [hv, if_true, mget_mdel_ne _ h]
  · simp only [hv, if_false, mget_mput_ne _ _ h]

/-- A taken write leaves every register but the page's PAGE_SEQ. -/
theorem taken_reg (d : Dev) (r : Requester) {p p' : PT} {i i' off : Nat} (h : p'.key i' off ≠ p.key i Reg.PAGE_SEQ) :
    (d.taken r p i).reg p' i' off = d.reg p' i' off := by
  unfold Dev.taken Dev.countWrite Dev.incWrap Dev.setRegN
  rw [reg_setReg_ne _ _ h, noteWake_eq]; rfl

theorem taken_reg_page (d : Dev) (r : Requester) (p : PT) (i off : Nat) (h : off % 0x1000 ≠ 0x2c) :
    (d.taken r p i).reg p i off = d.reg p i off := taken_reg d r (key_off p i h)

theorem taken_reg_other (d : Dev) (r : Requester) {p q : PT} (i j off : Nat) (h : q ≠ p) :
    (d.taken r p i).reg q j off = d.reg q j off := taken_reg d r (key_page j i _ _ h)

theorem taken_regF_other (d : Dev) (r : Requester) {p q : PT} (i j off lo n : Nat) (h : q ≠ p) :
    (d.taken r p i).regF q j off lo n = d.regF q j off lo n := by unfold Dev.regF; rw [taken_reg_other d r i j off h]

theorem taken_regB_other (d : Dev) (r : Requester) {p q : PT} (i j off lo : Nat) (h : q ≠ p) :
    (d.taken r p i).regB q j off lo = d.regB q j off lo := by unfold Dev.regB; rw [taken_regF_other d r i j off lo 1 h]

theorem taken_regF_page (d : Dev) (r : Requester) (p : PT) (i off lo n : Nat) (h : off % 0x1000 ≠ 0x2c) :
    (d.taken r p i).regF p i off lo n = d.regF p i off lo n := by unfold Dev.regF; rw [taken_reg_page d r p i off h]

theorem taken_regB_page (d : Dev) (r : Requester) (p : PT) (i off lo : Nat) (h : off % 0x1000 ≠ 0x2c) :
    (d.taken r p i).regB p i off lo = d.regB p i off lo := by unfold Dev.regB; rw [taken_regF_page d r p i off lo 1 h]

theorem taken_regN_page (d : Dev) (r : Requester) (p : PT) (i off : Nat) (h : off % 0x1000 ≠ 0x2c) :
    (d.taken r p i).regN p i off = d.regN p i off := by unfold Dev.regN; rw [taken_reg_page d r p i off h]

/-! ### A register store and every other part of the device -/

theorem setReg_eq (d : Dev) (p : PT) (i off : Nat) (v : W32) : d.setReg p i off v = { d with regs := (d.setReg p i off v).regs } := rfl

end Sys2Proof.Machine
end

