-- ==== Sys2Proof/Laws/Memory.lean ====
section
/-! SUPPORT. The byte memories: every operation keeps the canonical form, a read after a write gives the byte written, and a write leaves every
other byte alone (slot memory R106, R139; boot flash R516). -/
namespace Sys2Proof.Machine
open Sys2Proof

/-! ### Canonical form -/

/-- Every key of a list stands above `k`. -/
def keysAbove {α : Type} (k : Nat) (m : List (Nat × α)) : Prop := ∀ e ∈ m, k < e.1

theorem mwf_cons {α : Type} {k : Nat} {v : α} {m : List (Nat × α)} : mwf ((k, v) :: m) = true ↔ keysAbove k m ∧ mwf m = true := by
  induction m generalizing k v with
  | nil => simp [mwf, keysAbove]
  | cons e m ih =>
    obtain ⟨j, w⟩ := e
    have h : mwf ((k, v) :: (j, w) :: m) = true ↔ k < j ∧ mwf ((j, w) :: m) = true := by simp [mwf]
    rw [h]
    constructor
    · rintro ⟨hk, hw⟩
      refine ⟨?_, hw⟩
      intro e he
      rcases List.mem_cons.1 he with rfl | he
      · exact hk
      · exact Nat.lt_trans hk ((ih.1 hw).1 e he)
    · rintro ⟨ha, hw⟩
      exact ⟨ha (j, w) (List.mem_cons_self ..), hw⟩

theorem mem_mput {α : Type} {m : List (Nat × α)} {k : Nat} {v : α} {e : Nat × α} (h : e ∈ mput m k v) : e = (k, v) ∨ e ∈ m := by
  induction m with
  | nil => simpa [mput] using h
  | cons f m ih =>
    obtain ⟨j, w⟩ := f
    unfold mput at h; split at h
    · rcases List.mem_cons.1 h with h | h
      · exact .inl h
      · exact .inr h
    · split at h
      · rcases List.mem_cons.1 h with h | h
        · exact .inl h
        · exact .inr (List.mem_cons_of_mem _ h)
      · rcases List.mem_cons.1 h with h | h
        · exact .inr (h ▸ List.mem_cons_self ..)
        · rcases ih h with h | h
          · exact .inl h
          · exact .inr (List.mem_cons_of_mem _ h)

theorem mem_mdel {α : Type} {m : List (Nat × α)} {k : Nat} {e : Nat × α} (h : e ∈ mdel m k) : e ∈ m := by
  induction m with
  | nil => simp [mdel] at h
  | cons f m ih =>
    obtain ⟨j, w⟩ := f
    unfold mdel at h; split at h
    · exact List.mem_cons_of_mem _ (ih h)
    · rcases List.mem_cons.1 h with h | h
      · exact h ▸ List.mem_cons_self ..
      · exact List.mem_cons_of_mem _ (ih h)

/-- Storing keeps the keys strictly rising. -/
theorem mwf_mput {α : Type} {m : List (Nat × α)} (k : Nat) (v : α) (h : mwf m = true) : mwf (mput m k v) = true := by
  induction m with
  | nil => rfl
  | cons e m ih =>
    obtain ⟨j, w⟩ := e
    have hc := mwf_cons.1 h
    unfold mput; split
    · rename_i hk
      exact mwf_cons.2 ⟨fun e he => by
        rcases List.mem_cons.1 he with rfl | he
        · exact hk
        · exact Nat.lt_trans hk (hc.1 e he), h⟩
    · split
      · rename_i h1 h2; subst h2; exact mwf_cons.2 hc
      · rename_i h1 h2
        refine mwf_cons.2 ⟨fun e he => ?_, ih hc.2⟩
        rcases mem_mput he with rfl | he
        · show j < k; omega
        · exact hc.1 e he

/-- Removing keeps the keys strictly rising. -/
theorem mwf_mdel {α : Type} {m : List (Nat × α)} (k : Nat) (h : mwf m = true) : mwf (mdel m k) = true := by
  induction m with
  | nil => rfl
  | cons e m ih =>
    obtain ⟨j, w⟩ := e
    have hc := mwf_cons.1 h
    unfold mdel; split
    · exact ih hc.2
    · exact mwf_cons.2 ⟨fun e he => hc.1 e (mem_mdel he), ih hc.2⟩

theorem mwf_filter {α : Type} {m : List (Nat × α)} (p : Nat × α → Bool) (h : mwf m = true) : mwf (m.filter p) = true := by
  induction m with
  | nil => rfl
  | cons e m ih =>
    obtain ⟨j, w⟩ := e
    have hc := mwf_cons.1 h
    rw [List.filter_cons]; split
    · exact mwf_cons.2 ⟨fun e he => hc.1 e (List.mem_filter.1 he).1, ih hc.2⟩
    · exact ih hc.2

theorem wf_iff {blank : Byte} {m : List Host.Cell} : Memory.wf blank m = true ↔ mwf m = true ∧ ∀ e ∈ m, e.2 ≠ blank := by
  simp [Memory.wf, List.all_eq_true]

/-- Storing a byte, a blank one by removing its entry, keeps the canonical form. -/
theorem wf_store {blank : Byte} {m : List Host.Cell} (a : Nat) (b : Byte) (h : Memory.wf blank m = true) :
    Memory.wf blank (if b = blank then mdel m a else mput m a b) = true := by
  obtain ⟨h1, h2⟩ := wf_iff.1 h
  split
  · exact wf_iff.2 ⟨mwf_mdel a h1, fun e he => h2 e (mem_mdel he)⟩
  · rename_i hb
    refine wf_iff.2 ⟨mwf_mput a b h1, fun e he => ?_⟩
    rcases mem_mput he with rfl | he
    · exact hb
    · exact h2 e he

theorem putByte_wf {m : List Host.Cell} (a : Nat) (b : Byte) (h : Memory.wf slotBlank m = true) : Memory.wf slotBlank (putByte m a b) = true :=
  wf_store a b h

theorem putBytes_wf (bs : List Byte) : ∀ {m : List Host.Cell} (a : Nat), Memory.wf slotBlank m = true → Memory.wf slotBlank (putBytes m a bs) = true := by
  induction bs with
  | nil => intro m a h; exact h
  | cons b bs ih => intro m a h; exact ih (a + 1) (putByte_wf a b h)

theorem putFlash_wf {m : List Host.Cell} (a : Nat) (b : Byte) (h : Memory.wf flashBlank m = true) : Memory.wf flashBlank (putFlash m a b) = true :=
  wf_store a b h

theorem putFlashRun_wf (bs : List Byte) :
    ∀ {m : List Host.Cell} (a : Nat), Memory.wf flashBlank m = true → Memory.wf flashBlank (putFlashRun m a bs) = true := by
  induction bs with
  | nil => intro m a h; exact h
  | cons b bs ih => intro m a h; exact ih (a + 1) (putFlash_wf a b h)

theorem filter_wf {blank : Byte} {m : List Host.Cell} (p : Host.Cell → Bool) (h : Memory.wf blank m = true) :
    Memory.wf blank (m.filter p) = true := by
  obtain ⟨h1, h2⟩ := wf_iff.1 h
  exact wf_iff.2 ⟨mwf_filter p h1, fun e he => h2 e (List.mem_filter.1 he).1⟩

theorem flashProgram_wf {d : Dev} (a : Nat) (bs : List Byte) (h : Memory.wf flashBlank d.flash = true) :
    Memory.wf flashBlank (d.flashProgram a bs).flash = true := putFlashRun_wf _ a h

theorem flashErase_wf {d : Dev} (a n : Nat) (h : Memory.wf flashBlank d.flash = true) : Memory.wf flashBlank (d.flashErase a n).flash = true :=
  filter_wf _ h

theorem flashUndefined_wf {d : Dev} (a n : Nat) (h : Memory.wf flashBlank d.flash = true) :
    Memory.wf flashBlank (d.flashUndefined a n).flash = true := putFlashRun_wf _ a h

theorem flashRewrite_wf {d : Dev} (a n : Nat) (bs : List Byte) (h : Memory.wf flashBlank d.flash = true) :
    Memory.wf flashBlank (d.flashRewrite a n bs).flash = true := putFlashRun_wf bs a (flashErase_wf a n h)

theorem reset_mem_wf : Memory.wf slotBlank State.reset.dev.mem = true := rfl
theorem reset_flash_wf : Memory.wf flashBlank State.reset.dev.flash = true := rfl

/-! ### Reads after writes -/

theorem byte_store_same {blank : Byte} (m : List Host.Cell) (a : Nat) (b : Byte) :
    (mget (if b = blank then mdel m a else mput m a b) a).getD blank = b := by
  split
  · rename_i h; rw [mget_mdel_same, h]; rfl
  · rw [mget_mput_same]; rfl

theorem byte_store_ne {blank : Byte} (m : List Host.Cell) {a a' : Nat} (b : Byte) (h : a' ≠ a) :
    (mget (if b = blank then mdel m a else mput m a b) a').getD blank = (mget m a').getD blank := by
  split
  · rw [mget_mdel_ne _ h]
  · rw [mget_mput_ne _ _ h]

theorem putBytes_out (bs : List Byte) : ∀ (m : List Host.Cell) (a x : Nat), (x < a ∨ a + bs.length ≤ x) →
    (mget (putBytes m a bs) x).getD 0#8 = (mget m x).getD 0#8 := by
  induction bs with
  | nil => intro m a x _; rfl
  | cons b bs ih =>
    intro m a x h
    rw [List.length_cons] at h
    rw [putBytes, ih _ _ _ (by omega), putByte, byte_store_ne _ _ (by omega)]

theorem putBytes_in (bs : List Byte) : ∀ (m : List Host.Cell) (a k : Nat) (h : k < bs.length),
    (mget (putBytes m a bs) (a + k)).getD 0#8 = bs[k] := by
  induction bs with
  | nil => intro m a k h; exact absurd h (Nat.not_lt_zero _)
  | cons b bs ih =>
    intro m a k h
    rw [putBytes]
    cases k with
    | zero => rw [putBytes_out _ _ _ _ (by omega), putByte]; exact byte_store_same m a b
    | succ k => rw [show a + (k + 1) = a + 1 + k by omega, ih]; rfl

theorem putFlashRun_out (bs : List Byte) : ∀ (m : List Host.Cell) (a x : Nat), (x < a ∨ a + bs.length ≤ x) →
    (mget (putFlashRun m a bs) x).getD 0xff#8 = (mget m x).getD 0xff#8 := by
  induction bs with
  | nil => intro m a x _; rfl
  | cons b bs ih =>
    intro m a x h
    rw [List.length_cons] at h
    rw [putFlashRun, ih _ _ _ (by omega), putFlash, byte_store_ne _ _ (by omega)]

theorem putFlashRun_in (bs : List Byte) : ∀ (m : List Host.Cell) (a k : Nat) (h : k < bs.length),
    (mget (putFlashRun m a bs) (a + k)).getD 0xff#8 = bs[k] := by
  induction bs with
  | nil => intro m a k h; exact absurd h (Nat.not_lt_zero _)
  | cons b bs ih =>
    intro m a k h
    rw [putFlashRun]
    cases k with
    | zero => rw [putFlashRun_out _ _ _ _ (by omega), putFlash]; exact byte_store_same m a b
    | succ k => rw [show a + (k + 1) = a + 1 + k by omega, ih]; rfl

theorem mget_filter {α : Type} (m : List (Nat × α)) (p : Nat → Bool) (k : Nat) :
    mget (m.filter (fun e => p e.1)) k = if p k then mget m k else none := by
  induction m with
  | nil => simp [mget]
  | cons e m ih =>
    obtain ⟨j, w⟩ := e
    rw [List.filter_cons]
    by_cases hj : j = k
    · subst hj; by_cases hp : p j = true
      · simp [hp, mget]
      · simp only [hp, Bool.false_eq_true, if_false, ih]
    · by_cases hp : p j = true
      · simp only [hp, if_true, mget, hj, if_false, ih]
      · simp only [hp, Bool.false_eq_true, if_false, ih, mget, hj]

end Sys2Proof.Machine
end

