-- ==== Sys2Proof/WellFormed.lean ====
section
/-! DEFINITION. Which commands are well formed: every operand names something that the spec gives the device. The meanings are total all the
same; on an ill-formed command they leave the device as it is or treat the operand as absent. -/
namespace Sys2Proof
open Sys2Proof.Machine

/-- A requester: VF 1 to 255, tenant port 0 to 7, core 0 to 32, and I3C in the host domain only (R57, R74, R371). -/
def okReq (r : Requester) : Bool :=
  (match r.dom with
    | .vf => decide (1 ≤ r.num ∧ r.num ≤ 255)
    | .tenant => decide (r.num < 8)
    | .host => decide (r.num ≤ 1)
    | .secure | .glaze => decide (r.num ≤ 32)) && (!r.i3c || r.dom == .host)

/-- A function (R74, R371). -/
def okFn : Fn → Bool
  | .pf => true
  | .vf n => decide (1 ≤ n ∧ n ≤ 255)
  | .tp p => decide (p < 8)

/-- A message header: one of six links, a source of 64 (R398, R415). -/
def okHdr (h : MsgHdr) : Bool := decide (h.link < 6 ∧ h.src < 64)

/-- A queue, host 0 to 2,047 or tenant from 2,048 (R106). -/
def okQueue (q : Nat) : Bool := decide (q < 2560)

/-- A command slot of a queue, or one of the requests that other members make (queue 4,096) (R106, R418). -/
def okSlot (q tag : Nat) : Bool := (okQueue q && decide (tag < 32)) || q == 4096

/-- A page: a type code of R51 with an instance that it has. -/
def okPage (ty inst : Nat) : Bool := match PT.ofCode ty with
  | some p => decide (inst < p.count)
  | none => false

/-- A type code of R51. -/
def okType (ty : Nat) : Bool := (PT.ofCode ty).isSome

/-- A channel (R195). -/
def okChannel (ch : Nat) : Bool := decide (ch < 128)

/-- A die: channel × 16 + die (R196). -/
def okDie (n : Nat) : Bool := decide (n < 2048)

/-- A Filush link (R398). -/
def okLink (n : Nat) : Bool := decide (n < 6)

/-- A Madder loop (R488). -/
def okLoop (n : Nat) : Bool := decide (n < 16)

/-- A member (R404). -/
def okMember (n : Nat) : Bool := decide (n < 64)

/-- A tint (R386). -/
def okTint (t : Nat) : Bool := decide (t < 1024)

/-- A tenant port (R371). -/
def okPort (p : Nat) : Bool := decide (p < 8)

/-- The host port, or a tenant port. -/
def okPortOpt : Option Nat → Bool
  | none => true
  | some p => okPort p

/-- A power domain (R592). -/
def okDomain (n : Nat) : Bool := decide (n < 16)

/-- An admission gate (R22). -/
def okGate (g : Nat) : Bool := decide (g < 15)

/-- A queue engine (R111). -/
def okEngine (e : Nat) : Bool := decide (e < 4)

/-- A VF (R74). -/
def okVf (n : Nat) : Bool := decide (1 ≤ n ∧ n ≤ 255)

/-- A core: SV0 to SV31, or the secure pair as 32 (R648). -/
def okCore (n : Nat) : Bool := decide (n ≤ 32)

/-- A channel sequencer, or Madder as 128 (R651). -/
def okUnit (u : Nat) : Bool := decide (u ≤ 128)

/-- An SRAM region (R255). -/
def okRegion (n : Nat) : Bool := decide (n < 16)

/-- A superblock number (R146). -/
def okSb (n : Nat) : Bool := decide (n < 2 ^ 20)

/-- A byte address inside the SRAM (R255). -/
def okSram (a : Nat) : Bool := decide (a < 0x18000000)

/-- A trace buffer (R501). -/
def okTrace (b : Nat) : Bool := decide (b < 4)

/-- A cipher lane (R448). -/
def okCipherLane (n : Nat) : Bool := decide (n < 640)

/-- A list lane of a channel (R210). -/
def okLane (n : Nat) : Bool := decide (n < 4)

/-- A group of cipher lanes (R448). -/
def okLaneGroup (n : Nat) : Bool := decide (n < 8)

/-- A record kind: volume, stream, namespace (R330). -/
def okKind (n : Nat) : Bool := decide (n < 3)

/-- A key slot (R459). -/
def okKeySlot (n : Nat) : Bool := decide (n < 4096)

/-- A position of the secure mailbox (R507). -/
def okMbox (n : Nat) : Bool := decide (n < 64)

/-- A 32-bit address (R636, R646). -/
def okWord (a : Nat) : Bool := decide (a < 2 ^ 32)

/-- A bus access of 1 to 64 bytes (R46, R110). -/
def okSize (n : Nat) : Bool := decide (1 ≤ n ∧ n ≤ 64)

/-- A list of 1 to 64 entries (R210). -/
def okEntries (es : List Entry) : Bool := decide (1 ≤ es.length ∧ es.length ≤ 64)

/-- A key blob of 224 bytes (R462). -/
def okBlob (b : List Byte) : Bool := b.length == 224

/-- Whether a command is well formed. -/
def Instr.wf (i : Instr) : Bool := match i with
  | .mainRailsRising => true
  | .bootEntry _ _ => true
  | .mordantVerified _ _ => true
  | .glazeRelease _ _ => true
  | .replayComplete _ => true
  | .pfailFall => true
  | .pgoodFall _ => true
  | .rstNAssert => true
  | .perstNAssert => true
  | .perstNRise => true
  | .railMonitorTrip _ => true
  | .vbatRise => true
  | .oscStop => true
  | .pllUnlock => true
  | .refLost => true
  | .pllRelocked => true
  | .flush => true
  | .flushDieQuiet _ => true
  | .flushProgramDone _ => true
  | .flushComplete => true
  | .shutdown req => okReq req
  | .shutdownComplete => true
  | .maintReq req => okReq req
  | .maintEntry => true
  | .restart req => okReq req
  | .idleTimerExpiry => true
  | .quiesceAck => true
  | .quiesceLate => true
  | .wake _ => true
  | .workTimerExpiry => true
  | .patrolTimerExpiry => true
  | .patrolEntryComplete => true
  | .patrolWake _ => true
  | .domainStageTimeout dom => okDomain dom
  | .domainStageReady dom => okDomain dom
  | .enSet req ty inst => okReq req && okPage ty inst
  | .enClear req ty inst => okReq req && okPage ty inst
  | .drain req ty inst => okReq req && okPage ty inst
  | .srst req ty inst => okReq req && okPage ty inst
  | .lock req ty inst => okReq req && okPage ty inst
  | .startupComplete ty inst => okPage ty inst
  | .drainComplete ty inst => okPage ty inst
  | .ownerWrite req ty inst _ => okReq req && okPage ty inst
  | .injArm req ty inst _ => okReq req && okPage ty inst
  | .injDone ty word => okPage ty word.inst
  | .registerWrite req _ size _ => okReq req && okSize size
  | .memberSelWrite req ty _ => okReq req && okType ty
  | .bar2Access _ _ size _ => okSize size
  | .proxyTimeout => true
  | .flr fn => okFn fn
  | .flrComplete fn => okFn fn
  | .hotReset _ => true
  | .bmeClear fn => okFn fn
  | .bmeSet fn => okFn fn
  | .mseClear fn => okFn fn
  | .d3hotEntry fn => okFn fn
  | .d0Return fn => okFn fn
  | .aspmL1Entry port _ => okPortOpt port
  | .l0pChange port _ => okPortOpt port
  | .linkRetrain req => okReq req
  | .linkTrained port _ _ _ => okPortOpt port
  | .vfEnableClear => true
  | .vfEnableSet _ => true
  | .vfBindWrite req vf _ => okReq req && okVf vf
  | .dmaReadError q tag _ => okSlot q tag
  | .malformedCompletion q tag => okSlot q tag
  | .msixUnmask fn _ => okFn fn
  | .forerunnerDoorbell _ => true
  | .forerunnerRead _ => true
  | .forerunnerWrite _ => true
  | .forerunnerFlush _ => true
  | .forerunnerDeallocate _ => true
  | .forerunnerIdentify _ => true
  | .forerunnerShutdown => true
  | .doorbell req q _ => okReq req && okQueue q
  | .slotWrite req q _ _ => okReq req && okQueue q
  | .admitNext qe => okEngine qe
  | .descriptorFetch q tag _ => okSlot q tag
  | .gateAdmit gate => okGate gate
  | .ceilingRecompute => true
  | .dataArrived q tag _ => okSlot q tag
  | .installWaitLines q tag => okSlot q tag
  | .readDataWritten q tag => okSlot q tag
  | .nop q tag => okSlot q tag
  | .read q tag => okSlot q tag
  | .write q tag => okSlot q tag
  | .flushCmd q tag => okSlot q tag
  | .deallocate q tag => okSlot q tag
  | .writeZeroes q tag => okSlot q tag
  | .verify q tag => okSlot q tag
  | .append q tag => okSlot q tag
  | .streamRead q tag => okSlot q tag
  | .seal q tag _ _ => okSlot q tag
  | .streamInfo q tag => okSlot q tag
  | .put q tag _ => okSlot q tag
  | .get q tag _ => okSlot q tag
  | .delete q tag _ => okSlot q tag
  | .stat q tag _ => okSlot q tag
  | .snapCreate q tag => okSlot q tag
  | .snapDelete q tag => okSlot q tag
  | .snapRead q tag => okSlot q tag
  | .attest q tag _ => okSlot q tag
  | .relocate q tag _ _ => okSlot q tag
  | .abort q tag => okSlot q tag
  | .identify q tag => okSlot q tag
  | .updateBlock q tag _ _ _ => okSlot q tag
  | .rawRead q tag _ _ _ _ => okSlot q tag
  | .rawProgram q tag _ _ => okSlot q tag
  | .rawErase q tag _ => okSlot q tag
  | .destage _ _ _ _ _ => true
  | .logUnitHoldExpiry _ _ => true
  | .merge _ _ _ => true
  | .fold _ _ => true
  | .pslcTargetRecompute => true
  | .gcCollect _ _ => true
  | .sbAllocate _ _ _ => true
  | .eraseDone n _ => okSb n
  | .patrolVisit _ _ _ => true
  | .checkpointPass => true
  | .ckptDone => true
  | .format req _ _ => okReq req
  | .channelDiscovery ch _ => okChannel ch
  | .channelTraining ch => okChannel ch
  | .trainingDone ch _ => okChannel ch
  | .retrain ch _ _ => okChannel ch
  | .listSubmit ch lane _ entries => okChannel ch && okLane lane && okEntries entries
  | .entryIssue n => okDie n
  | .entryComplete n _ _ => okDie n
  | .entryTimeout n => okDie n
  | .dieResetDone n _ => okDie n
  | .dieResetTimeout n => okDie n
  | .suspend n => okDie n
  | .resume n => okDie n
  | .hardDecode q tag _ _ => okSlot q tag
  | .softDecode q tag _ _ => okSlot q tag
  | .readRetry q tag _ _ => okSlot q tag
  | .degradedRead q tag _ _ _ => okSlot q tag
  | .sramCorrected region word _ _ _ => okRegion region && okSram (regionWord region word)
  | .sramUncorrectable region word _ _ _ _ _ => okRegion region && okSram (regionWord region word)
  | .scrubPass _ => true
  | .mergeBufferTimeout _ _ => true
  | .regionCodeWrite req region _ => okReq req && okRegion region
  | .logRowParity _ _ _ => true
  | .rowCloseTimeout _ _ => true
  | .journalPageWrite _ _ => true
  | .journalCopyRestore _ => true
  | .rebuildRelocate _ _ => true
  | .reshapeStart req _ => okReq req
  | .reshapeStep => true
  | .reshapePause => true
  | .flushDieChoice => true
  | .reservedRotation _ => true
  | .cacheSizeWrite req _ => okReq req
  | .cacheShrinkDone => true
  | .flushRetired _ => true
  | .forcePfail req => okReq req
  | .forceCut req => okReq req
  | .provCreate req kind => okReq req && okKind kind
  | .provDelete req kind => okReq req && okKind kind
  | .provLoad req kind => okReq req && okKind kind
  | .provModify req kind => okReq req && okKind kind
  | .compaction _ _ _ => true
  | .grantSet req tint => okReq req && okTint tint
  | .grantRemove req tint => okReq req && okTint tint
  | .grantLookup req tint => okReq req && okTint tint
  | .keyRefWrite req tint _ _ => okReq req && okTint tint
  | .portReset port _ => okPort port
  | .tpPerstRise port => okPort port
  | .tpBindWrite req port _ => okReq req && okPort port
  | .pushFrame port _ _ _ _ _ _ _ _ => okPort port
  | .flDetectTimeout n => okLink n
  | .flProbe n _ => okLink n
  | .flTrained n _ => okLink n
  | .flTrainTimeout n => okLink n
  | .flLinkDown n => okLink n
  | .flTerminationLost n => okLink n
  | .flRetrain req n => okReq req && okLink n
  | .forceLinkLoss req n _ => okReq req && okLink n
  | .hello h _ => okHdr h
  | .authHello ask => okHdr ask.hdr
  | .authChallenge h => okHdr h
  | .authResponse h _ _ _ => okHdr h
  | .memberUpdate h _ => okHdr h
  | .heartbeat h _ _ => okHdr h
  | .heartbeatTimer => true
  | .heartbeatLoss n => okMember n
  | .linkState h _ => okHdr h
  | .messageRetryTimeout _ => true
  | .barrier req => okReq req
  | .broadcast req => okReq req
  | .immediateTimeSync req => okReq req
  | .barrierArrive h _ _ => okHdr h
  | .barrierRelease h _ => okHdr h
  | .bcast h _ _ _ => okHdr h
  | .bcastAck h _ _ _ => okHdr h
  | .snapPrepare h _ _ _ tint _ _ => okHdr h && okTint tint
  | .snapHeld h _ _ _ => okHdr h
  | .snapCommit h _ _ _ => okHdr h
  | .snapDone h _ _ _ _ _ => okHdr h
  | .snapAbort h _ _ => okHdr h
  | .timeSyncTimer => true
  | .timeSync h _ _ _ => okHdr h
  | .timeEcho h _ _ _ => okHdr h
  | .fabricReset req => okReq req
  | .resetPrepare h _ => okHdr h
  | .resetReady h _ _ => okHdr h
  | .resetAt h _ _ => okHdr h
  | .fabricResetTime => true
  | .resetReadyTimeout => true
  | .stripeWrite h _ _ _ _ _ => okHdr h
  | .stripeAck h _ _ _ => okHdr h
  | .shardWrite h _ _ _ _ _ _ => okHdr h
  | .shardAck h _ _ _ _ _ => okHdr h
  | .shardRead h _ _ _ _ _ _ _ _ => okHdr h
  | .shardData h _ _ _ => okHdr h
  | .jnlMirror h _ _ => okHdr h
  | .jnlAck h _ => okHdr h
  | .proxyRd h _ size _ => okHdr h && okSize size
  | .proxyWr h _ size _ => okHdr h && okSize size
  | .proxyRsp h _ _ => okHdr h
  | .resync member _ _ => okMember member
  | .rejoin req => okReq req
  | .evict req _ => okReq req
  | .fabricReshapeStart req _ => okReq req
  | .fabricReshapeCopy _ _ => true
  | .fabricReshapePause _ => true
  | .cipherJobGrant group _ => okLaneGroup group
  | .cipherJobDone lane => okCipherLane lane
  | .keyLoad req => okReq req
  | .derive req => okReq req
  | .unwrap req blob => okReq req && okBlob blob
  | .roll req => okReq req
  | .keyErase req => okReq req
  | .eraseAll req => okReq req
  | .resealDone slot => okKeySlot slot
  | .drbgReseed => true
  | .healthFail _ _ => true
  | .forceAlarm req => okReq req
  | .laneFault lane => okCipherLane lane
  | .secOpen req _ _ _ _ => okReq req
  | .secUpdate req _ => okReq req
  | .secFinal req _ => okReq req
  | .secAbort req => okReq req
  | .digestContextGrant => true
  | .digestBlock => true
  | .digestCleared _ => true
  | .loopSample _ _ _ => true
  | .loopCommit req n => okReq req && okLoop n
  | .delayClr req n => okReq req && okLoop n
  | .loopMemUncorr n => okLoop n
  | .traceArm req b => okReq req && okTrace b
  | .traceFire req b => okReq req && okTrace b
  | .traceStop req b => okReq req && okTrace b
  | .flashProgram req _ _ => okReq req
  | .flashErase req _ => okReq req
  | .programOption req _ _ => okReq req
  | .programOtp req _ _ => okReq req
  | .flashId req => okReq req
  | .flashReadMode req => okReq req
  | .flashOpDone => true
  | .flashOpTimeout => true
  | .mailboxRequest slot _ _ => okMbox slot
  | .recData _ _ => true
  | .recRun _ => true
  | .recStatus => true
  | .block h _ _ _ => okHdr h
  | .blockAck h _ _ _ => okHdr h
  | .report h _ _ => okHdr h
  | .applyComplete _ _ => true
  | .updateAbort req => okReq req
  | .commit req => okReq req
  | .confirm req => okReq req
  | .rollback req => okReq req
  | .keyImport req slot => okReq req && okKeySlot slot
  | .importPub req => okReq req
  | .optionWrite req _ => okReq req
  | .otpOperator req _ => okReq req
  | .debugFullOff req _ => okReq req
  | .settingsSave req _ => okReq req
  | .settingsClear req _ => okReq req
  | .updPrepare h _ _ _ => okHdr h
  | .updGo h _ _ _ => okHdr h
  | .updAbort h _ _ => okHdr h
  | .updConfirm h _ _ => okHdr h
  | .prepareAckTimeout => true
  | .activationTime => true
  | .settleTimeout => true
  | .faultEvent _ _ _ => true
  | .railFault _ _ _ => true
  | .glazeRestarted => true
  | .svWatchdogExpiry core => okCore core
  | .sxWatchdogExpiry => true
  | .wdogKick req _ => okReq req
  | .sxKick req => okReq req
  | .lockstepMismatch => true
  | .forceLockstep req => okReq req
  | .thermalSample _ _ _ _ => true
  | .forceTrip req _ => okReq req
  | .forceCrit req => okReq req
  | .firstClr req => okReq req
  | .histClr req => okReq req
  | .cntClr req => okReq req
  | .ovrWrite req _ => okReq req
  | .record _ _ _ _ _ => true
  | .ringPageProgram _ _ => true
  | .urgentRecordTimeout => true
  | .recordHoldTimeout => true
  | .ringRotation _ => true
  | .posSecond => true
  | .cursorWrite req _ => okReq req
  | .viewLoaded _ => true
  | .freeze req _ => okReq req
  | .freezeTimeout _ => true
  | .hrecCmd req _ => okReq req
  | .recCntClr req => okReq req
  | .ringClr req => okReq req
  | .calSet req => okReq req
  | .calAlarm => true
  | .trimInterval => true
  | .calSyncTimer => true
  | .calSync h _ _ _ _ _ => okHdr h
  | .tapReset => true
  | .idcode => true
  | .samplePreload _ => true
  | .extest _ => true
  | .highz => true
  | .bypass _ => true
  | .challenge => true
  | .authRead => true
  | .authPut _ => true
  | .submit => true
  | .authStatus => true
  | .tokenChecked _ => true
  | .levelExpiry => true
  | .dbgLock req => okReq req
  | .dapRead _ _ _ addr _ => okWord addr
  | .dapWrite _ _ _ addr _ => okWord addr
  | .dapNop => true
  | .coreHalt core => okCore core
  | .coreResume core => okCore core
  | .coreStep core => okCore core
  | .breakpointHit core _ => okCore core
  | .watchpointHit core _ => okCore core
  | .xHalt unit => okUnit unit
  | .xResume unit => okUnit unit
  | .xStep unit => okUnit unit
  | .xBreak unit n => okUnit unit && okDie n
  | .read32 addr => okWord addr
  | .write32 addr _ => okWord addr
  | .read64 addr => okWord addr
  | .write64 addr _ => okWord addr
  | .dynamicAddressAssign _ => true
  | .inBandInterrupt => true
  | .ibiAccepted => true
  | .partnerTerminationFound n => okLink n
  | .flitCrcFail n => okLink n
  | .malformedTlp _ _ _ => true
  | .reshapeCapUpdate => true
  | .repairRelocation _ _ _ => true
  | .refRestored => true
  | .cclkSelWrite req _ => okReq req
  | .i3cProtocolError => true

end Sys2Proof
end

