-- ==== Sys2Proof/Laws/PerInstr.lean ====
section
/-! SUPPORT. What holds of every command as syntax, one lemma for each constructor: a well-formed command of its kind exists, so that no row is
shut out by the checks of well-formedness. -/
namespace Sys2Proof.Laws
open Sys2Proof Sys2Proof.Machine

/-- Some command of the same row is well formed. -/
def Admissible.Statement (i : Instr) : Prop := ∃ j : Instr, j.ctorIdx = i.ctorIdx ∧ j.wf = true

theorem Admissible.mainRailsRising : Admissible.Statement (.mainRailsRising) := ⟨.mainRailsRising, rfl, rfl⟩
theorem Admissible.bootEntry (headSel : Bool) (testN : Bool) : Admissible.Statement (.bootEntry headSel testN) := ⟨.bootEntry false false, rfl, rfl⟩
theorem Admissible.mordantVerified (resA : Nat) (resB : Nat) : Admissible.Statement (.mordantVerified resA resB) := ⟨.mordantVerified 0 0, rfl, rfl⟩
theorem Admissible.glazeRelease (resA : Nat) (resB : Nat) : Admissible.Statement (.glazeRelease resA resB) := ⟨.glazeRelease 0 0, rfl, rfl⟩
theorem Admissible.replayComplete (scanLost : List Nat) : Admissible.Statement (.replayComplete scanLost) := ⟨.replayComplete [], rfl, rfl⟩
theorem Admissible.pfailFall : Admissible.Statement (.pfailFall) := ⟨.pfailFall, rfl, rfl⟩
theorem Admissible.pgoodFall (input : Pgood) : Admissible.Statement (.pgoodFall input) := ⟨.pgoodFall .core, rfl, rfl⟩
theorem Admissible.rstNAssert : Admissible.Statement (.rstNAssert) := ⟨.rstNAssert, rfl, rfl⟩
theorem Admissible.perstNAssert : Admissible.Statement (.perstNAssert) := ⟨.perstNAssert, rfl, rfl⟩
theorem Admissible.perstNRise : Admissible.Statement (.perstNRise) := ⟨.perstNRise, rfl, rfl⟩
theorem Admissible.railMonitorTrip (rail : Rail) : Admissible.Statement (.railMonitorTrip rail) := ⟨.railMonitorTrip .core, rfl, rfl⟩
theorem Admissible.vbatRise : Admissible.Statement (.vbatRise) := ⟨.vbatRise, rfl, rfl⟩
theorem Admissible.oscStop : Admissible.Statement (.oscStop) := ⟨.oscStop, rfl, rfl⟩
theorem Admissible.pllUnlock : Admissible.Statement (.pllUnlock) := ⟨.pllUnlock, rfl, rfl⟩
theorem Admissible.refLost : Admissible.Statement (.refLost) := ⟨.refLost, rfl, rfl⟩
theorem Admissible.pllRelocked : Admissible.Statement (.pllRelocked) := ⟨.pllRelocked, rfl, rfl⟩
theorem Admissible.flush : Admissible.Statement (.flush) := ⟨.flush, rfl, rfl⟩
theorem Admissible.flushDieQuiet (rank : Nat) : Admissible.Statement (.flushDieQuiet rank) := ⟨.flushDieQuiet 0, rfl, rfl⟩
theorem Admissible.flushProgramDone (rank : Nat) : Admissible.Statement (.flushProgramDone rank) := ⟨.flushProgramDone 0, rfl, rfl⟩
theorem Admissible.flushComplete : Admissible.Statement (.flushComplete) := ⟨.flushComplete, rfl, rfl⟩
theorem Admissible.shutdown (req : Requester) : Admissible.Statement (.shutdown req) := ⟨.shutdown ({ dom := .secure } : Requester), rfl, rfl⟩
theorem Admissible.shutdownComplete : Admissible.Statement (.shutdownComplete) := ⟨.shutdownComplete, rfl, rfl⟩
theorem Admissible.maintReq (req : Requester) : Admissible.Statement (.maintReq req) := ⟨.maintReq ({ dom := .secure } : Requester), rfl, rfl⟩
theorem Admissible.maintEntry : Admissible.Statement (.maintEntry) := ⟨.maintEntry, rfl, rfl⟩
theorem Admissible.restart (req : Requester) : Admissible.Statement (.restart req) := ⟨.restart ({ dom := .secure } : Requester), rfl, rfl⟩
theorem Admissible.idleTimerExpiry : Admissible.Statement (.idleTimerExpiry) := ⟨.idleTimerExpiry, rfl, rfl⟩
theorem Admissible.quiesceAck : Admissible.Statement (.quiesceAck) := ⟨.quiesceAck, rfl, rfl⟩
theorem Admissible.quiesceLate : Admissible.Statement (.quiesceLate) := ⟨.quiesceLate, rfl, rfl⟩
theorem Admissible.wake (cause : WakeCause) : Admissible.Statement (.wake cause) := ⟨.wake .work, rfl, rfl⟩
theorem Admissible.workTimerExpiry : Admissible.Statement (.workTimerExpiry) := ⟨.workTimerExpiry, rfl, rfl⟩
theorem Admissible.patrolTimerExpiry : Admissible.Statement (.patrolTimerExpiry) := ⟨.patrolTimerExpiry, rfl, rfl⟩
theorem Admissible.patrolEntryComplete : Admissible.Statement (.patrolEntryComplete) := ⟨.patrolEntryComplete, rfl, rfl⟩
theorem Admissible.patrolWake (results : List (Option Nat)) : Admissible.Statement (.patrolWake results) := ⟨.patrolWake [], rfl, rfl⟩
theorem Admissible.domainStageTimeout (dom : Nat) : Admissible.Statement (.domainStageTimeout dom) := ⟨.domainStageTimeout 0, rfl, rfl⟩
theorem Admissible.domainStageReady (dom : Nat) : Admissible.Statement (.domainStageReady dom) := ⟨.domainStageReady 0, rfl, rfl⟩
theorem Admissible.enSet (req : Requester) (ty : Nat) (inst : Nat) : Admissible.Statement (.enSet req ty inst) := ⟨.enSet ({ dom := .secure } : Requester) 1 0, rfl, rfl⟩
theorem Admissible.enClear (req : Requester) (ty : Nat) (inst : Nat) : Admissible.Statement (.enClear req ty inst) := ⟨.enClear ({ dom := .secure } : Requester) 1 0, rfl, rfl⟩
theorem Admissible.drain (req : Requester) (ty : Nat) (inst : Nat) : Admissible.Statement (.drain req ty inst) := ⟨.drain ({ dom := .secure } : Requester) 1 0, rfl, rfl⟩
theorem Admissible.srst (req : Requester) (ty : Nat) (inst : Nat) : Admissible.Statement (.srst req ty inst) := ⟨.srst ({ dom := .secure } : Requester) 1 0, rfl, rfl⟩
theorem Admissible.lock (req : Requester) (ty : Nat) (inst : Nat) : Admissible.Statement (.lock req ty inst) := ⟨.lock ({ dom := .secure } : Requester) 1 0, rfl, rfl⟩
theorem Admissible.startupComplete (ty : Nat) (inst : Nat) : Admissible.Statement (.startupComplete ty inst) := ⟨.startupComplete 1 0, rfl, rfl⟩
theorem Admissible.drainComplete (ty : Nat) (inst : Nat) : Admissible.Statement (.drainComplete ty inst) := ⟨.drainComplete 1 0, rfl, rfl⟩
theorem Admissible.ownerWrite (req : Requester) (ty : Nat) (inst : Nat) (value : W32) : Admissible.Statement (.ownerWrite req ty inst value) := ⟨.ownerWrite ({ dom := .secure } : Requester) 1 0 0#32, rfl, rfl⟩
theorem Admissible.injArm (req : Requester) (ty : Nat) (inst : Nat) (value : W32) : Admissible.Statement (.injArm req ty inst value) := ⟨.injArm ({ dom := .secure } : Requester) 1 0 0#32, rfl, rfl⟩
theorem Admissible.injDone (ty : Nat) (word : PageWord) : Admissible.Statement (.injDone ty word) := ⟨.injDone 1 ⟨0, 0⟩, rfl, rfl⟩
theorem Admissible.registerWrite (req : Requester) (place : SpaceAddr) (size : Nat) (value : W64) : Admissible.Statement (.registerWrite req place size value) := ⟨.registerWrite ({ dom := .secure } : Requester) ⟨.view, 0⟩ 1 0#64, rfl, rfl⟩
theorem Admissible.memberSelWrite (req : Requester) (ty : Nat) (value : W32) : Admissible.Statement (.memberSelWrite req ty value) := ⟨.memberSelWrite ({ dom := .secure } : Requester) 1 0#32, rfl, rfl⟩
theorem Admissible.bar2Access (write : Bool) (addr : Nat) (size : Nat) (value : W64) : Admissible.Statement (.bar2Access write addr size value) := ⟨.bar2Access false 0 1 0#64, rfl, rfl⟩
theorem Admissible.proxyTimeout : Admissible.Statement (.proxyTimeout) := ⟨.proxyTimeout, rfl, rfl⟩
theorem Admissible.flr (fn : Fn) : Admissible.Statement (.flr fn) := ⟨.flr .pf, rfl, rfl⟩
theorem Admissible.flrComplete (fn : Fn) : Admissible.Statement (.flrComplete fn) := ⟨.flrComplete .pf, rfl, rfl⟩
theorem Admissible.hotReset (down : Bool) : Admissible.Statement (.hotReset down) := ⟨.hotReset false, rfl, rfl⟩
theorem Admissible.bmeClear (fn : Fn) : Admissible.Statement (.bmeClear fn) := ⟨.bmeClear .pf, rfl, rfl⟩
theorem Admissible.bmeSet (fn : Fn) : Admissible.Statement (.bmeSet fn) := ⟨.bmeSet .pf, rfl, rfl⟩
theorem Admissible.mseClear (fn : Fn) : Admissible.Statement (.mseClear fn) := ⟨.mseClear .pf, rfl, rfl⟩
theorem Admissible.d3hotEntry (fn : Fn) : Admissible.Statement (.d3hotEntry fn) := ⟨.d3hotEntry .pf, rfl, rfl⟩
theorem Admissible.d0Return (fn : Fn) : Admissible.Statement (.d0Return fn) := ⟨.d0Return .pf, rfl, rfl⟩
theorem Admissible.aspmL1Entry (port : Option Nat) (sub : Nat) : Admissible.Statement (.aspmL1Entry port sub) := ⟨.aspmL1Entry none 0, rfl, rfl⟩
theorem Admissible.l0pChange (port : Option Nat) (ask : L0pAsk) : Admissible.Statement (.l0pChange port ask) := ⟨.l0pChange none (.root 0), rfl, rfl⟩
theorem Admissible.linkRetrain (req : Requester) : Admissible.Statement (.linkRetrain req) := ⟨.linkRetrain ({ dom := .secure } : Requester), rfl, rfl⟩
theorem Admissible.linkTrained (port : Option Nat) (speed : Nat) (width : Nat) (link : FlitLink) : Admissible.Statement (.linkTrained port speed width link) := ⟨.linkTrained none 0 0 ⟨false, 0, 0⟩, rfl, rfl⟩
theorem Admissible.vfEnableClear : Admissible.Statement (.vfEnableClear) := ⟨.vfEnableClear, rfl, rfl⟩
theorem Admissible.vfEnableSet (numVfs : Nat) : Admissible.Statement (.vfEnableSet numVfs) := ⟨.vfEnableSet 0, rfl, rfl⟩
theorem Admissible.vfBindWrite (req : Requester) (vf : Nat) (value : W32) : Admissible.Statement (.vfBindWrite req vf value) := ⟨.vfBindWrite ({ dom := .secure } : Requester) 1 0#32, rfl, rfl⟩
theorem Admissible.dmaReadError (q : Nat) (tag : Nat) (err : DmaError) : Admissible.Statement (.dmaReadError q tag err) := ⟨.dmaReadError 0 0 .timeout, rfl, rfl⟩
theorem Admissible.malformedCompletion (q : Nat) (tag : Nat) : Admissible.Statement (.malformedCompletion q tag) := ⟨.malformedCompletion 0 0, rfl, rfl⟩
theorem Admissible.msixUnmask (fn : Fn) (vector : Option Nat) : Admissible.Statement (.msixUnmask fn vector) := ⟨.msixUnmask .pf none, rfl, rfl⟩
theorem Admissible.forerunnerDoorbell (bits : W32) : Admissible.Statement (.forerunnerDoorbell bits) := ⟨.forerunnerDoorbell 0#32, rfl, rfl⟩
theorem Admissible.forerunnerRead (tag : Nat) : Admissible.Statement (.forerunnerRead tag) := ⟨.forerunnerRead 0, rfl, rfl⟩
theorem Admissible.forerunnerWrite (tag : Nat) : Admissible.Statement (.forerunnerWrite tag) := ⟨.forerunnerWrite 0, rfl, rfl⟩
theorem Admissible.forerunnerFlush (tag : Nat) : Admissible.Statement (.forerunnerFlush tag) := ⟨.forerunnerFlush 0, rfl, rfl⟩
theorem Admissible.forerunnerDeallocate (tag : Nat) : Admissible.Statement (.forerunnerDeallocate tag) := ⟨.forerunnerDeallocate 0, rfl, rfl⟩
theorem Admissible.forerunnerIdentify (tag : Nat) : Admissible.Statement (.forerunnerIdentify tag) := ⟨.forerunnerIdentify 0, rfl, rfl⟩
theorem Admissible.forerunnerShutdown : Admissible.Statement (.forerunnerShutdown) := ⟨.forerunnerShutdown, rfl, rfl⟩
theorem Admissible.doorbell (req : Requester) (q : Nat) (bits : W32) : Admissible.Statement (.doorbell req q bits) := ⟨.doorbell ({ dom := .secure } : Requester) 0 0#32, rfl, rfl⟩
theorem Admissible.slotWrite (req : Requester) (q : Nat) (offset : Nat) (data : List Byte) : Admissible.Statement (.slotWrite req q offset data) := ⟨.slotWrite ({ dom := .secure } : Requester) 0 0 [], rfl, rfl⟩
theorem Admissible.admitNext (qe : Nat) : Admissible.Statement (.admitNext qe) := ⟨.admitNext 0, rfl, rfl⟩
theorem Admissible.descriptorFetch (q : Nat) (tag : Nat) (list : List Desc) : Admissible.Statement (.descriptorFetch q tag list) := ⟨.descriptorFetch 0 0 [], rfl, rfl⟩
theorem Admissible.gateAdmit (gate : Nat) : Admissible.Statement (.gateAdmit gate) := ⟨.gateAdmit 0, rfl, rfl⟩
theorem Admissible.ceilingRecompute : Admissible.Statement (.ceilingRecompute) := ⟨.ceilingRecompute, rfl, rfl⟩
theorem Admissible.dataArrived (q : Nat) (tag : Nat) (sectors : List SectorIn) : Admissible.Statement (.dataArrived q tag sectors) := ⟨.dataArrived 0 0 [], rfl, rfl⟩
theorem Admissible.installWaitLines (q : Nat) (tag : Nat) : Admissible.Statement (.installWaitLines q tag) := ⟨.installWaitLines 0 0, rfl, rfl⟩
theorem Admissible.readDataWritten (q : Nat) (tag : Nat) : Admissible.Statement (.readDataWritten q tag) := ⟨.readDataWritten 0 0, rfl, rfl⟩
theorem Admissible.nop (q : Nat) (tag : Nat) : Admissible.Statement (.nop q tag) := ⟨.nop 0 0, rfl, rfl⟩
theorem Admissible.read (q : Nat) (tag : Nat) : Admissible.Statement (.read q tag) := ⟨.read 0 0, rfl, rfl⟩
theorem Admissible.write (q : Nat) (tag : Nat) : Admissible.Statement (.write q tag) := ⟨.write 0 0, rfl, rfl⟩
theorem Admissible.flushCmd (q : Nat) (tag : Nat) : Admissible.Statement (.flushCmd q tag) := ⟨.flushCmd 0 0, rfl, rfl⟩
theorem Admissible.deallocate (q : Nat) (tag : Nat) : Admissible.Statement (.deallocate q tag) := ⟨.deallocate 0 0, rfl, rfl⟩
theorem Admissible.writeZeroes (q : Nat) (tag : Nat) : Admissible.Statement (.writeZeroes q tag) := ⟨.writeZeroes 0 0, rfl, rfl⟩
theorem Admissible.verify (q : Nat) (tag : Nat) : Admissible.Statement (.verify q tag) := ⟨.verify 0 0, rfl, rfl⟩
theorem Admissible.append (q : Nat) (tag : Nat) : Admissible.Statement (.append q tag) := ⟨.append 0 0, rfl, rfl⟩
theorem Admissible.streamRead (q : Nat) (tag : Nat) : Admissible.Statement (.streamRead q tag) := ⟨.streamRead 0 0, rfl, rfl⟩
theorem Admissible.seal (q : Nat) (tag : Nat) (dst : Nat) (lost : List Nat) : Admissible.Statement (.seal q tag dst lost) := ⟨.seal 0 0 0 [], rfl, rfl⟩
theorem Admissible.streamInfo (q : Nat) (tag : Nat) : Admissible.Statement (.streamInfo q tag) := ⟨.streamInfo 0 0, rfl, rfl⟩
theorem Admissible.put (q : Nat) (tag : Nat) (name : List Byte) : Admissible.Statement (.put q tag name) := ⟨.put 0 0 [], rfl, rfl⟩
theorem Admissible.get (q : Nat) (tag : Nat) (name : List Byte) : Admissible.Statement (.get q tag name) := ⟨.get 0 0 [], rfl, rfl⟩
theorem Admissible.delete (q : Nat) (tag : Nat) (name : List Byte) : Admissible.Statement (.delete q tag name) := ⟨.delete 0 0 [], rfl, rfl⟩
theorem Admissible.stat (q : Nat) (tag : Nat) (name : List Byte) : Admissible.Statement (.stat q tag name) := ⟨.stat 0 0 [], rfl, rfl⟩
theorem Admissible.snapCreate (q : Nat) (tag : Nat) : Admissible.Statement (.snapCreate q tag) := ⟨.snapCreate 0 0, rfl, rfl⟩
theorem Admissible.snapDelete (q : Nat) (tag : Nat) : Admissible.Statement (.snapDelete q tag) := ⟨.snapDelete 0 0, rfl, rfl⟩
theorem Admissible.snapRead (q : Nat) (tag : Nat) : Admissible.Statement (.snapRead q tag) := ⟨.snapRead 0 0, rfl, rfl⟩
theorem Admissible.attest (q : Nat) (tag : Nat) (expected : List Byte) : Admissible.Statement (.attest q tag expected) := ⟨.attest 0 0 [], rfl, rfl⟩
theorem Admissible.relocate (q : Nat) (tag : Nat) (dst : Nat) (lost : List Nat) : Admissible.Statement (.relocate q tag dst lost) := ⟨.relocate 0 0 0 [], rfl, rfl⟩
theorem Admissible.abort (q : Nat) (tag : Nat) : Admissible.Statement (.abort q tag) := ⟨.abort 0 0, rfl, rfl⟩
theorem Admissible.identify (q : Nat) (tag : Nat) : Admissible.Statement (.identify q tag) := ⟨.identify 0 0, rfl, rfl⟩
theorem Admissible.updateBlock (q : Nat) (tag : Nat) (data : List Byte) (sigOk : Bool) (flashOk : Bool) : Admissible.Statement (.updateBlock q tag data sigOk flashOk) := ⟨.updateBlock 0 0 [] false false, rfl, rfl⟩
theorem Admissible.rawRead (q : Nat) (tag : Nat) (outs : List Decoded) (soft : Bool) (given : List Byte) (status : Nat) : Admissible.Statement (.rawRead q tag outs soft given status) := ⟨.rawRead 0 0 [] false [] 0, rfl, rfl⟩
theorem Admissible.rawProgram (q : Nat) (tag : Nat) (data : List Byte) (status : Nat) : Admissible.Statement (.rawProgram q tag data status) := ⟨.rawProgram 0 0 [] 0, rfl, rfl⟩
theorem Admissible.rawErase (q : Nat) (tag : Nat) (status : Nat) : Admissible.Statement (.rawErase q tag status) := ⟨.rawErase 0 0 0, rfl, rfl⟩
theorem Admissible.destage (b : Nat) (start : Nat) (count : Nat) (dst : Nat) (bad : Option Nat) : Admissible.Statement (.destage b start count dst bad) := ⟨.destage 0 0 0 0 none, rfl, rfl⟩
theorem Admissible.logUnitHoldExpiry (l : Nat) (bad : Option Nat) : Admissible.Statement (.logUnitHoldExpiry l bad) := ⟨.logUnitHoldExpiry 0 none, rfl, rfl⟩
theorem Admissible.merge (l : Nat) (dst : Nat) (lost : List Nat) : Admissible.Statement (.merge l dst lost) := ⟨.merge 0 0 [], rfl, rfl⟩
theorem Admissible.fold (dst : Nat) (lost : List Nat) : Admissible.Statement (.fold dst lost) := ⟨.fold 0 [], rfl, rfl⟩
theorem Admissible.pslcTargetRecompute : Admissible.Statement (.pslcTargetRecompute) := ⟨.pslcTargetRecompute, rfl, rfl⟩
theorem Admissible.gcCollect (dsts : List Nat) (lost : List Nat) : Admissible.Statement (.gcCollect dsts lost) := ⟨.gcCollect [] [], rfl, rfl⟩
theorem Admissible.sbAllocate (pslc : Bool) (purpose : Nat) (forHost : Bool) : Admissible.Statement (.sbAllocate pslc purpose forHost) := ⟨.sbAllocate false 0 false, rfl, rfl⟩
theorem Admissible.eraseDone (n : Nat) (out : EraseEnd) : Admissible.Statement (.eraseDone n out) := ⟨.eraseDone 0 ⟨[], 0, 0⟩, rfl, rfl⟩
theorem Admissible.patrolVisit (outs : List (Nat × Nat × Decoded)) (dsts : List Nat) (lost : List Nat) : Admissible.Statement (.patrolVisit outs dsts lost) := ⟨.patrolVisit [] [] [], rfl, rfl⟩
theorem Admissible.checkpointPass : Admissible.Statement (.checkpointPass) := ⟨.checkpointPass, rfl, rfl⟩
theorem Admissible.ckptDone : Admissible.Statement (.ckptDone) := ⟨.ckptDone, rfl, rfl⟩
theorem Admissible.format (req : Requester) (arg : Nat) (marks : List (Nat × List Nat)) : Admissible.Statement (.format req arg marks) := ⟨.format ({ dom := .secure } : Requester) 0 [], rfl, rfl⟩
theorem Admissible.channelDiscovery (ch : Nat) (found : PkgFound) : Admissible.Statement (.channelDiscovery ch found) := ⟨.channelDiscovery 0 [], rfl, rfl⟩
theorem Admissible.channelTraining (ch : Nat) : Admissible.Statement (.channelTraining ch) := ⟨.channelTraining 0, rfl, rfl⟩
theorem Admissible.trainingDone (ch : Nat) (t : Trained) : Admissible.Statement (.trainingDone ch t) := ⟨.trainingDone 0 ⟨[], 0, false, 0, [], 0, 0⟩, rfl, rfl⟩
theorem Admissible.retrain (ch : Nat) (eye : Option Nat) (t : Trained) : Admissible.Statement (.retrain ch eye t) := ⟨.retrain 0 none ⟨[], 0, false, 0, [], 0, 0⟩, rfl, rfl⟩
theorem Admissible.listSubmit (ch : Nat) (lane : Nat) (lid : Nat) (entries : List Entry) : Admissible.Statement (.listSubmit ch lane lid entries) := ⟨.listSubmit 0 0 0 [⟨0, 0, 0, 0, 0, 0, 0, 0⟩], rfl, rfl⟩
theorem Admissible.entryIssue (n : Nat) : Admissible.Statement (.entryIssue n) := ⟨.entryIssue 0, rfl, rfl⟩
theorem Admissible.entryComplete (n : Nat) (status : Nat) (value : Nat) : Admissible.Statement (.entryComplete n status value) := ⟨.entryComplete 0 0 0, rfl, rfl⟩
theorem Admissible.entryTimeout (n : Nat) : Admissible.Statement (.entryTimeout n) := ⟨.entryTimeout 0, rfl, rfl⟩
theorem Admissible.dieResetDone (n : Nat) (ident : List Byte) : Admissible.Statement (.dieResetDone n ident) := ⟨.dieResetDone 0 [], rfl, rfl⟩
theorem Admissible.dieResetTimeout (n : Nat) : Admissible.Statement (.dieResetTimeout n) := ⟨.dieResetTimeout 0, rfl, rfl⟩
theorem Admissible.suspend (n : Nat) : Admissible.Statement (.suspend n) := ⟨.suspend 0, rfl, rfl⟩
theorem Admissible.resume (n : Nat) : Admissible.Statement (.resume n) := ⟨.resume 0, rfl, rfl⟩
theorem Admissible.hardDecode (q : Nat) (tag : Nat) (idx : Nat) (out : Decoded) : Admissible.Statement (.hardDecode q tag idx out) := ⟨.hardDecode 0 0 0 .erased, rfl, rfl⟩
theorem Admissible.softDecode (q : Nat) (tag : Nat) (idx : Nat) (out : Decoded) : Admissible.Statement (.softDecode q tag idx out) := ⟨.softDecode 0 0 0 .erased, rfl, rfl⟩
theorem Admissible.readRetry (q : Nat) (tag : Nat) (idx : Nat) (out : Decoded) : Admissible.Statement (.readRetry q tag idx out) := ⟨.readRetry 0 0 0 .erased, rfl, rfl⟩
theorem Admissible.degradedRead (q : Nat) (tag : Nat) (idx : Nat) (unav : List Nat) (mismatch : Bool) : Admissible.Statement (.degradedRead q tag idx unav mismatch) := ⟨.degradedRead 0 0 0 [] false, rfl, rfl⟩
theorem Admissible.sramCorrected (region : Nat) (word : Nat) (symbol : Nat) (bits : Nat) (port : Nat) : Admissible.Statement (.sramCorrected region word symbol bits port) := ⟨.sramCorrected 0 0 0 0 0, rfl, rfl⟩
theorem Admissible.sramUncorrectable (region : Nat) (word : Nat) (upset : Nat) (port : Nat) (unit : Nat) (idx : Nat) (again : Bool) : Admissible.Statement (.sramUncorrectable region word upset port unit idx again) := ⟨.sramUncorrectable 0 0 0 0 0 0 false, rfl, rfl⟩
theorem Admissible.scrubPass (hits : List ScrubHit) : Admissible.Statement (.scrubPass hits) := ⟨.scrubPass [], rfl, rfl⟩
theorem Admissible.mergeBufferTimeout (word : Nat) (upset : Nat) : Admissible.Statement (.mergeBufferTimeout word upset) := ⟨.mergeBufferTimeout 0 0, rfl, rfl⟩
theorem Admissible.regionCodeWrite (req : Requester) (region : Nat) (code : Nat) : Admissible.Statement (.regionCodeWrite req region code) := ⟨.regionCodeWrite ({ dom := .secure } : Requester) 0 0, rfl, rfl⟩
theorem Admissible.logRowParity (l : Nat) (row : Nat) (res : Parity) : Admissible.Statement (.logRowParity l row res) := ⟨.logRowParity 0 0 .ok, rfl, rfl⟩
theorem Admissible.rowCloseTimeout (l : Nat) (res : Parity) : Admissible.Statement (.rowCloseTimeout l res) := ⟨.rowCloseTimeout 0 .ok, rfl, rfl⟩
theorem Admissible.journalPageWrite (a : Nat) (b : Nat) : Admissible.Statement (.journalPageWrite a b) := ⟨.journalPageWrite 0 0, rfl, rfl⟩
theorem Admissible.journalCopyRestore (n : Nat) : Admissible.Statement (.journalCopyRestore n) := ⟨.journalCopyRestore 0, rfl, rfl⟩
theorem Admissible.rebuildRelocate (dst : Nat) (lost : List Nat) : Admissible.Statement (.rebuildRelocate dst lost) := ⟨.rebuildRelocate 0 [], rfl, rfl⟩
theorem Admissible.reshapeStart (req : Requester) (value : W32) : Admissible.Statement (.reshapeStart req value) := ⟨.reshapeStart ({ dom := .secure } : Requester) 0#32, rfl, rfl⟩
theorem Admissible.reshapeStep : Admissible.Statement (.reshapeStep) := ⟨.reshapeStep, rfl, rfl⟩
theorem Admissible.reshapePause : Admissible.Statement (.reshapePause) := ⟨.reshapePause, rfl, rfl⟩
theorem Admissible.flushDieChoice : Admissible.Statement (.flushDieChoice) := ⟨.flushDieChoice, rfl, rfl⟩
theorem Admissible.reservedRotation (bad : List Nat) : Admissible.Statement (.reservedRotation bad) := ⟨.reservedRotation [], rfl, rfl⟩
theorem Admissible.cacheSizeWrite (req : Requester) (value : W32) : Admissible.Statement (.cacheSizeWrite req value) := ⟨.cacheSizeWrite ({ dom := .secure } : Requester) 0#32, rfl, rfl⟩
theorem Admissible.cacheShrinkDone : Admissible.Statement (.cacheShrinkDone) := ⟨.cacheShrinkDone, rfl, rfl⟩
theorem Admissible.flushRetired (seq : Nat) : Admissible.Statement (.flushRetired seq) := ⟨.flushRetired 0, rfl, rfl⟩
theorem Admissible.forcePfail (req : Requester) : Admissible.Statement (.forcePfail req) := ⟨.forcePfail ({ dom := .secure } : Requester), rfl, rfl⟩
theorem Admissible.forceCut (req : Requester) : Admissible.Statement (.forceCut req) := ⟨.forceCut ({ dom := .secure } : Requester), rfl, rfl⟩
theorem Admissible.provCreate (req : Requester) (kind : Nat) : Admissible.Statement (.provCreate req kind) := ⟨.provCreate ({ dom := .secure } : Requester) 0, rfl, rfl⟩
theorem Admissible.provDelete (req : Requester) (kind : Nat) : Admissible.Statement (.provDelete req kind) := ⟨.provDelete ({ dom := .secure } : Requester) 0, rfl, rfl⟩
theorem Admissible.provLoad (req : Requester) (kind : Nat) : Admissible.Statement (.provLoad req kind) := ⟨.provLoad ({ dom := .secure } : Requester) 0, rfl, rfl⟩
theorem Admissible.provModify (req : Requester) (kind : Nat) : Admissible.Statement (.provModify req kind) := ⟨.provModify ({ dom := .secure } : Requester) 0, rfl, rfl⟩
theorem Admissible.compaction (ns : Nat) (band : Nat) (lost : List Nat) : Admissible.Statement (.compaction ns band lost) := ⟨.compaction 0 0 [], rfl, rfl⟩
theorem Admissible.grantSet (req : Requester) (tint : Nat) : Admissible.Statement (.grantSet req tint) := ⟨.grantSet ({ dom := .secure } : Requester) 0, rfl, rfl⟩
theorem Admissible.grantRemove (req : Requester) (tint : Nat) : Admissible.Statement (.grantRemove req tint) := ⟨.grantRemove ({ dom := .secure } : Requester) 0, rfl, rfl⟩
theorem Admissible.grantLookup (req : Requester) (tint : Nat) : Admissible.Statement (.grantLookup req tint) := ⟨.grantLookup ({ dom := .secure } : Requester) 0, rfl, rfl⟩
theorem Admissible.keyRefWrite (req : Requester) (tint : Nat) (n : Nat) (value : W32) : Admissible.Statement (.keyRefWrite req tint n value) := ⟨.keyRefWrite ({ dom := .secure } : Requester) 0 0 0#32, rfl, rfl⟩
theorem Admissible.portReset (port : Nat) (cause : Nat) : Admissible.Statement (.portReset port cause) := ⟨.portReset 0 0, rfl, rfl⟩
theorem Admissible.tpPerstRise (port : Nat) : Admissible.Statement (.tpPerstRise port) := ⟨.tpPerstRise 0, rfl, rfl⟩
theorem Admissible.tpBindWrite (req : Requester) (port : Nat) (value : W32) : Admissible.Statement (.tpBindWrite req port value) := ⟨.tpBindWrite ({ dom := .secure } : Requester) 0 0#32, rfl, rfl⟩
theorem Admissible.pushFrame (port : Nat) (queue : Nat) (tag : Nat) (flags : Nat) (rsv : Nat) (len : Nat) (offset : Nat) (bad : Bool) (payload : List Byte) : Admissible.Statement (.pushFrame port queue tag flags rsv len offset bad payload) := ⟨.pushFrame 0 0 0 0 0 0 0 false [], rfl, rfl⟩
theorem Admissible.flDetectTimeout (n : Nat) : Admissible.Statement (.flDetectTimeout n) := ⟨.flDetectTimeout 0, rfl, rfl⟩
theorem Admissible.flProbe (n : Nat) (found : Bool) : Admissible.Statement (.flProbe n found) := ⟨.flProbe 0 false, rfl, rfl⟩
theorem Admissible.flTrained (n : Nat) (width : Nat) : Admissible.Statement (.flTrained n width) := ⟨.flTrained 0 0, rfl, rfl⟩
theorem Admissible.flTrainTimeout (n : Nat) : Admissible.Statement (.flTrainTimeout n) := ⟨.flTrainTimeout 0, rfl, rfl⟩
theorem Admissible.flLinkDown (n : Nat) : Admissible.Statement (.flLinkDown n) := ⟨.flLinkDown 0, rfl, rfl⟩
theorem Admissible.flTerminationLost (n : Nat) : Admissible.Statement (.flTerminationLost n) := ⟨.flTerminationLost 0, rfl, rfl⟩
theorem Admissible.flRetrain (req : Requester) (n : Nat) : Admissible.Statement (.flRetrain req n) := ⟨.flRetrain ({ dom := .secure } : Requester) 0, rfl, rfl⟩
theorem Admissible.forceLinkLoss (req : Requester) (n : Nat) (on : Bool) : Admissible.Statement (.forceLinkLoss req n on) := ⟨.forceLinkLoss ({ dom := .secure } : Requester) 0 false, rfl, rfl⟩
theorem Admissible.hello (h : MsgHdr) (x : HelloId) : Admissible.Statement (.hello h x) := ⟨.hello ⟨0, 0, 0, 0, 0, 0⟩ ⟨0, 0, 0, 0, 0, 0, 0, 0, 0, 0, false, 0, 0⟩, rfl, rfl⟩
theorem Admissible.authHello (ask : AuthAsk) : Admissible.Statement (.authHello ask) := ⟨.authHello ⟨⟨0, 0, 0, 0, 0, 0⟩, 0⟩, rfl, rfl⟩
theorem Admissible.authChallenge (h : MsgHdr) : Admissible.Statement (.authChallenge h) := ⟨.authChallenge ⟨0, 0, 0, 0, 0, 0⟩, rfl, rfl⟩
theorem Admissible.authResponse (h : MsgHdr) (serial : Nat) (proto : Nat) (ok : Bool) : Admissible.Statement (.authResponse h serial proto ok) := ⟨.authResponse ⟨0, 0, 0, 0, 0, 0⟩ 0 0 false, rfl, rfl⟩
theorem Admissible.memberUpdate (h : MsgHdr) (entries : List (Nat × Nat)) : Admissible.Statement (.memberUpdate h entries) := ⟨.memberUpdate ⟨0, 0, 0, 0, 0, 0⟩ [], rfl, rfl⟩
theorem Admissible.heartbeat (h : MsgHdr) (time : Nat) (mode : Nat) : Admissible.Statement (.heartbeat h time mode) := ⟨.heartbeat ⟨0, 0, 0, 0, 0, 0⟩ 0 0, rfl, rfl⟩
theorem Admissible.heartbeatTimer : Admissible.Statement (.heartbeatTimer) := ⟨.heartbeatTimer, rfl, rfl⟩
theorem Admissible.heartbeatLoss (n : Nat) : Admissible.Statement (.heartbeatLoss n) := ⟨.heartbeatLoss 0, rfl, rfl⟩
theorem Admissible.linkState (h : MsgHdr) (mask : Nat) : Admissible.Statement (.linkState h mask) := ⟨.linkState ⟨0, 0, 0, 0, 0, 0⟩ 0, rfl, rfl⟩
theorem Admissible.messageRetryTimeout (seq : Nat) : Admissible.Statement (.messageRetryTimeout seq) := ⟨.messageRetryTimeout 0, rfl, rfl⟩
theorem Admissible.barrier (req : Requester) : Admissible.Statement (.barrier req) := ⟨.barrier ({ dom := .secure } : Requester), rfl, rfl⟩
theorem Admissible.broadcast (req : Requester) : Admissible.Statement (.broadcast req) := ⟨.broadcast ({ dom := .secure } : Requester), rfl, rfl⟩
theorem Admissible.immediateTimeSync (req : Requester) : Admissible.Statement (.immediateTimeSync req) := ⟨.immediateTimeSync ({ dom := .secure } : Requester), rfl, rfl⟩
theorem Admissible.barrierArrive (h : MsgHdr) (id : Nat) (count : Nat) : Admissible.Statement (.barrierArrive h id count) := ⟨.barrierArrive ⟨0, 0, 0, 0, 0, 0⟩ 0 0, rfl, rfl⟩
theorem Admissible.barrierRelease (h : MsgHdr) (id : Nat) : Admissible.Statement (.barrierRelease h id) := ⟨.barrierRelease ⟨0, 0, 0, 0, 0, 0⟩ 0, rfl, rfl⟩
theorem Admissible.bcast (h : MsgHdr) (id : Nat) (kind : Nat) (words : List Nat) : Admissible.Statement (.bcast h id kind words) := ⟨.bcast ⟨0, 0, 0, 0, 0, 0⟩ 0 0 [], rfl, rfl⟩
theorem Admissible.bcastAck (h : MsgHdr) (id : Nat) (count : Nat) (result : Nat) : Admissible.Statement (.bcastAck h id count result) := ⟨.bcastAck ⟨0, 0, 0, 0, 0, 0⟩ 0 0 0, rfl, rfl⟩
theorem Admissible.snapPrepare (h : MsgHdr) (vol : Nat) (id : Nat) (reqId : Nat) (tint : Nat) (q : Nat) (tag : Nat) : Admissible.Statement (.snapPrepare h vol id reqId tint q tag) := ⟨.snapPrepare ⟨0, 0, 0, 0, 0, 0⟩ 0 0 0 0 0 0, rfl, rfl⟩
theorem Admissible.snapHeld (h : MsgHdr) (id : Nat) (count : Nat) (result : Nat) : Admissible.Statement (.snapHeld h id count result) := ⟨.snapHeld ⟨0, 0, 0, 0, 0, 0⟩ 0 0 0, rfl, rfl⟩
theorem Admissible.snapCommit (h : MsgHdr) (vol : Nat) (id : Nat) (cal : Nat) : Admissible.Statement (.snapCommit h vol id cal) := ⟨.snapCommit ⟨0, 0, 0, 0, 0, 0⟩ 0 0 0, rfl, rfl⟩
theorem Admissible.snapDone (h : MsgHdr) (id : Nat) (count : Nat) (result : Nat) (q : Nat) (tag : Nat) : Admissible.Statement (.snapDone h id count result q tag) := ⟨.snapDone ⟨0, 0, 0, 0, 0, 0⟩ 0 0 0 0 0, rfl, rfl⟩
theorem Admissible.snapAbort (h : MsgHdr) (vol : Nat) (id : Nat) : Admissible.Statement (.snapAbort h vol id) := ⟨.snapAbort ⟨0, 0, 0, 0, 0, 0⟩ 0 0, rfl, rfl⟩
theorem Admissible.timeSyncTimer : Admissible.Statement (.timeSyncTimer) := ⟨.timeSyncTimer, rfl, rfl⟩
theorem Admissible.timeSync (h : MsgHdr) (tHead : Nat) (corr : Nat) (seq : Nat) : Admissible.Statement (.timeSync h tHead corr seq) := ⟨.timeSync ⟨0, 0, 0, 0, 0, 0⟩ 0 0 0, rfl, rfl⟩
theorem Admissible.timeEcho (h : MsgHdr) (t1 : Nat) (t2 : Nat) (t3 : Nat) : Admissible.Statement (.timeEcho h t1 t2 t3) := ⟨.timeEcho ⟨0, 0, 0, 0, 0, 0⟩ 0 0 0, rfl, rfl⟩
theorem Admissible.fabricReset (req : Requester) : Admissible.Statement (.fabricReset req) := ⟨.fabricReset ({ dom := .secure } : Requester), rfl, rfl⟩
theorem Admissible.resetPrepare (h : MsgHdr) (id : Nat) : Admissible.Statement (.resetPrepare h id) := ⟨.resetPrepare ⟨0, 0, 0, 0, 0, 0⟩ 0, rfl, rfl⟩
theorem Admissible.resetReady (h : MsgHdr) (id : Nat) (count : Nat) : Admissible.Statement (.resetReady h id count) := ⟨.resetReady ⟨0, 0, 0, 0, 0, 0⟩ 0 0, rfl, rfl⟩
theorem Admissible.resetAt (h : MsgHdr) (id : Nat) (tReset : Nat) : Admissible.Statement (.resetAt h id tReset) := ⟨.resetAt ⟨0, 0, 0, 0, 0, 0⟩ 0 0, rfl, rfl⟩
theorem Admissible.fabricResetTime : Admissible.Statement (.fabricResetTime) := ⟨.fabricResetTime, rfl, rfl⟩
theorem Admissible.resetReadyTimeout : Admissible.Statement (.resetReadyTimeout) := ⟨.resetReadyTimeout, rfl, rfl⟩
theorem Admissible.stripeWrite (h : MsgHdr) (vol : Nat) (stripe : Nat) (first : Nat) (xid : Nat) (secs : List SectorIn) : Admissible.Statement (.stripeWrite h vol stripe first xid secs) := ⟨.stripeWrite ⟨0, 0, 0, 0, 0, 0⟩ 0 0 0 0 [], rfl, rfl⟩
theorem Admissible.stripeAck (h : MsgHdr) (xid : Nat) (status : Nat) (detail : Nat) : Admissible.Statement (.stripeAck h xid status detail) := ⟨.stripeAck ⟨0, 0, 0, 0, 0, 0⟩ 0 0 0, rfl, rfl⟩
theorem Admissible.shardWrite (h : MsgHdr) (vol : Nat) (shard : Nat) (stripe : Nat) (first : Nat) (wseq : Nat) (secs : List SectorIn) : Admissible.Statement (.shardWrite h vol shard stripe first wseq secs) := ⟨.shardWrite ⟨0, 0, 0, 0, 0, 0⟩ 0 0 0 0 0 [], rfl, rfl⟩
theorem Admissible.shardAck (h : MsgHdr) (vol : Nat) (shard : Nat) (status : Nat) (stripe : Nat) (wseq : Nat) : Admissible.Statement (.shardAck h vol shard status stripe wseq) := ⟨.shardAck ⟨0, 0, 0, 0, 0, 0⟩ 0 0 0 0 0, rfl, rfl⟩
theorem Admissible.shardRead (h : MsgHdr) (vol : Nat) (shard : Nat) (stripe : Nat) (first : Nat) (count : Nat) (replyTo : Nat) (xid : Nat) (snap : Nat) : Admissible.Statement (.shardRead h vol shard stripe first count replyTo xid snap) := ⟨.shardRead ⟨0, 0, 0, 0, 0, 0⟩ 0 0 0 0 0 0 0 0, rfl, rfl⟩
theorem Admissible.shardData (h : MsgHdr) (xid : Nat) (status : Nat) (secs : List SectorIn) : Admissible.Statement (.shardData h xid status secs) := ⟨.shardData ⟨0, 0, 0, 0, 0, 0⟩ 0 0 [], rfl, rfl⟩
theorem Admissible.jnlMirror (h : MsgHdr) (x : StripeRec) (secs : List SectorIn) : Admissible.Statement (.jnlMirror h x secs) := ⟨.jnlMirror ⟨0, 0, 0, 0, 0, 0⟩ ⟨0, 0, 0, 0, 0, 0, 0, 0, 0, 0, 0⟩ [], rfl, rfl⟩
theorem Admissible.jnlAck (h : MsgHdr) (jseq : Nat) : Admissible.Statement (.jnlAck h jseq) := ⟨.jnlAck ⟨0, 0, 0, 0, 0, 0⟩ 0, rfl, rfl⟩
theorem Admissible.proxyRd (h : MsgHdr) (offset : Nat) (size : Nat) (xid : Nat) : Admissible.Statement (.proxyRd h offset size xid) := ⟨.proxyRd ⟨0, 0, 0, 0, 0, 0⟩ 0 1 0, rfl, rfl⟩
theorem Admissible.proxyWr (h : MsgHdr) (offset : Nat) (size : Nat) (data : W64) : Admissible.Statement (.proxyWr h offset size data) := ⟨.proxyWr ⟨0, 0, 0, 0, 0, 0⟩ 0 1 0#64, rfl, rfl⟩
theorem Admissible.proxyRsp (h : MsgHdr) (xid : Nat) (data : W64) : Admissible.Statement (.proxyRsp h xid data) := ⟨.proxyRsp ⟨0, 0, 0, 0, 0, 0⟩ 0 0#64, rfl, rfl⟩
theorem Admissible.resync (member : Nat) (key : Nat) (parts : List (Nat × Nat × List (Nat × SectorIn))) : Admissible.Statement (.resync member key parts) := ⟨.resync 0 0 [], rfl, rfl⟩
theorem Admissible.rejoin (req : Requester) : Admissible.Statement (.rejoin req) := ⟨.rejoin ({ dom := .secure } : Requester), rfl, rfl⟩
theorem Admissible.evict (req : Requester) (id : Nat) : Admissible.Statement (.evict req id) := ⟨.evict ({ dom := .secure } : Requester) 0, rfl, rfl⟩
theorem Admissible.fabricReshapeStart (req : Requester) (value : W32) : Admissible.Statement (.fabricReshapeStart req value) := ⟨.fabricReshapeStart ({ dom := .secure } : Requester) 0#32, rfl, rfl⟩
theorem Admissible.fabricReshapeCopy (quota : Bool) (secs : List (Nat × SectorIn)) : Admissible.Statement (.fabricReshapeCopy quota secs) := ⟨.fabricReshapeCopy false [], rfl, rfl⟩
theorem Admissible.fabricReshapePause (space : Bool) : Admissible.Statement (.fabricReshapePause space) := ⟨.fabricReshapePause false, rfl, rfl⟩
theorem Admissible.cipherJobGrant (group : Nat) (job : Option CipherJob) : Admissible.Statement (.cipherJobGrant group job) := ⟨.cipherJobGrant 0 none, rfl, rfl⟩
theorem Admissible.cipherJobDone (lane : Nat) : Admissible.Statement (.cipherJobDone lane) := ⟨.cipherJobDone 0, rfl, rfl⟩
theorem Admissible.keyLoad (req : Requester) : Admissible.Statement (.keyLoad req) := ⟨.keyLoad ({ dom := .secure } : Requester), rfl, rfl⟩
theorem Admissible.derive (req : Requester) : Admissible.Statement (.derive req) := ⟨.derive ({ dom := .secure } : Requester), rfl, rfl⟩
theorem Admissible.unwrap (req : Requester) (blob : List Byte) : Admissible.Statement (.unwrap req blob) := ⟨.unwrap ({ dom := .secure } : Requester) (List.replicate 224 0#8), rfl, by decide +kernel⟩
theorem Admissible.roll (req : Requester) : Admissible.Statement (.roll req) := ⟨.roll ({ dom := .secure } : Requester), rfl, rfl⟩
theorem Admissible.keyErase (req : Requester) : Admissible.Statement (.keyErase req) := ⟨.keyErase ({ dom := .secure } : Requester), rfl, rfl⟩
theorem Admissible.eraseAll (req : Requester) : Admissible.Statement (.eraseAll req) := ⟨.eraseAll ({ dom := .secure } : Requester), rfl, rfl⟩
theorem Admissible.resealDone (slot : Nat) : Admissible.Statement (.resealDone slot) := ⟨.resealDone 0, rfl, rfl⟩
theorem Admissible.drbgReseed : Admissible.Statement (.drbgReseed) := ⟨.drbgReseed, rfl, rfl⟩
theorem Admissible.healthFail (apt : Bool) (samples : Nat) : Admissible.Statement (.healthFail apt samples) := ⟨.healthFail false 0, rfl, rfl⟩
theorem Admissible.forceAlarm (req : Requester) : Admissible.Statement (.forceAlarm req) := ⟨.forceAlarm ({ dom := .secure } : Requester), rfl, rfl⟩
theorem Admissible.laneFault (lane : Nat) : Admissible.Statement (.laneFault lane) := ⟨.laneFault 0, rfl, rfl⟩
theorem Admissible.secOpen (req : Requester) (alg : Nat) (key : Nat) (out : Nat) (compose : Bool) : Admissible.Statement (.secOpen req alg key out compose) := ⟨.secOpen ({ dom := .secure } : Requester) 0 0 0 false, rfl, rfl⟩
theorem Admissible.secUpdate (req : Requester) (bytes : List Byte) : Admissible.Statement (.secUpdate req bytes) := ⟨.secUpdate ({ dom := .secure } : Requester) [], rfl, rfl⟩
theorem Admissible.secFinal (req : Requester) (expected : List Byte) : Admissible.Statement (.secFinal req expected) := ⟨.secFinal ({ dom := .secure } : Requester) [], rfl, rfl⟩
theorem Admissible.secAbort (req : Requester) : Admissible.Statement (.secAbort req) := ⟨.secAbort ({ dom := .secure } : Requester), rfl, rfl⟩
theorem Admissible.digestContextGrant : Admissible.Statement (.digestContextGrant) := ⟨.digestContextGrant, rfl, rfl⟩
theorem Admissible.digestBlock : Admissible.Statement (.digestBlock) := ⟨.digestBlock, rfl, rfl⟩
theorem Admissible.digestCleared (what : DigClear) : Admissible.Statement (.digestCleared what) := ⟨.digestCleared .bus, rfl, rfl⟩
theorem Admissible.loopSample (power : Nat) (readLat : List Nat) (edge : Nat) : Admissible.Statement (.loopSample power readLat edge) := ⟨.loopSample 0 [] 0, rfl, rfl⟩
theorem Admissible.loopCommit (req : Requester) (n : Nat) : Admissible.Statement (.loopCommit req n) := ⟨.loopCommit ({ dom := .secure } : Requester) 0, rfl, rfl⟩
theorem Admissible.delayClr (req : Requester) (n : Nat) : Admissible.Statement (.delayClr req n) := ⟨.delayClr ({ dom := .secure } : Requester) 0, rfl, rfl⟩
theorem Admissible.loopMemUncorr (n : Nat) : Admissible.Statement (.loopMemUncorr n) := ⟨.loopMemUncorr 0, rfl, rfl⟩
theorem Admissible.traceArm (req : Requester) (b : Nat) : Admissible.Statement (.traceArm req b) := ⟨.traceArm ({ dom := .secure } : Requester) 0, rfl, rfl⟩
theorem Admissible.traceFire (req : Requester) (b : Nat) : Admissible.Statement (.traceFire req b) := ⟨.traceFire ({ dom := .secure } : Requester) 0, rfl, rfl⟩
theorem Admissible.traceStop (req : Requester) (b : Nat) : Admissible.Statement (.traceStop req b) := ⟨.traceStop ({ dom := .secure } : Requester) 0, rfl, rfl⟩
theorem Admissible.flashProgram (req : Requester) (offset : Nat) (words : List W32) : Admissible.Statement (.flashProgram req offset words) := ⟨.flashProgram ({ dom := .secure } : Requester) 0 [], rfl, rfl⟩
theorem Admissible.flashErase (req : Requester) (addr : Nat) : Admissible.Statement (.flashErase req addr) := ⟨.flashErase ({ dom := .secure } : Requester) 0, rfl, rfl⟩
theorem Admissible.programOption (req : Requester) (offset : Nat) (words : List W32) : Admissible.Statement (.programOption req offset words) := ⟨.programOption ({ dom := .secure } : Requester) 0 [], rfl, rfl⟩
theorem Admissible.programOtp (req : Requester) (offset : Nat) (words : List W32) : Admissible.Statement (.programOtp req offset words) := ⟨.programOtp ({ dom := .secure } : Requester) 0 [], rfl, rfl⟩
theorem Admissible.flashId (req : Requester) : Admissible.Statement (.flashId req) := ⟨.flashId ({ dom := .secure } : Requester), rfl, rfl⟩
theorem Admissible.flashReadMode (req : Requester) : Admissible.Statement (.flashReadMode req) := ⟨.flashReadMode ({ dom := .secure } : Requester), rfl, rfl⟩
theorem Admissible.flashOpDone : Admissible.Statement (.flashOpDone) := ⟨.flashOpDone, rfl, rfl⟩
theorem Admissible.flashOpTimeout : Admissible.Statement (.flashOpTimeout) := ⟨.flashOpTimeout, rfl, rfl⟩
theorem Admissible.mailboxRequest (slot : Nat) (act : Nat) (ready : Bool) : Admissible.Statement (.mailboxRequest slot act ready) := ⟨.mailboxRequest 0 0 false, rfl, rfl⟩
theorem Admissible.recData (offset : Nat) (data : List Byte) : Admissible.Statement (.recData offset data) := ⟨.recData 0 [], rfl, rfl⟩
theorem Admissible.recRun (result : Nat) : Admissible.Statement (.recRun result) := ⟨.recRun 0, rfl, rfl⟩
theorem Admissible.recStatus : Admissible.Statement (.recStatus) := ⟨.recStatus, rfl, rfl⟩
theorem Admissible.block (h : MsgHdr) (data : List Byte) (sigOk : Bool) (flashOk : Bool) : Admissible.Statement (.block h data sigOk flashOk) := ⟨.block ⟨0, 0, 0, 0, 0, 0⟩ [] false false, rfl, rfl⟩
theorem Admissible.blockAck (h : MsgHdr) (status : Nat) (index : Nat) (pkg : Nat) : Admissible.Statement (.blockAck h status index pkg) := ⟨.blockAck ⟨0, 0, 0, 0, 0, 0⟩ 0 0 0, rfl, rfl⟩
theorem Admissible.report (h : MsgHdr) (status : Nat) (pkg : Nat) : Admissible.Statement (.report h status pkg) := ⟨.report ⟨0, 0, 0, 0, 0, 0⟩ 0 0, rfl, rfl⟩
theorem Admissible.applyComplete (flashBad : Option Nat) (mordant : Nat) : Admissible.Statement (.applyComplete flashBad mordant) := ⟨.applyComplete none 0, rfl, rfl⟩
theorem Admissible.updateAbort (req : Requester) : Admissible.Statement (.updateAbort req) := ⟨.updateAbort ({ dom := .secure } : Requester), rfl, rfl⟩
theorem Admissible.commit (req : Requester) : Admissible.Statement (.commit req) := ⟨.commit ({ dom := .secure } : Requester), rfl, rfl⟩
theorem Admissible.confirm (req : Requester) : Admissible.Statement (.confirm req) := ⟨.confirm ({ dom := .secure } : Requester), rfl, rfl⟩
theorem Admissible.rollback (req : Requester) : Admissible.Statement (.rollback req) := ⟨.rollback ({ dom := .secure } : Requester), rfl, rfl⟩
theorem Admissible.keyImport (req : Requester) (slot : Nat) : Admissible.Statement (.keyImport req slot) := ⟨.keyImport ({ dom := .secure } : Requester) 0, rfl, rfl⟩
theorem Admissible.importPub (req : Requester) : Admissible.Statement (.importPub req) := ⟨.importPub ({ dom := .secure } : Requester), rfl, rfl⟩
theorem Admissible.optionWrite (req : Requester) (flashOk : Bool) : Admissible.Statement (.optionWrite req flashOk) := ⟨.optionWrite ({ dom := .secure } : Requester) false, rfl, rfl⟩
theorem Admissible.otpOperator (req : Requester) (flashOk : Bool) : Admissible.Statement (.otpOperator req flashOk) := ⟨.otpOperator ({ dom := .secure } : Requester) false, rfl, rfl⟩
theorem Admissible.debugFullOff (req : Requester) (flashOk : Bool) : Admissible.Statement (.debugFullOff req flashOk) := ⟨.debugFullOff ({ dom := .secure } : Requester) false, rfl, rfl⟩
theorem Admissible.settingsSave (req : Requester) (flashOk : Bool) : Admissible.Statement (.settingsSave req flashOk) := ⟨.settingsSave ({ dom := .secure } : Requester) false, rfl, rfl⟩
theorem Admissible.settingsClear (req : Requester) (flashOk : Bool) : Admissible.Statement (.settingsClear req flashOk) := ⟨.settingsClear ({ dom := .secure } : Requester) false, rfl, rfl⟩
theorem Admissible.updPrepare (h : MsgHdr) (id : Nat) (pkg : Nat) (target : Nat) : Admissible.Statement (.updPrepare h id pkg target) := ⟨.updPrepare ⟨0, 0, 0, 0, 0, 0⟩ 0 0 0, rfl, rfl⟩
theorem Admissible.updGo (h : MsgHdr) (id : Nat) (pkg : Nat) (t : Nat) : Admissible.Statement (.updGo h id pkg t) := ⟨.updGo ⟨0, 0, 0, 0, 0, 0⟩ 0 0 0, rfl, rfl⟩
theorem Admissible.updAbort (h : MsgHdr) (id : Nat) (pkg : Nat) : Admissible.Statement (.updAbort h id pkg) := ⟨.updAbort ⟨0, 0, 0, 0, 0, 0⟩ 0 0, rfl, rfl⟩
theorem Admissible.updConfirm (h : MsgHdr) (id : Nat) (pkg : Nat) : Admissible.Statement (.updConfirm h id pkg) := ⟨.updConfirm ⟨0, 0, 0, 0, 0, 0⟩ 0 0, rfl, rfl⟩
theorem Admissible.prepareAckTimeout : Admissible.Statement (.prepareAckTimeout) := ⟨.prepareAckTimeout, rfl, rfl⟩
theorem Admissible.activationTime : Admissible.Statement (.activationTime) := ⟨.activationTime, rfl, rfl⟩
theorem Admissible.settleTimeout : Admissible.Statement (.settleTimeout) := ⟨.settleTimeout, rfl, rfl⟩
theorem Admissible.faultEvent (ty : Nat) (inst : Nat) (bit : Nat) : Admissible.Statement (.faultEvent ty inst bit) := ⟨.faultEvent 0 0 0, rfl, rfl⟩
theorem Admissible.railFault (ty : Nat) (inst : Nat) (bit : Nat) : Admissible.Statement (.railFault ty inst bit) := ⟨.railFault 0 0 0, rfl, rfl⟩
theorem Admissible.glazeRestarted : Admissible.Statement (.glazeRestarted) := ⟨.glazeRestarted, rfl, rfl⟩
theorem Admissible.svWatchdogExpiry (core : Nat) : Admissible.Statement (.svWatchdogExpiry core) := ⟨.svWatchdogExpiry 0, rfl, rfl⟩
theorem Admissible.sxWatchdogExpiry : Admissible.Statement (.sxWatchdogExpiry) := ⟨.sxWatchdogExpiry, rfl, rfl⟩
theorem Admissible.wdogKick (req : Requester) (bits : W32) : Admissible.Statement (.wdogKick req bits) := ⟨.wdogKick ({ dom := .secure } : Requester) 0#32, rfl, rfl⟩
theorem Admissible.sxKick (req : Requester) : Admissible.Statement (.sxKick req) := ⟨.sxKick ({ dom := .secure } : Requester), rfl, rfl⟩
theorem Admissible.lockstepMismatch : Admissible.Statement (.lockstepMismatch) := ⟨.lockstepMismatch, rfl, rfl⟩
theorem Admissible.forceLockstep (req : Requester) : Admissible.Statement (.forceLockstep req) := ⟨.forceLockstep ({ dom := .secure } : Requester), rfl, rfl⟩
theorem Admissible.thermalSample (t0 : Int) (t1 : Int) (t2 : Int) (t3 : Int) : Admissible.Statement (.thermalSample t0 t1 t2 t3) := ⟨.thermalSample 0 0 0 0, rfl, rfl⟩
theorem Admissible.forceTrip (req : Requester) (on : Bool) : Admissible.Statement (.forceTrip req on) := ⟨.forceTrip ({ dom := .secure } : Requester) false, rfl, rfl⟩
theorem Admissible.forceCrit (req : Requester) : Admissible.Statement (.forceCrit req) := ⟨.forceCrit ({ dom := .secure } : Requester), rfl, rfl⟩
theorem Admissible.firstClr (req : Requester) : Admissible.Statement (.firstClr req) := ⟨.firstClr ({ dom := .secure } : Requester), rfl, rfl⟩
theorem Admissible.histClr (req : Requester) : Admissible.Statement (.histClr req) := ⟨.histClr ({ dom := .secure } : Requester), rfl, rfl⟩
theorem Admissible.cntClr (req : Requester) : Admissible.Statement (.cntClr req) := ⟨.cntClr ({ dom := .secure } : Requester), rfl, rfl⟩
theorem Admissible.ovrWrite (req : Requester) (value : W32) : Admissible.Statement (.ovrWrite req value) := ⟨.ovrWrite ({ dom := .secure } : Requester) 0#32, rfl, rfl⟩
theorem Admissible.record (sev : Nat) (source : Nat) (code : Nat) (p0 : Nat) (p1 : Nat) : Admissible.Statement (.record sev source code p0 p1) := ⟨.record 0 0 0 0 0, rfl, rfl⟩
theorem Admissible.ringPageProgram (okA : Bool) (okB : Bool) : Admissible.Statement (.ringPageProgram okA okB) := ⟨.ringPageProgram false false, rfl, rfl⟩
theorem Admissible.urgentRecordTimeout : Admissible.Statement (.urgentRecordTimeout) := ⟨.urgentRecordTimeout, rfl, rfl⟩
theorem Admissible.recordHoldTimeout : Admissible.Statement (.recordHoldTimeout) := ⟨.recordHoldTimeout, rfl, rfl⟩
theorem Admissible.ringRotation (bad : List Nat) : Admissible.Statement (.ringRotation bad) := ⟨.ringRotation [], rfl, rfl⟩
theorem Admissible.posSecond : Admissible.Statement (.posSecond) := ⟨.posSecond, rfl, rfl⟩
theorem Admissible.cursorWrite (req : Requester) (value : W64) : Admissible.Statement (.cursorWrite req value) := ⟨.cursorWrite ({ dom := .secure } : Requester) 0#64, rfl, rfl⟩
theorem Admissible.viewLoaded (v : Nat) : Admissible.Statement (.viewLoaded v) := ⟨.viewLoaded 0, rfl, rfl⟩
theorem Admissible.freeze (req : Requester) (value : W32) : Admissible.Statement (.freeze req value) := ⟨.freeze ({ dom := .secure } : Requester) 0#32, rfl, rfl⟩
theorem Admissible.freezeTimeout (v : Nat) : Admissible.Statement (.freezeTimeout v) := ⟨.freezeTimeout 0, rfl, rfl⟩
theorem Admissible.hrecCmd (req : Requester) (value : W32) : Admissible.Statement (.hrecCmd req value) := ⟨.hrecCmd ({ dom := .secure } : Requester) 0#32, rfl, rfl⟩
theorem Admissible.recCntClr (req : Requester) : Admissible.Statement (.recCntClr req) := ⟨.recCntClr ({ dom := .secure } : Requester), rfl, rfl⟩
theorem Admissible.ringClr (req : Requester) : Admissible.Statement (.ringClr req) := ⟨.ringClr ({ dom := .secure } : Requester), rfl, rfl⟩
theorem Admissible.calSet (req : Requester) : Admissible.Statement (.calSet req) := ⟨.calSet ({ dom := .secure } : Requester), rfl, rfl⟩
theorem Admissible.calAlarm : Admissible.Statement (.calAlarm) := ⟨.calAlarm, rfl, rfl⟩
theorem Admissible.trimInterval : Admissible.Statement (.trimInterval) := ⟨.trimInterval, rfl, rfl⟩
theorem Admissible.calSyncTimer : Admissible.Statement (.calSyncTimer) := ⟨.calSyncTimer, rfl, rfl⟩
theorem Admissible.calSync (h : MsgHdr) (id : Nat) (sec : Nat) (sub : Nat) (flags : Nat) (t : Nat) : Admissible.Statement (.calSync h id sec sub flags t) := ⟨.calSync ⟨0, 0, 0, 0, 0, 0⟩ 0 0 0 0 0, rfl, rfl⟩
theorem Admissible.tapReset : Admissible.Statement (.tapReset) := ⟨.tapReset, rfl, rfl⟩
theorem Admissible.idcode : Admissible.Statement (.idcode) := ⟨.idcode, rfl, rfl⟩
theorem Admissible.samplePreload (cells : Nat) : Admissible.Statement (.samplePreload cells) := ⟨.samplePreload 0, rfl, rfl⟩
theorem Admissible.extest (cells : Option Nat) : Admissible.Statement (.extest cells) := ⟨.extest none, rfl, rfl⟩
theorem Admissible.highz : Admissible.Statement (.highz) := ⟨.highz, rfl, rfl⟩
theorem Admissible.bypass (code : Nat) : Admissible.Statement (.bypass code) := ⟨.bypass 0, rfl, rfl⟩
theorem Admissible.challenge : Admissible.Statement (.challenge) := ⟨.challenge, rfl, rfl⟩
theorem Admissible.authRead : Admissible.Statement (.authRead) := ⟨.authRead, rfl, rfl⟩
theorem Admissible.authPut (word : W32) : Admissible.Statement (.authPut word) := ⟨.authPut 0#32, rfl, rfl⟩
theorem Admissible.submit : Admissible.Statement (.submit) := ⟨.submit, rfl, rfl⟩
theorem Admissible.authStatus : Admissible.Statement (.authStatus) := ⟨.authStatus, rfl, rfl⟩
theorem Admissible.tokenChecked (ok : Bool) : Admissible.Statement (.tokenChecked ok) := ⟨.tokenChecked false, rfl, rfl⟩
theorem Admissible.levelExpiry : Admissible.Statement (.levelExpiry) := ⟨.levelExpiry, rfl, rfl⟩
theorem Admissible.dbgLock (req : Requester) : Admissible.Statement (.dbgLock req) := ⟨.dbgLock ({ dom := .secure } : Requester), rfl, rfl⟩
theorem Admissible.dapRead (size64 : Bool) (autoinc : Bool) (space : Nat) (addr : Nat) (bad : Option (Nat × Nat × Bool)) : Admissible.Statement (.dapRead size64 autoinc space addr bad) := ⟨.dapRead false false 0 0 none, rfl, rfl⟩
theorem Admissible.dapWrite (size64 : Bool) (autoinc : Bool) (space : Nat) (addr : Nat) (data : W64) : Admissible.Statement (.dapWrite size64 autoinc space addr data) := ⟨.dapWrite false false 0 0 0#64, rfl, rfl⟩
theorem Admissible.dapNop : Admissible.Statement (.dapNop) := ⟨.dapNop, rfl, rfl⟩
theorem Admissible.coreHalt (core : Nat) : Admissible.Statement (.coreHalt core) := ⟨.coreHalt 0, rfl, rfl⟩
theorem Admissible.coreResume (core : Nat) : Admissible.Statement (.coreResume core) := ⟨.coreResume 0, rfl, rfl⟩
theorem Admissible.coreStep (core : Nat) : Admissible.Statement (.coreStep core) := ⟨.coreStep 0, rfl, rfl⟩
theorem Admissible.breakpointHit (core : Nat) (index : Nat) : Admissible.Statement (.breakpointHit core index) := ⟨.breakpointHit 0 0, rfl, rfl⟩
theorem Admissible.watchpointHit (core : Nat) (index : Nat) : Admissible.Statement (.watchpointHit core index) := ⟨.watchpointHit 0 0, rfl, rfl⟩
theorem Admissible.xHalt (unit : Nat) : Admissible.Statement (.xHalt unit) := ⟨.xHalt 0, rfl, rfl⟩
theorem Admissible.xResume (unit : Nat) : Admissible.Statement (.xResume unit) := ⟨.xResume 0, rfl, rfl⟩
theorem Admissible.xStep (unit : Nat) : Admissible.Statement (.xStep unit) := ⟨.xStep 0, rfl, rfl⟩
theorem Admissible.xBreak (unit : Nat) (n : Nat) : Admissible.Statement (.xBreak unit n) := ⟨.xBreak 0 0, rfl, rfl⟩
theorem Admissible.read32 (addr : Nat) : Admissible.Statement (.read32 addr) := ⟨.read32 0, rfl, rfl⟩
theorem Admissible.write32 (addr : Nat) (value : W32) : Admissible.Statement (.write32 addr value) := ⟨.write32 0 0#32, rfl, rfl⟩
theorem Admissible.read64 (addr : Nat) : Admissible.Statement (.read64 addr) := ⟨.read64 0, rfl, rfl⟩
theorem Admissible.write64 (addr : Nat) (value : W64) : Admissible.Statement (.write64 addr value) := ⟨.write64 0 0#64, rfl, rfl⟩
theorem Admissible.dynamicAddressAssign (addr : Nat) : Admissible.Statement (.dynamicAddressAssign addr) := ⟨.dynamicAddressAssign 0, rfl, rfl⟩
theorem Admissible.inBandInterrupt : Admissible.Statement (.inBandInterrupt) := ⟨.inBandInterrupt, rfl, rfl⟩
theorem Admissible.ibiAccepted : Admissible.Statement (.ibiAccepted) := ⟨.ibiAccepted, rfl, rfl⟩
theorem Admissible.partnerTerminationFound (n : Nat) : Admissible.Statement (.partnerTerminationFound n) := ⟨.partnerTerminationFound 0, rfl, rfl⟩
theorem Admissible.flitCrcFail (n : Nat) : Admissible.Statement (.flitCrcFail n) := ⟨.flitCrcFail 0, rfl, rfl⟩
theorem Admissible.malformedTlp (port : Nat) (kind : Nat) (frame : Option (Nat × Nat)) : Admissible.Statement (.malformedTlp port kind frame) := ⟨.malformedTlp 0 0 none, rfl, rfl⟩
theorem Admissible.reshapeCapUpdate : Admissible.Statement (.reshapeCapUpdate) := ⟨.reshapeCapUpdate, rfl, rfl⟩
theorem Admissible.repairRelocation (n : Nat) (dsts : List Nat) (lost : List Nat) : Admissible.Statement (.repairRelocation n dsts lost) := ⟨.repairRelocation 0 [] [], rfl, rfl⟩
theorem Admissible.refRestored : Admissible.Statement (.refRestored) := ⟨.refRestored, rfl, rfl⟩
theorem Admissible.cclkSelWrite (req : Requester) (sel : Nat) : Admissible.Statement (.cclkSelWrite req sel) := ⟨.cclkSelWrite ({ dom := .secure } : Requester) 0, rfl, rfl⟩
theorem Admissible.i3cProtocolError : Admissible.Statement (.i3cProtocolError) := ⟨.i3cProtocolError, rfl, rfl⟩

end Sys2Proof.Laws
end

