-- ==== Sys2Proof/Laws/Requests.lean ====
section
/-! SUPPORT. What each operation of UPD.REQ runs (R550). -/
namespace Sys2Proof.Machine
open Sys2Proof

variable {r : Requester} {arg : Nat} {ok : Bool} {marks : List (Nat × List Nat)} {d : Dev}

theorem reqRun_glaze {op : Nat} (h : r.dom = .glaze) (h' : op ≠ 0xa) :
    Dev.reqRun r op arg ok marks d = (d.reqSaid op arg).reqEnd 4 0 := if_pos ⟨h, h'⟩
theorem reqRun_op {op : Nat} (h : r.dom ≠ .glaze) : Dev.reqRun r op arg ok marks d = Dev.reqOp r arg ok marks (d.reqSaid op arg) op :=
  if_neg (fun x => h x.1)
theorem reqRun_save : Dev.reqRun r 0xa arg ok marks d = Dev.reqOp r arg ok marks (d.reqSaid 0xa arg) 0xa :=
  if_neg (fun x => x.2 rfl)

section
variable {a b c e f g h i j k l m o : Dev → Dev}
theorem reqPick_1 : reqPick 1 a b c e f g h i j k l m o = a := rfl
theorem reqPick_2 : reqPick 2 a b c e f g h i j k l m o = b := rfl
theorem reqPick_3 : reqPick 3 a b c e f g h i j k l m o = c := rfl
theorem reqPick_4 : reqPick 4 a b c e f g h i j k l m o = e := rfl
theorem reqPick_5 : reqPick 5 a b c e f g h i j k l m o = f := rfl
theorem reqPick_6 : reqPick 6 a b c e f g h i j k l m o = g := rfl
theorem reqPick_7 : reqPick 7 a b c e f g h i j k l m o = h := rfl
theorem reqPick_8 : reqPick 8 a b c e f g h i j k l m o = i := rfl
theorem reqPick_9 : reqPick 9 a b c e f g h i j k l m o = j := rfl
theorem reqPick_10 : reqPick 10 a b c e f g h i j k l m o = k := rfl
theorem reqPick_11 : reqPick 11 a b c e f g h i j k l m o = l := rfl
theorem reqPick_12 : reqPick 12 a b c e f g h i j k l m o = m := rfl
end

theorem reqOp_a : Dev.reqOp r arg ok marks d 0xa = d.reqSettings d.settingEntries ok := by rw [Dev.reqOp, reqPick_10]
theorem reqOp_1 : Dev.reqOp r arg ok marks d 1 = d.reqAbort := by rw [Dev.reqOp, reqPick_1]
theorem reqOp_2 : Dev.reqOp r arg ok marks d 2 = d.reqCommit := by rw [Dev.reqOp, reqPick_2]
theorem reqOp_3 : Dev.reqOp r arg ok marks d 3 = d.reqConfirm := by rw [Dev.reqOp, reqPick_3]
theorem reqOp_4 : Dev.reqOp r arg ok marks d 4 = d.reqRollback := by rw [Dev.reqOp, reqPick_4]
theorem reqOp_5 : Dev.reqOp r arg ok marks d 5 = d.reqKeyImport arg := by rw [Dev.reqOp, reqPick_5]
theorem reqOp_6 : Dev.reqOp r arg ok marks d 6 = d.reqImportPub := by rw [Dev.reqOp, reqPick_6]
theorem reqOp_7 : Dev.reqOp r arg ok marks d 7 = d.reqOption ok := by rw [Dev.reqOp, reqPick_7]
theorem reqOp_8 : Dev.reqOp r arg ok marks d 8 = Dev.reqOperator r ok d := by rw [Dev.reqOp, reqPick_8]
theorem reqOp_9 : Dev.reqOp r arg ok marks d 9 = Dev.reqDebugOff r ok d := by rw [Dev.reqOp, reqPick_9]
theorem reqOp_b : Dev.reqOp r arg ok marks d 0xb = d.reqSettings [] ok := by rw [Dev.reqOp, reqPick_11]
theorem reqOp_c : Dev.reqOp r arg ok marks d 0xc = d.reqFormat arg marks := by rw [Dev.reqOp, reqPick_12]

theorem reqWrite_takes {op : Nat} (h : d.takes r .UPD 0 Reg.UPD_REQ = true) (hb : d.reqBusy = false) :
    Dev.reqWrite r op arg ok marks d = Dev.reqRun r op arg ok marks (d.taken r .UPD 0) := by
  rw [Dev.reqWrite, hb]; exact regWriteIf_takes _ h

end Sys2Proof.Machine
end

