-- ==== Sys2Proof/Laws/Scans.lean ====
section
/-! SUPPORT. A scan of the debug port outside BACKUP and FLUSH does what was shifted in (R644, R646). -/
namespace Sys2Proof.Machine
open Sys2Proof

theorem authScan_open {d : Dev} (f : Dev → Dev) (h1 : d.tapUp = true) (h2 : d.life.mode ≠ .flush) :
    d.authScan f = f { d with dbg := { d.dbg with ir := 0x20, balls := 0 } } := by
  simp only [Dev.authScan, h1, h2, Bool.not_true, Bool.false_eq_true, if_false]

theorem dapScan_open {d : Dev} (f : Dev → Dev) (h1 : d.tapUp = true) (h2 : d.life.mode ≠ .flush) (h3 : d.dbg.dapWait = false) :
    d.dapScan f = f (({ d with dbg := { d.dbg with ir := 0x21, balls := 0 } }).emit
      (.tap (dapWord d.dbg.dapSts d.dbg.dapEcho d.dbg.dapAddr d.dbg.dapData))) := by
  have hb : (d.life.mode == Mode.flush) = false := by simpa using h2
  simp only [Dev.dapScan, h1, h3, hb, Bool.not_true, Bool.or_self, Bool.false_eq_true, if_false]

end Sys2Proof.Machine
end

