-- ==== Sys2Proof/Laws/State.lean ====
section
/-! SUPPORT. Named updates of the device: each leaves every field but its own. -/
namespace Sys2Proof.Machine
open Sys2Proof

/-! ### A register store -/

@[simp] theorem setReg_life (d : Dev) (p : PT) (i off : Nat) (v : W32) : (d.setReg p i off v).life = d.life := rfl
@[simp] theorem setReg_pages (d : Dev) (p : PT) (i off : Nat) (v : W32) : (d.setReg p i off v).pages = d.pages := rfl
@[simp] theorem setReg_mem (d : Dev) (p : PT) (i off : Nat) (v : W32) : (d.setReg p i off v).mem = d.mem := rfl
@[simp] theorem setReg_fns (d : Dev) (p : PT) (i off : Nat) (v : W32) : (d.setReg p i off v).fns = d.fns := rfl
@[simp] theorem setReg_vfs (d : Dev) (p : PT) (i off : Nat) (v : W32) : (d.setReg p i off v).vfs = d.vfs := rfl
@[simp] theorem setReg_compat (d : Dev) (p : PT) (i off : Nat) (v : W32) : (d.setReg p i off v).compat = d.compat := rfl
@[simp] theorem setReg_ep (d : Dev) (p : PT) (i off : Nat) (v : W32) : (d.setReg p i off v).ep = d.ep := rfl
@[simp] theorem setReg_dbOrder (d : Dev) (p : PT) (i off : Nat) (v : W32) : (d.setReg p i off v).dbOrder = d.dbOrder := rfl
@[simp] theorem setReg_flights (d : Dev) (p : PT) (i off : Nat) (v : W32) : (d.setReg p i off v).flights = d.flights := rfl
@[simp] theorem setReg_arb (d : Dev) (p : PT) (i off : Nat) (v : W32) : (d.setReg p i off v).arb = d.arb := rfl
@[simp] theorem setReg_gates (d : Dev) (p : PT) (i off : Nat) (v : W32) : (d.setReg p i off v).gates = d.gates := rfl
@[simp] theorem setReg_tints (d : Dev) (p : PT) (i off : Nat) (v : W32) : (d.setReg p i off v).tints = d.tints := rfl
@[simp] theorem setReg_elogs (d : Dev) (p : PT) (i off : Nat) (v : W32) : (d.setReg p i off v).elogs = d.elogs := rfl
@[simp] theorem setReg_recd (d : Dev) (p : PT) (i off : Nat) (v : W32) : (d.setReg p i off v).recd = d.recd := rfl
@[simp] theorem setReg_bak (d : Dev) (p : PT) (i off : Nat) (v : W32) : (d.setReg p i off v).bak = d.bak := rfl
@[simp] theorem setReg_gateAdm (d : Dev) (p : PT) (i off : Nat) (v : W32) : (d.setReg p i off v).gateAdm = d.gateAdm := rfl
@[simp] theorem setReg_keys (d : Dev) (p : PT) (i off : Nat) (v : W32) : (d.setReg p i off v).keys = d.keys := rfl
@[simp] theorem setReg_sealedKeys (d : Dev) (p : PT) (i off : Nat) (v : W32) : (d.setReg p i off v).sealedKeys = d.sealedKeys := rfl
@[simp] theorem setReg_seals (d : Dev) (p : PT) (i off : Nat) (v : W32) : (d.setReg p i off v).seals = d.seals := rfl
@[simp] theorem setReg_reseal (d : Dev) (p : PT) (i off : Nat) (v : W32) : (d.setReg p i off v).reseal = d.reseal := rfl
@[simp] theorem setReg_cip (d : Dev) (p : PT) (i off : Nat) (v : W32) : (d.setReg p i off v).cip = d.cip := rfl
@[simp] theorem setReg_rng (d : Dev) (p : PT) (i off : Nat) (v : W32) : (d.setReg p i off v).rng = d.rng := rfl
@[simp] theorem setReg_dig (d : Dev) (p : PT) (i off : Nat) (v : W32) : (d.setReg p i off v).dig = d.dig := rfl
@[simp] theorem setReg_loops (d : Dev) (p : PT) (i off : Nat) (v : W32) : (d.setReg p i off v).loops = d.loops := rfl
@[simp] theorem setReg_traces (d : Dev) (p : PT) (i off : Nat) (v : W32) : (d.setReg p i off v).traces = d.traces := rfl
@[simp] theorem setReg_ftl (d : Dev) (p : PT) (i off : Nat) (v : W32) : (d.setReg p i off v).ftl = d.ftl := rfl
@[simp] theorem setReg_gcHeld (d : Dev) (p : PT) (i off : Nat) (v : W32) : (d.setReg p i off v).gcHeld = d.gcHeld := rfl
@[simp] theorem setReg_jobRows (d : Dev) (p : PT) (i off : Nat) (v : W32) : (d.setReg p i off v).jobRows = d.jobRows := rfl
@[simp] theorem setReg_media (d : Dev) (p : PT) (i off : Nat) (v : W32) : (d.setReg p i off v).media = d.media := rfl
@[simp] theorem setReg_lostEnts (d : Dev) (p : PT) (i off : Nat) (v : W32) : (d.setReg p i off v).lostEnts = d.lostEnts := rfl
@[simp] theorem setReg_lostSeen (d : Dev) (p : PT) (i off : Nat) (v : W32) : (d.setReg p i off v).lostSeen = d.lostSeen := rfl
@[simp] theorem setReg_dies (d : Dev) (p : PT) (i off : Nat) (v : W32) : (d.setReg p i off v).dies = d.dies := rfl
@[simp] theorem setReg_chans (d : Dev) (p : PT) (i off : Nat) (v : W32) : (d.setReg p i off v).chans = d.chans := rfl
@[simp] theorem setReg_listsDone (d : Dev) (p : PT) (i off : Nat) (v : W32) : (d.setReg p i off v).listsDone = d.listsDone := rfl
@[simp] theorem setReg_raw (d : Dev) (p : PT) (i off : Nat) (v : W32) : (d.setReg p i off v).raw = d.raw := rfl
@[simp] theorem setReg_soft (d : Dev) (p : PT) (i off : Nat) (v : W32) : (d.setReg p i off v).soft = d.soft := rfl
@[simp] theorem setReg_softFenced (d : Dev) (p : PT) (i off : Nat) (v : W32) : (d.setReg p i off v).softFenced = d.softFenced := rfl
@[simp] theorem setReg_cache (d : Dev) (p : PT) (i off : Nat) (v : W32) : (d.setReg p i off v).cache = d.cache := rfl
@[simp] theorem setReg_install (d : Dev) (p : PT) (i off : Nat) (v : W32) : (d.setReg p i off v).install = d.install := rfl
@[simp] theorem setReg_jnl (d : Dev) (p : PT) (i off : Nat) (v : W32) : (d.setReg p i off v).jnl = d.jnl := rfl
@[simp] theorem setReg_plp (d : Dev) (p : PT) (i off : Nat) (v : W32) : (d.setReg p i off v).plp = d.plp := rfl
@[simp] theorem setReg_format (d : Dev) (p : PT) (i off : Nat) (v : W32) : (d.setReg p i off v).format = d.format := rfl
@[simp] theorem setReg_firstStart (d : Dev) (p : PT) (i off : Nat) (v : W32) : (d.setReg p i off v).firstStart = d.firstStart := rfl
@[simp] theorem setReg_formatting (d : Dev) (p : PT) (i off : Nat) (v : W32) : (d.setReg p i off v).formatting = d.formatting := rfl
@[simp] theorem setReg_stores (d : Dev) (p : PT) (i off : Nat) (v : W32) : (d.setReg p i off v).stores = d.stores := rfl
@[simp] theorem setReg_grants (d : Dev) (p : PT) (i off : Nat) (v : W32) : (d.setReg p i off v).grants = d.grants := rfl
@[simp] theorem setReg_pushes (d : Dev) (p : PT) (i off : Nat) (v : W32) : (d.setReg p i off v).pushes = d.pushes := rfl
@[simp] theorem setReg_pushQs (d : Dev) (p : PT) (i off : Nat) (v : W32) : (d.setReg p i off v).pushQs = d.pushQs := rfl
@[simp] theorem setReg_pushDead (d : Dev) (p : PT) (i off : Nat) (v : W32) : (d.setReg p i off v).pushDead = d.pushDead := rfl
@[simp] theorem setReg_pushSkip (d : Dev) (p : PT) (i off : Nat) (v : W32) : (d.setReg p i off v).pushSkip = d.pushSkip := rfl
@[simp] theorem setReg_malTimes (d : Dev) (p : PT) (i off : Nat) (v : W32) : (d.setReg p i off v).malTimes = d.malTimes := rfl
@[simp] theorem setReg_tpPerst (d : Dev) (p : PT) (i off : Nat) (v : W32) : (d.setReg p i off v).tpPerst = d.tpPerst := rfl
@[simp] theorem setReg_fab (d : Dev) (p : PT) (i off : Nat) (v : W32) : (d.setReg p i off v).fab = d.fab := rfl
@[simp] theorem setReg_doms (d : Dev) (p : PT) (i off : Nat) (v : W32) : (d.setReg p i off v).doms = d.doms := rfl
@[simp] theorem setReg_sbd (d : Dev) (p : PT) (i off : Nat) (v : W32) : (d.setReg p i off v).sbd = d.sbd := rfl
@[simp] theorem setReg_flash (d : Dev) (p : PT) (i off : Nat) (v : W32) : (d.setReg p i off v).flash = d.flash := rfl
@[simp] theorem setReg_bfl (d : Dev) (p : PT) (i off : Nat) (v : W32) : (d.setReg p i off v).bfl = d.bfl := rfl
@[simp] theorem setReg_upd (d : Dev) (p : PT) (i off : Nat) (v : W32) : (d.setReg p i off v).upd = d.upd := rfl
@[simp] theorem setReg_mailbox (d : Dev) (p : PT) (i off : Nat) (v : W32) : (d.setReg p i off v).mailbox = d.mailbox := rfl
@[simp] theorem setReg_dbg (d : Dev) (p : PT) (i off : Nat) (v : W32) : (d.setReg p i off v).dbg = d.dbg := rfl
@[simp] theorem setReg_ddtGen (d : Dev) (p : PT) (i off : Nat) (v : W32) : (d.setReg p i off v).ddtGen = d.ddtGen := rfl
@[simp] theorem setReg_fltSeq (d : Dev) (p : PT) (i off : Nat) (v : W32) : (d.setReg p i off v).fltSeq = d.fltSeq := rfl
@[simp] theorem setReg_ovr (d : Dev) (p : PT) (i off : Nat) (v : W32) : (d.setReg p i off v).ovr = d.ovr := rfl
@[simp] theorem setReg_railMute (d : Dev) (p : PT) (i off : Nat) (v : W32) : (d.setReg p i off v).railMute = d.railMute := rfl
@[simp] theorem setReg_wdog (d : Dev) (p : PT) (i off : Nat) (v : W32) : (d.setReg p i off v).wdog = d.wdog := rfl
@[simp] theorem setReg_mbuf (d : Dev) (p : PT) (i off : Nat) (v : W32) : (d.setReg p i off v).mbuf = d.mbuf := rfl
@[simp] theorem setReg_sram (d : Dev) (p : PT) (i off : Nat) (v : W32) : (d.setReg p i off v).sram = d.sram := rfl
@[simp] theorem setReg_injected (d : Dev) (p : PT) (i off : Nat) (v : W32) : (d.setReg p i off v).injected = d.injected := rfl
@[simp] theorem setReg_evq (d : Dev) (p : PT) (i off : Nat) (v : W32) : (d.setReg p i off v).evq = d.evq := rfl
@[simp] theorem setReg_out (d : Dev) (p : PT) (i off : Nat) (v : W32) : (d.setReg p i off v).out = d.out := rfl
@[simp] theorem setReg_free (d : Dev) (p : PT) (i off : Nat) (v : W32) : (d.setReg p i off v).free = d.free := rfl

/-! ### A field store -/

@[simp] theorem setRegF_life (d : Dev) (p : PT) (i off lo n v : Nat) : (d.setRegF p i off lo n v).life = d.life := rfl
@[simp] theorem setRegF_pages (d : Dev) (p : PT) (i off lo n v : Nat) : (d.setRegF p i off lo n v).pages = d.pages := rfl
@[simp] theorem setRegF_mem (d : Dev) (p : PT) (i off lo n v : Nat) : (d.setRegF p i off lo n v).mem = d.mem := rfl
@[simp] theorem setRegF_fns (d : Dev) (p : PT) (i off lo n v : Nat) : (d.setRegF p i off lo n v).fns = d.fns := rfl
@[simp] theorem setRegF_vfs (d : Dev) (p : PT) (i off lo n v : Nat) : (d.setRegF p i off lo n v).vfs = d.vfs := rfl
@[simp] theorem setRegF_compat (d : Dev) (p : PT) (i off lo n v : Nat) : (d.setRegF p i off lo n v).compat = d.compat := rfl
@[simp] theorem setRegF_ep (d : Dev) (p : PT) (i off lo n v : Nat) : (d.setRegF p i off lo n v).ep = d.ep := rfl
@[simp] theorem setRegF_dbOrder (d : Dev) (p : PT) (i off lo n v : Nat) : (d.setRegF p i off lo n v).dbOrder = d.dbOrder := rfl
@[simp] theorem setRegF_flights (d : Dev) (p : PT) (i off lo n v : Nat) : (d.setRegF p i off lo n v).flights = d.flights := rfl
@[simp] theorem setRegF_arb (d : Dev) (p : PT) (i off lo n v : Nat) : (d.setRegF p i off lo n v).arb = d.arb := rfl
@[simp] theorem setRegF_gates (d : Dev) (p : PT) (i off lo n v : Nat) : (d.setRegF p i off lo n v).gates = d.gates := rfl
@[simp] theorem setRegF_tints (d : Dev) (p : PT) (i off lo n v : Nat) : (d.setRegF p i off lo n v).tints = d.tints := rfl
@[simp] theorem setRegF_elogs (d : Dev) (p : PT) (i off lo n v : Nat) : (d.setRegF p i off lo n v).elogs = d.elogs := rfl
@[simp] theorem setRegF_recd (d : Dev) (p : PT) (i off lo n v : Nat) : (d.setRegF p i off lo n v).recd = d.recd := rfl
@[simp] theorem setRegF_bak (d : Dev) (p : PT) (i off lo n v : Nat) : (d.setRegF p i off lo n v).bak = d.bak := rfl
@[simp] theorem setRegF_gateAdm (d : Dev) (p : PT) (i off lo n v : Nat) : (d.setRegF p i off lo n v).gateAdm = d.gateAdm := rfl
@[simp] theorem setRegF_keys (d : Dev) (p : PT) (i off lo n v : Nat) : (d.setRegF p i off lo n v).keys = d.keys := rfl
@[simp] theorem setRegF_sealedKeys (d : Dev) (p : PT) (i off lo n v : Nat) : (d.setRegF p i off lo n v).sealedKeys = d.sealedKeys := rfl
@[simp] theorem setRegF_seals (d : Dev) (p : PT) (i off lo n v : Nat) : (d.setRegF p i off lo n v).seals = d.seals := rfl
@[simp] theorem setRegF_reseal (d : Dev) (p : PT) (i off lo n v : Nat) : (d.setRegF p i off lo n v).reseal = d.reseal := rfl
@[simp] theorem setRegF_cip (d : Dev) (p : PT) (i off lo n v : Nat) : (d.setRegF p i off lo n v).cip = d.cip := rfl
@[simp] theorem setRegF_rng (d : Dev) (p : PT) (i off lo n v : Nat) : (d.setRegF p i off lo n v).rng = d.rng := rfl
@[simp] theorem setRegF_dig (d : Dev) (p : PT) (i off lo n v : Nat) : (d.setRegF p i off lo n v).dig = d.dig := rfl
@[simp] theorem setRegF_loops (d : Dev) (p : PT) (i off lo n v : Nat) : (d.setRegF p i off lo n v).loops = d.loops := rfl
@[simp] theorem setRegF_traces (d : Dev) (p : PT) (i off lo n v : Nat) : (d.setRegF p i off lo n v).traces = d.traces := rfl
@[simp] theorem setRegF_ftl (d : Dev) (p : PT) (i off lo n v : Nat) : (d.setRegF p i off lo n v).ftl = d.ftl := rfl
@[simp] theorem setRegF_gcHeld (d : Dev) (p : PT) (i off lo n v : Nat) : (d.setRegF p i off lo n v).gcHeld = d.gcHeld := rfl
@[simp] theorem setRegF_jobRows (d : Dev) (p : PT) (i off lo n v : Nat) : (d.setRegF p i off lo n v).jobRows = d.jobRows := rfl
@[simp] theorem setRegF_media (d : Dev) (p : PT) (i off lo n v : Nat) : (d.setRegF p i off lo n v).media = d.media := rfl
@[simp] theorem setRegF_lostEnts (d : Dev) (p : PT) (i off lo n v : Nat) : (d.setRegF p i off lo n v).lostEnts = d.lostEnts := rfl
@[simp] theorem setRegF_lostSeen (d : Dev) (p : PT) (i off lo n v : Nat) : (d.setRegF p i off lo n v).lostSeen = d.lostSeen := rfl
@[simp] theorem setRegF_dies (d : Dev) (p : PT) (i off lo n v : Nat) : (d.setRegF p i off lo n v).dies = d.dies := rfl
@[simp] theorem setRegF_chans (d : Dev) (p : PT) (i off lo n v : Nat) : (d.setRegF p i off lo n v).chans = d.chans := rfl
@[simp] theorem setRegF_listsDone (d : Dev) (p : PT) (i off lo n v : Nat) : (d.setRegF p i off lo n v).listsDone = d.listsDone := rfl
@[simp] theorem setRegF_raw (d : Dev) (p : PT) (i off lo n v : Nat) : (d.setRegF p i off lo n v).raw = d.raw := rfl
@[simp] theorem setRegF_soft (d : Dev) (p : PT) (i off lo n v : Nat) : (d.setRegF p i off lo n v).soft = d.soft := rfl
@[simp] theorem setRegF_softFenced (d : Dev) (p : PT) (i off lo n v : Nat) : (d.setRegF p i off lo n v).softFenced = d.softFenced := rfl
@[simp] theorem setRegF_cache (d : Dev) (p : PT) (i off lo n v : Nat) : (d.setRegF p i off lo n v).cache = d.cache := rfl
@[simp] theorem setRegF_install (d : Dev) (p : PT) (i off lo n v : Nat) : (d.setRegF p i off lo n v).install = d.install := rfl
@[simp] theorem setRegF_jnl (d : Dev) (p : PT) (i off lo n v : Nat) : (d.setRegF p i off lo n v).jnl = d.jnl := rfl
@[simp] theorem setRegF_plp (d : Dev) (p : PT) (i off lo n v : Nat) : (d.setRegF p i off lo n v).plp = d.plp := rfl
@[simp] theorem setRegF_format (d : Dev) (p : PT) (i off lo n v : Nat) : (d.setRegF p i off lo n v).format = d.format := rfl
@[simp] theorem setRegF_firstStart (d : Dev) (p : PT) (i off lo n v : Nat) : (d.setRegF p i off lo n v).firstStart = d.firstStart := rfl
@[simp] theorem setRegF_formatting (d : Dev) (p : PT) (i off lo n v : Nat) : (d.setRegF p i off lo n v).formatting = d.formatting := rfl
@[simp] theorem setRegF_stores (d : Dev) (p : PT) (i off lo n v : Nat) : (d.setRegF p i off lo n v).stores = d.stores := rfl
@[simp] theorem setRegF_grants (d : Dev) (p : PT) (i off lo n v : Nat) : (d.setRegF p i off lo n v).grants = d.grants := rfl
@[simp] theorem setRegF_pushes (d : Dev) (p : PT) (i off lo n v : Nat) : (d.setRegF p i off lo n v).pushes = d.pushes := rfl
@[simp] theorem setRegF_pushQs (d : Dev) (p : PT) (i off lo n v : Nat) : (d.setRegF p i off lo n v).pushQs = d.pushQs := rfl
@[simp] theorem setRegF_pushDead (d : Dev) (p : PT) (i off lo n v : Nat) : (d.setRegF p i off lo n v).pushDead = d.pushDead := rfl
@[simp] theorem setRegF_pushSkip (d : Dev) (p : PT) (i off lo n v : Nat) : (d.setRegF p i off lo n v).pushSkip = d.pushSkip := rfl
@[simp] theorem setRegF_malTimes (d : Dev) (p : PT) (i off lo n v : Nat) : (d.setRegF p i off lo n v).malTimes = d.malTimes := rfl
@[simp] theorem setRegF_tpPerst (d : Dev) (p : PT) (i off lo n v : Nat) : (d.setRegF p i off lo n v).tpPerst = d.tpPerst := rfl
@[simp] theorem setRegF_fab (d : Dev) (p : PT) (i off lo n v : Nat) : (d.setRegF p i off lo n v).fab = d.fab := rfl
@[simp] theorem setRegF_doms (d : Dev) (p : PT) (i off lo n v : Nat) : (d.setRegF p i off lo n v).doms = d.doms := rfl
@[simp] theorem setRegF_sbd (d : Dev) (p : PT) (i off lo n v : Nat) : (d.setRegF p i off lo n v).sbd = d.sbd := rfl
@[simp] theorem setRegF_flash (d : Dev) (p : PT) (i off lo n v : Nat) : (d.setRegF p i off lo n v).flash = d.flash := rfl
@[simp] theorem setRegF_bfl (d : Dev) (p : PT) (i off lo n v : Nat) : (d.setRegF p i off lo n v).bfl = d.bfl := rfl
@[simp] theorem setRegF_upd (d : Dev) (p : PT) (i off lo n v : Nat) : (d.setRegF p i off lo n v).upd = d.upd := rfl
@[simp] theorem setRegF_mailbox (d : Dev) (p : PT) (i off lo n v : Nat) : (d.setRegF p i off lo n v).mailbox = d.mailbox := rfl
@[simp] theorem setRegF_dbg (d : Dev) (p : PT) (i off lo n v : Nat) : (d.setRegF p i off lo n v).dbg = d.dbg := rfl
@[simp] theorem setRegF_ddtGen (d : Dev) (p : PT) (i off lo n v : Nat) : (d.setRegF p i off lo n v).ddtGen = d.ddtGen := rfl
@[simp] theorem setRegF_fltSeq (d : Dev) (p : PT) (i off lo n v : Nat) : (d.setRegF p i off lo n v).fltSeq = d.fltSeq := rfl
@[simp] theorem setRegF_ovr (d : Dev) (p : PT) (i off lo n v : Nat) : (d.setRegF p i off lo n v).ovr = d.ovr := rfl
@[simp] theorem setRegF_railMute (d : Dev) (p : PT) (i off lo n v : Nat) : (d.setRegF p i off lo n v).railMute = d.railMute := rfl
@[simp] theorem setRegF_wdog (d : Dev) (p : PT) (i off lo n v : Nat) : (d.setRegF p i off lo n v).wdog = d.wdog := rfl
@[simp] theorem setRegF_mbuf (d : Dev) (p : PT) (i off lo n v : Nat) : (d.setRegF p i off lo n v).mbuf = d.mbuf := rfl
@[simp] theorem setRegF_sram (d : Dev) (p : PT) (i off lo n v : Nat) : (d.setRegF p i off lo n v).sram = d.sram := rfl
@[simp] theorem setRegF_injected (d : Dev) (p : PT) (i off lo n v : Nat) : (d.setRegF p i off lo n v).injected = d.injected := rfl
@[simp] theorem setRegF_evq (d : Dev) (p : PT) (i off lo n v : Nat) : (d.setRegF p i off lo n v).evq = d.evq := rfl
@[simp] theorem setRegF_out (d : Dev) (p : PT) (i off lo n v : Nat) : (d.setRegF p i off lo n v).out = d.out := rfl
@[simp] theorem setRegF_free (d : Dev) (p : PT) (i off lo n v : Nat) : (d.setRegF p i off lo n v).free = d.free := rfl

/-! ### Something sent out -/

@[simp] theorem emit_life (d : Dev) (e : OutEvent) : (d.emit e).life = d.life := rfl
@[simp] theorem emit_regs (d : Dev) (e : OutEvent) : (d.emit e).regs = d.regs := rfl
@[simp] theorem emit_pages (d : Dev) (e : OutEvent) : (d.emit e).pages = d.pages := rfl
@[simp] theorem emit_mem (d : Dev) (e : OutEvent) : (d.emit e).mem = d.mem := rfl
@[simp] theorem emit_fns (d : Dev) (e : OutEvent) : (d.emit e).fns = d.fns := rfl
@[simp] theorem emit_vfs (d : Dev) (e : OutEvent) : (d.emit e).vfs = d.vfs := rfl
@[simp] theorem emit_compat (d : Dev) (e : OutEvent) : (d.emit e).compat = d.compat := rfl
@[simp] theorem emit_ep (d : Dev) (e : OutEvent) : (d.emit e).ep = d.ep := rfl
@[simp] theorem emit_dbOrder (d : Dev) (e : OutEvent) : (d.emit e).dbOrder = d.dbOrder := rfl
@[simp] theorem emit_flights (d : Dev) (e : OutEvent) : (d.emit e).flights = d.flights := rfl
@[simp] theorem emit_arb (d : Dev) (e : OutEvent) : (d.emit e).arb = d.arb := rfl
@[simp] theorem emit_gates (d : Dev) (e : OutEvent) : (d.emit e).gates = d.gates := rfl
@[simp] theorem emit_tints (d : Dev) (e : OutEvent) : (d.emit e).tints = d.tints := rfl
@[simp] theorem emit_elogs (d : Dev) (e : OutEvent) : (d.emit e).elogs = d.elogs := rfl
@[simp] theorem emit_recd (d : Dev) (e : OutEvent) : (d.emit e).recd = d.recd := rfl
@[simp] theorem emit_bak (d : Dev) (e : OutEvent) : (d.emit e).bak = d.bak := rfl
@[simp] theorem emit_gateAdm (d : Dev) (e : OutEvent) : (d.emit e).gateAdm = d.gateAdm := rfl
@[simp] theorem emit_keys (d : Dev) (e : OutEvent) : (d.emit e).keys = d.keys := rfl
@[simp] theorem emit_sealedKeys (d : Dev) (e : OutEvent) : (d.emit e).sealedKeys = d.sealedKeys := rfl
@[simp] theorem emit_seals (d : Dev) (e : OutEvent) : (d.emit e).seals = d.seals := rfl
@[simp] theorem emit_reseal (d : Dev) (e : OutEvent) : (d.emit e).reseal = d.reseal := rfl
@[simp] theorem emit_cip (d : Dev) (e : OutEvent) : (d.emit e).cip = d.cip := rfl
@[simp] theorem emit_rng (d : Dev) (e : OutEvent) : (d.emit e).rng = d.rng := rfl
@[simp] theorem emit_dig (d : Dev) (e : OutEvent) : (d.emit e).dig = d.dig := rfl
@[simp] theorem emit_loops (d : Dev) (e : OutEvent) : (d.emit e).loops = d.loops := rfl
@[simp] theorem emit_traces (d : Dev) (e : OutEvent) : (d.emit e).traces = d.traces := rfl
@[simp] theorem emit_ftl (d : Dev) (e : OutEvent) : (d.emit e).ftl = d.ftl := rfl
@[simp] theorem emit_gcHeld (d : Dev) (e : OutEvent) : (d.emit e).gcHeld = d.gcHeld := rfl
@[simp] theorem emit_jobRows (d : Dev) (e : OutEvent) : (d.emit e).jobRows = d.jobRows := rfl
@[simp] theorem emit_media (d : Dev) (e : OutEvent) : (d.emit e).media = d.media := rfl
@[simp] theorem emit_lostEnts (d : Dev) (e : OutEvent) : (d.emit e).lostEnts = d.lostEnts := rfl
@[simp] theorem emit_lostSeen (d : Dev) (e : OutEvent) : (d.emit e).lostSeen = d.lostSeen := rfl
@[simp] theorem emit_dies (d : Dev) (e : OutEvent) : (d.emit e).dies = d.dies := rfl
@[simp] theorem emit_chans (d : Dev) (e : OutEvent) : (d.emit e).chans = d.chans := rfl
@[simp] theorem emit_listsDone (d : Dev) (e : OutEvent) : (d.emit e).listsDone = d.listsDone := rfl
@[simp] theorem emit_raw (d : Dev) (e : OutEvent) : (d.emit e).raw = d.raw := rfl
@[simp] theorem emit_soft (d : Dev) (e : OutEvent) : (d.emit e).soft = d.soft := rfl
@[simp] theorem emit_softFenced (d : Dev) (e : OutEvent) : (d.emit e).softFenced = d.softFenced := rfl
@[simp] theorem emit_cache (d : Dev) (e : OutEvent) : (d.emit e).cache = d.cache := rfl
@[simp] theorem emit_install (d : Dev) (e : OutEvent) : (d.emit e).install = d.install := rfl
@[simp] theorem emit_jnl (d : Dev) (e : OutEvent) : (d.emit e).jnl = d.jnl := rfl
@[simp] theorem emit_plp (d : Dev) (e : OutEvent) : (d.emit e).plp = d.plp := rfl
@[simp] theorem emit_format (d : Dev) (e : OutEvent) : (d.emit e).format = d.format := rfl
@[simp] theorem emit_firstStart (d : Dev) (e : OutEvent) : (d.emit e).firstStart = d.firstStart := rfl
@[simp] theorem emit_formatting (d : Dev) (e : OutEvent) : (d.emit e).formatting = d.formatting := rfl
@[simp] theorem emit_stores (d : Dev) (e : OutEvent) : (d.emit e).stores = d.stores := rfl
@[simp] theorem emit_grants (d : Dev) (e : OutEvent) : (d.emit e).grants = d.grants := rfl
@[simp] theorem emit_pushes (d : Dev) (e : OutEvent) : (d.emit e).pushes = d.pushes := rfl
@[simp] theorem emit_pushQs (d : Dev) (e : OutEvent) : (d.emit e).pushQs = d.pushQs := rfl
@[simp] theorem emit_pushDead (d : Dev) (e : OutEvent) : (d.emit e).pushDead = d.pushDead := rfl
@[simp] theorem emit_pushSkip (d : Dev) (e : OutEvent) : (d.emit e).pushSkip = d.pushSkip := rfl
@[simp] theorem emit_malTimes (d : Dev) (e : OutEvent) : (d.emit e).malTimes = d.malTimes := rfl
@[simp] theorem emit_tpPerst (d : Dev) (e : OutEvent) : (d.emit e).tpPerst = d.tpPerst := rfl
@[simp] theorem emit_fab (d : Dev) (e : OutEvent) : (d.emit e).fab = d.fab := rfl
@[simp] theorem emit_doms (d : Dev) (e : OutEvent) : (d.emit e).doms = d.doms := rfl
@[simp] theorem emit_sbd (d : Dev) (e : OutEvent) : (d.emit e).sbd = d.sbd := rfl
@[simp] theorem emit_flash (d : Dev) (e : OutEvent) : (d.emit e).flash = d.flash := rfl
@[simp] theorem emit_bfl (d : Dev) (e : OutEvent) : (d.emit e).bfl = d.bfl := rfl
@[simp] theorem emit_upd (d : Dev) (e : OutEvent) : (d.emit e).upd = d.upd := rfl
@[simp] theorem emit_mailbox (d : Dev) (e : OutEvent) : (d.emit e).mailbox = d.mailbox := rfl
@[simp] theorem emit_dbg (d : Dev) (e : OutEvent) : (d.emit e).dbg = d.dbg := rfl
@[simp] theorem emit_ddtGen (d : Dev) (e : OutEvent) : (d.emit e).ddtGen = d.ddtGen := rfl
@[simp] theorem emit_fltSeq (d : Dev) (e : OutEvent) : (d.emit e).fltSeq = d.fltSeq := rfl
@[simp] theorem emit_ovr (d : Dev) (e : OutEvent) : (d.emit e).ovr = d.ovr := rfl
@[simp] theorem emit_railMute (d : Dev) (e : OutEvent) : (d.emit e).railMute = d.railMute := rfl
@[simp] theorem emit_wdog (d : Dev) (e : OutEvent) : (d.emit e).wdog = d.wdog := rfl
@[simp] theorem emit_mbuf (d : Dev) (e : OutEvent) : (d.emit e).mbuf = d.mbuf := rfl
@[simp] theorem emit_sram (d : Dev) (e : OutEvent) : (d.emit e).sram = d.sram := rfl
@[simp] theorem emit_injected (d : Dev) (e : OutEvent) : (d.emit e).injected = d.injected := rfl
@[simp] theorem emit_evq (d : Dev) (e : OutEvent) : (d.emit e).evq = d.evq := rfl
@[simp] theorem emit_free (d : Dev) (e : OutEvent) : (d.emit e).free = d.free := rfl

/-! ### A function's new state -/

@[simp] theorem setFn_life (d : Dev) (f : Fn) (s : FnSt) : (d.setFn f s).life = d.life := rfl
@[simp] theorem setFn_regs (d : Dev) (f : Fn) (s : FnSt) : (d.setFn f s).regs = d.regs := rfl
@[simp] theorem setFn_pages (d : Dev) (f : Fn) (s : FnSt) : (d.setFn f s).pages = d.pages := rfl
@[simp] theorem setFn_mem (d : Dev) (f : Fn) (s : FnSt) : (d.setFn f s).mem = d.mem := rfl
@[simp] theorem setFn_vfs (d : Dev) (f : Fn) (s : FnSt) : (d.setFn f s).vfs = d.vfs := rfl
@[simp] theorem setFn_compat (d : Dev) (f : Fn) (s : FnSt) : (d.setFn f s).compat = d.compat := rfl
@[simp] theorem setFn_ep (d : Dev) (f : Fn) (s : FnSt) : (d.setFn f s).ep = d.ep := rfl
@[simp] theorem setFn_dbOrder (d : Dev) (f : Fn) (s : FnSt) : (d.setFn f s).dbOrder = d.dbOrder := rfl
@[simp] theorem setFn_flights (d : Dev) (f : Fn) (s : FnSt) : (d.setFn f s).flights = d.flights := rfl
@[simp] theorem setFn_arb (d : Dev) (f : Fn) (s : FnSt) : (d.setFn f s).arb = d.arb := rfl
@[simp] theorem setFn_gates (d : Dev) (f : Fn) (s : FnSt) : (d.setFn f s).gates = d.gates := rfl
@[simp] theorem setFn_tints (d : Dev) (f : Fn) (s : FnSt) : (d.setFn f s).tints = d.tints := rfl
@[simp] theorem setFn_elogs (d : Dev) (f : Fn) (s : FnSt) : (d.setFn f s).elogs = d.elogs := rfl
@[simp] theorem setFn_recd (d : Dev) (f : Fn) (s : FnSt) : (d.setFn f s).recd = d.recd := rfl
@[simp] theorem setFn_bak (d : Dev) (f : Fn) (s : FnSt) : (d.setFn f s).bak = d.bak := rfl
@[simp] theorem setFn_gateAdm (d : Dev) (f : Fn) (s : FnSt) : (d.setFn f s).gateAdm = d.gateAdm := rfl
@[simp] theorem setFn_keys (d : Dev) (f : Fn) (s : FnSt) : (d.setFn f s).keys = d.keys := rfl
@[simp] theorem setFn_sealedKeys (d : Dev) (f : Fn) (s : FnSt) : (d.setFn f s).sealedKeys = d.sealedKeys := rfl
@[simp] theorem setFn_seals (d : Dev) (f : Fn) (s : FnSt) : (d.setFn f s).seals = d.seals := rfl
@[simp] theorem setFn_reseal (d : Dev) (f : Fn) (s : FnSt) : (d.setFn f s).reseal = d.reseal := rfl
@[simp] theorem setFn_cip (d : Dev) (f : Fn) (s : FnSt) : (d.setFn f s).cip = d.cip := rfl
@[simp] theorem setFn_rng (d : Dev) (f : Fn) (s : FnSt) : (d.setFn f s).rng = d.rng := rfl
@[simp] theorem setFn_dig (d : Dev) (f : Fn) (s : FnSt) : (d.setFn f s).dig = d.dig := rfl
@[simp] theorem setFn_loops (d : Dev) (f : Fn) (s : FnSt) : (d.setFn f s).loops = d.loops := rfl
@[simp] theorem setFn_traces (d : Dev) (f : Fn) (s : FnSt) : (d.setFn f s).traces = d.traces := rfl
@[simp] theorem setFn_ftl (d : Dev) (f : Fn) (s : FnSt) : (d.setFn f s).ftl = d.ftl := rfl
@[simp] theorem setFn_gcHeld (d : Dev) (f : Fn) (s : FnSt) : (d.setFn f s).gcHeld = d.gcHeld := rfl
@[simp] theorem setFn_jobRows (d : Dev) (f : Fn) (s : FnSt) : (d.setFn f s).jobRows = d.jobRows := rfl
@[simp] theorem setFn_media (d : Dev) (f : Fn) (s : FnSt) : (d.setFn f s).media = d.media := rfl
@[simp] theorem setFn_lostEnts (d : Dev) (f : Fn) (s : FnSt) : (d.setFn f s).lostEnts = d.lostEnts := rfl
@[simp] theorem setFn_lostSeen (d : Dev) (f : Fn) (s : FnSt) : (d.setFn f s).lostSeen = d.lostSeen := rfl
@[simp] theorem setFn_dies (d : Dev) (f : Fn) (s : FnSt) : (d.setFn f s).dies = d.dies := rfl
@[simp] theorem setFn_chans (d : Dev) (f : Fn) (s : FnSt) : (d.setFn f s).chans = d.chans := rfl
@[simp] theorem setFn_listsDone (d : Dev) (f : Fn) (s : FnSt) : (d.setFn f s).listsDone = d.listsDone := rfl
@[simp] theorem setFn_raw (d : Dev) (f : Fn) (s : FnSt) : (d.setFn f s).raw = d.raw := rfl
@[simp] theorem setFn_soft (d : Dev) (f : Fn) (s : FnSt) : (d.setFn f s).soft = d.soft := rfl
@[simp] theorem setFn_softFenced (d : Dev) (f : Fn) (s : FnSt) : (d.setFn f s).softFenced = d.softFenced := rfl
@[simp] theorem setFn_cache (d : Dev) (f : Fn) (s : FnSt) : (d.setFn f s).cache = d.cache := rfl
@[simp] theorem setFn_install (d : Dev) (f : Fn) (s : FnSt) : (d.setFn f s).install = d.install := rfl
@[simp] theorem setFn_jnl (d : Dev) (f : Fn) (s : FnSt) : (d.setFn f s).jnl = d.jnl := rfl
@[simp] theorem setFn_plp (d : Dev) (f : Fn) (s : FnSt) : (d.setFn f s).plp = d.plp := rfl
@[simp] theorem setFn_format (d : Dev) (f : Fn) (s : FnSt) : (d.setFn f s).format = d.format := rfl
@[simp] theorem setFn_firstStart (d : Dev) (f : Fn) (s : FnSt) : (d.setFn f s).firstStart = d.firstStart := rfl
@[simp] theorem setFn_formatting (d : Dev) (f : Fn) (s : FnSt) : (d.setFn f s).formatting = d.formatting := rfl
@[simp] theorem setFn_stores (d : Dev) (f : Fn) (s : FnSt) : (d.setFn f s).stores = d.stores := rfl
@[simp] theorem setFn_grants (d : Dev) (f : Fn) (s : FnSt) : (d.setFn f s).grants = d.grants := rfl
@[simp] theorem setFn_pushes (d : Dev) (f : Fn) (s : FnSt) : (d.setFn f s).pushes = d.pushes := rfl
@[simp] theorem setFn_pushQs (d : Dev) (f : Fn) (s : FnSt) : (d.setFn f s).pushQs = d.pushQs := rfl
@[simp] theorem setFn_pushDead (d : Dev) (f : Fn) (s : FnSt) : (d.setFn f s).pushDead = d.pushDead := rfl
@[simp] theorem setFn_pushSkip (d : Dev) (f : Fn) (s : FnSt) : (d.setFn f s).pushSkip = d.pushSkip := rfl
@[simp] theorem setFn_malTimes (d : Dev) (f : Fn) (s : FnSt) : (d.setFn f s).malTimes = d.malTimes := rfl
@[simp] theorem setFn_tpPerst (d : Dev) (f : Fn) (s : FnSt) : (d.setFn f s).tpPerst = d.tpPerst := rfl
@[simp] theorem setFn_fab (d : Dev) (f : Fn) (s : FnSt) : (d.setFn f s).fab = d.fab := rfl
@[simp] theorem setFn_doms (d : Dev) (f : Fn) (s : FnSt) : (d.setFn f s).doms = d.doms := rfl
@[simp] theorem setFn_sbd (d : Dev) (f : Fn) (s : FnSt) : (d.setFn f s).sbd = d.sbd := rfl
@[simp] theorem setFn_flash (d : Dev) (f : Fn) (s : FnSt) : (d.setFn f s).flash = d.flash := rfl
@[simp] theorem setFn_bfl (d : Dev) (f : Fn) (s : FnSt) : (d.setFn f s).bfl = d.bfl := rfl
@[simp] theorem setFn_upd (d : Dev) (f : Fn) (s : FnSt) : (d.setFn f s).upd = d.upd := rfl
@[simp] theorem setFn_mailbox (d : Dev) (f : Fn) (s : FnSt) : (d.setFn f s).mailbox = d.mailbox := rfl
@[simp] theorem setFn_dbg (d : Dev) (f : Fn) (s : FnSt) : (d.setFn f s).dbg = d.dbg := rfl
@[simp] theorem setFn_ddtGen (d : Dev) (f : Fn) (s : FnSt) : (d.setFn f s).ddtGen = d.ddtGen := rfl
@[simp] theorem setFn_fltSeq (d : Dev) (f : Fn) (s : FnSt) : (d.setFn f s).fltSeq = d.fltSeq := rfl
@[simp] theorem setFn_ovr (d : Dev) (f : Fn) (s : FnSt) : (d.setFn f s).ovr = d.ovr := rfl
@[simp] theorem setFn_railMute (d : Dev) (f : Fn) (s : FnSt) : (d.setFn f s).railMute = d.railMute := rfl
@[simp] theorem setFn_wdog (d : Dev) (f : Fn) (s : FnSt) : (d.setFn f s).wdog = d.wdog := rfl
@[simp] theorem setFn_mbuf (d : Dev) (f : Fn) (s : FnSt) : (d.setFn f s).mbuf = d.mbuf := rfl
@[simp] theorem setFn_sram (d : Dev) (f : Fn) (s : FnSt) : (d.setFn f s).sram = d.sram := rfl
@[simp] theorem setFn_injected (d : Dev) (f : Fn) (s : FnSt) : (d.setFn f s).injected = d.injected := rfl
@[simp] theorem setFn_evq (d : Dev) (f : Fn) (s : FnSt) : (d.setFn f s).evq = d.evq := rfl
@[simp] theorem setFn_out (d : Dev) (f : Fn) (s : FnSt) : (d.setFn f s).out = d.out := rfl
@[simp] theorem setFn_free (d : Dev) (f : Fn) (s : FnSt) : (d.setFn f s).free = d.free := rfl

/-! ### A page's new state -/

@[simp] theorem setPage_life (d : Dev) (p : PT) (i : Nat) (s : PageSt) : (d.setPage p i s).life = d.life := rfl
@[simp] theorem setPage_regs (d : Dev) (p : PT) (i : Nat) (s : PageSt) : (d.setPage p i s).regs = d.regs := rfl
@[simp] theorem setPage_mem (d : Dev) (p : PT) (i : Nat) (s : PageSt) : (d.setPage p i s).mem = d.mem := rfl
@[simp] theorem setPage_fns (d : Dev) (p : PT) (i : Nat) (s : PageSt) : (d.setPage p i s).fns = d.fns := rfl
@[simp] theorem setPage_vfs (d : Dev) (p : PT) (i : Nat) (s : PageSt) : (d.setPage p i s).vfs = d.vfs := rfl
@[simp] theorem setPage_compat (d : Dev) (p : PT) (i : Nat) (s : PageSt) : (d.setPage p i s).compat = d.compat := rfl
@[simp] theorem setPage_ep (d : Dev) (p : PT) (i : Nat) (s : PageSt) : (d.setPage p i s).ep = d.ep := rfl
@[simp] theorem setPage_dbOrder (d : Dev) (p : PT) (i : Nat) (s : PageSt) : (d.setPage p i s).dbOrder = d.dbOrder := rfl
@[simp] theorem setPage_flights (d : Dev) (p : PT) (i : Nat) (s : PageSt) : (d.setPage p i s).flights = d.flights := rfl
@[simp] theorem setPage_arb (d : Dev) (p : PT) (i : Nat) (s : PageSt) : (d.setPage p i s).arb = d.arb := rfl
@[simp] theorem setPage_gates (d : Dev) (p : PT) (i : Nat) (s : PageSt) : (d.setPage p i s).gates = d.gates := rfl
@[simp] theorem setPage_tints (d : Dev) (p : PT) (i : Nat) (s : PageSt) : (d.setPage p i s).tints = d.tints := rfl
@[simp] theorem setPage_elogs (d : Dev) (p : PT) (i : Nat) (s : PageSt) : (d.setPage p i s).elogs = d.elogs := rfl
@[simp] theorem setPage_recd (d : Dev) (p : PT) (i : Nat) (s : PageSt) : (d.setPage p i s).recd = d.recd := rfl
@[simp] theorem setPage_bak (d : Dev) (p : PT) (i : Nat) (s : PageSt) : (d.setPage p i s).bak = d.bak := rfl
@[simp] theorem setPage_gateAdm (d : Dev) (p : PT) (i : Nat) (s : PageSt) : (d.setPage p i s).gateAdm = d.gateAdm := rfl
@[simp] theorem setPage_keys (d : Dev) (p : PT) (i : Nat) (s : PageSt) : (d.setPage p i s).keys = d.keys := rfl
@[simp] theorem setPage_sealedKeys (d : Dev) (p : PT) (i : Nat) (s : PageSt) : (d.setPage p i s).sealedKeys = d.sealedKeys := rfl
@[simp] theorem setPage_seals (d : Dev) (p : PT) (i : Nat) (s : PageSt) : (d.setPage p i s).seals = d.seals := rfl
@[simp] theorem setPage_reseal (d : Dev) (p : PT) (i : Nat) (s : PageSt) : (d.setPage p i s).reseal = d.reseal := rfl
@[simp] theorem setPage_cip (d : Dev) (p : PT) (i : Nat) (s : PageSt) : (d.setPage p i s).cip = d.cip := rfl
@[simp] theorem setPage_rng (d : Dev) (p : PT) (i : Nat) (s : PageSt) : (d.setPage p i s).rng = d.rng := rfl
@[simp] theorem setPage_dig (d : Dev) (p : PT) (i : Nat) (s : PageSt) : (d.setPage p i s).dig = d.dig := rfl
@[simp] theorem setPage_loops (d : Dev) (p : PT) (i : Nat) (s : PageSt) : (d.setPage p i s).loops = d.loops := rfl
@[simp] theorem setPage_traces (d : Dev) (p : PT) (i : Nat) (s : PageSt) : (d.setPage p i s).traces = d.traces := rfl
@[simp] theorem setPage_ftl (d : Dev) (p : PT) (i : Nat) (s : PageSt) : (d.setPage p i s).ftl = d.ftl := rfl
@[simp] theorem setPage_gcHeld (d : Dev) (p : PT) (i : Nat) (s : PageSt) : (d.setPage p i s).gcHeld = d.gcHeld := rfl
@[simp] theorem setPage_jobRows (d : Dev) (p : PT) (i : Nat) (s : PageSt) : (d.setPage p i s).jobRows = d.jobRows := rfl
@[simp] theorem setPage_media (d : Dev) (p : PT) (i : Nat) (s : PageSt) : (d.setPage p i s).media = d.media := rfl
@[simp] theorem setPage_lostEnts (d : Dev) (p : PT) (i : Nat) (s : PageSt) : (d.setPage p i s).lostEnts = d.lostEnts := rfl
@[simp] theorem setPage_lostSeen (d : Dev) (p : PT) (i : Nat) (s : PageSt) : (d.setPage p i s).lostSeen = d.lostSeen := rfl
@[simp] theorem setPage_dies (d : Dev) (p : PT) (i : Nat) (s : PageSt) : (d.setPage p i s).dies = d.dies := rfl
@[simp] theorem setPage_chans (d : Dev) (p : PT) (i : Nat) (s : PageSt) : (d.setPage p i s).chans = d.chans := rfl
@[simp] theorem setPage_listsDone (d : Dev) (p : PT) (i : Nat) (s : PageSt) : (d.setPage p i s).listsDone = d.listsDone := rfl
@[simp] theorem setPage_raw (d : Dev) (p : PT) (i : Nat) (s : PageSt) : (d.setPage p i s).raw = d.raw := rfl
@[simp] theorem setPage_soft (d : Dev) (p : PT) (i : Nat) (s : PageSt) : (d.setPage p i s).soft = d.soft := rfl
@[simp] theorem setPage_softFenced (d : Dev) (p : PT) (i : Nat) (s : PageSt) : (d.setPage p i s).softFenced = d.softFenced := rfl
@[simp] theorem setPage_cache (d : Dev) (p : PT) (i : Nat) (s : PageSt) : (d.setPage p i s).cache = d.cache := rfl
@[simp] theorem setPage_install (d : Dev) (p : PT) (i : Nat) (s : PageSt) : (d.setPage p i s).install = d.install := rfl
@[simp] theorem setPage_jnl (d : Dev) (p : PT) (i : Nat) (s : PageSt) : (d.setPage p i s).jnl = d.jnl := rfl
@[simp] theorem setPage_plp (d : Dev) (p : PT) (i : Nat) (s : PageSt) : (d.setPage p i s).plp = d.plp := rfl
@[simp] theorem setPage_format (d : Dev) (p : PT) (i : Nat) (s : PageSt) : (d.setPage p i s).format = d.format := rfl
@[simp] theorem setPage_firstStart (d : Dev) (p : PT) (i : Nat) (s : PageSt) : (d.setPage p i s).firstStart = d.firstStart := rfl
@[simp] theorem setPage_formatting (d : Dev) (p : PT) (i : Nat) (s : PageSt) : (d.setPage p i s).formatting = d.formatting := rfl
@[simp] theorem setPage_stores (d : Dev) (p : PT) (i : Nat) (s : PageSt) : (d.setPage p i s).stores = d.stores := rfl
@[simp] theorem setPage_grants (d : Dev) (p : PT) (i : Nat) (s : PageSt) : (d.setPage p i s).grants = d.grants := rfl
@[simp] theorem setPage_pushes (d : Dev) (p : PT) (i : Nat) (s : PageSt) : (d.setPage p i s).pushes = d.pushes := rfl
@[simp] theorem setPage_pushQs (d : Dev) (p : PT) (i : Nat) (s : PageSt) : (d.setPage p i s).pushQs = d.pushQs := rfl
@[simp] theorem setPage_pushDead (d : Dev) (p : PT) (i : Nat) (s : PageSt) : (d.setPage p i s).pushDead = d.pushDead := rfl
@[simp] theorem setPage_pushSkip (d : Dev) (p : PT) (i : Nat) (s : PageSt) : (d.setPage p i s).pushSkip = d.pushSkip := rfl
@[simp] theorem setPage_malTimes (d : Dev) (p : PT) (i : Nat) (s : PageSt) : (d.setPage p i s).malTimes = d.malTimes := rfl
@[simp] theorem setPage_tpPerst (d : Dev) (p : PT) (i : Nat) (s : PageSt) : (d.setPage p i s).tpPerst = d.tpPerst := rfl
@[simp] theorem setPage_fab (d : Dev) (p : PT) (i : Nat) (s : PageSt) : (d.setPage p i s).fab = d.fab := rfl
@[simp] theorem setPage_doms (d : Dev) (p : PT) (i : Nat) (s : PageSt) : (d.setPage p i s).doms = d.doms := rfl
@[simp] theorem setPage_sbd (d : Dev) (p : PT) (i : Nat) (s : PageSt) : (d.setPage p i s).sbd = d.sbd := rfl
@[simp] theorem setPage_flash (d : Dev) (p : PT) (i : Nat) (s : PageSt) : (d.setPage p i s).flash = d.flash := rfl
@[simp] theorem setPage_bfl (d : Dev) (p : PT) (i : Nat) (s : PageSt) : (d.setPage p i s).bfl = d.bfl := rfl
@[simp] theorem setPage_upd (d : Dev) (p : PT) (i : Nat) (s : PageSt) : (d.setPage p i s).upd = d.upd := rfl
@[simp] theorem setPage_mailbox (d : Dev) (p : PT) (i : Nat) (s : PageSt) : (d.setPage p i s).mailbox = d.mailbox := rfl
@[simp] theorem setPage_dbg (d : Dev) (p : PT) (i : Nat) (s : PageSt) : (d.setPage p i s).dbg = d.dbg := rfl
@[simp] theorem setPage_ddtGen (d : Dev) (p : PT) (i : Nat) (s : PageSt) : (d.setPage p i s).ddtGen = d.ddtGen := rfl
@[simp] theorem setPage_fltSeq (d : Dev) (p : PT) (i : Nat) (s : PageSt) : (d.setPage p i s).fltSeq = d.fltSeq := rfl
@[simp] theorem setPage_ovr (d : Dev) (p : PT) (i : Nat) (s : PageSt) : (d.setPage p i s).ovr = d.ovr := rfl
@[simp] theorem setPage_railMute (d : Dev) (p : PT) (i : Nat) (s : PageSt) : (d.setPage p i s).railMute = d.railMute := rfl
@[simp] theorem setPage_wdog (d : Dev) (p : PT) (i : Nat) (s : PageSt) : (d.setPage p i s).wdog = d.wdog := rfl
@[simp] theorem setPage_mbuf (d : Dev) (p : PT) (i : Nat) (s : PageSt) : (d.setPage p i s).mbuf = d.mbuf := rfl
@[simp] theorem setPage_sram (d : Dev) (p : PT) (i : Nat) (s : PageSt) : (d.setPage p i s).sram = d.sram := rfl
@[simp] theorem setPage_injected (d : Dev) (p : PT) (i : Nat) (s : PageSt) : (d.setPage p i s).injected = d.injected := rfl
@[simp] theorem setPage_evq (d : Dev) (p : PT) (i : Nat) (s : PageSt) : (d.setPage p i s).evq = d.evq := rfl
@[simp] theorem setPage_out (d : Dev) (p : PT) (i : Nat) (s : PageSt) : (d.setPage p i s).out = d.out := rfl
@[simp] theorem setPage_free (d : Dev) (p : PT) (i : Nat) (s : PageSt) : (d.setPage p i s).free = d.free := rfl

/-! ### A command in flight changed -/

@[simp] theorem setFlight_life (d : Dev) (f : Flight) : (d.setFlight f).life = d.life := rfl
@[simp] theorem setFlight_regs (d : Dev) (f : Flight) : (d.setFlight f).regs = d.regs := rfl
@[simp] theorem setFlight_pages (d : Dev) (f : Flight) : (d.setFlight f).pages = d.pages := rfl
@[simp] theorem setFlight_mem (d : Dev) (f : Flight) : (d.setFlight f).mem = d.mem := rfl
@[simp] theorem setFlight_fns (d : Dev) (f : Flight) : (d.setFlight f).fns = d.fns := rfl
@[simp] theorem setFlight_vfs (d : Dev) (f : Flight) : (d.setFlight f).vfs = d.vfs := rfl
@[simp] theorem setFlight_compat (d : Dev) (f : Flight) : (d.setFlight f).compat = d.compat := rfl
@[simp] theorem setFlight_ep (d : Dev) (f : Flight) : (d.setFlight f).ep = d.ep := rfl
@[simp] theorem setFlight_dbOrder (d : Dev) (f : Flight) : (d.setFlight f).dbOrder = d.dbOrder := rfl
@[simp] theorem setFlight_arb (d : Dev) (f : Flight) : (d.setFlight f).arb = d.arb := rfl
@[simp] theorem setFlight_gates (d : Dev) (f : Flight) : (d.setFlight f).gates = d.gates := rfl
@[simp] theorem setFlight_tints (d : Dev) (f : Flight) : (d.setFlight f).tints = d.tints := rfl
@[simp] theorem setFlight_elogs (d : Dev) (f : Flight) : (d.setFlight f).elogs = d.elogs := rfl
@[simp] theorem setFlight_recd (d : Dev) (f : Flight) : (d.setFlight f).recd = d.recd := rfl
@[simp] theorem setFlight_bak (d : Dev) (f : Flight) : (d.setFlight f).bak = d.bak := rfl
@[simp] theorem setFlight_gateAdm (d : Dev) (f : Flight) : (d.setFlight f).gateAdm = d.gateAdm := rfl
@[simp] theorem setFlight_keys (d : Dev) (f : Flight) : (d.setFlight f).keys = d.keys := rfl
@[simp] theorem setFlight_sealedKeys (d : Dev) (f : Flight) : (d.setFlight f).sealedKeys = d.sealedKeys := rfl
@[simp] theorem setFlight_seals (d : Dev) (f : Flight) : (d.setFlight f).seals = d.seals := rfl
@[simp] theorem setFlight_reseal (d : Dev) (f : Flight) : (d.setFlight f).reseal = d.reseal := rfl
@[simp] theorem setFlight_cip (d : Dev) (f : Flight) : (d.setFlight f).cip = d.cip := rfl
@[simp] theorem setFlight_rng (d : Dev) (f : Flight) : (d.setFlight f).rng = d.rng := rfl
@[simp] theorem setFlight_dig (d : Dev) (f : Flight) : (d.setFlight f).dig = d.dig := rfl
@[simp] theorem setFlight_loops (d : Dev) (f : Flight) : (d.setFlight f).loops = d.loops := rfl
@[simp] theorem setFlight_traces (d : Dev) (f : Flight) : (d.setFlight f).traces = d.traces := rfl
@[simp] theorem setFlight_ftl (d : Dev) (f : Flight) : (d.setFlight f).ftl = d.ftl := rfl
@[simp] theorem setFlight_gcHeld (d : Dev) (f : Flight) : (d.setFlight f).gcHeld = d.gcHeld := rfl
@[simp] theorem setFlight_jobRows (d : Dev) (f : Flight) : (d.setFlight f).jobRows = d.jobRows := rfl
@[simp] theorem setFlight_media (d : Dev) (f : Flight) : (d.setFlight f).media = d.media := rfl
@[simp] theorem setFlight_lostEnts (d : Dev) (f : Flight) : (d.setFlight f).lostEnts = d.lostEnts := rfl
@[simp] theorem setFlight_lostSeen (d : Dev) (f : Flight) : (d.setFlight f).lostSeen = d.lostSeen := rfl
@[simp] theorem setFlight_dies (d : Dev) (f : Flight) : (d.setFlight f).dies = d.dies := rfl
@[simp] theorem setFlight_chans (d : Dev) (f : Flight) : (d.setFlight f).chans = d.chans := rfl
@[simp] theorem setFlight_listsDone (d : Dev) (f : Flight) : (d.setFlight f).listsDone = d.listsDone := rfl
@[simp] theorem setFlight_raw (d : Dev) (f : Flight) : (d.setFlight f).raw = d.raw := rfl
@[simp] theorem setFlight_soft (d : Dev) (f : Flight) : (d.setFlight f).soft = d.soft := rfl
@[simp] theorem setFlight_softFenced (d : Dev) (f : Flight) : (d.setFlight f).softFenced = d.softFenced := rfl
@[simp] theorem setFlight_cache (d : Dev) (f : Flight) : (d.setFlight f).cache = d.cache := rfl
@[simp] theorem setFlight_install (d : Dev) (f : Flight) : (d.setFlight f).install = d.install := rfl
@[simp] theorem setFlight_jnl (d : Dev) (f : Flight) : (d.setFlight f).jnl = d.jnl := rfl
@[simp] theorem setFlight_plp (d : Dev) (f : Flight) : (d.setFlight f).plp = d.plp := rfl
@[simp] theorem setFlight_format (d : Dev) (f : Flight) : (d.setFlight f).format = d.format := rfl
@[simp] theorem setFlight_firstStart (d : Dev) (f : Flight) : (d.setFlight f).firstStart = d.firstStart := rfl
@[simp] theorem setFlight_formatting (d : Dev) (f : Flight) : (d.setFlight f).formatting = d.formatting := rfl
@[simp] theorem setFlight_stores (d : Dev) (f : Flight) : (d.setFlight f).stores = d.stores := rfl
@[simp] theorem setFlight_grants (d : Dev) (f : Flight) : (d.setFlight f).grants = d.grants := rfl
@[simp] theorem setFlight_pushes (d : Dev) (f : Flight) : (d.setFlight f).pushes = d.pushes := rfl
@[simp] theorem setFlight_pushQs (d : Dev) (f : Flight) : (d.setFlight f).pushQs = d.pushQs := rfl
@[simp] theorem setFlight_pushDead (d : Dev) (f : Flight) : (d.setFlight f).pushDead = d.pushDead := rfl
@[simp] theorem setFlight_pushSkip (d : Dev) (f : Flight) : (d.setFlight f).pushSkip = d.pushSkip := rfl
@[simp] theorem setFlight_malTimes (d : Dev) (f : Flight) : (d.setFlight f).malTimes = d.malTimes := rfl
@[simp] theorem setFlight_tpPerst (d : Dev) (f : Flight) : (d.setFlight f).tpPerst = d.tpPerst := rfl
@[simp] theorem setFlight_fab (d : Dev) (f : Flight) : (d.setFlight f).fab = d.fab := rfl
@[simp] theorem setFlight_doms (d : Dev) (f : Flight) : (d.setFlight f).doms = d.doms := rfl
@[simp] theorem setFlight_sbd (d : Dev) (f : Flight) : (d.setFlight f).sbd = d.sbd := rfl
@[simp] theorem setFlight_flash (d : Dev) (f : Flight) : (d.setFlight f).flash = d.flash := rfl
@[simp] theorem setFlight_bfl (d : Dev) (f : Flight) : (d.setFlight f).bfl = d.bfl := rfl
@[simp] theorem setFlight_upd (d : Dev) (f : Flight) : (d.setFlight f).upd = d.upd := rfl
@[simp] theorem setFlight_mailbox (d : Dev) (f : Flight) : (d.setFlight f).mailbox = d.mailbox := rfl
@[simp] theorem setFlight_dbg (d : Dev) (f : Flight) : (d.setFlight f).dbg = d.dbg := rfl
@[simp] theorem setFlight_ddtGen (d : Dev) (f : Flight) : (d.setFlight f).ddtGen = d.ddtGen := rfl
@[simp] theorem setFlight_fltSeq (d : Dev) (f : Flight) : (d.setFlight f).fltSeq = d.fltSeq := rfl
@[simp] theorem setFlight_ovr (d : Dev) (f : Flight) : (d.setFlight f).ovr = d.ovr := rfl
@[simp] theorem setFlight_railMute (d : Dev) (f : Flight) : (d.setFlight f).railMute = d.railMute := rfl
@[simp] theorem setFlight_wdog (d : Dev) (f : Flight) : (d.setFlight f).wdog = d.wdog := rfl
@[simp] theorem setFlight_mbuf (d : Dev) (f : Flight) : (d.setFlight f).mbuf = d.mbuf := rfl
@[simp] theorem setFlight_sram (d : Dev) (f : Flight) : (d.setFlight f).sram = d.sram := rfl
@[simp] theorem setFlight_injected (d : Dev) (f : Flight) : (d.setFlight f).injected = d.injected := rfl
@[simp] theorem setFlight_evq (d : Dev) (f : Flight) : (d.setFlight f).evq = d.evq := rfl
@[simp] theorem setFlight_out (d : Dev) (f : Flight) : (d.setFlight f).out = d.out := rfl
@[simp] theorem setFlight_free (d : Dev) (f : Flight) : (d.setFlight f).free = d.free := rfl

/-! ### A record stored -/

@[simp] theorem setStore_life (d : Dev) (k : Nat) (v : Store) : (d.setStore k v).life = d.life := rfl
@[simp] theorem setStore_regs (d : Dev) (k : Nat) (v : Store) : (d.setStore k v).regs = d.regs := rfl
@[simp] theorem setStore_pages (d : Dev) (k : Nat) (v : Store) : (d.setStore k v).pages = d.pages := rfl
@[simp] theorem setStore_mem (d : Dev) (k : Nat) (v : Store) : (d.setStore k v).mem = d.mem := rfl
@[simp] theorem setStore_fns (d : Dev) (k : Nat) (v : Store) : (d.setStore k v).fns = d.fns := rfl
@[simp] theorem setStore_vfs (d : Dev) (k : Nat) (v : Store) : (d.setStore k v).vfs = d.vfs := rfl
@[simp] theorem setStore_compat (d : Dev) (k : Nat) (v : Store) : (d.setStore k v).compat = d.compat := rfl
@[simp] theorem setStore_ep (d : Dev) (k : Nat) (v : Store) : (d.setStore k v).ep = d.ep := rfl
@[simp] theorem setStore_dbOrder (d : Dev) (k : Nat) (v : Store) : (d.setStore k v).dbOrder = d.dbOrder := rfl
@[simp] theorem setStore_flights (d : Dev) (k : Nat) (v : Store) : (d.setStore k v).flights = d.flights := rfl
@[simp] theorem setStore_arb (d : Dev) (k : Nat) (v : Store) : (d.setStore k v).arb = d.arb := rfl
@[simp] theorem setStore_gates (d : Dev) (k : Nat) (v : Store) : (d.setStore k v).gates = d.gates := rfl
@[simp] theorem setStore_tints (d : Dev) (k : Nat) (v : Store) : (d.setStore k v).tints = d.tints := rfl
@[simp] theorem setStore_elogs (d : Dev) (k : Nat) (v : Store) : (d.setStore k v).elogs = d.elogs := rfl
@[simp] theorem setStore_recd (d : Dev) (k : Nat) (v : Store) : (d.setStore k v).recd = d.recd := rfl
@[simp] theorem setStore_bak (d : Dev) (k : Nat) (v : Store) : (d.setStore k v).bak = d.bak := rfl
@[simp] theorem setStore_gateAdm (d : Dev) (k : Nat) (v : Store) : (d.setStore k v).gateAdm = d.gateAdm := rfl
@[simp] theorem setStore_keys (d : Dev) (k : Nat) (v : Store) : (d.setStore k v).keys = d.keys := rfl
@[simp] theorem setStore_sealedKeys (d : Dev) (k : Nat) (v : Store) : (d.setStore k v).sealedKeys = d.sealedKeys := rfl
@[simp] theorem setStore_seals (d : Dev) (k : Nat) (v : Store) : (d.setStore k v).seals = d.seals := rfl
@[simp] theorem setStore_reseal (d : Dev) (k : Nat) (v : Store) : (d.setStore k v).reseal = d.reseal := rfl
@[simp] theorem setStore_cip (d : Dev) (k : Nat) (v : Store) : (d.setStore k v).cip = d.cip := rfl
@[simp] theorem setStore_rng (d : Dev) (k : Nat) (v : Store) : (d.setStore k v).rng = d.rng := rfl
@[simp] theorem setStore_dig (d : Dev) (k : Nat) (v : Store) : (d.setStore k v).dig = d.dig := rfl
@[simp] theorem setStore_loops (d : Dev) (k : Nat) (v : Store) : (d.setStore k v).loops = d.loops := rfl
@[simp] theorem setStore_traces (d : Dev) (k : Nat) (v : Store) : (d.setStore k v).traces = d.traces := rfl
@[simp] theorem setStore_ftl (d : Dev) (k : Nat) (v : Store) : (d.setStore k v).ftl = d.ftl := rfl
@[simp] theorem setStore_gcHeld (d : Dev) (k : Nat) (v : Store) : (d.setStore k v).gcHeld = d.gcHeld := rfl
@[simp] theorem setStore_jobRows (d : Dev) (k : Nat) (v : Store) : (d.setStore k v).jobRows = d.jobRows := rfl
@[simp] theorem setStore_media (d : Dev) (k : Nat) (v : Store) : (d.setStore k v).media = d.media := rfl
@[simp] theorem setStore_lostEnts (d : Dev) (k : Nat) (v : Store) : (d.setStore k v).lostEnts = d.lostEnts := rfl
@[simp] theorem setStore_lostSeen (d : Dev) (k : Nat) (v : Store) : (d.setStore k v).lostSeen = d.lostSeen := rfl
@[simp] theorem setStore_dies (d : Dev) (k : Nat) (v : Store) : (d.setStore k v).dies = d.dies := rfl
@[simp] theorem setStore_chans (d : Dev) (k : Nat) (v : Store) : (d.setStore k v).chans = d.chans := rfl
@[simp] theorem setStore_listsDone (d : Dev) (k : Nat) (v : Store) : (d.setStore k v).listsDone = d.listsDone := rfl
@[simp] theorem setStore_raw (d : Dev) (k : Nat) (v : Store) : (d.setStore k v).raw = d.raw := rfl
@[simp] theorem setStore_soft (d : Dev) (k : Nat) (v : Store) : (d.setStore k v).soft = d.soft := rfl
@[simp] theorem setStore_softFenced (d : Dev) (k : Nat) (v : Store) : (d.setStore k v).softFenced = d.softFenced := rfl
@[simp] theorem setStore_cache (d : Dev) (k : Nat) (v : Store) : (d.setStore k v).cache = d.cache := rfl
@[simp] theorem setStore_install (d : Dev) (k : Nat) (v : Store) : (d.setStore k v).install = d.install := rfl
@[simp] theorem setStore_jnl (d : Dev) (k : Nat) (v : Store) : (d.setStore k v).jnl = d.jnl := rfl
@[simp] theorem setStore_plp (d : Dev) (k : Nat) (v : Store) : (d.setStore k v).plp = d.plp := rfl
@[simp] theorem setStore_format (d : Dev) (k : Nat) (v : Store) : (d.setStore k v).format = d.format := rfl
@[simp] theorem setStore_firstStart (d : Dev) (k : Nat) (v : Store) : (d.setStore k v).firstStart = d.firstStart := rfl
@[simp] theorem setStore_formatting (d : Dev) (k : Nat) (v : Store) : (d.setStore k v).formatting = d.formatting := rfl
@[simp] theorem setStore_grants (d : Dev) (k : Nat) (v : Store) : (d.setStore k v).grants = d.grants := rfl
@[simp] theorem setStore_pushes (d : Dev) (k : Nat) (v : Store) : (d.setStore k v).pushes = d.pushes := rfl
@[simp] theorem setStore_pushQs (d : Dev) (k : Nat) (v : Store) : (d.setStore k v).pushQs = d.pushQs := rfl
@[simp] theorem setStore_pushDead (d : Dev) (k : Nat) (v : Store) : (d.setStore k v).pushDead = d.pushDead := rfl
@[simp] theorem setStore_pushSkip (d : Dev) (k : Nat) (v : Store) : (d.setStore k v).pushSkip = d.pushSkip := rfl
@[simp] theorem setStore_malTimes (d : Dev) (k : Nat) (v : Store) : (d.setStore k v).malTimes = d.malTimes := rfl
@[simp] theorem setStore_tpPerst (d : Dev) (k : Nat) (v : Store) : (d.setStore k v).tpPerst = d.tpPerst := rfl
@[simp] theorem setStore_fab (d : Dev) (k : Nat) (v : Store) : (d.setStore k v).fab = d.fab := rfl
@[simp] theorem setStore_doms (d : Dev) (k : Nat) (v : Store) : (d.setStore k v).doms = d.doms := rfl
@[simp] theorem setStore_sbd (d : Dev) (k : Nat) (v : Store) : (d.setStore k v).sbd = d.sbd := rfl
@[simp] theorem setStore_flash (d : Dev) (k : Nat) (v : Store) : (d.setStore k v).flash = d.flash := rfl
@[simp] theorem setStore_bfl (d : Dev) (k : Nat) (v : Store) : (d.setStore k v).bfl = d.bfl := rfl
@[simp] theorem setStore_upd (d : Dev) (k : Nat) (v : Store) : (d.setStore k v).upd = d.upd := rfl
@[simp] theorem setStore_mailbox (d : Dev) (k : Nat) (v : Store) : (d.setStore k v).mailbox = d.mailbox := rfl
@[simp] theorem setStore_dbg (d : Dev) (k : Nat) (v : Store) : (d.setStore k v).dbg = d.dbg := rfl
@[simp] theorem setStore_ddtGen (d : Dev) (k : Nat) (v : Store) : (d.setStore k v).ddtGen = d.ddtGen := rfl
@[simp] theorem setStore_fltSeq (d : Dev) (k : Nat) (v : Store) : (d.setStore k v).fltSeq = d.fltSeq := rfl
@[simp] theorem setStore_ovr (d : Dev) (k : Nat) (v : Store) : (d.setStore k v).ovr = d.ovr := rfl
@[simp] theorem setStore_railMute (d : Dev) (k : Nat) (v : Store) : (d.setStore k v).railMute = d.railMute := rfl
@[simp] theorem setStore_wdog (d : Dev) (k : Nat) (v : Store) : (d.setStore k v).wdog = d.wdog := rfl
@[simp] theorem setStore_mbuf (d : Dev) (k : Nat) (v : Store) : (d.setStore k v).mbuf = d.mbuf := rfl
@[simp] theorem setStore_sram (d : Dev) (k : Nat) (v : Store) : (d.setStore k v).sram = d.sram := rfl
@[simp] theorem setStore_injected (d : Dev) (k : Nat) (v : Store) : (d.setStore k v).injected = d.injected := rfl
@[simp] theorem setStore_evq (d : Dev) (k : Nat) (v : Store) : (d.setStore k v).evq = d.evq := rfl
@[simp] theorem setStore_out (d : Dev) (k : Nat) (v : Store) : (d.setStore k v).out = d.out := rfl
@[simp] theorem setStore_free (d : Dev) (k : Nat) (v : Store) : (d.setStore k v).free = d.free := rfl

end Sys2Proof.Machine
end

