-- ==== Sys2Proof/Laws/Tail.lean ====
section
/-! SUPPORT. What follows every command: the parts that the collector, the wake, the mode and the idle timer leave alone. -/
namespace Sys2Proof.Machine
open Sys2Proof

/-! ### Interrupts -/

/-- Signalling a vector changes its function and the output only. -/
theorem sendMsix_eq (d : Dev) (f : Fn) (v : Nat) : d.sendMsix f v = { d with fns := (d.sendMsix f v).fns, out := (d.sendMsix f v).out } := by
  have h : d.sendMsix f v = d ∨ d.sendMsix f v = d.setFn f { d.fn f with pba := v :: (d.fn f).pba } ∨ d.sendMsix f v = d.emit (.msix f v) := by
    by_cases h1 : (d.fn f).masked v = true
    · by_cases h2 : (d.fn f).pba.contains v = true
      · exact .inl (by simp only [Dev.sendMsix, h1, h2, if_true])
      · exact .inr (.inl (by simp only [Dev.sendMsix, h1, h2, if_true, if_false, Bool.false_eq_true]))
    · by_cases h3 : (d.fn f).bme = true
      · exact .inr (.inr (by simp only [Dev.sendMsix, h1, h3, if_true, if_false, Bool.false_eq_true]))
      · exact .inl (by simp only [Dev.sendMsix, h1, h3, if_false, Bool.false_eq_true])
  rcases h with h | h | h <;> rw [h] <;> rfl

theorem sendAll_eq (fs : List Fn) (v : Nat) : ∀ d : Dev, fs.foldl (fun (e : Dev) f => e.sendMsix f v) d =
    { d with fns := (fs.foldl (fun (e : Dev) f => e.sendMsix f v) d).fns, out := (fs.foldl (fun (e : Dev) f => e.sendMsix f v) d).out } := by
  induction fs with
  | nil => intro d; rfl
  | cons f fs ih => intro d; rw [List.foldl_cons, ih, sendMsix_eq]

theorem irqEdge_eq (d : Dev) (b : Bool) (p : PT) (i : Nat) : d.irqEdge b p i = { d with fns := (d.irqEdge b p i).fns, out := (d.irqEdge b p i).out } := by
  unfold Dev.irqEdge; split
  · exact sendAll_eq _ _ d
  · rfl

/-- Setting an interrupt bit changes registers, functions and output only. -/
theorem setIrq_eq (d : Dev) (p : PT) (i b : Nat) :
    d.setIrq p i b = { d with regs := (d.setIrq p i b).regs, fns := (d.setIrq p i b).fns, out := (d.setIrq p i b).out } := by
  unfold Dev.setIrq; rw [irqEdge_eq]; rfl

theorem setIrq_reg (d : Dev) (p q : PT) (i j b off : Nat) (h : q.key j off ≠ p.key i Reg.IRQ_STS) : (d.setIrq p i b).reg q j off = d.reg q j off := by
  unfold Dev.setIrq; rw [irqEdge_eq]; exact reg_setReg_ne d _ h

/-! ### The conditions of a mode -/

/-- Devices that agree in what the conditions look at have the same condition mode. -/
theorem condMode_congr {d e : Dev} (h1 : e.reg .FAB 0 Reg.FAB_FAB_STS = d.reg .FAB 0 Reg.FAB_FAB_STS)
    (h2 : e.reg .WEAR 0 Reg.WEAR_RO_CAUSE = d.reg .WEAR 0 Reg.WEAR_RO_CAUSE) (h3 : e.ftl = d.ftl) (h4 : e.chans = d.chans) (h5 : e.cip = d.cip) :
    e.condMode = d.condMode := by
  have a : e.fabFenced = d.fabFenced := by simp only [Dev.fabFenced, Dev.fabState, Dev.regF, h1]
  have b : e.readonlyC = d.readonlyC := by simp only [Dev.readonlyC, Dev.regB, Dev.regF, h2]
  have c : e.degradedC = d.degradedC := by simp only [Dev.degradedC, Dev.fabDegraded, Dev.fabState, Dev.regB, Dev.regF, h1, h3, h4, h5]
  unfold Dev.condMode; rw [a, b, c]

/-- No condition asks for sleep. -/
theorem condMode_awake (d : Dev) : ¬(d.condMode = .idle ∨ d.condMode = .patrol) := by
  unfold Dev.condMode
  by_cases h1 : d.fabFenced = true
  · simp [h1]
  · by_cases h2 : d.readonlyC = true
    · simp [h1, h2]
    · by_cases h3 : d.degradedC = true
      · simp [h1, h2, h3]
      · simp [h1, h2, h3]

theorem setMode_mode (d : Dev) (m : Mode) : (d.setMode m).life.mode = m := by
  unfold Dev.setMode; split
  · assumption
  · rfl

theorem setMode_condMode (d : Dev) (m : Mode) : (d.setMode m).condMode = d.condMode := by
  unfold Dev.setMode; split <;> rfl

theorem setMode_evq (d : Dev) (m : Mode) : (d.setMode m).evq = d.evq := by
  unfold Dev.setMode; split <;> rfl

theorem setIrq_evq (d : Dev) (p : PT) (i b : Nat) : (d.setIrq p i b).evq = d.evq := by rw [setIrq_eq]

theorem setIrq_condMode (d : Dev) (p : PT) (i b : Nat) (hp : p ≠ .FAB) (hq : p ≠ .WEAR) : (d.setIrq p i b).condMode = d.condMode :=
  condMode_congr (setIrq_reg _ _ _ _ _ _ _ (key_page _ _ _ _ (Ne.symm hp))) (setIrq_reg _ _ _ _ _ _ _ (key_page _ _ _ _ (Ne.symm hq)))
    (by rw [setIrq_eq]) (by rw [setIrq_eq]) (by rw [setIrq_eq])

/-! ### The wake -/

theorem wokenBy_evq (d : Dev) (c : WakeCause) : (d.wokenBy c).evq = d.evq := by
  unfold Dev.wokenBy; rw [setIrq_evq, setMode_evq]; rfl

theorem wokenBy_condMode (d : Dev) (c : WakeCause) : (d.wokenBy c).condMode = d.condMode := by
  have h : (((d.domsUp.kickAll).setRegN .PWR 0 Reg.PWR_WAKE_STS (wakeCode c))).condMode = d.condMode := by
    refine condMode_congr ?_ ?_ rfl rfl rfl
    · exact reg_setReg_ne _ _ (key_page _ _ _ _ (by decide))
    · exact reg_setReg_ne _ _ (key_page _ _ _ _ (by decide))
  unfold Dev.wokenBy
  rw [setIrq_condMode _ _ _ _ (by decide) (by decide), setMode_condMode]
  exact h

theorem ringAlarm_evq (d : Dev) : d.ringAlarm.evq = d.evq := by
  unfold Dev.ringAlarm; split
  · rw [setIrq_evq]
  · rfl

theorem ringAlarm_condMode (d : Dev) : d.ringAlarm.condMode = d.condMode := by
  unfold Dev.ringAlarm; split
  · rw [setIrq_condMode _ _ _ _ (by decide) (by decide)]; rfl
  · rfl

theorem wakeFor_evq (d : Dev) (c : WakeCause) : (d.wakeFor c).evq = d.evq := by
  unfold Dev.wakeFor; split
  · rfl
  · split
    · rw [ringAlarm_evq, wokenBy_evq]
    · rw [ringAlarm_evq, wokenBy_evq]
    · rfl

theorem wakeFor_condMode (d : Dev) (c : WakeCause) : (d.wakeFor c).condMode = d.condMode := by
  unfold Dev.wakeFor; split
  · rfl
  · split
    · rw [ringAlarm_condMode, wokenBy_condMode]
    · rw [ringAlarm_condMode, wokenBy_condMode]
    · rfl

theorem wakeSource_evq (c : WakeCause) (d : Dev) : (Dev.wakeSource c d).evq = d.evq := by
  unfold Dev.wakeSource; split
  · split <;> rfl
  · rfl
  · exact wakeFor_evq d c

theorem wakes_evq (d : Dev) : d.wakes.evq = d.evq := by
  unfold Dev.wakes; split
  · rfl
  · split
    · rw [wakeSource_evq]
    · rfl

/-! ### The collector, the mode, the idle timer -/

theorem collectN_evq (n : Nat) : ∀ d : Dev, (d.collectN n).evq = [] := by
  induction n with
  | zero => intro d; rfl
  | succ n ih =>
    intro d; unfold Dev.collectN; split
    · rename_i h; simpa using h
    · exact ih _

theorem settleMode_evq (d : Dev) : (settleMode d).evq = d.evq := by
  unfold settleMode; split
  · rfl
  · split
    case h_5 => split <;> simp only [setMode_evq, wakeFor_evq]
    case h_6 => split <;> simp only [setMode_evq, wakeFor_evq]
    all_goals simp only [setMode_evq]

theorem idleTimer_eq (d : Dev) : d.idleTimer = { d with life := { d.life with idleSince := d.idleStart } } := by
  unfold Dev.idleTimer
  by_cases h : d.life.idleSince = d.idleStart
  · rw [if_pos h, ← h]
  · rw [if_neg h]

theorem idleTimer_evq (d : Dev) : d.idleTimer.evq = d.evq := by rw [idleTimer_eq]
theorem idleTimer_mode (d : Dev) : d.idleTimer.life.mode = d.life.mode := by rw [idleTimer_eq]
theorem idleTimer_condMode (d : Dev) : d.idleTimer.condMode = d.condMode := by rw [idleTimer_eq]; rfl

theorem settleMode_condMode (d : Dev) : (settleMode d).condMode = d.condMode := by
  unfold settleMode; split
  · rfl
  · split
    case h_5 => split <;> simp only [setMode_condMode, wakeFor_condMode]
    case h_6 => split <;> simp only [setMode_condMode, wakeFor_condMode]
    all_goals simp only [setMode_condMode]

/-- What the idle condition looks at is not the idle timer. -/
theorem idleTimer_settled (d : Dev) : d.idleTimer.idleSettled := by
  have h : d.idleTimer.idleCond = d.idleCond := by rw [idleTimer_eq]; rfl
  unfold Dev.idleSettled; rw [h, idleTimer_eq]
  show d.idleStart.isSome = true ↔ d.life.mode = .active ∧ d.idleCond = true
  unfold Dev.idleStart
  by_cases h1 : d.life.mode = .active
  · by_cases h2 : d.idleCond = true
    · simp [h1, h2]
    · simp [h1, h2]
  · simp [h1]

/-- Publication changes GENERATION only (R68). -/
theorem published_eq (before after : Dev) : Dev.published before after = { after with ddtGen := (Dev.published before after).ddtGen } := by
  unfold Dev.published; split <;> rfl

/-- The collector takes nothing where no event was raised. -/
theorem collect_quiet (d : Dev) (h : d.evq = []) : collect d = d := by
  unfold collect Dev.collectN; rw [h]; rfl

end Sys2Proof.Machine
end

