-- ==== Sys2Proof/Laws/TailFrame.lean ====
section
/-! SUPPORT. What follows a command, function by function: each leaves `Dev.rest` as it is (R26, R552 to R564). -/
namespace Sys2Proof.Machine
open Sys2Proof

theorem ite_rest {c : Prop} [Decidable c] (a b : Dev) : (if c then a else b).rest = if c then a.rest else b.rest := by split <;> rfl
theorem foldl_rest {α : Type} (l : List α) (f : Dev → α → Dev) (h : ∀ d x, (f d x).rest = d.rest) : ∀ d, (l.foldl f d).rest = d.rest := by
  induction l with
  | nil => intro d; rfl
  | cons a l ih => intro d; rw [List.foldl_cons, ih, h]
set_option linter.unusedSimpArgs false
set_option linter.unusedVariables false
theorem rest_life (d : Dev) (x) : ({ d with life := x } : Dev).rest = d.rest := rfl
theorem rest_elogs (d : Dev) (x) : ({ d with elogs := x } : Dev).rest = d.rest := rfl
theorem rest_regs (d : Dev) (x) : ({ d with regs := x } : Dev).rest = d.rest := rfl
theorem rest_evq (d : Dev) (x) : ({ d with evq := x } : Dev).rest = d.rest := rfl
theorem rest_out (d : Dev) (x) : ({ d with out := x } : Dev).rest = d.rest := rfl
theorem rest_fns (d : Dev) (x) : ({ d with fns := x } : Dev).rest = d.rest := rfl
theorem rest_gates (d : Dev) (x) : ({ d with gates := x } : Dev).rest = d.rest := rfl
theorem rest_pushes (d : Dev) (x) : ({ d with pushes := x } : Dev).rest = d.rest := rfl
theorem rest_fab (d : Dev) (x) : ({ d with fab := x } : Dev).rest = d.rest := rfl
theorem rest_flights (d : Dev) (x) : ({ d with flights := x } : Dev).rest = d.rest := rfl
theorem rest_dbOrder (d : Dev) (x) : ({ d with dbOrder := x } : Dev).rest = d.rest := rfl
theorem rest_grants (d : Dev) (x) : ({ d with grants := x } : Dev).rest = d.rest := rfl
theorem rest_stores (d : Dev) (x) : ({ d with stores := x } : Dev).rest = d.rest := rfl
theorem rest_ftl (d : Dev) (x) : ({ d with ftl := x } : Dev).rest = d.rest := rfl
theorem rest_jnl (d : Dev) (x) : ({ d with jnl := x } : Dev).rest = d.rest := rfl
theorem rest_gcHeld (d : Dev) (x) : ({ d with gcHeld := x } : Dev).rest = d.rest := rfl
theorem rest_jobRows (d : Dev) (x) : ({ d with jobRows := x } : Dev).rest = d.rest := rfl
theorem rest_cache (d : Dev) (x) : ({ d with cache := x } : Dev).rest = d.rest := rfl
theorem rest_recd (d : Dev) (x) : ({ d with recd := x } : Dev).rest = d.rest := rfl
theorem rest_sbd (d : Dev) (x) : ({ d with sbd := x } : Dev).rest = d.rest := rfl
theorem rest_bak (d : Dev) (x) : ({ d with bak := x } : Dev).rest = d.rest := rfl
theorem rest_doms (d : Dev) (x) : ({ d with doms := x } : Dev).rest = d.rest := rfl
theorem rest_wdog (d : Dev) (x) : ({ d with wdog := x } : Dev).rest = d.rest := rfl
theorem rest_dbg (d : Dev) (x) : ({ d with dbg := x } : Dev).rest = d.rest := rfl
theorem rest_dig (d : Dev) (x) : ({ d with dig := x } : Dev).rest = d.rest := rfl
theorem rest_chans (d : Dev) (x) : ({ d with chans := x } : Dev).rest = d.rest := rfl
theorem rest_listsDone (d : Dev) (x) : ({ d with listsDone := x } : Dev).rest = d.rest := rfl
theorem rest_dies (d : Dev) (x) : ({ d with dies := x } : Dev).rest = d.rest := rfl
theorem rest_ddtGen (d : Dev) (x) : ({ d with ddtGen := x } : Dev).rest = d.rest := rfl
theorem rest_pages (d : Dev) (x) : ({ d with pages := x } : Dev).rest = d.rest := rfl
theorem rest_traces (d : Dev) (x) : ({ d with traces := x } : Dev).rest = d.rest := rfl
theorem rest_fltSeq (d : Dev) (x) : ({ d with fltSeq := x } : Dev).rest = d.rest := rfl
theorem rest_free (d : Dev) (x) : ({ d with free := x } : Dev).rest = d.rest := rfl
theorem rest_cip (d : Dev) (x) : ({ d with cip := x } : Dev).rest = d.rest := rfl
theorem rest_softFenced (d : Dev) (x) : ({ d with softFenced := x } : Dev).rest = d.rest := rfl
theorem rest_stores_grants (d : Dev) (x y) : ({ d with stores := x, grants := y } : Dev).rest = d.rest := rfl
theorem rest_cache_jobRows (d : Dev) (x y) : ({ d with cache := x, jobRows := y } : Dev).rest = d.rest := rfl
theorem rest_fltSeq_free (d : Dev) (x y) : ({ d with fltSeq := x, free := y } : Dev).rest = d.rest := rfl
theorem idleTimer_rest (d : Dev) : (Dev.idleTimer d).rest = d.rest := by
  unfold Dev.idleTimer
  simp only [ite_rest, rest_life, ite_self]

theorem addLog_rest (d : Dev) (v : Nat) (e : LogEntry) : (Dev.addLog d v e).rest = d.rest := by
  unfold Dev.addLog
  rfl

theorem addLogs_rest (d : Dev) (vs : List Nat) (e : LogEntry) : (Dev.addLogs d vs e).rest = d.rest := by
  unfold Dev.addLogs
  simp [addLog_rest, foldl_rest]

theorem setReg_rest (d : Dev) (p : PT) (i off : Nat) (v : W32) : (Dev.setReg d p i off v).rest = d.rest := by
  unfold Dev.setReg
  rfl

theorem setRegN_rest (d : Dev) (p : PT) (i off v : Nat) : (Dev.setRegN d p i off v).rest = d.rest := by
  unfold Dev.setRegN
  rfl

theorem incWrap_rest (d : Dev) (p : PT) (i off n : Nat) : (Dev.incWrap d p i off n).rest = d.rest := by
  unfold Dev.incWrap
  rfl

theorem countAttest_rest (d : Dev) (status result : Nat) : (Dev.countAttest d status result).rest = d.rest := by
  unfold Dev.countAttest
  rfl

theorem event_rest (d : Dev) (e : Ev) : (Dev.event d e).rest = d.rest := by
  unfold Dev.event
  simp only [ite_rest, rest_evq, ite_self]

theorem emit_rest (d : Dev) (e : OutEvent) : (Dev.emit d e).rest = d.rest := by
  unfold Dev.emit
  rfl

theorem setFn_rest (d : Dev) (f : Fn) (s : FnSt) : (Dev.setFn d f s).rest = d.rest := by
  unfold Dev.setFn
  rfl

theorem sendMsix_rest (d : Dev) (f : Fn) (v : Nat) : (Dev.sendMsix d f v).rest = d.rest := by
  unfold Dev.sendMsix
  simp only [ite_rest, emit_rest, setFn_rest, ite_self]

theorem irqEdge_rest (before : Bool) (p : PT) (i : Nat) (d : Dev) : (Dev.irqEdge before p i d).rest = d.rest := by
  unfold Dev.irqEdge
  simp [ite_rest, sendMsix_rest, ite_self, foldl_rest]

theorem setRegF_rest (d : Dev) (p : PT) (i off lo n v : Nat) : (Dev.setRegF d p i off lo n v).rest = d.rest := by
  unfold Dev.setRegF
  rfl

theorem setIrq_rest (d : Dev) (p : PT) (i b : Nat) : (Dev.setIrq d p i b).rest = d.rest := by
  unfold Dev.setIrq
  simp only [irqEdge_rest, setRegF_rest]

theorem raiseErr_rest (d : Dev) (p : PT) (i b detail : Nat) : (Dev.raiseErr d p i b detail).rest = d.rest := by
  unfold Dev.raiseErr
  simp only [ite_rest, event_rest, setRegF_rest, setIrq_rest, ite_self]

theorem completionMsg_rest (d : Dev) (q : Nat) : (Dev.completionMsg d q).rest = d.rest := by
  unfold Dev.completionMsg
  simp only [ite_rest, sendMsix_rest, raiseErr_rest, ite_self]

theorem setQF_rest (d : Dev) (q off lo n v : Nat) : (Dev.setQF d q off lo n v).rest = d.rest := by
  unfold Dev.setQF
  rfl

theorem forget_rest (d : Dev) (q t : Nat) : (Dev.forget d q t).rest = d.rest := by
  unfold Dev.forget
  rfl

theorem unflight_rest (d : Dev) (q t : Nat) : (Dev.unflight d q t).rest = d.rest := by
  unfold Dev.unflight
  rfl

theorem retire_rest (d : Dev) (q t : Nat) : (Dev.retire d q t).rest = d.rest := by
  unfold Dev.retire
  rfl

theorem ringPost_rest (d : Dev) (q tag status flags opcode firstFail result : Nat) (noIrq : Bool) : (Dev.ringPost d q tag status flags opcode firstFail result noIrq).rest = d.rest := by
  unfold Dev.ringPost
  simp only [ite_rest, incWrap_rest, emit_rest, completionMsg_rest, setQF_rest, retire_rest, ite_self]

theorem post_rest (d : Dev) (f : Flight) (status firstFail detail expected actual addr result : Nat) : (Dev.post d f status firstFail detail expected actual addr result).rest = d.rest := by
  unfold Dev.post
  simp only [ite_rest, addLogs_rest, countAttest_rest, unflight_rest, ringPost_rest, ite_self]

theorem appendGaps_rest (d : Dev) (k : Nat) (v : Store) : (Dev.appendGaps d k v).rest = d.rest := by
  unfold Dev.appendGaps
  simp [post_rest, foldl_rest]

theorem deltaCheck_rest (d : Dev) : d.deltaCheck.rest = d.rest := by
  unfold Dev.deltaCheck; rw [ite_rest, setIrq_rest, ite_self]

theorem grantEnd_rest (d : Dev) (t result rights : Nat) : (Dev.grantEnd d t result rights).rest = d.rest := by
  unfold Dev.grantEnd
  simp only [setRegN_rest, setIrq_rest]

theorem grantsFinish_rest (d : Dev) : (Dev.grantsFinish d).rest = d.rest := by
  unfold Dev.grantsFinish
  simp [ite_rest, grantEnd_rest, rest_grants, ite_self, foldl_rest]

theorem setStore_rest (d : Dev) (k : Nat) (v : Store) : (Dev.setStore d k v).rest = d.rest := by
  unfold Dev.setStore
  rfl

theorem mapFtl_rest (d : Dev) (f : Ftl → Ftl) : (Dev.mapFtl d f).rest = d.rest := by
  unfold Dev.mapFtl
  rfl

theorem mapDie_rest (d : Dev) (n : Nat) (f : DieSt → DieSt) : (Dev.mapDie d n f).rest = d.rest := by
  unfold Dev.mapDie
  repeat' (first | rfl | split)
  all_goals first | rfl | simp only [rest_dies]

theorem setReg64_rest (d : Dev) (p : PT) (i off v : Nat) : (Dev.setReg64 d p i off v).rest = d.rest := by
  unfold Dev.setReg64
  rfl

theorem inc64_rest (d : Dev) (p : PT) (i off n : Nat) : (d.inc64 p i off n).rest = d.rest := by
  unfold Dev.inc64; exact setReg64_rest _ _ _ _ _

theorem jrec_rest (d : Dev) (rs : List JRec) : (d.jrec rs).rest = d.rest := by
  unfold Dev.jrec; dsimp only; rw [rest_jnl, inc64_rest]

theorem pslRecompute_rest (d : Dev) : (Dev.pslRecompute d).rest = d.rest := by
  unfold Dev.pslRecompute
  simp only [ite_rest, setRegN_rest, setRegF_rest, setIrq_rest, rest_gcHeld, ite_self]

theorem setSb_rest (d : Dev) (n : Nat) (s : Sb) : (Dev.setSb d n s).rest = d.rest := by
  unfold Dev.setSb
  rfl

theorem sbFree_rest (d : Dev) (n : Nat) : (Dev.sbFree d n).rest = d.rest := by
  unfold Dev.sbFree
  simp only [ite_rest, incWrap_rest, setRegF_rest, mapFtl_rest, jrec_rest, pslRecompute_rest, setSb_rest, ite_self]

theorem replaceBlocks_rest (d : Dev) (n : Nat) (e : Dev) (h : d.replaceBlocks n = some e) : e.rest = d.rest := by
  unfold Dev.replaceBlocks at h
  split at h
  · cases h
  · dsimp only at h; split at h
    · injection h with h; rw [← h]; exact foldl_rest _ _ (fun d x => mapDie_rest _ _ _) d
    · cases h
theorem sbSettle_rest (d : Dev) (n : Nat) : (d.sbSettle n).rest = d.rest := by
  unfold Dev.sbSettle; dsimp only
  split
  · rfl
  · split
    · exact sbFree_rest _ _
    · split
      · split
        · rename_i e h; rw [sbFree_rest, replaceBlocks_rest _ _ _ h]
        · rfl
      · rfl

theorem releaseSlot_rest (d : Dev) (n : Nat) : (Dev.releaseSlot d n).rest = d.rest := by
  unfold Dev.releaseSlot
  simp only [setSb_rest, sbSettle_rest]

theorem dropBase_rest (d : Dev) (b : Nat) (e : Option BandEnt) : (Dev.dropBase d b e).rest = d.rest := by
  unfold Dev.dropBase
  repeat' (first | rfl | split)
  all_goals first | rfl | simp only [ite_rest, mapFtl_rest, releaseSlot_rest, ite_self]

theorem sbClose_rest (d : Dev) (n : Nat) : (Dev.sbClose d n).rest = d.rest := by
  unfold Dev.sbClose
  simp only [ite_rest, jrec_rest, setSb_rest, sbSettle_rest, ite_self]

theorem sbCloseIfFull_rest (d : Dev) (n : Nat) : (Dev.sbCloseIfFull d n).rest = d.rest := by
  unfold Dev.sbCloseIfFull
  simp only [ite_rest, sbClose_rest, ite_self]

theorem freeLogBand_rest (d : Dev) (l : Nat) (keepSlot : Bool) : (d.freeLogBand l keepSlot).rest = d.rest := by
  unfold Dev.freeLogBand; split
  · rfl
  · dsimp only; rw [ite_rest, sbCloseIfFull_rest, releaseSlot_rest, mapFtl_rest, ite_self]

theorem setBand_rest (d : Dev) (b : Nat) (e : Option BandEnt) : (Dev.setBand d b e).rest = d.rest := by
  unfold Dev.setBand
  simp only [mapFtl_rest, inc64_rest, jrec_rest, rest_jnl]

theorem unmapBand_rest (d : Dev) (b : Nat) : (Dev.unmapBand d b).rest = d.rest := by
  unfold Dev.unmapBand
  dsimp only; repeat' (first | rfl | split)
  all_goals first | rfl | simp only [ite_rest, mapFtl_rest, dropBase_rest, freeLogBand_rest, setBand_rest, rest_jobRows, rest_cache, rest_cache_jobRows, ite_self]

theorem nsClean_rest (d : Dev) (k : Nat) (v : Store) : (Dev.nsClean d k v).rest = d.rest := by
  unfold Dev.nsClean
  simp [setStore_rest, unmapBand_rest, foldl_rest]

theorem mapStore_rest (d : Dev) (k : Nat) (f : Store → Store) : (Dev.mapStore d k f).rest = d.rest := by
  unfold Dev.mapStore
  repeat' (first | rfl | split)
  all_goals first | rfl | simp only [setStore_rest]

theorem provEnd_rest (d : Dev) (kind result : Nat) : (Dev.provEnd d kind result).rest = d.rest := by
  unfold Dev.provEnd
  simp only [setRegN_rest, setIrq_rest]

theorem enterRec_rest (d : Dev) (r : Rec) : (Dev.enterRec d r).rest = d.rest := by
  unfold Dev.enterRec
  simp only [ite_rest, raiseErr_rest, rest_recd, ite_self]

theorem ibiCause_rest (d : Dev) (c : Nat) : (Dev.ibiCause d c).rest = d.rest := by
  unfold Dev.ibiCause
  simp only [ite_rest, rest_sbd, ite_self]

theorem record_rest (d : Dev) (fromFlt : Bool) (sev source code p0 p1 flags : Nat) : (Dev.record d fromFlt sev source code p0 p1 flags).rest = d.rest := by
  unfold Dev.record
  simp only [ite_rest, setIrq_rest, enterRec_rest, ibiCause_rest, rest_recd, ite_self]

theorem unmapRange_rest (d : Dev) (lo hi : Nat) : (Dev.unmapRange d lo hi).rest = d.rest := by
  unfold Dev.unmapRange
  simp [unmapBand_rest, foldl_rest]

theorem provFinishOne_rest (d : Dev) (k : Nat) (v : Store) : (Dev.provFinishOne d k v).rest = d.rest := by
  unfold Dev.provFinishOne
  simp only [ite_rest, jrec_rest, mapStore_rest, provEnd_rest, record_rest, unmapRange_rest, rest_grants, rest_stores, rest_stores_grants, ite_self]

theorem provFinish_rest (d : Dev) : (Dev.provFinish d).rest = d.rest := by
  unfold Dev.provFinish
  simp [ite_rest, provFinishOne_rest, ite_self, foldl_rest]

theorem recordsFinish_rest (d : Dev) : d.recordsFinish.rest = d.rest := by
  unfold Dev.recordsFinish; dsimp only
  rw [deltaCheck_rest, foldl_rest, provFinish_rest, grantsFinish_rest]
  intro d x
  split
  · split
    · exact nsClean_rest _ _ _
    · rfl
  · split
    · exact appendGaps_rest _ _ _
    · rfl

theorem updateArmed_rest (d : Dev) : (Dev.updateArmed d).rest = d.rest := by
  unfold Dev.updateArmed
  simp only [ite_rest, setRegF_rest, setIrq_rest, raiseErr_rest, ite_self]

theorem entryOver_rest (d : Dev) (restart : Bool) : (Dev.entryOver d restart).rest = d.rest := by
  unfold Dev.entryOver
  rfl

theorem ringAlarm_rest (d : Dev) : (Dev.ringAlarm d).rest = d.rest := by
  unfold Dev.ringAlarm
  simp only [ite_rest, setIrq_rest, rest_bak, ite_self]

theorem domsUp_rest (d : Dev) : (Dev.domsUp d).rest = d.rest := by
  unfold Dev.domsUp
  rfl

theorem kickAll_rest (d : Dev) : (Dev.kickAll d).rest = d.rest := by
  unfold Dev.kickAll
  rfl

theorem setMode_rest (d : Dev) (m : Mode) : (Dev.setMode d m).rest = d.rest := by
  unfold Dev.setMode
  repeat' (first | rfl | split)
  all_goals first | rfl | simp only [ite_rest, rest_life, rest_out, rest_dbg, ite_self]

theorem wokenBy_rest (d : Dev) (c : WakeCause) : (Dev.wokenBy d c).rest = d.rest := by
  unfold Dev.wokenBy
  simp only [setRegN_rest, setIrq_rest, domsUp_rest, kickAll_rest, setMode_rest, rest_life]

theorem wakeFor_rest (d : Dev) (c : WakeCause) : (Dev.wakeFor d c).rest = d.rest := by
  unfold Dev.wakeFor
  repeat' (first | rfl | split)
  all_goals first | rfl | simp only [ite_rest, ringAlarm_rest, wokenBy_rest, ite_self]

theorem wakeSource_rest (c : WakeCause) (d : Dev) : (Dev.wakeSource c d).rest = d.rest := by
  unfold Dev.wakeSource
  repeat' (first | rfl | split)
  all_goals first | rfl | simp only [ite_rest, entryOver_rest, wakeFor_rest, rest_life, ite_self]

theorem wakes_rest (d : Dev) : (Dev.wakes d).rest = d.rest := by
  unfold Dev.wakes
  repeat' (first | rfl | split)
  all_goals first | rfl | simp only [ite_rest, wakeSource_rest, rest_life, ite_self]

theorem coresReset_rest (d : Dev) : (Dev.coresReset d).rest = d.rest := by
  unfold Dev.coresReset
  rfl

theorem discardPosted_rest (d : Dev) (q : Nat) : (Dev.discardPosted d q).rest = d.rest := by
  unfold Dev.discardPosted
  simp [post_rest, foldl_rest]

theorem bitAfterDrop_rest (d : Dev) (q t : Nat) : (Dev.bitAfterDrop d q t).rest = d.rest := by
  unfold Dev.bitAfterDrop
  simp only [ite_rest, setQF_rest, ite_self]

theorem dropTag_rest (d : Dev) (q t : Nat) : (Dev.dropTag d q t).rest = d.rest := by
  unfold Dev.dropTag
  simp only [unflight_rest, bitAfterDrop_rest, rest_dbOrder]

theorem dropFlights_rest (d : Dev) (q : Nat) : (Dev.dropFlights d q).rest = d.rest := by
  unfold Dev.dropFlights
  simp [dropTag_rest, foldl_rest]

theorem clearUnadmitted_rest (d : Dev) (q : Nat) : (Dev.clearUnadmitted d q).rest = d.rest := by
  unfold Dev.clearUnadmitted
  simp [retire_rest, foldl_rest]

theorem freeze_rest (d : Dev) (q reason : Nat) (tag : Option (Nat × Nat)) (discarded : List Nat) : (Dev.freeze d q reason tag discarded).rest = d.rest := by
  unfold Dev.freeze
  repeat' (first | rfl | split)
  all_goals first | rfl | simp only [ite_rest, addLogs_rest, setIrq_rest, setQF_rest, clearUnadmitted_rest, ite_self]

theorem freezeDiscard_rest (d : Dev) (q reason : Nat) (posted : Bool) : (Dev.freezeDiscard d q reason posted).rest = d.rest := by
  unfold Dev.freezeDiscard
  simp only [ite_rest, discardPosted_rest, dropFlights_rest, freeze_rest, ite_self]

theorem c3React_rest (d : Dev) : d.c3React.rest = d.rest := by
  have h : d.c3React.rest = ((d.liveQueues.foldl (fun d q => d.freezeDiscard q Fz.device true) d).coresReset).rest := rfl
  rw [h, coresReset_rest]; exact foldl_rest _ _ (fun d q => freezeDiscard_rest _ _ _ _) d

theorem c4React_rest (d : Dev) : (Dev.c4React d).rest = d.rest := by
  unfold Dev.c4React
  simp [ite_rest, emit_rest, setRegF_rest, ibiCause_rest, freeze_rest, rest_life, ite_self, foldl_rest]

theorem mapChan_rest (d : Dev) (ch : Nat) (f : ChSt → ChSt) : (Dev.mapChan d ch f).rest = d.rest := by
  unfold Dev.mapChan
  repeat' (first | rfl | split)
  all_goals first | rfl | simp only [rest_chans]

theorem reapLists_rest (d : Dev) (ch : Nat) : (Dev.reapLists d ch).rest = d.rest := by
  unfold Dev.reapLists
  (repeat' (first | rfl | split)) <;> first | rfl | simp [ite_rest, setIrq_rest, mapChan_rest, rest_listsDone, ite_self, foldl_rest]

theorem endDieEntries_rest (d : Dev) (ch die status : Nat) : (Dev.endDieEntries d ch die status).rest = d.rest := by
  unfold Dev.endDieEntries
  simp only [ite_rest, mapChan_rest, reapLists_rest, ite_self]

theorem retireGroup_rest (d : Dev) (g cause : Nat) : (d.retireGroup g cause).rest = d.rest := by
  unfold Dev.retireGroup; split
  · rfl
  · split
    · split
      · rw [jrec_rest, mapFtl_rest]
      · rfl
    · rw [jrec_rest, mapFtl_rest]

theorem dieFail_rest (d : Dev) (n cause : Nat) : (Dev.dieFail d n cause).rest = d.rest := by
  unfold Dev.dieFail
  dsimp only; repeat' (first | rfl | split)
  all_goals first | rfl | simp only [ite_rest, setIrq_rest, raiseErr_rest, mapDie_rest, endDieEntries_rest, retireGroup_rest, ite_self]

theorem containChannel_rest (d : Dev) (ch : Nat) : (Dev.containChannel d ch).rest = d.rest := by
  unfold Dev.containChannel
  simp [dieFail_rest, foldl_rest]

theorem setDom_rest (d : Dev) (n : Nat) (x : Domn) : (Dev.setDom d n x).rest = d.rest := by
  unfold Dev.setDom
  rfl

theorem containDomain_rest (d : Dev) (n : Nat) : (Dev.containDomain d n).rest = d.rest := by
  unfold Dev.containDomain
  rfl

theorem containQueues_rest (d : Dev) (p : Nat → Bool) : (Dev.containQueues d p).rest = d.rest := by
  unfold Dev.containQueues
  simp [freezeDiscard_rest, foldl_rest]

theorem setPage_rest (d : Dev) (p : PT) (i : Nat) (s : PageSt) : (Dev.setPage d p i s).rest = d.rest := by
  unfold Dev.setPage
  rfl

theorem setRates_rest (d : Dev) : (Dev.setRates d).rest = d.rest := by
  unfold Dev.setRates
  rfl

theorem traceDone_rest (d : Dev) (b : Nat) (stopped : Bool) : (Dev.traceDone d b stopped).rest = d.rest := by
  unfold Dev.traceDone
  simp only [ite_rest, setRegF_rest, setIrq_rest, ite_self]

theorem traceLeave_rest (d : Dev) (n : Nat) : (Dev.traceLeave d n).rest = d.rest := by
  unfold Dev.traceLeave
  simp [ite_rest, traceDone_rest, ite_self, foldl_rest]

theorem containUnit_rest (d : Dev) (e : Ev) : (Dev.containUnit d e).rest = d.rest := by
  unfold Dev.containUnit
  repeat' (first | rfl | split)
  all_goals first | rfl | simp only [ite_rest, setRegN_rest, emit_rest, setRegF_rest, dropFlights_rest, mapChan_rest, containChannel_rest, containDomain_rest, containQueues_rest, setPage_rest, setRates_rest, traceLeave_rest, rest_cip, rest_softFenced, ite_self]

theorem incSat_rest (d : Dev) (p : PT) (i off n : Nat) : (Dev.incSat d p i off n).rest = d.rest := by
  unfold Dev.incSat
  rfl

theorem setTrace_rest (d : Dev) (b : Nat) (t : TraceSt) : (Dev.setTrace d b t).rest = d.rest := by
  unfold Dev.setTrace
  rfl

theorem traceFault_rest (d : Dev) : (Dev.traceFault d).rest = d.rest := by
  unfold Dev.traceFault
  simp [ite_rest, setTrace_rest, ite_self, foldl_rest]

theorem takeEvent_rest (d : Dev) (e : Ev) (cls : Nat) (esc ovr : Bool) : (d.takeEvent e cls esc ovr).rest = d.rest := by
  unfold Dev.takeEvent; dsimp only
  simp only [ite_rest, traceFault_rest, setIrq_rest, addLogs_rest, record_rest, setRegF_rest, setRegN_rest, incSat_rest, rest_life, rest_free, rest_fltSeq, rest_fltSeq_free, ite_self]
  repeat rw [foldl_rest]
  all_goals first | (intro d x; exact setRegN_rest _ _ _ _ _) | skip
  all_goals simp only [ite_rest, traceFault_rest, setIrq_rest, addLogs_rest, record_rest, setRegF_rest, setRegN_rest, incSat_rest, rest_life, rest_free, rest_fltSeq, rest_fltSeq_free, ite_self]

theorem takeAll_rest (d : Dev) : d.takeAll.rest = d.rest := by
  have hf : ∀ (es : List Ev) (r : Dev × List (Ev × Nat)), (es.foldl (fun (r : Dev × List (Ev × Nat)) e =>
      let c := r.1.takenClass e
      (r.1.takeEvent e c.1 c.2.1 c.2.2, r.2 ++ [(e, c.1)])) r).1.rest = r.1.rest := by
    intro es; induction es with
    | nil => intro r; rfl
    | cons e es ih => intro r; rw [List.foldl_cons, ih]; exact takeEvent_rest _ _ _ _ _
  unfold Dev.takeAll; dsimp only
  have hg : ∀ (l : List (Ev × Nat)) (x : Dev), (l.foldl (fun d e => if e.2 = 2 then d.containUnit e.1 else d) x).rest = x.rest :=
    fun l x => foldl_rest l _ (fun d e => by rw [ite_rest, containUnit_rest, ite_self]) x
  split
  · rw [c4React_rest, hg]; exact hf _ _
  · split
    · rw [c3React_rest, hg]; exact hf _ _
    · rw [hg]; exact hf _ _

theorem collectN_rest (n : Nat) : ∀ d : Dev, (d.collectN n).rest = d.rest := by
  induction n with
  | zero => intro d; rfl
  | succ n ih =>
    intro d; unfold Dev.collectN; split
    · rfl
    · rw [ih, takeAll_rest]

theorem collect_rest (d : Dev) : (collect d).rest = d.rest := collectN_rest 3 d

theorem settleMode_rest (d : Dev) : (settleMode d).rest = d.rest := by
  unfold settleMode; split
  · rfl
  · split
    case h_5 => rw [ite_rest, setMode_rest, wakeFor_rest, ite_self]
    case h_6 => rw [ite_rest, setMode_rest, wakeFor_rest, ite_self]
    case h_7 => rfl
    all_goals rw [setMode_rest]

theorem settle_rest (d : Dev) : (settle d).rest = d.rest := by
  unfold settle; rw [idleTimer_rest, settleMode_rest, wakes_rest, collect_rest, updateArmed_rest, recordsFinish_rest]

end Sys2Proof.Machine
end

