-- ==== Sys2Proof/Tests/Slice0.lean ====
section
/-! SUPPORT. The model's own tests: ill-formed commands that well-formedness refuses, the spec's worked examples, and for every statement with
hypotheses a device and operands that meet them. -/
namespace Sys2Proof.Tests
open Sys2Proof Sys2Proof.Machine
set_option linter.unusedVariables false
-- the proofs of this file run one after another: side by side they take more threads than the memory limit allows
set_option Elab.async false

/-! ### Ill-formed commands, one for each check -/

theorem test_wf_refuses_vf_zero : Instr.wf (.shutdown { dom := .vf, num := 0 }) = false := by decide
theorem test_wf_refuses_i3c_outside_host : Instr.wf (.shutdown { dom := .secure, i3c := true }) = false := by decide
theorem test_wf_refuses_port_function : Instr.wf (.flr (.tp 8)) = false := by decide
theorem test_wf_refuses_header_link : Instr.wf (.authHello ⟨⟨6, 0, 0, 0, 0, 0⟩, 0⟩) = false := by decide
theorem test_wf_refuses_queue : Instr.wf (.doorbell { dom := .host } 2560 0#32) = false := by decide
theorem test_wf_refuses_tag : Instr.wf (.nop 0 32) = false := by decide
theorem test_wf_refuses_page_type : Instr.wf (.startupComplete 0 0) = false := by decide
theorem test_wf_refuses_page_instance : Instr.wf (.startupComplete 0x2a 128) = false := by decide
theorem test_wf_refuses_window_type : Instr.wf (.memberSelWrite { dom := .host } 0 0) = false := by decide
theorem test_wf_refuses_channel : Instr.wf (.channelTraining 128) = false := by decide
theorem test_wf_refuses_die : Instr.wf (.entryIssue 2048) = false := by decide
theorem test_wf_refuses_link : Instr.wf (.flDetectTimeout 6) = false := by decide
theorem test_wf_refuses_loop : Instr.wf (.loopMemUncorr 16) = false := by decide
theorem test_wf_refuses_member : Instr.wf (.heartbeatLoss 64) = false := by decide
theorem test_wf_refuses_tint : Instr.wf (.grantSet { dom := .host } 1024) = false := by decide
theorem test_wf_refuses_port : Instr.wf (.tpPerstRise 8) = false := by decide
theorem test_wf_refuses_optional_port : Instr.wf (.l0pChange (some 8) (.root 4)) = false := by decide
theorem test_wf_refuses_domain : Instr.wf (.domainStageReady 16) = false := by decide
theorem test_wf_refuses_gate : Instr.wf (.gateAdmit 15) = false := by decide
theorem test_wf_refuses_engine : Instr.wf (.admitNext 4) = false := by decide
theorem test_wf_refuses_vf_binding : Instr.wf (.vfBindWrite { dom := .host } 256 0#32) = false := by decide
theorem test_wf_refuses_core : Instr.wf (.coreHalt 33) = false := by decide
theorem test_wf_refuses_sequencer : Instr.wf (.xHalt 129) = false := by decide
theorem test_wf_refuses_trace : Instr.wf (.traceArm { dom := .glaze } 4) = false := by decide
theorem test_wf_refuses_cipher_lane : Instr.wf (.laneFault 640) = false := by decide
theorem test_wf_refuses_lane_group : Instr.wf (.cipherJobGrant 8 none) = false := by decide
theorem test_wf_refuses_record_kind : Instr.wf (.provCreate { dom := .host } 3) = false := by decide
theorem test_wf_refuses_key_slot : Instr.wf (.resealDone 4096) = false := by decide
theorem test_wf_refuses_mailbox : Instr.wf (.mailboxRequest 64 0 false) = false := by decide
theorem test_wf_refuses_word_address : Instr.wf (.read32 4294967296) = false := by decide
theorem test_wf_refuses_access_size : Instr.wf (.registerWrite { dom := .host } ⟨.view, 0⟩ 65 0) = false := by decide
theorem test_wf_refuses_empty_list : Instr.wf (.listSubmit 0 0 0 []) = false := by decide
theorem test_wf_refuses_list_lane : Instr.wf (.listSubmit 0 4 0 [⟨0, 0, 0, 0, 0, 0, 0, 0⟩]) = false := by decide
theorem test_wf_refuses_short_blob : Instr.wf (.unwrap { dom := .secure } []) = false := by decide
theorem test_wf_refuses_sram_address : Instr.wf (.sramCorrected 12 0x40000 0 0 0) = false := by decide
theorem test_wf_refuses_region : Instr.wf (.sramCorrected 16 0 0 0 0) = false := by decide

theorem test_wf_refuses_superblock : Instr.wf (.eraseDone 1048576 ⟨[], 0, 0⟩) = false := by decide

/-! ### Worked examples of the spec -/

/-- 03_host_endpoint.md R77, R78: the PF's first header word, and its capability list starts at 0x40 and goes on to 0x50. -/
theorem test_configuration_header :
    Dev.first.cfgRead .pf 0 = .none ∧ Dev.first.cfgWord .pf 0x00 = 0x64001F3A ∧ Dev.first.cfgWord .pf 0x34 = 0x40 ∧
      Dev.first.cfgWord .pf 0x40 / 256 % 256 = 0x50 := by decide +kernel

/-- 07_media_codes.md R251, R252: one symbol in error is corrected, two are not, and SYM1 only detects. -/
theorem test_word_classes :
    classOf false 0xff00 = .corrected 1 ∧ classOf false 0x10001 = .uncorr ∧ classOf true 0x1 = .uncorr ∧ classOf false 0 = .clean := by decide

/-- 02_register_pages.md: CH page 90 of BAR0 stands at 0x0015_A000 and its PAGE_ID reads 0x02A0_5A02. -/
theorem test_page_of_channel_90 :
    locate 0x15A00C = some (.CH, 90, 0xc) ∧ Dev.first.readWord { dom := .host } .CH 90 0 = 0x02A05A02 := by decide +kernel

/-- 11_tenant_ports.md: ceilings under scales of 55 % and 30 %. -/
theorem test_effective_rates :
    effRate 60000 50 36044 = 32999 ∧ effRate 40000 0 36044 = 21999 ∧ effRate 20000 25 36044 = 10999 ∧
      effRate 60000 50 19660 = 30000 ∧ effRate 40000 0 19660 = 11999 ∧ effRate 20000 25 19660 = 5999 := by decide

def c3Event : Ev := { ty := 1, inst := 0, bit := 0, fixed := false, rail := false, cls := 3, detail := 0, unit := 0 }

/-- 18_fault_handling.md: C3 events at 12, 140, 395 s leave one at 615 s a C3; the one at 700 s is taken as C4, escalated. -/
theorem test_c3_escalates :
    ({ Dev.first with life := { Life.reset with usUp := 615000000, c3Times := [12000000, 140000000, 395000000] } } : Dev).takenClass c3Event = (3, false, false) ∧
      ({ Dev.first with life := { Life.reset with usUp := 700000000, c3Times := [12000000, 140000000, 395000000, 615000000] } } : Dev).takenClass c3Event =
        (4, true, false) := by decide +kernel

/-- 23_debug_port.md: region 3 of the SRAM starts at 0x1400_0000. -/
theorem test_region_3 : regionAt 0x14000000 = 3 ∧ regionAt 0x13ffffff = 2 ∧ regionAt 0x14400000 = 4 := by decide

/-- 22_package_and_pins.md R641: IDCODE goes out first after reset. -/
theorem test_idcode : (match step ⟨[.idcode], Dev.first⟩ with
    | .next t => t.dev.out.contains (.tap 0xB640049F)
    | _ => false) = true := by decide +kernel

/-- 01_architecture.md R27: the main rails lead from BACKUP to RESET. -/
theorem test_rails : (match step ⟨[.mainRailsRising], { Dev.first with life := { Life.reset with mode := .backup } }⟩ with
    | .next t => decide (t.dev.life.mode = .reset)
    | _ => false) = true := by decide +kernel

/-- No row of the opcode table has bits, so no word spells a command. -/
theorem test_no_word_decodes : decodeTableWord 8 0 = none := rfl

/-- A command in front of the queue runs before those behind it, which stay. -/
theorem test_queue_order : (match step ⟨[.oscStop, .idcode], Dev.first⟩ with
    | .next t => t.pending == [.idcode]
    | _ => false) = true := by decide +kernel

/-! ### Devices of the witnesses -/

/-- A function whose memory space and MSI-X are enabled. -/
def openFn : FnSt := { fnReset with mse := true, msixOff := false }
/-- A formatted standalone device that serves in ACTIVE, with the functions of the host and of tenant port 3 enabled. -/
def serving : Dev :=
  { Dev.first with
    fns := [(0, openFn), (259, openFn)]
    life := { Life.reset with mode := .active, booted := true, replayed := true, mordant := true, glaze := .running, usUp := 1000 } }
def inMode (m : Mode) (d : Dev) : Dev := { d with life := { d.life with mode := m } }
def sx : Requester := { dom := .secure }
def hostR : Requester := { dom := .host }
/-- A fabric member at FAB_ID 1, in ACTIVE. -/
def member : Dev :=
  { serving with regs := [((PT.FAB.key 0 0x44), 0x1001#32), ((PT.FAB.key 0 0x48), 3#32)] }
def aLine : Line :=
  { stored := .zero, guard := 0, app := 0, ref := 0, zero := true, poison := 0, install := 1, target := 0, tint := 0, gate := 0, atUs := 0, placed := false }
def dirty : Dev := { serving with cache := [(5, aLine)] }
def aGen : Gen :=
  { seq := 1, slot := 0, clean := false, testCut := false, plan := [[.head]], done := [0], lines := [], jnl := [], installMax := 0, jseq := 0, recs := [],
    stripes := [], durUs := 0, retired := false, ended := false }
/-- ACTIVE with the idle condition held since time 0. -/
def idling : Dev :=
  { serving with life := { serving.life with idleSince := some 0, usUp := 100000000 }, regs := [(PT.PLP.key 0 0x44, 1#32)] }
def aCmd : Cmd :=
  { opcode := 0, flags := 0, rsv := false, target := 0, addr := 0, count := 0, appTag := 0, appMask := 0, dataAddr := 0, piAddr := 0, refTag := 0, arg0 := 0, arg1 := 0 }
def aFlight : Flight :=
  { q := 0, tag := 0, cmd := aCmd, qe := 0, tint := 0, stage := .run, gate := 0, charge := 0, moved := 0, jobs := [], staged := [], name := [], obj := none,
    bands := [], resv := 0, result := 0, order := 0, descs := [] }
/-- Port 3 serves, its queue 1 takes pushes, and tag 1 holds a WRITE. -/
def pushing : Dev :=
  { serving with
    pages := [(PT.TP.key 3 0, .serving), (PT.TQ.key 193 0, .serving)], pushQs := [2241]
    regs := [(PT.TP.key 3 Reg.TP_LINK_STS, 6#32), (PT.TQ.key 193 0x48, 2#32)]
    mem := [(2241 * 2048 + 64, 2#8), (2241 * 2048 + 80, 1#8)] }
/-- A member at FAB_ID 1 of a chain of two, link 0 UP to the head. -/
def memberUp : Dev :=
  { serving with
    regs := [(PT.FAB.key 0 0x40, 8#32), (PT.FAB.key 0 0x44, 0x1001#32), (PT.FAB.key 0 0x48, 3#32), (PT.FL.key 0 0x44, 5#32), (PT.FL.key 1 0x44, 5#32)] }
/-- The head of a chain of two, link 0 UP to its member. -/
def headUp : Dev :=
  { serving with
    life := { serving.life with strapHead := true }
    regs := [(PT.FAB.key 0 0x40, 9#32), (PT.FAB.key 0 0x44, 0x40000#32), (PT.FAB.key 0 0x48, 0xb#32), (PT.FL.key 0 0x44, 5#32)]
    fab := { FabSt.empty with members := [(0, ⟨2, 1, 0, false, 0, none⟩), (1, ⟨2, 1, 7, false, 0, none⟩)] } }
def hdr0 : MsgHdr := ⟨0, 0, 0, 0, 0, 1⟩
def hdrDown : MsgHdr := ⟨0, 0, 2, 0, 0, 1⟩
def hdrUp : MsgHdr := ⟨0, 1, 4, 0, 0, 1⟩
def hdr1 : MsgHdr := ⟨0, 1, 0, 0, 0, 1⟩
/-- The head in ACTIVE with a link in a given state that changed at time 0. -/
def headLink (st : Nat) : Dev :=
  { headUp with regs := [(PT.FAB.key 0 0x40, 9#32), (PT.FAB.key 0 0x44, 0x40000#32), (PT.FAB.key 0 0x48, 0xb#32), (PT.FL.key 0 0x44, BitVec.ofNat 32 st)],
                life := { headUp.life with usUp := 1000000 } }
def aStore : Store :=
  { base := 0, bands := 4, flags := 0, owner := 0, keyRef := 0, fabK := 1, fabM := 1, fabSet := 3, dirBands := 0, compact := 0, committed := 0, floor := 0, snaps := [],
    snapNewest := 0, deleting := false, oldBands := 0, hold := false, objs := [], extents := 0, fill := none, old := [] }
def reshaping : Dev :=
  { headUp with stores := [(1, aStore), (shadowKey 1, aStore)], fab := { headUp.fab with reshape := some ⟨1, 2, 1, 3, 0, [], false⟩ } }
/-- A standalone record of four bands, owned by tint 0. -/
def aVol : Store := { aStore with fabK := 0, fabM := 0, fabSet := 0, committed := 8 }
/-- One command of an opcode stands in tag 0 of queue 0, on record 1. -/
def withCmd (c : Cmd) (st : Stage) : Dev :=
  { serving with
    flights := [{ aFlight with cmd := c, stage := st }]
    stores := [(1, aVol), (65537, aVol), (131073, aVol)], dbOrder := [(0, 0)], ftl := { serving.ftl with bands := [(0, ⟨false, false, false, 0, 0, 0, 0⟩)] }
    pages := [(PT.HQ.key 0 0, .serving), (PT.TNT.key 0 0, .serving), (PT.QE.key 0 0, .serving)] }
def cmdOf (op n : Nat) : Cmd := { aCmd with opcode := op, target := 1, count := n }
/-- A flight of `withCmd`. -/
def flightOf (c : Cmd) (st : Stage) : Flight := { aFlight with cmd := c, stage := st }
/-- A namespace with one object, named by the byte 7. -/
def aNs : Store :=
  { aVol with dirBands := 1, objs := [⟨[7#8], 3, 4096, 1, 0, 1, 0, 1, 0⟩], extents := 1, committed := 0, fill := some (1, 1) }
def withNs (c : Cmd) : Dev :=
  { withCmd c .run with
    stores := [(131073, aNs)]
    ftl := { serving.ftl with bands := (List.range 4).map (fun i => (i, ⟨false, false, false, 0, 0, 0, 0⟩)) } }
def relocFtl : Ftl :=
  { serving.ftl with
    bands := [(0, ⟨false, false, false, 0, 0, 0, 0⟩)], groups := [(0, ⟨1, 0, 8, 8, [0, 1, 2, 3, 4, 5, 6, 7]⟩)]
    sbs := [(3, ⟨2, false, 0, 0, 0, 1, [], 0, 0, 0, 0, 0⟩)] }
def rawList : ListDone := ⟨0, 0, 0, 3, 1, 0, 0, 0, 0, 0⟩
/-- A READY die in data service. -/
def aDie : DieSt :=
  { state := 1, susp := 0, cause := 0, data := true, geo := ⟨16384, 2048, 4, 768, 4, true⟩, rated := 3000, ident := [], block := 0, pslc := false, blocks := 64, spares := [], factoryBad := [], grownBad := [], subst := []
    resv := [], erases := [], lastTimeout := none, cur := none, held := none, reads := 0, sinceUs := 0, runUs := 0, retry := 0, shift := 0, resetFor := 0, keptOut := false }
/-- MAINT, with a raw queue and a raw-only die. -/
def rawDev (c : Cmd) (st : Stage) : Dev :=
  { withCmd c st with
    life := { serving.life with mode := .maint }, regs := [(PT.HQ.key 0 Reg.HQ_Q_CFG, 0x400000#32)], dies := [(0, { aDie with data := false })]
    listsDone := [rawList] }
/-- A log band open in superblock 3, filled by `n` sectors. -/
def aLog (st n : Nat) : LogBand :=
  { band := 0, state := st, sb := 3, slot := 0, fast := false, fill := n, inOrder := true, direct := false, lastWrite := 0, map := [], unit := [0], unitUs := 0
    unitGate := 0, holdUs := 0, more := true, urgent := 0, forced := false }
/-- A formatted device with one group, an open superblock 3 and the cache line of sector 0 of bands 0 and 9. -/
def placing : Dev :=
  { serving with
    ftl := { relocFtl with logs := [(0, aLog 1 1)], bands := [(0, ⟨true, false, false, 3, 1, 0, 0⟩)], rows := [((3 * 64) * 16, ⟨0, 16⟩)] }
    format := some ⟨0, 1, 1, serving.serial, 8⟩, cache := [(0, aLine), (9 * 4096, aLine)], life := { serving.life with usUp := 100000000000 }
    dies := [(0, aDie), (16, aDie)] }
/-- A full log band, to be merged where its fullness forces it. -/
def mergeLog : LogBand := { aLog 2 4096 with unit := [], forced := true }
def mergeDev : Dev := { placing with ftl := { placing.ftl with logs := [(0, mergeLog)], rows := [] } }
/-- A checkpoint pass is due. -/
def ckptDev : Dev :=
  { placing with regs := [(PT.MAP.key 0 Reg.MAP_CKPT_CFG, 0x1000#32)], jnl := { placing.jnl with deltas := List.replicate 0x1000 ⟨0, 0, 0, 0⟩ }, plp := { placing.plp with rootPages := 3 } }
theorem ckpt_due : ckptDev.mayPlace = true ∧ ckptDev.regB .MAP 0 Reg.MAP_CKPT_STS 8 = false ∧ ckptDev.deltaMax ≤ ckptDev.jnl.deltas.length ∧
    ckptDev.plp.rootPages ≠ 0 := by
  refine ⟨by decide +kernel, by decide +kernel, ?_, by decide +kernel⟩
  have a : ckptDev.deltaMax = 0x1000 := by decide +kernel
  have b : ckptDev.jnl.deltas.length = 0x1000 := List.length_replicate
  exact Nat.le_of_eq (a.trans b.symm)
/-- A slot of group 1 that only a snapshot holds. -/
def aHeld : SnapEnt := { band := 0, none := false, sb := 8192, slot := 1, fast := false, gen := 0, lo := 0, hi := 1 }
def aPuevo : Puevo := ⟨true, 1, 5, 0x3c, 4, 0x90, 0x91, 0x92, 0xa0, 0xa1, 10, 100, 400, 2000, 10000⟩
def aChan (ls : List CmdList) : ChSt :=
  { puevo := aPuevo, modes := [(19, 1600)], tR := 100, tProg := 2000, tBers := 10000, lists := ls, ready := true, below := none, trainS := 0, trainTemp := 0
    fenced := [], rated := 3000, bits := 4, jedec := 0
    manuf := [], model := [], trainRd := [] }
def aTrained : Trained := ⟨[some 20], 0, false, 0, [], 0, 0⟩
def readEntry : Entry := { op := 1, flags := 0x10, diePl := 0x10, retry := 0, row := 5 * 1024, cwMask := 0, buf := 0, arg := 0 }
/-- Channel 0 serves with one die; `x` is the die, `ls` its lists. -/
def chanDev (st : PageSt) (x : DieSt) (ls : List CmdList) : Dev :=
  { serving with
    life := { serving.life with usUp := 1000000000 }, pages := [(PT.CH.key 0 0, st)], chans := [(0, aChan ls)], dies := [(0, x)]
    regs := [(PT.CH.key 0 Reg.CH_SUSP_CFG, 0x66000000#32), (PT.CH.key 0 Reg.CH_PHY_CFG, 10#32)] }
/-- A list with one entry on a lane. -/
def aList (lane : Nat) (e : Entry) (r : EntryRun) : CmdList := ⟨lane, lane, lane, [(e, r)], 0, none, 0⟩
def anEsc (st : Nat) : Esc := ⟨st, 1, 0, 0, false, false, 0x180000#32, 2#32⟩
def inRead (st : Nat) : Flight := { flightOf (cmdOf 1 1) .media with jobs := [⟨0, 0, .media 0 (anEsc st)⟩] }
/-- A read whose one sector stands at a step of the escalation. -/
def reading (st : Nat) : Dev := { withCmd (cmdOf 1 1) .media with flights := [inRead st] }
def aStripe : FStripe :=
  { mirror := false, acting := false, degraded := false, volume := 1, stripe := 0, first := 0, count := 1, owner := 1, buddy := 0, pending := 3, wseq := 1
    jseq := 9, acked := false, built := false, ingress := 1, xid := 7, secs := [], old := [] }
def aCtx : DigCtx :=
  { req := 4, alg := 1, key := 0, mode := 1, composed := false, msg := [], done := 0, final := false, expected := [], q := 0, tag := 0, fresh := true }
/-- The digest engine with the SEC interface's message in context 0. -/
def digDev : Dev := { serving with dig := { serving.dig with ctxs := [(0, aCtx)] }, regs := [(PT.DIG.key 0 Reg.DIG_SEC_LEN, 2#32)] }
def aKey : KeySlot := ⟨1, 256, 1, 0, 0, 0, 0, [], [], []⟩
def aRec : Rec := { sev := 1, flags := 0, source := 0, code := 0, rep := 0, seq := 1, pos := 0, pcc := 0, cal := 0, p0 := 0, p1 := 0, atUs := 0 }
/-- The head with a trial of a set of two members. -/
def headTrial : Dev :=
  { headUp with regs := [(PT.FAB.key 0 0x40, 9#32), (PT.FAB.key 0 0x44, 0x40000#32), (PT.FAB.key 0 0x48, 0xb#32), (PT.FL.key 0 0x44, 5#32),
      (PT.UPD.key 0 Reg.UPD_UPD_STS, 5#32), (PT.UPD.key 0 Reg.UPD_SET, 3#32)] }
/-- A device that applies an empty staged package. -/
def applying : Dev := { serving with regs := [(PT.UPD.key 0 Reg.UPD_UPD_STS, 2#32)] }
/-- The first 28 bytes of a block 0 of package `pkg`, of `size` bytes for this block. -/
def blockHead (size ix : Nat) : List Byte :=
  leBytes 4 0x42555650 ++ [1#8, 0#8, 0#8, 0#8] ++ leBytes 8 5 ++ leBytes 4 ix ++ leBytes 4 3 ++ leBytes 4 size
/-- A block whose CHECK is right. -/
def goodBlock (size ix : Nat) : List Byte :=
  blockHead size ix ++ (leBytes 4 (crc32c (blockHead size ix ++ zeros 4 ++ zeros 65504)) ++ zeros 65504)
theorem leNat_leBytes (n v : Nat) : leNat (leBytes n v) = v % 256 ^ n := by
  induction n generalizing v with
  | zero => simp [leBytes, leNat, Nat.mod_one]
  | succ n ih =>
    rw [leBytes, leNat, ih, BitVec.toNat_ofNat, show 256 ^ (n + 1) = 256 * 256 ^ n from Nat.pow_succ', Nat.mod_mul]
    omega
theorem leNat_lt (bs : List Byte) : leNat bs < 256 ^ bs.length := by
  induction bs with
  | nil => simp [leNat]
  | cons b bs ih =>
    rw [leNat, List.length_cons, Nat.pow_succ]
    have := b.isLt
    omega
theorem blockHead_length (size ix : Nat) : (blockHead size ix).length = 28 := rfl
theorem blockOk_of (a z : List Byte) (ha : a.length = 28) (hz : z.length = 65504) (h1 : bytesAt a 0 4 = 0x42555650) (h2 : bytesAt a 4 1 = 1) :
    (a ++ (leBytes 4 (crc32c (a ++ zeros 4 ++ z)) ++ z)).length = 65536 ∧ blockOk (a ++ (leBytes 4 (crc32c (a ++ zeros 4 ++ z)) ++ z)) = true := by
  have e4 : ∀ v, (leBytes 4 v).length = 4 := fun _ => rfl
  generalize hc : crc32c (a ++ zeros 4 ++ z) = c
  have hlt : c < 2 ^ 32 := by rw [← hc]; exact BitVec.isLt _
  have hl : (a ++ (leBytes 4 c ++ z)).length = 65536 := by simp only [List.length_append, ha, e4, hz]
  have g1 : bytesAt (a ++ (leBytes 4 c ++ z)) 0 4 = 0x42555650 := by
    rw [← h1]; simp only [bytesAt, List.drop_zero]; rw [List.take_append_of_le_length (by omega)]
  have g2 : bytesAt (a ++ (leBytes 4 c ++ z)) 4 1 = 1 := by
    refine Eq.trans ?_ h2
    simp only [bytesAt]
    rw [List.drop_append_of_le_length (by omega), List.take_append_of_le_length (by simp only [List.length_drop] <;> omega)]
  have g3 : (a ++ (leBytes 4 c ++ z)).take 0x1c = a := by
    rw [List.take_append_of_le_length (by omega), List.take_of_length_le (by omega)]
  have g4 : (a ++ (leBytes 4 c ++ z)).drop 0x20 = z := by
    rw [← List.append_assoc, List.drop_append_of_le_length (by simp only [List.length_append, ha, e4] <;> omega),
      List.drop_of_length_le (by simp only [List.length_append, ha, e4] <;> omega), List.nil_append]
  have g5 : bytesAt (a ++ (leBytes 4 c ++ z)) 0x1c 4 = c := by
    rw [bytesAt, List.drop_append_of_le_length (by omega), List.drop_of_length_le (by omega), List.nil_append,
      List.take_append_of_le_length (by rw [e4] <;> omega), List.take_of_length_le (by rw [e4] <;> omega), leNat_leBytes]
    exact Nat.mod_eq_of_lt hlt
  refine ⟨hl, ?_⟩
  simp only [blockOk, hl, g1, g2, g3, g4, g5, hc, beq_self_eq_true, Bool.and_self]
theorem goodBlock_spec (size ix : Nat) : (goodBlock size ix).length = 65536 ∧ blockOk (goodBlock size ix) = true :=
  blockOk_of (blockHead size ix) (zeros 65504) (blockHead_length size ix) List.length_replicate (by simp [blockHead, bytesAt, leBytes, leNat]) (by simp [blockHead, bytesAt, leBytes, leNat])
theorem zeros_block : (zeros 65536).length = 65536 ∧ blockOk (zeros 65536) = false := by
  have h : bytesAt (zeros 65536) 0 4 = 0 := rfl
  refine ⟨List.length_replicate, ?_⟩
  simp only [blockOk, h]
  simp
/-- A staged manifest whose first entry is an empty FULL part. -/
def appManifest : List Byte := zeros 0x120 ++ [0#8, 1#8] ++ zeros 0x4e ++ leBytes 48 (sha384 [])
def applyGood : Dev := { applying with upd := { serving.upd with blocks := [(0, zeros 6 ++ leBytes 2 0x1a0 ++ zeros 24 ++ appManifest)] } }
theorem applyGood_manifest : applyGood.manifest = appManifest := by
  have h : applyGood.manifest = blockBody (zeros 6 ++ leBytes 2 0x1a0 ++ zeros 24 ++ appManifest) := rfl
  have e : (zeros 6 ++ leBytes 2 0x1a0 ++ zeros 24).length = 0x20 := rfl
  have g : bytesAt (zeros 6 ++ leBytes 2 0x1a0 ++ zeros 24 ++ appManifest) 6 2 = 0x1a0 := rfl
  rw [h, blockBody, g, ← e, List.drop_left, List.take_of_length_le]
  rw [appManifest]
  have f : ∀ n v, (leBytes n v).length = n := by
    intro n; induction n with
    | zero => intro v; rfl
    | succ n ih => intro v; rw [leBytes, List.length_cons, ih]
  simp only [List.length_append, zeros, List.length_replicate, List.length_cons, List.length_nil, f] <;> omega
theorem applyGood_digest : partAt appManifest 0 0x50 48 = sha384 [] := by
  have h : partAt appManifest 0 0x50 48 = leNat (leBytes 48 (sha384 [])) := by
    have e : ((zeros 0x120 ++ [0#8, 1#8]) ++ zeros 0x4e).length = 0x170 := by simp only [List.length_append, zeros, List.length_replicate, List.length_cons, List.length_nil]
    have f : ∀ n v, (leBytes n v).length = n := by
      intro n; induction n with
      | zero => intro v; rfl
      | succ n ih => intro v; rw [leBytes, List.length_cons, ih]
    rw [partAt, appManifest, bytesAt, show 0x120 + 128 * 0 + 0x50 = 0x170 from rfl, ← e, List.drop_left, List.take_of_length_le (by rw [f] <;> omega)]
  rw [h, leNat_leBytes]
  refine Nat.mod_eq_of_lt (Nat.lt_of_lt_of_le (leNat_lt _) (Nat.pow_le_pow_right (Nat.succ_pos _) ?_))
  rw [List.length_take]; omega
theorem applyGood_parts : applyGood.writeParts appManifest [1, 2, 3, 4, 5, 6, 7] = (0, 0, applyGood) := by rfl
theorem applyGood_ok : applyGood.badDigest appManifest = none := by
  have hp : ∀ k ∈ [1, 2, 3, 4, 5, 6, 7], partOf appManifest k = 0 := by decide +kernel
  have hs : partAt appManifest 0 0x0c 4 = 0 := by rfl
  have hf : ∀ a, applyGood.flashBytes a 0 = [] := fun _ => rfl
  rw [Dev.badDigest, List.find?_eq_none]
  intro k hk
  simp only [hp k hk, hs, hf, applyGood_digest, bne_self_eq_false, Bool.false_eq_true, not_false_eq_true]
/-- A submitted token of level 1 for the nonce drawn at free value 5. -/
def tokenDev : Dev :=
  { serving with
    regs := [(PT.OPT.key 0 Reg.OPT_OPT_DEV, 0x200#32)]
    dbg := { serving.dbg with nonce := some 5, busy := true, token := leBytes 8 serving.serial ++ (nonceBytes 5 ++ ([1#8, 0#8, 0#8, 0#8] ++ zeros 4)) } }
theorem tokenDev_fits : tokenDev.tokenFits = true := by
  have a : leNat (tokenDev.dbg.token.take 8) = tokenDev.serial := by decide +kernel
  have b : (tokenDev.dbg.token.drop 8).take 32 = nonceBytes 5 := rfl
  have c : leNat ((tokenDev.dbg.token.drop 0x28).take 1) = 1 := rfl
  have e : 1 ≤ tokenDev.dbgMax := by decide +kernel
  show (leNat (tokenDev.dbg.token.take 8) == tokenDev.serial && (tokenDev.dbg.token.drop 8).take 32 == nonceBytes 5 &&
    decide (1 ≤ leNat ((tokenDev.dbg.token.drop 0x28).take 1) ∧ leNat ((tokenDev.dbg.token.drop 0x28).take 1) ≤ tokenDev.dbgMax)) = true
  rw [a, b, c, beq_self_eq_true, beq_self_eq_true, decide_eq_true ⟨Nat.le_refl 1, e⟩]
  rfl
/-- An option image for a standalone line of one stands in MBOX. -/
def optDev : Dev := { serving with regs := [(PT.UPD.key 0 (Reg.UPD_MBOX_0 + 4), 0x300000#32), (PT.UPD.key 0 (Reg.UPD_MBOX_0 + 16), 0x1010100#32)] }
/-- A namespace whose band 1 holds one live sector, due for compaction into band 2. -/
def compactNs : Store := { aNs with compact := 50, fill := some (2, 1) }
def compactDev : Dev := { withNs (cmdOf 0x20 0) with stores := [(131072, compactNs)], regs := [(PT.PLP.key 0 0x44, 0x100001#32)] }
/-- A formatted device whose flush die is gone. -/
def staleFlush : Dev := { serving with format := some ⟨1, 1, 1, serving.serial, 1⟩, plp := { serving.plp with dies := [7] } }
theorem staleFlush_stale : staleFlush.plp.dies ≠ staleFlush.flushChoice := by decide +kernel
/-- Port 3 serves on a trained link. -/
def trainedPort : Dev := { serving with pages := [(PT.TP.key 3 0, .serving)], regs := [(PT.TP.key 3 Reg.TP_LINK_STS, 6#32)] }
/-- The host link is up in Flit mode with L0P_AUTO set. -/
def l0pDev : Dev := { serving with ep := { serving.ep with termination := true }, life := { serving.life with refclk := true }, regs := [(PT.EP.key 0 0x40, 0x184#32), (PT.EP.key 0 0x44, 0xe#32)] }

/-! ### Witnesses of the statements' hypotheses -/

/-- The hypotheses of IdleStep, clause by clause. -/
theorem witness_IdleStep :
    ∃ (d : Dev), d.life.mode = .backup :=
  ⟨inMode .backup Dev.first, by decide +kernel⟩

/-- The hypotheses of ResetState, clause by clause. -/
theorem witness_ResetState :
    ∃ (p : PT) (i off : Nat), p ≠ .OPT ∧ p ≠ .FAB :=
  ⟨.DEV, 0, 0x40, by decide +kernel⟩

/-- The hypotheses of SettledAlways, clause by clause. -/
theorem witness_SettledAlways :
    ∃ (s t : State), step s = .next t :=
  ⟨State.reset, ⟨[], Dev.published Dev.first (afterFabric Dev.first.tick)⟩, rfl⟩

/-- The hypotheses of StartUp, clause by clause. -/
theorem witness_StartUp :
    (∃ (d : Dev), d.life.mode = .backup) ∧
    (∃ (d : Dev) (headSel : Bool), d.life.mode = .reset) ∧
    (∃ (d : Dev) (a b m g : Nat), d.life.mode = .boot ∧ d.life.fatal = false ∧ d.life.mordant = false ∧ d.regB .SX 0 Reg.SX_BOOT_STS 14 = false ∧ d.namedBanks = (m, g, false, false, 0) ∧ checkCode a = true ∧ checkCode b = true ∧ (if m = 0 then a else b) = 1) ∧
    (∃ (d : Dev) (a b : Nat), d.life.mode = .boot ∧ d.life.fatal = false ∧ d.life.mordant = false ∧ d.regB .SX 0 Reg.SX_BOOT_STS 14 = false ∧ 2 ≤ a ∧ a ≤ 6 ∧ 2 ≤ b ∧ b ≤ 6) ∧
    (∃ (d : Dev) (b : Nat), d.life.mode = .boot ∧ d.life.fatal = false ∧ d.life.mordant = true ∧ d.life.glaze = .stopped ∧ d.bootInForce = none ∧ d.regF .SX 0 Reg.SX_BOOT_STS 0 1 = 0 ∧ checkCode b = true ∧ d.formatted = true) ∧
    (∃ (d : Dev) (a b : Nat), d.life.mode = .boot ∧ d.life.fatal = false ∧ d.life.mordant = true ∧ d.life.glaze = .stopped ∧ d.bootInForce = none ∧ d.regF .SX 0 Reg.SX_BOOT_STS 0 1 = 0 ∧ 2 ≤ a ∧ a ≤ 6 ∧ 2 ≤ b ∧ b ≤ 6) ∧
    (∃ (d : Dev) (lost : List Nat), d.life.mode = .boot ∧ d.life.fatal = false ∧ d.life.glaze = .running ∧ d.life.replayed = false) ∧
    (∃ (d : Dev), d.isMember = false ∧ d.life.mode ≠ .backup ∧ d.life.mode ≠ .reset) :=
  ⟨⟨inMode .backup Dev.first, by decide +kernel⟩,
   ⟨Dev.first, false, by decide +kernel⟩,
   ⟨inMode .boot Dev.first, 1, 1, 0, 0, by decide +kernel⟩,
   ⟨inMode .boot Dev.first, 4, 6, by decide +kernel⟩,
   ⟨{ inMode .boot Dev.first with life := { Life.reset with mode := .boot, mordant := true }, format := some ⟨1, 1, 1, Dev.first.serial, 1⟩ }, 1, by decide +kernel⟩,
   ⟨{ inMode .boot Dev.first with life := { Life.reset with mode := .boot, mordant := true } }, 4, 6, by decide +kernel⟩,
   ⟨{ inMode .boot Dev.first with life := { Life.reset with mode := .boot, mordant := true, glaze := .running } }, [], by decide +kernel⟩,
   ⟨serving, by decide +kernel⟩⟩

/-- The hypotheses of ResetInputs, clause by clause. -/
theorem witness_ResetInputs :
    (∃ (d : Dev), liveMode d.life.mode = true ∧ ({ d with life := { d.life with rstN := false } }).dataPending = false) ∧
    (∃ (d : Dev), liveMode d.life.mode = true ∧ ({ d with life := { d.life with rstN := false } }).dataPending = true) ∧
    (∃ (d : Dev), d.isMember = false ∧ liveMode d.life.mode = true ∧ ({ d with life := { d.life with perstN := false } }).dataPending = false) ∧
    (∃ (d : Dev), d.isMember = false ∧ liveMode d.life.mode = true ∧ ({ d with life := { d.life with perstN := false } }).dataPending = true) ∧
    (∃ (d : Dev), d.isMember = true) ∧
    (∃ (d : Dev) (r : Rail), d.life.mode ≠ .backup) :=
  ⟨⟨serving, by decide +kernel⟩,
   ⟨dirty, by decide +kernel⟩,
   ⟨serving, by decide +kernel⟩,
   ⟨dirty, by decide +kernel⟩,
   ⟨member, by decide +kernel⟩,
   ⟨serving, .nand, by decide +kernel⟩⟩

/-- The hypotheses of ShutdownMaintRestart, clause by clause. -/
theorem witness_ShutdownMaintRestart :
    (∃ (d : Dev) (r : Requester), d.takes r .DEV 0 Reg.DEV_MODE_CTL = true ∧ d.life.shutDone = false) ∧
    (∃ (d : Dev) (r : Requester), d.takes r .DEV 0 Reg.DEV_MODE_CTL = true ∧ d.life.shutDone = true) ∧
    (∃ (d : Dev), d.life.shutting = true ∧ d.flights = [] ∧ d.cache = [] ∧ d.fab.stripes = [] ∧ d.ftl.logs = [] ∧ d.recd.pending = [] ∧ d.life.replayed = true) ∧
    (∃ (d : Dev), d.life.shutting = true ∧ d.flights = [] ∧ d.cache = [] ∧ d.fab.stripes = [] ∧ d.ftl.logs = [] ∧ d.recd.pending = [] ∧ d.life.replayed = false ∧ d.life.mode = .maint) ∧
    (∃ (d : Dev) (r : Requester), d.takes r .DEV 0 Reg.DEV_MODE_CTL = true) ∧
    (∃ (d : Dev), d.life.maintReq = true ∧ d.life.fatal = false ∧ Mode.conditional d.life.mode = true ∧ d.flights = [] ∧ d.cache = [] ∧ d.fab.stripes = []) ∧
    (∃ (d : Dev) (r : Requester), d.takes r .DEV 0 Reg.DEV_MODE_CTL = true ∧ ((d.taken r .DEV 0).wakes.life.shutDone = true ∨ (d.taken r .DEV 0).wakes.life.mode = .maint) ∧ restartMode (d.taken r .DEV 0).wakes.life.mode = true ∧ (d.taken r .DEV 0).wakes.cache = [] ∧ (d.taken r .DEV 0).wakes.fab.stripes = []) ∧
    (∃ (d : Dev) (r : Requester), d.takes r .DEV 0 Reg.DEV_MODE_CTL = true ∧ (d.taken r .DEV 0).wakes.life.shutDone = false ∧ (d.taken r .DEV 0).wakes.life.mode ≠ .maint) :=
  ⟨⟨serving, sx, by decide +kernel⟩,
   ⟨{ serving with life := { serving.life with shutDone := true } }, sx, by decide +kernel⟩,
   ⟨{ serving with life := { serving.life with shutting := true } }, by decide +kernel⟩,
   ⟨{ serving with life := { serving.life with shutting := true, replayed := false, mode := .maint } }, by decide +kernel⟩,
   ⟨serving, sx, by decide +kernel⟩,
   ⟨{ serving with life := { serving.life with maintReq := true } }, by decide +kernel⟩,
   ⟨{ serving with life := { serving.life with shutDone := true } }, sx, by decide +kernel⟩,
   ⟨serving, sx, by decide +kernel⟩⟩

/-- The hypotheses of PowerLossFlush, clause by clause. -/
theorem witness_PowerLossFlush :
    (∃ (d : Dev), liveMode d.life.mode = true) ∧
    (∃ (d : Dev), liveMode d.life.mode = false) ∧
    (∃ (d : Dev) (p : Pgood), liveMode d.life.mode = true) ∧
    (∃ (d : Dev) (p : Pgood), liveMode d.life.mode = false) ∧
    (∃ (d : Dev), d.life.mode = .flush ∧ d.plp.flushing = false) ∧
    (∃ (d : Dev) (n : Nat), d.plp.flushing = true ∧ n < d.plp.dies.length ∧ d.dieQuiet (d.plp.dies.getD n 0) = true ∧ n ∉ d.plp.quiet) ∧
    (∃ (d : Dev) (n : Nat) (g : Gen), d.plp.flushing = true ∧ n ∈ d.plp.quiet ∧ d.plp.gens.getLast? = some g ∧ g.done.getD n 0 < d.flushLimit g n) ∧
    (∃ (d : Dev) (g : Gen), d.plp.flushing = true ∧ d.plp.gens.getLast? = some g ∧ d.flushDone g = true ∧ d.life.rails = true) ∧
    (∃ (d : Dev) (g : Gen), d.plp.flushing = true ∧ d.plp.gens.getLast? = some g ∧ d.flushDone g = true ∧ d.life.rails = false) ∧
    (∃ (d : Dev) (r : Requester), r.dom = .secure ∧ d.takes r .PLP 0 Reg.FORCE = true ∧ liveMode d.life.mode = true) ∧
    (∃ (d : Dev) (r : Requester), r.dom = .secure ∧ d.takes r .PLP 0 Reg.FORCE = true) :=
  ⟨⟨serving, by decide +kernel⟩,
   ⟨inMode .reset serving, by decide +kernel⟩,
   ⟨serving, .nand, by decide +kernel⟩,
   ⟨inMode .reset serving, .nand, by decide +kernel⟩,
   ⟨inMode .flush serving, by decide +kernel⟩,
   ⟨{ serving with plp := { serving.plp with flushing := true, dies := [0, 16, 32] } }, 1, by decide +kernel⟩,
   ⟨{ serving with plp := { serving.plp with flushing := true, dies := [0], quiet := [0], gens := [aGen] } }, 0, aGen, by decide +kernel⟩,
   ⟨{ serving with life := { serving.life with rails := true }, plp := { serving.plp with flushing := true, dies := [0], quiet := [0], gens := [{ aGen with done := [1] }] } }, { aGen with done := [1] }, by decide +kernel⟩,
   ⟨{ serving with life := { serving.life with rails := false }, plp := { serving.plp with flushing := true, dies := [0], quiet := [0], gens := [{ aGen with done := [1] }] } }, { aGen with done := [1] }, by decide +kernel⟩,
   ⟨serving, sx, by decide +kernel⟩,
   ⟨serving, sx, by decide +kernel⟩⟩

/-- The hypotheses of FlushAreaAndCache, clause by clause. -/
theorem witness_FlushAreaAndCache :
    (∃ (d : Dev), d.mediaMode = true ∧ d.formatted = true ∧ d.plp.dies ≠ d.flushChoice) ∧
    (∃ (d : Dev) (bad : List Nat), d.mediaMode = true ∧ d.formatted = true ∧ ((10 - d.plp.usedSlots < 3 ∨ d.plp.rootPages < 2 ∨ d.recd.rotating = true)) ∧ d.otherIndexHeld = false ∧ d.ringFrozen = false) ∧
    (∃ (d : Dev) (r : Requester) (v : W32), d.takes r .PLP 0 Reg.PLP_PLP_CFG = true) ∧
    (∃ (d : Dev), d.life.booted = true ∧ d.cacheMib < d.effMib ∧ d.cache.length ≤ linesOfMib d.cacheMib) ∧
    (∃ (d : Dev) (n : Nat) (g : Gen), d.plp.gens.find? (fun g => g.seq == n) = some g ∧ d.life.booted = true ∧ g.retired = false ∧ d.mayRetire g = true) :=
  ⟨⟨staleFlush, by decide +kernel, by decide +kernel, staleFlush_stale⟩,
   ⟨{ serving with format := some ⟨1, 1, 1, serving.serial, 1⟩, plp := { serving.plp with usedSlots := 8 } }, [], by decide +kernel⟩,
   ⟨serving, sx, 200#32, by decide +kernel⟩,
   ⟨{ serving with regs := [(PT.PLP.key 0 0x40, 16#32), (PT.PLP.key 0 0x44, 0x800000#32)] }, by decide +kernel⟩,
   ⟨{ serving with plp := { serving.plp with gens := [aGen] } }, 1, aGen, by decide +kernel⟩⟩

/-- The hypotheses of IdleAndPatrol, clause by clause. -/
theorem witness_IdleAndPatrol :
    (∃ (d : Dev) (t : Nat), d.life.idleSince = some t ∧ d.life.fatal = false ∧ d.life.mode = .active ∧ d.idleCond = true ∧ d.life.entry = .none ∧ d.idleUs ≠ 0 ∧ d.idleUs ≤ d.life.usUp - t) ∧
    (∃ (d : Dev), d.life.entry = .quiescing ∧ d.life.fatal = false ∧ d.life.mode = .active ∧ d.idleCond = true) ∧
    (∃ (d : Dev), d.life.entry = .quiescing) ∧
    (∃ (d : Dev) (c : WakeCause), d.life.entry = .none ∧ (d.life.mode = .idle ∨ d.life.mode = .patrol)) ∧
    (∃ (d : Dev) (c : WakeCause), d.life.entry = .quiescing ∧ d.life.wakeReq = none) ∧
    (∃ (d : Dev), d.life.mode = .idle ∧ d.workDue = true) ∧
    (∃ (d : Dev), d.life.mode = .idle ∧ d.life.fatal = false ∧ d.regF .PWR 0 Reg.PWR_PATROL_CFG 0 16 ≠ 0 ∧ d.idleUs ≠ 0 ∧ d.regF .PWR 0 Reg.PWR_PATROL_CFG 0 16 * 1000000 ≤ d.life.usUp - d.life.idleAt) ∧
    (∃ (d : Dev), d.life.entry = .patrolEntering ∧ d.life.fatal = false ∧ d.life.mode = .active ∧ d.patrolCond = true ∧ d.ftl.rows = [] ∧ d.idleCond = true) ∧
    (∃ (d : Dev) (bits : List Nat), d.life.mode = .patrol ∧ d.sentinels = []) ∧
    (∃ (d : Dev) (n b : Nat), d.life.mode = .patrol ∧ d.life.fatal = false ∧ d.wakeSentinels = [n] ∧ b < d.patrolBits) ∧
    (∃ (d : Dev) (n : Nat), n < 16 ∧ (d.dom n).stage < 4 ∧ (d.dom n).st = .starting) ∧
    (∃ (d : Dev) (n : Nat), 1 ≤ n ∧ n ≤ 10 ∧ (d.dom n).stage < 4 ∧ (d.dom n).st = .starting) ∧
    (∃ (d : Dev) (n : Nat), (n = 0 ∨ 11 ≤ n) ∧ n < 16 ∧ (d.dom n).stage < 4 ∧ (d.dom n).st = .starting) :=
  ⟨⟨idling, 0, by decide +kernel⟩,
   ⟨{ idling with life := { idling.life with entry := .quiescing } }, by decide +kernel⟩,
   ⟨{ idling with life := { idling.life with entry := .quiescing } }, by decide +kernel⟩,
   ⟨inMode .patrol serving, .i3c, by decide +kernel⟩,
   ⟨{ idling with life := { idling.life with entry := .quiescing } }, .i3c, by decide +kernel⟩,
   ⟨{ inMode .idle serving with life := { serving.life with mode := .idle, usUp := 1000000000000 } }, by decide +kernel⟩,
   ⟨{ inMode .idle serving with life := { serving.life with mode := .idle, usUp := 1000000000000 } }, by decide +kernel⟩,
   ⟨{ idling with life := { idling.life with entry := .patrolEntering }, regs := [(PT.EP.key 0 0x40, 0x1800#32), (PT.PLP.key 0 0x44, 1#32)] }, by decide +kernel⟩,
   ⟨inMode .patrol serving, [], by decide +kernel⟩,
   ⟨{ inMode .patrol serving with regs := [(PT.PWR.key 0 0x400, 0x80000000#32)] }, 0, 3, by decide +kernel⟩,
   ⟨serving, 3, by decide +kernel⟩,
   ⟨serving, 3, by decide +kernel⟩,
   ⟨serving, 11, by decide +kernel⟩⟩

/-- The hypotheses of PageEnableMachine, clause by clause. -/
theorem witness_PageEnableMachine :
    (∃ (d : Dev) (r : Requester) (ty i : Nat) (p : PT), PT.ofCode ty = some p ∧ i < p.count ∧ p.hasDrain = true ∧ ¬ (p = .HQ ∧ i = 0 ∧ d.life.mode = .compat) ∧ d.takes r p i Reg.PAGE_CTL = true ∧ d.unitSt p i = .off ∧ p ≠ .TQ ∧ d.unitFlr p i = false) ∧
    (∃ (d : Dev) (r : Requester) (ty i : Nat) (p : PT), PT.ofCode ty = some p ∧ i < p.count ∧ p.hasDrain = true ∧ ¬ (p = .HQ ∧ i = 0 ∧ d.life.mode = .compat) ∧ d.takes r p i Reg.PAGE_CTL = true ∧ d.unitSt p i = .serving) ∧
    (∃ (d : Dev) (r : Requester) (ty i : Nat) (p : PT) (e s : Bool), PT.ofCode ty = some p ∧ i < p.count ∧ p.hasDrain = true ∧ ¬ (p = .HQ ∧ i = 0 ∧ d.life.mode = .compat) ∧ d.takes r p i Reg.PAGE_CTL = true ∧ d.unitSt p i = .draining e s) ∧
    (∃ (d : Dev) (r : Requester) (ty i : Nat) (p : PT), PT.ofCode ty = some p ∧ i < p.count ∧ p.hasDrain = true ∧ ¬ (p = .HQ ∧ i = 0 ∧ d.life.mode = .compat) ∧ d.takes r p i Reg.PAGE_CTL = true ∧ d.unitSt p i = .serving) ∧
    (∃ (d : Dev) (r : Requester) (ty i : Nat) (p : PT), PT.ofCode ty = some p ∧ i < p.count ∧ p.hasDrain = true ∧ ¬ (p = .HQ ∧ i = 0 ∧ d.life.mode = .compat) ∧ d.takes r p i Reg.PAGE_CTL = true ∧ d.unitSt p i = .serving) ∧
    (∃ (d : Dev) (r : Requester) (ty i : Nat) (p : PT), PT.ofCode ty = some p ∧ i < p.count ∧ p.hasDrain = true ∧ ¬ (p = .HQ ∧ i = 0 ∧ d.life.mode = .compat) ∧ d.takes r p i Reg.PAGE_CTL = true ∧ d.unitSt p i = .serving) ∧
    (∃ (d : Dev) (r : Requester) (ty i : Nat) (p : PT), PT.ofCode ty = some p ∧ i < p.count ∧ p.hasDrain = true ∧ ¬ (p = .HQ ∧ i = 0 ∧ d.life.mode = .compat) ∧ d.takes r p i Reg.PAGE_CTL = true ∧ d.unitSt p i = .off) ∧
    (∃ (d : Dev) (r : Requester) (ty i : Nat) (p : PT), PT.ofCode ty = some p ∧ i < p.count ∧ p.hasDrain = false ∧ p ≠ .VF ∧ p ≠ .PWR ∧ d.takes r p i Reg.PAGE_CTL = true) ∧
    (∃ (d : Dev) (r : Requester) (ty i : Nat) (p : PT), PT.ofCode ty = some p ∧ i < p.count ∧ p ≠ .VF ∧ p ≠ .PWR ∧ ¬ (p = .HQ ∧ i = 0 ∧ d.life.mode = .compat) ∧ d.takes r p i Reg.PAGE_CTL = true) ∧
    (∃ (d : Dev) (i : Nat), i < PT.QE.count ∧ d.page .QE i = .starting) ∧
    (∃ (d : Dev) (ty i : Nat) (p : PT) (s : Bool), PT.ofCode ty = some p ∧ unitExists p i = true ∧ d.drainIdle p i = true ∧ d.unitSt p i = .draining false s) ∧
    (∃ (d : Dev) (ty i : Nat) (p : PT) (s : Bool), PT.ofCode ty = some p ∧ unitExists p i = true ∧ d.drainIdle p i = true ∧ d.unitSt p i = .draining true s) :=
  ⟨⟨serving, sx, PT.CH.code, 3, .CH, by decide +kernel⟩,
   ⟨{ serving with pages := [(PT.CH.key 3 0, .serving)] }, sx, PT.CH.code, 3, .CH, by decide +kernel⟩,
   ⟨{ serving with pages := [(PT.CH.key 3 0, .draining false true)] }, sx, PT.CH.code, 3, .CH, false, true, by decide +kernel⟩,
   ⟨{ serving with pages := [(PT.CH.key 3 0, .serving)] }, sx, PT.CH.code, 3, .CH, by decide +kernel⟩,
   ⟨{ serving with pages := [(PT.CH.key 3 0, .serving)] }, sx, PT.CH.code, 3, .CH, by decide +kernel⟩,
   ⟨{ serving with pages := [(PT.CH.key 3 0, .serving)] }, sx, PT.CH.code, 3, .CH, by decide +kernel⟩,
   ⟨serving, sx, PT.CH.code, 3, .CH, by decide +kernel⟩,
   ⟨serving, sx, PT.CLK.code, 0, .CLK, by decide +kernel⟩,
   ⟨serving, sx, PT.MAP.code, 0, .MAP, by decide +kernel⟩,
   ⟨serving, 2, by decide +kernel⟩,
   ⟨{ serving with pages := [(PT.CH.key 3 0, .draining false true)] }, PT.CH.code, 3, .CH, true, by decide +kernel⟩,
   ⟨{ serving with pages := [(PT.CH.key 3 0, .draining true false)] }, PT.CH.code, 3, .CH, false, by decide +kernel⟩⟩

/-- The hypotheses of OwnerInjectionAndVfs, clause by clause. -/
theorem witness_OwnerInjectionAndVfs :
    (∃ (d : Dev) (r : Requester) (ty i : Nat) (p : PT) (v : W32), PT.ofCode ty = some p ∧ i < p.count ∧ r.dom = .secure ∧ d.takes r p i Reg.OWNER = true) ∧
    (∃ (d : Dev) (r : Requester) (ty i : Nat) (p : PT) (v : W32), PT.ofCode ty = some p ∧ i < p.count ∧ p.hasInj = true ∧ fld v 25 1 = 0 ∧ fld v 24 1 = 1 ∧ d.takes r p i Reg.INJ_CTL = true) ∧
    (∃ (d : Dev) (ty i a : Nat) (p : PT), PT.ofCode ty = some p ∧ i < p.count ∧ p ≠ .MEM ∧ p ≠ .LDP ∧ p.injTarget (d.regF p i Reg.INJ_CTL 16 8) = true ∧ d.regB p i Reg.INJ_CTL 24 = true) ∧
    (∃ (d : Dev) (a : Nat), d.regB .MEM 0 Reg.INJ_CTL 24 = true ∧ regionUsed (d.regF .MEM 0 Reg.INJ_CTL 16 8) = true ∧ regionAt a = d.regF .MEM 0 Reg.INJ_CTL 16 8 ∧ a < 0x18000000) ∧
    (∃ (d : Dev), d.life.mode ≠ .compat ∧ (d.fn .pf).flr = false) ∧
    (∃ (d : Dev) (n : Nat), d.life.mode ≠ .compat ∧ (d.fn .pf).flr = false ∧ n ≤ 255 ∧ d.ep.vfe = false) ∧
    (∃ (d : Dev) (r : Requester) (n : Nat) (v : W32), 1 ≤ n ∧ n ≤ 255 ∧ d.bindBad n v = none ∧ d.takes r .VF 0 (Reg.VF_BIND + 4 * (n - 1)) = true) ∧
    (∃ (d : Dev) (r : Requester) (n b : Nat) (v : W32), 1 ≤ n ∧ n ≤ 255 ∧ d.bindBad n v = some b ∧ d.takes r .VF 0 (Reg.VF_BIND + 4 * (n - 1)) = true) :=
  ⟨⟨serving, sx, PT.LOG.code, 0, .LOG, 0x1f1f#32, by decide +kernel⟩,
   ⟨serving, sx, PT.MEM.code, 0, .MEM, 0x1000005#32, by decide +kernel⟩,
   ⟨{ serving with regs := [(PT.JNL.key 0 0x20, 0x1010005#32)] }, PT.JNL.code, 0, 9, .JNL, by decide +kernel⟩,
   ⟨{ serving with regs := [(PT.MEM.key 0 0x20, 0x1000005#32)] }, 8, by decide +kernel⟩,
   ⟨serving, by decide +kernel⟩,
   ⟨serving, 8, by decide +kernel⟩,
   ⟨serving, sx, 3, 0#32, by decide +kernel⟩,
   ⟨serving, sx, 3, 1, 0x8fff0000#32, by decide +kernel⟩⟩

/-- The hypotheses of EndpointFunctions, clause by clause. -/
theorem witness_EndpointFunctions :
    (∃ (d : Dev) (n : Nat), d.fnThere (.vf n) = true ∧ (d.fn .pf).flr = false) ∧
    (∃ (d : Dev), d.fnThere .pf = true) ∧
    (∃ (d : Dev) (n : Nat), (d.fn (.vf n)).flr = true ∧ (d.fn .pf).flr = false) ∧
    (∃ (d : Dev) (down : Bool), d.fnThere .pf = true) ∧
    (∃ (d : Dev) (f : Fn), d.fnThere f = true ∧ (d.fn f).bme = true) ∧
    (∃ (d : Dev) (f : Fn), d.fnThere f = true ∧ (d.fn f).flr = false ∧ (d.fn f).resetting = false) ∧
    (∃ (d : Dev) (f : Fn), d.fnThere f = true ∧ (∀ n, f ≠ .vf n)) ∧
    (∃ (d : Dev) (n : Nat), d.fnThere (.vf n) = true) ∧
    (∃ (d : Dev) (f : Fn), d.fnThere f = true ∧ (d.fn f).d3 = false ∧ (d.fn f).flr = false ∧ (d.fn f).resetting = false) ∧
    (∃ (d : Dev) (f : Fn), d.fnThere f = true ∧ (d.fn f).d3 = true) ∧
    (∃ (d : Dev) (f : Fn) (v : Nat), d.fnOpen f = true ∧ d.fnThere f = true ∧ v < fnVectors (d.life.mode == .compat) f ∧ v ∉ (d.fn f).unmasked) ∧
    (∃ (d : Dev) (f : Fn), d.fnOpen f = true ∧ d.fnThere f = true) :=
  ⟨⟨{ serving with ep := { serving.ep with vfe := true, numVfs := 4 } }, 2, by decide +kernel⟩,
   ⟨serving, by decide +kernel⟩,
   ⟨{ serving with fns := [(2, { fnReset with flr := true })] }, 2, by decide +kernel⟩,
   ⟨serving, true, by decide +kernel⟩,
   ⟨{ serving with fns := [(0, { openFn with bme := true })] }, .pf, by decide +kernel⟩,
   ⟨serving, .pf, by decide +kernel⟩,
   ⟨serving, .pf, by decide +kernel, fun n h => Fn.noConfusion h⟩,
   ⟨{ serving with ep := { serving.ep with vfe := true, numVfs := 4 } }, 2, by decide +kernel⟩,
   ⟨serving, .pf, by decide +kernel⟩,
   ⟨{ serving with fns := [(0, { openFn with d3 := true, slept := [4] })] }, .pf, by decide +kernel⟩,
   ⟨serving, .pf, 5, by decide +kernel⟩,
   ⟨serving, .pf, by decide +kernel⟩⟩

/-- The hypotheses of LinksAndClocks, clause by clause. -/
theorem witness_LinksAndClocks :
    (∃ (d : Dev) (speed width : Nat) (x : FlitLink), d.mayTrain none = true ∧ 1 ≤ speed ∧ speed ≤ max 1 (min 6 (d.regF .EP 0 Reg.EP_LINK_CTL 0 3)) ∧ [1, 2, 4, 8, 16].contains width = true) ∧
    (∃ (d : Dev) (sub : Nat), sub < 4 ∧ d.mayTrain none = true ∧ d.linkUp none = true ∧ d.aspmAllowed none sub = true) ∧
    (∃ (d : Dev) (t : Nat), d.mayTrain none = true ∧ d.linkUp none = true ∧ d.regB .EP 0 Reg.EP_LINK_STS 8 = true ∧ d.regB .EP 0 Reg.EP_LINK_CTL 3 = true) ∧
    (∃ (d : Dev) (width : Nat), d.mayTrain none = true ∧ d.linkUp none = true ∧ d.regB .EP 0 Reg.EP_LINK_STS 8 = true ∧ (l0pWidths none).contains width = true) ∧
    (∃ (d : Dev) (r : Requester), d.takes r .EP 0 Reg.EP_LINK_CTL = true) ∧
    (∃ (d : Dev), d.life.mode ≠ .backup ∧ d.life.pllLocked = true ∧ d.life.refclk = true) ∧
    (∃ (d : Dev), d.life.mode ≠ .backup ∧ d.life.refclk = true) ∧
    (∃ (d : Dev), d.life.mode ≠ .backup ∧ d.life.pllLocked = false ∧ d.life.flushPendingLock = false) ∧
    (∃ (d : Dev), d.life.mode ≠ .backup ∧ d.life.pllLocked = false ∧ d.life.flushPendingLock = true) ∧
    (∃ (d : Dev), d.life.mode ≠ .backup ∧ d.life.refclk = false) ∧
    (∃ (d : Dev) (r : Requester) (v : Nat), r.dom = .secure ∧ d.takes r .CLK 0 Reg.CLK_CLK_CTL = true ∧ d.life.mode = .maint) ∧
    (∃ (d : Dev) (r : Requester) (v : Nat), d.takes r .CLK 0 Reg.CLK_CLK_CTL = true ∧ d.life.mode ≠ .maint) :=
  ⟨⟨{ serving with ep := { serving.ep with termination := true }, life := { serving.life with refclk := true }, regs := [(PT.EP.key 0 0x40, 0x184#32), (PT.EP.key 0 0x44, 6#32)] }, 4, 8, ⟨true, 3, 0⟩, by decide +kernel⟩,
   ⟨{ serving with ep := { serving.ep with termination := true }, life := { serving.life with refclk := true }, regs := [(PT.EP.key 0 0x40, 0x184#32), (PT.EP.key 0 0x44, 6#32)] }, 3, by decide +kernel⟩,
   ⟨l0pDev, 0, by decide +kernel⟩,
   ⟨{ serving with ep := { serving.ep with termination := true }, life := { serving.life with refclk := true }, regs := [(PT.EP.key 0 0x40, 0x184#32), (PT.EP.key 0 0x44, 6#32)] }, 2, by decide +kernel⟩,
   ⟨serving, sx, by decide +kernel⟩,
   ⟨{ serving with ep := { serving.ep with termination := true }, life := { serving.life with refclk := true }, regs := [(PT.EP.key 0 0x40, 0x184#32), (PT.EP.key 0 0x44, 6#32)] }, by decide +kernel⟩,
   ⟨{ serving with ep := { serving.ep with termination := true }, life := { serving.life with refclk := true }, regs := [(PT.EP.key 0 0x40, 0x184#32), (PT.EP.key 0 0x44, 6#32)] }, by decide +kernel⟩,
   ⟨{ serving with life := { serving.life with pllLocked := false } }, by decide +kernel⟩,
   ⟨{ serving with life := { serving.life with pllLocked := false, flushPendingLock := true } }, by decide +kernel⟩,
   ⟨serving, by decide +kernel⟩,
   ⟨inMode .maint serving, sx, 2, by decide +kernel⟩,
   ⟨serving, sx, 2, by decide +kernel⟩⟩

/-- The hypotheses of TenantPorts, clause by clause. -/
theorem witness_TenantPorts :
    (∃ (d : Dev) (p c : Nat), p < 8 ∧ (c = 0 ∨ c = 2) ∧ d.page .TP p = .serving) ∧
    (∃ (d : Dev) (p : Nat), p < 8) ∧
    (∃ (d : Dev) (r : Requester) (p : Nat) (v : W32), p < 8 ∧ d.tpBindBad p v = none ∧ d.takes r .TP p Reg.TP_TP_BIND = true ∧ (v &&& 0x800003ff#32) ≠ d.reg .TP p Reg.TP_TP_BIND) ∧
    (∃ (d : Dev) (r : Requester) (p : Nat) (v : W32) (b : Nat), p < 8 ∧ d.tpBindBad p v = some b ∧ d.takes r .TP p Reg.TP_TP_BIND = true) ∧
    (∃ (d : Dev) (p k : Nat), p < 8 ∧ k < 3 ∧ d.page .TP p = .serving ∧ d.portTrained p = true) ∧
    (∃ (d : Dev) (p i t : Nat), p < 8 ∧ i < 64 ∧ t < 32 ∧ d.page .TP p = .serving ∧ d.portTrained p = true) ∧
    (∃ (d : Dev) (p i tag flags off : Nat) (payload : List Byte) (f : Flight), p < 8 ∧ i < 64 ∧ tag < 32 ∧ flags < 2 ∧ 4 ≤ payload.length ∧ payload.length ≤ 65536 ∧ payload.length % 4 = 0 ∧ d.page .TP p = .serving ∧ d.fnOpen (.tp p) = true ∧ 2048 + 64 * p + i ∉ d.pushDead ∧ (2048 + 64 * p + i) * 32 + tag ∉ d.pushSkip ∧ d.tagCmd (2048 + 64 * p + i) tag = some f ∧ d.pushes_ f = true ∧ off = ((mget d.pushes ((2048 + 64 * p + i) * 32 + tag)).getD []).length) ∧
    (∃ (d : Dev) (p i tag flags off : Nat) (payload : List Byte), p < 8 ∧ i < 64 ∧ tag < 32 ∧ flags < 2 ∧ 4 ≤ payload.length ∧ payload.length ≤ 65536 ∧ payload.length % 4 = 0 ∧ d.page .TP p = .serving ∧ d.fnOpen (.tp p) = true ∧ 2048 + 64 * p + i ∈ d.pushDead) :=
  ⟨⟨{ serving with pages := [(PT.TP.key 3 0, .serving)] }, 3, 2, by decide +kernel⟩,
   ⟨serving, 3, by decide +kernel⟩,
   ⟨serving, sx, 3, 0x80000005#32, by decide +kernel⟩,
   ⟨serving, sx, 3, 0x80000000#32, 1, by decide +kernel⟩,
   ⟨trainedPort, 3, 1, by decide +kernel⟩,
   ⟨trainedPort, 3, 1, 1, by decide +kernel⟩,
   ⟨pushing, 3, 1, 1, 1, 0, [0#8, 0#8, 0#8, 0#8], (pushing.tagCmd 2241 1).getD aFlight, by decide +kernel⟩,
   ⟨{ trainedPort with pushDead := [2241] }, 3, 1, 1, 1, 0, [0#8, 0#8, 0#8, 0#8], by decide +kernel⟩⟩

/-- The hypotheses of TintsAndGrants, clause by clause. -/
theorem witness_TintsAndGrants :
    (∃ (d : Dev) (r : Requester) (t : Nat), t < 1024 ∧ d.regB .TNT t Reg.TNT_GRANT_STS 0 = false ∧ d.takes r .TNT t Reg.TNT_GRANT_CMD = true) ∧
    (∃ (d : Dev) (r : Requester) (t : Nat), t < 1024 ∧ d.regB .TNT t Reg.TNT_GRANT_STS 0 = false ∧ d.takes r .TNT t Reg.TNT_GRANT_CMD = true) ∧
    (∃ (d : Dev) (r : Requester) (t : Nat), t < 1024 ∧ d.regB .TNT t Reg.TNT_GRANT_STS 0 = false ∧ d.takes r .TNT t Reg.TNT_GRANT_CMD = true) ∧
    (∃ (d : Dev) (r : Requester) (t : Nat), t < 1024 ∧ d.regB .TNT t Reg.TNT_GRANT_STS 0 = true ∧ d.takes r .TNT t Reg.TNT_GRANT_CMD = true) ∧
    (∃ (e : Dev) (t : Nat), e.regF .TNT t Reg.TNT_GRANT_ARG 16 2 ≠ 3 ∧ (e.setRegN .TNT t Reg.TNT_GRANT_STS 1).liveStore (storeKey (e.regF .TNT t Reg.TNT_GRANT_ARG 16 2) (e.regF .TNT t Reg.TNT_GRANT_ARG 0 16)) = none) ∧
    (∃ (d : Dev) (r : Requester) (t n : Nat) (v : W32), t < 1024 ∧ n < 4 ∧ r.dom = .secure ∧ d.page .TNT t = .off ∧ d.takes r .TNT t (Reg.TNT_KEY_0 + 4 * n) = true) ∧
    (∃ (d : Dev) (r : Requester) (t n : Nat) (v : W32), t < 1024 ∧ n < 4 ∧ r.dom = .secure ∧ d.page .TNT t ≠ .off ∧ d.takes r .TNT t (Reg.TNT_KEY_0 + 4 * n) = true) ∧
    (∃ (d : Dev), d.life.booted = true) :=
  ⟨⟨serving, sx, 3, by decide +kernel⟩,
   ⟨serving, sx, 3, by decide +kernel⟩,
   ⟨serving, sx, 3, by decide +kernel⟩,
   ⟨{ serving with regs := [(PT.TNT.key 3 0x78, 1#32)] }, sx, 3, by decide +kernel⟩,
   ⟨serving, 3, by decide +kernel⟩,
   ⟨serving, sx, 3, 1, 0x80000005#32, by decide +kernel⟩,
   ⟨{ serving with pages := [(PT.TNT.key 3 0, .serving)] }, sx, 3, 1, 0x80000005#32, by decide +kernel⟩,
   ⟨serving, by decide +kernel⟩⟩

/-- The hypotheses of RegistersByAddress, clause by clause. -/
theorem witness_RegistersByAddress :
    (∃ (d : Dev) (r : Requester) (a i off : Nat) (p : PT) (v : W64), ¬ (d.life.mode = .compat ∧ r.dom = .host ∧ r.i3c = false ∧ proxied r = false) ∧ d.spot r a = .page p i off ∧ a % 4 = 0 ∧ 0x40 ≤ off ∧ [PT.LOG, .GC, .PSL, .WEAR, .LDP, .STR, .JNL, .CH, .MAP, .RNG, .SBD].contains p = true ∧ d.takes r p i off = true) ∧
    (∃ (d : Dev) (r : Requester) (a i off n : Nat) (p : PT) (v : W64), ¬ (d.life.mode = .compat ∧ r.dom = .host ∧ r.i3c = false ∧ proxied r = false) ∧ d.spot r a = .page p i off ∧ (¬ ((p = .HQ ∨ p = .TQ) ∧ 0x800 ≤ off)) ∧ ¬ (n = 4 ∧ a % 4 = 0) ∧ ¬ (n = 8 ∧ a % 8 = 0)) ∧
    (∃ (d : Dev) (r : Requester) (a i off n : Nat) (v : W64), ¬ (d.life.mode = .compat ∧ r.dom = .host ∧ r.i3c = false ∧ proxied r = false) ∧ d.spot r a = .page .HQ i off ∧ 0x800 ≤ off) ∧
    (∃ (d : Dev) (r : Requester) (f : Fn) (a n : Nat) (v : W64), fnOf r = some f) ∧
    (∃ (d : Dev) (r : Requester) (ty : Nat) (p : PT) (v : W32), PT.ofCode ty = some p ∧ [PT.ERRW, .RECW, .TRCW, .DDTX].contains p = true ∧ d.takes r p 0 0x40 = true) ∧
    (∃ (d : Dev) (a n : Nat) (v : W64), d.bar2Open = true ∧ a < 0x1000000) ∧
    (∃ (d : Dev) (a n : Nat) (v : W64), d.fnThere .pf = true ∧ d.fnOpen .pf = false) ∧
    (∃ (d : Dev) (a n : Nat) (v : W64), d.bar2Open = true ∧ 0x1000000 ≤ a ∧ a < 0x40000000 ∧ d.memberState (a / 0x1000000) ≠ 0 ∧ ((n = 4 ∧ a % 4 = 0) ∨ (n = 8 ∧ a % 8 = 0))) ∧
    (∃ (d : Dev) (a n : Nat) (v : W64), d.bar2Open = true ∧ 0x1000000 ≤ a ∧ a < 0x40000000 ∧ d.memberState (a / 0x1000000) = 0) ∧
    (∃ (d : Dev) (x : Proxy), d.fab.proxies.head? = some x ∧ 40 ≤ d.life.usUp - x.atUs) ∧
    (∃ (d : Dev) (h : MsgHdr) (off n xid : Nat), d.hears 0x38 h = true ∧ d.rxBad 0x38 h = false ∧ (d.heard 0x38 h).isMember = true ∧ h.src = 0 ∧ (n = 4 ∨ n = 8)) ∧
    (∃ (d : Dev) (h : MsgHdr) (off n : Nat) (v : W64), d.hears 0x39 h = true ∧ d.rxBad 0x39 h = false ∧ (d.heard 0x39 h).isMember = true ∧ h.src = 0 ∧ (n = 4 ∨ n = 8)) ∧
    (∃ (d : Dev) (h : MsgHdr) (xid : Nat) (v : W64) (x : Proxy), d.hears 0x3a h = true ∧ d.rxBad 0x3a h = false ∧ ((d.heard 0x3a h).fab.proxies.take 64).find? (fun e => e.xid == xid && e.dst == h.src) = some x) :=
  ⟨⟨serving, sx, (PT.LOG.addr 0 0x40), 0, 0x40, .LOG, 5#64, by decide +kernel⟩,
   ⟨serving, sx, (PT.LOG.addr 0 0x41), 0, 0x41, 4, .LOG, 5#64, by decide +kernel⟩,
   ⟨serving, sx, (PT.HQ.addr 5 0x810), 5, 0x810, 8, 5#64, by decide +kernel⟩,
   ⟨serving, hostR, .pf, 0x10, 4, 5#64, by decide +kernel⟩,
   ⟨headUp, sx, PT.ERRW.code, .ERRW, 3#32, by decide +kernel⟩,
   ⟨serving, 0x40, 4, 5#64, by decide +kernel⟩,
   ⟨{ serving with fns := [(0, { openFn with mse := false })] }, 0x40, 4, 5#64, by decide +kernel⟩,
   ⟨headUp, 0x1000040, 4, 5#64, by decide +kernel⟩,
   ⟨serving, 0x2000040, 4, 5#64, by decide +kernel⟩,
   ⟨{ headUp with fab := { headUp.fab with proxies := [⟨1, 1, 0x44, 4, 0, .host⟩] } }, ⟨1, 1, 0x44, 4, 0, .host⟩, by decide +kernel⟩,
   ⟨memberUp, hdr0, 0x40, 4, 7, by decide +kernel⟩,
   ⟨memberUp, hdr0, 0x40, 4, 7#64, by decide +kernel⟩,
   ⟨{ headUp with fab := { headUp.fab with proxies := [⟨1, 1, 0x44, 4, 0, .host⟩] } }, hdr1, 1, 7#64, ⟨1, 1, 0x44, 4, 0, .host⟩, by decide +kernel⟩⟩

/-- The hypotheses of FilushLinks, clause by clause. -/
theorem witness_FilushLinks :
    (∃ (d : Dev) (n : Nat), n < 6 ∧ liveMode d.life.mode = true ∧ d.linkState n = 1 ∧ d.linkWaited n 100 = true) ∧
    (∃ (d : Dev) (n : Nat) (b : Bool), n < 6 ∧ liveMode d.life.mode = true ∧ d.linkState n = 2 ∧ d.linkWaited n 10000 = true) ∧
    (∃ (d : Dev) (n : Nat), n < 6 ∧ liveMode d.life.mode = true ∧ d.linkState n = 1) ∧
    (∃ (d : Dev) (n w : Nat), n < 6 ∧ liveMode d.life.mode = true ∧ d.linkState n = 3 ∧ (w = 8 ∨ (w = 4 ∧ d.regB .FL n Reg.FL_FL_CFG 1 = true))) ∧
    (∃ (d : Dev) (n : Nat), n < 6 ∧ liveMode d.life.mode = true ∧ d.linkState n = 3 ∧ d.linkWaited n 2000 = true) ∧
    (∃ (d : Dev) (n : Nat), n < 6 ∧ liveMode d.life.mode = true) ∧
    (∃ (d : Dev) (r : Requester) (n : Nat), n < 6 ∧ d.takes r .FL n Reg.FL_FL_CFG = true) ∧
    (∃ (d : Dev) (r : Requester) (n : Nat) (on : Bool), n < 6 ∧ r.dom = .secure ∧ d.takes r .FL n Reg.FORCE = true) ∧
    (∃ (d : Dev) (n : Nat), n < 6 ∧ liveMode d.life.mode = true ∧ d.linkState n = 5 ∧ ((d.flLink n).replays.filter (fun t => decide (d.life.usUp - t < 1000))).length + 1 < ((d.incSat .FL n Reg.FL_CRC_ERR 1).incSat .FL n Reg.FL_REPLAY 1).errMax n) ∧
    (∃ (d : Dev) (n : Nat), n < 6 ∧ liveMode d.life.mode = true ∧ (d.linkState n = 5 ∨ d.linkState n = 6)) ∧
    (∃ (d : Dev) (h : MsgHdr) (x : HelloId), d.hears 0x01 h = true ∧ d.rxBad 0x01 h = false ∧ (d.heard 0x01 h).linkState h.link = 4 ∧ ((d.heard 0x01 h).showPeer h.link x).helloFits h.link x = true) ∧
    (∃ (d : Dev) (h : MsgHdr) (x : HelloId), d.hears 0x01 h = true ∧ d.rxBad 0x01 h = false ∧ (d.heard 0x01 h).linkState h.link = 4 ∧ ((d.heard 0x01 h).showPeer h.link x).helloFits h.link x = false) :=
  ⟨⟨headLink 1, 0, by decide +kernel⟩,
   ⟨headLink 2, 0, true, by decide +kernel⟩,
   ⟨headLink 1, 0, by decide +kernel⟩,
   ⟨headLink 3, 0, 8, by decide +kernel⟩,
   ⟨headLink 3, 0, by decide +kernel⟩,
   ⟨headUp, 0, by decide +kernel⟩,
   ⟨headUp, sx, 0, by decide +kernel⟩,
   ⟨headUp, sx, 0, true, by decide +kernel⟩,
   ⟨headUp, 0, by decide +kernel⟩,
   ⟨headUp, 0, by decide +kernel⟩,
   ⟨headLink 4, hdr1, ⟨7, 1, 1, 0, 0, 1, 2, 1, 1, 1, false, 1, 7⟩, by decide +kernel⟩,
   ⟨headLink 4, hdr1, ⟨7, 1, 1, 0, 0, 1, 2, 1, 1, 0, false, 1, 7⟩, by decide +kernel⟩⟩

/-- The hypotheses of FabricMembership, clause by clause. -/
theorem witness_FabricMembership :
    (∃ (d : Dev) (h : MsgHdr) (ver : Nat), d.hears 2 h = true ∧ d.rxBad 2 h = false ∧ (d.heard 2 h).sxHalted = false ∧ (d.heard 2 h).isHead = true ∧ h.src ≠ 0 ∧ h.src < (d.heard 2 h).places ∧ (d.heard 2 h).carries h.src = false) ∧
    (∃ (d : Dev) (h : MsgHdr), d.hears 3 h = true ∧ d.rxBad 3 h = false ∧ (d.heard 3 h).sxHalted = false ∧ (d.heard 3 h).fabState = 1 ∧ h.src = 0) ∧
    (∃ (d : Dev) (h : MsgHdr) (serial proto : Nat) (x : Member), d.hears 4 h = true ∧ d.rxBad 4 h = false ∧ (d.heard 4 h).sxHalted = false ∧ (d.heard 4 h).isHead = true ∧ mget (d.heard 4 h).fab.members h.src = some x ∧ x.nonce.isSome = true ∧ (d.heard 4 h).carries h.src = false ∧ proto = 1) ∧
    (∃ (d : Dev) (h : MsgHdr) (serial proto : Nat), d.hears 4 h = true ∧ d.rxBad 4 h = false ∧ (d.heard 4 h).sxHalted = false ∧ (d.heard 4 h).isHead = false ∧ (d.heard 4 h).fab.nonce.isSome = true) ∧
    (∃ (d : Dev) (h : MsgHdr) (es : List (Nat × Nat)), d.hears 0x05 h = true ∧ d.rxBad 0x05 h = false ∧ es.length = 64 ∧ es.all (fun x => decide (x.1 ≤ 4 ∧ x.2 < 64)) = true ∧ (d.heard 0x05 h).isMember = true) ∧
    (∃ (d : Dev) (h : MsgHdr) (t m : Nat), d.hears 0x06 h = true ∧ d.rxBad 0x06 h = false ∧ (d.heard 0x06 h).isHead = true) ∧
    (∃ (d : Dev) (h : MsgHdr) (t m : Nat), d.hears 0x06 h = true ∧ d.rxBad 0x06 h = false ∧ (d.heard 0x06 h).isHead = false ∧ h.src = 0) ∧
    (∃ (d : Dev), d.isHead = true ∧ liveMode d.life.mode = true ∧ d.hbUs ≤ d.life.usUp - d.fab.hbTx) ∧
    (∃ (d : Dev) (n : Nat) (m : Member), liveMode d.life.mode = true ∧ d.isHead = true ∧ mget d.fab.members n = some m ∧ n ≠ 0 ∧ (m.state = 1 ∨ m.state = 2) ∧ d.lossUs ≤ d.life.usUp - m.hbUs) ∧
    (∃ (d : Dev) (n : Nat), liveMode d.life.mode = true ∧ d.isHead = false ∧ (d.fabState = 2 ∨ d.fabState = 3) ∧ d.lossUs ≤ d.life.usUp - d.fab.headHb.getD 0) ∧
    (∃ (d : Dev) (h : MsgHdr) (mask : Nat) (m : Member), d.hears 0x07 h = true ∧ d.rxBad 0x07 h = false ∧ (d.heard 0x07 h).isHead = true ∧ mget (d.heard 0x07 h).fab.members h.src = some m ∧ m.links ≠ mask % 64 ∧ h.src ≠ 0) ∧
    (∃ (d : Dev) (r : Requester), d.takes r .FAB 0 Reg.FAB_FAB_CTL = true ∧ d.fabState = 4) ∧
    (∃ (d : Dev) (r : Requester) (n : Nat), d.takes r .FAB 0 Reg.FAB_FAB_CTL = true) ∧
    (∃ (d : Dev) (n : Nat), d.regF .FAB 0 Reg.FAB_FAB_CTL 8 6 = n ∧ d.isHead = true ∧ n ≠ 0 ∧ d.memberState n ≠ 0 ∧ d.memberState n ≠ 4) :=
  ⟨⟨{ headUp with fab := { headUp.fab with members := [(0, ⟨2, 1, 0, false, 0, none⟩)] } }, hdr1, 5, by decide +kernel⟩,
   ⟨{ memberUp with regs := [(PT.FAB.key 0 0x40, 8#32), (PT.FAB.key 0 0x44, 0x1001#32), (PT.FAB.key 0 0x48, 1#32), (PT.FL.key 0 0x44, 5#32)] }, hdr0, by decide +kernel⟩,
   ⟨{ headUp with fab := { headUp.fab with members := [(0, ⟨2, 1, 0, false, 0, none⟩), (1, ⟨0, 1, 7, false, 0, some 3⟩)] } }, hdr1, 7, 1, ⟨0, 1, 7, false, 0, some 3⟩, by decide +kernel⟩,
   ⟨{ memberUp with fab := { memberUp.fab with nonce := some 1 } }, hdr0, 7, 1, by decide +kernel⟩,
   ⟨memberUp, hdr0, List.replicate 64 (0, 0), by decide +kernel⟩,
   ⟨headUp, hdr1, 0, 5, by decide +kernel⟩,
   ⟨memberUp, hdr0, 0, 5, by decide +kernel⟩,
   ⟨headUp, by decide +kernel⟩,
   ⟨{ headUp with life := { headUp.life with usUp := 10000000 } }, 1, ⟨2, 1, 7, false, 0, none⟩, by decide +kernel⟩,
   ⟨{ memberUp with life := { memberUp.life with usUp := 10000000 } }, 0, by decide +kernel⟩,
   ⟨headUp, hdr1, 3, ⟨2, 1, 7, false, 0, none⟩, by decide +kernel⟩,
   ⟨{ serving with regs := [(PT.FAB.key 0 0x44, 0x1001#32), (PT.FAB.key 0 0x48, 4#32)] }, sx, by decide +kernel⟩,
   ⟨headUp, sx, 1, by decide +kernel⟩,
   ⟨{ headUp with regs := headUp.regs ++ [(PT.FAB.key 0 0x50, 0x100#32)] }, 1, by decide +kernel⟩⟩

/-- The hypotheses of FabricOperations, clause by clause. -/
theorem witness_FabricOperations :
    (∃ (d : Dev) (r : Requester), d.takes r .FAB 0 Reg.FAB_OP_CMD = true ∧ (d.taken r .FAB 0).isHead = true ∧ d.regB .FAB 0 Reg.FAB_OP_STS 0 = false) ∧
    (∃ (d : Dev) (r : Requester), d.takes r .FAB 0 Reg.FAB_OP_CMD = true ∧ (d.taken r .FAB 0).isHead = true ∧ d.regB .FAB 0 Reg.FAB_OP_STS 0 = false) ∧
    (∃ (d : Dev) (r : Requester), d.takes r .FAB 0 Reg.FAB_OP_CMD = true ∧ (d.taken r .FAB 0).isHead = true ∧ d.regB .FAB 0 Reg.FAB_OP_STS 0 = false) ∧
    (∃ (d : Dev) (h : MsgHdr) (id n : Nat), d.hears 0x10 h = true ∧ d.rxBad 0x10 h = false ∧ goesUp h = true) ∧
    (∃ (d : Dev) (h : MsgHdr) (id n : Nat), d.hears 0x10 h = true ∧ d.rxBad 0x10 h = false ∧ goesUp h = false ∧ goesDown h = true ∧ (d.heard 0x10 h).isMember = true) ∧
    (∃ (d : Dev) (h : MsgHdr) (id : Nat), d.hears 0x11 h = true ∧ d.rxBad 0x11 h = false ∧ goesDown h = true ∧ (d.heard 0x11 h).isMember = true) ∧
    (∃ (d : Dev) (h : MsgHdr) (id kind : Nat) (ws : List Nat), d.hears 0x12 h = true ∧ d.rxBad 0x12 h = false ∧ goesUp h = false ∧ goesDown h = true ∧ (d.heard 0x12 h).isMember = true) ∧
    (∃ (d : Dev) (h : MsgHdr) (id n res : Nat), d.hears 0x13 h = true ∧ d.rxBad 0x13 h = false) ∧
    (∃ (d : Dev), d.isHead = true ∧ liveMode d.life.mode = true ∧ 1000 ≤ d.life.usUp - d.fab.syncUs) ∧
    (∃ (d : Dev) (h : MsgHdr) (tHead corr n : Nat), d.hears 0x20 h = true ∧ d.rxBad 0x20 h = false ∧ (d.heard 0x20 h).fabState = 3 ∧ (d.heard 0x20 h).isMember = true) ∧
    (∃ (d : Dev) (h : MsgHdr) (t1 : Nat), d.hears 0x21 h = true ∧ d.rxBad 0x21 h = false) ∧
    (∃ (d : Dev) (h : MsgHdr) (t1 t2 t3 : Nat), d.hears 0x21 h = true ∧ d.rxBad 0x21 h = false ∧ t2 ≠ 0) ∧
    (∃ (d : Dev) (r : Requester), d.takes r .FAB 0 Reg.FAB_FAB_CTL = true ∧ (d.taken r .FAB 0).isHead = true) ∧
    (∃ (d : Dev) (h : MsgHdr) (id : Nat), d.hears 0x28 h = true ∧ d.rxBad 0x28 h = false ∧ goesDown h = true ∧ (d.heard 0x28 h).isMember = true) ∧
    (∃ (d : Dev) (h : MsgHdr) (id n : Nat), d.hears 0x29 h = true ∧ d.rxBad 0x29 h = false) ∧
    (∃ (d : Dev) (h : MsgHdr) (id t : Nat), d.hears 0x2a h = true ∧ d.rxBad 0x2a h = false ∧ goesDown h = true ∧ (d.heard 0x2a h).isMember = true) ∧
    (∃ (d : Dev) (t : Nat), d.fab.resetAt = some t ∧ restartMode d.life.mode = true ∧ t ≤ d.fabNow) ∧
    (∃ (d : Dev), d.flushUs + 1000 ≤ d.life.usUp - d.fab.resetUs) :=
  ⟨⟨headUp, sx, by decide +kernel⟩,
   ⟨headUp, sx, by decide +kernel⟩,
   ⟨headUp, sx, by decide +kernel⟩,
   ⟨headUp, hdrUp, 1, 1, by decide +kernel⟩,
   ⟨memberUp, hdrDown, 1, 1, by decide +kernel⟩,
   ⟨memberUp, hdrDown, 1, by decide +kernel⟩,
   ⟨memberUp, hdrDown, 1, 0, [], by decide +kernel⟩,
   ⟨headUp, hdrUp, 1, 1, 0, by decide +kernel⟩,
   ⟨headUp, by decide +kernel⟩,
   ⟨memberUp, hdr0, 500, 0, 1, by decide +kernel⟩,
   ⟨memberUp, hdr0, 5, by decide +kernel⟩,
   ⟨memberUp, hdr0, 5, 6, 7, by decide +kernel⟩,
   ⟨headUp, sx, by decide +kernel⟩,
   ⟨memberUp, hdrDown, 1, by decide +kernel⟩,
   ⟨headUp, hdrUp, 1, 1, by decide +kernel⟩,
   ⟨memberUp, hdrDown, 1, 900, by decide +kernel⟩,
   ⟨{ memberUp with fab := { memberUp.fab with resetAt := some 3 } }, 3, by decide +kernel⟩,
   ⟨{ headUp with life := { headUp.life with usUp := 100000000 } }, by decide +kernel⟩⟩

/-- The hypotheses of FabricSnapshotsAndReshape, clause by clause. -/
theorem witness_FabricSnapshotsAndReshape :
    (∃ (d : Dev) (h : MsgHdr) (vol id reqId tint qn tag : Nat), d.hears 0x14 h = true ∧ d.rxBad 0x14 h = false ∧ goesUp h = true ∧ (d.heard 0x14 h).isHead = true) ∧
    (∃ (d : Dev) (h : MsgHdr) (vol id reqId tint qn tag : Nat), d.hears 0x14 h = true ∧ d.rxBad 0x14 h = false ∧ goesUp h = false ∧ goesDown h = true ∧ (d.heard 0x14 h).isMember = true) ∧
    (∃ (d : Dev) (h : MsgHdr) (id n res : Nat), d.hears 0x15 h = true ∧ d.rxBad 0x15 h = false) ∧
    (∃ (d : Dev) (h : MsgHdr) (vol id cal : Nat), d.hears 0x16 h = true ∧ d.rxBad 0x16 h = false ∧ goesDown h = true ∧ (d.heard 0x16 h).isMember = true) ∧
    (∃ (d : Dev) (h : MsgHdr) (id n res qn tag : Nat), d.hears 0x17 h = true ∧ d.rxBad 0x17 h = false ∧ goesUp h = true) ∧
    (∃ (d : Dev) (h : MsgHdr) (id n res qn tag : Nat), d.hears 0x17 h = true ∧ d.rxBad 0x17 h = false ∧ goesUp h = false ∧ goesDown h = true ∧ (d.heard 0x17 h).isMember = true) ∧
    (∃ (d : Dev) (h : MsgHdr) (id n res qn tag : Nat), d.hears 0x17 h = true ∧ d.rxBad 0x17 h = false ∧ goesUp h = false ∧ goesDown h = false) ∧
    (∃ (d : Dev) (h : MsgHdr) (vol id : Nat), d.hears 0x18 h = true ∧ d.rxBad 0x18 h = false ∧ goesDown h = true ∧ (d.heard 0x18 h).isMember = true) ∧
    (∃ (d : Dev) (r : Requester) (v : W32), d.takes r .FAB 0 Reg.FAB_RSHP_CTL = true ∧ (d.taken r .FAB 0).isHead = true ∧ d.regB .FAB 0 Reg.FAB_RSHP_CTL 20 = false ∧ fld v 20 1 = 1) ∧
    (∃ (d : Dev) (secs : List (Nat × SectorIn)) (x : Reshape) (v w : Store), d.fab.reshape = some x ∧ d.store x.volume = some v ∧ d.store (shadowKey x.volume) = some w ∧ d.rshpHeld x = false ∧ d.mayRelocate = true ∧ d.gateOpen 14 = true ∧ d.regN .FAB 0 Reg.FAB_RSHP_CURSOR < v.bands) ∧
    (∃ (d : Dev) (secs : List (Nat × SectorIn)) (x : Reshape) (v w : Store), d.fab.reshape = some x ∧ d.store x.volume = some v ∧ d.store (shadowKey x.volume) = some w ∧ d.rshpHeld x = false ∧ d.mayRelocate = true ∧ d.gateOpen 14 = true ∧ d.regN .FAB 0 Reg.FAB_RSHP_CURSOR < v.bands ∧ x.again = []) ∧
    (∃ (d : Dev) (secs : List (Nat × SectorIn)) (x : Reshape) (v w : Store) (b : Nat) (bs : List Nat), d.fab.reshape = some x ∧ d.store x.volume = some v ∧ d.store (shadowKey x.volume) = some w ∧ d.rshpHeld x = false ∧ d.mayRelocate = true ∧ d.gateOpen 14 = true ∧ x.again.filter (fun b => decide (b < d.regN .FAB 0 Reg.FAB_RSHP_CURSOR)) = b :: bs) ∧
    (∃ (d : Dev) (x : Reshape) (b : Bool), d.fab.reshape = some x) :=
  ⟨⟨headUp, hdrUp, 1, 0, 5, 0, 3, 4, by decide +kernel⟩,
   ⟨memberUp, hdrDown, 1, 0, 5, 0, 3, 4, by decide +kernel⟩,
   ⟨headUp, hdrUp, 1, 1, 0, by decide +kernel⟩,
   ⟨memberUp, hdrDown, 1, 1, 7, by decide +kernel⟩,
   ⟨headUp, hdrUp, 1, 1, 0, 0, 0, by decide +kernel⟩,
   ⟨memberUp, hdrDown, 1, 1, 0, 0, 0, by decide +kernel⟩,
   ⟨memberUp, hdr0, 1, 1, 0, 0, 0, by decide +kernel⟩,
   ⟨memberUp, hdrDown, 1, 1, by decide +kernel⟩,
   ⟨headUp, sx, 0x121001#32, by decide +kernel⟩,
   ⟨reshaping, [], ⟨1, 2, 1, 3, 0, [], false⟩, aStore, aStore, by decide +kernel⟩,
   ⟨reshaping, [], ⟨1, 2, 1, 3, 0, [], false⟩, aStore, aStore, by decide +kernel⟩,
   ⟨{ reshaping with regs := reshaping.regs ++ [(PT.FAB.key 0 Reg.FAB_RSHP_CURSOR, 1#32)], fab := { reshaping.fab with reshape := some ⟨1, 2, 1, 3, 0, [0], false⟩ } }, [], ⟨1, 2, 1, 3, 0, [0], false⟩, aStore, aStore, 0, [], by decide +kernel⟩,
   ⟨reshaping, ⟨1, 2, 1, 3, 0, [], false⟩, true, by decide +kernel⟩⟩

/-- The hypotheses of QueuePath, clause by clause. -/
theorem witness_QueuePath :
    (∃ (d : Dev) (r : Requester) (q : Nat) (bits : W32), d.takes r (qPage q).1 (qPage q).2 Reg.HQ_DOORBELL = true ∧ d.doorOpen q = true) ∧
    (∃ (d : Dev) (r : Requester) (q : Nat) (bits : W32), d.takes r (qPage q).1 (qPage q).2 Reg.HQ_DOORBELL = true ∧ d.doorOpen q = false ∧ bits ≠ 0#32) ∧
    (∃ (d : Dev) (r : Requester) (q o : Nat) (bs : List Byte), slotForm o bs.length = true ∧ d.takes r (qPage q).1 (qPage q).2 (0x800 + o) = true ∧ d.rung q (o / 64) = false ∧ ¬ (d.life.mode = .compat ∧ r.dom = .host ∧ r.i3c = false ∧ q = 0)) ∧
    (∃ (d : Dev) (r : Requester) (q o : Nat) (bs : List Byte), slotForm o bs.length = true ∧ d.takes r (qPage q).1 (qPage q).2 (0x800 + o) = true ∧ d.rung q (o / 64) = true ∧ ¬ (d.life.mode = .compat ∧ r.dom = .host ∧ r.i3c = false ∧ q = 0)) ∧
    (∃ (d : Dev) (e t q g : Nat), e < 4 ∧ d.fetching = true ∧ d.choose e = some (t, q, g)) ∧
    (∃ (d : Dev) (q tag : Nat) (f : Flight) (xs : List Desc), d.flight q tag = some f ∧ f.stage = .list ∧ nbit f.cmd.flags 8 = false ∧ walkList f.buffer 0 0 (f.descs ++ xs.take (listBlock f.cmd.dataAddr f.descs.length)) = .more ∧ listBlock f.cmd.dataAddr f.descs.length ≤ xs.length) ∧
    (∃ (d : Dev) (q tag : Nat) (f : Flight) (xs : List Desc), d.flight q tag = some f ∧ f.stage = .list ∧ nbit f.cmd.flags 8 = false ∧ walkList f.buffer 0 0 (f.descs ++ xs.take (listBlock f.cmd.dataAddr f.descs.length)) = .ok) ∧
    (∃ (d : Dev) (q tag : Nat) (f : Flight) (xs : List Desc) (dt n : Nat), d.flight q tag = some f ∧ f.stage = .list ∧ nbit f.cmd.flags 8 = false ∧ walkList f.buffer 0 0 (f.descs ++ xs.take (listBlock f.cmd.dataAddr f.descs.length)) = .bad dt n) ∧
    (∃ (d : Dev) (g : Nat) (b : Bucket) (f : Flight), d.gates[g]? = some b ∧ d.nextWaiter g b.waiters [] = some f) ∧
    (∃ (d : Dev) (q tag : Nat) (f : Flight) (ss xs : List SectorIn) (e : Dev), d.flight q tag = some f ∧ f.stage = .data ∧ [0x02, 0x10, 0x20].contains f.cmd.opcode = true ∧ d.withPushed f ss = some (xs, e)) ∧
    (∃ (d : Dev) (q tag : Nat) (f : Flight), d.flight q tag = some f ∧ f.stage = .lines ∧ d.flights.any (fun x => x.stage == .lines && decide (x.order < f.order)) = false) ∧
    (∃ (d : Dev) (q tag : Nat) (f : Flight), d.flight q tag = some f ∧ f.stage = .xfer ∧ settledJobs f.jobs = true ∧ [0x01, 0x11, 0x21, 0x23, 0x32, 0x61].contains f.cmd.opcode = true) ∧
    (∃ (d : Dev) (q tag : Nat) (f : Flight) (err : DmaError), d.flight q tag = some f ∧ f.reads = true) ∧
    (∃ (d : Dev) (q tag : Nat) (f : Flight), d.flight q tag = some f ∧ f.reads = true) :=
  ⟨⟨{ serving with pages := [(PT.HQ.key 5 0, .serving)] }, sx, 5, 6#32, by decide +kernel⟩,
   ⟨serving, sx, 5, 6#32, by decide +kernel⟩,
   ⟨serving, sx, 5, 64, [1#8, 2#8, 3#8, 4#8], by decide +kernel⟩,
   ⟨{ serving with regs := [(PT.HQ.key 5 Reg.HQ_DOORBELL, 2#32)] }, sx, 5, 64, [1#8, 2#8, 3#8, 4#8], by decide +kernel⟩,
   ⟨{ withCmd aCmd .run with flights := [], fns := [(0, { openFn with bme := true })] }, 0, 0, 0, 0, by decide +kernel⟩,
   ⟨withCmd { cmdOf 2 1 with dataAddr := 4080 } .list, 0, 0, flightOf { cmdOf 2 1 with dataAddr := 4080 } .list, [⟨0, 1024, 0⟩], by decide +kernel⟩,
   ⟨withCmd (cmdOf 2 1) .list, 0, 0, flightOf (cmdOf 2 1) .list, [⟨0, 4096, 1⟩], by decide +kernel⟩,
   ⟨withCmd (cmdOf 2 1) .list, 0, 0, flightOf (cmdOf 2 1) .list, [⟨0, 2048, 1⟩], 1, 2048, by decide +kernel⟩,
   ⟨{ withCmd (cmdOf 1 1) .gate with gates := [⟨1, 0, [(0, 0)]⟩] }, 0, ⟨1, 0, [(0, 0)]⟩, flightOf (cmdOf 1 1) .gate, by decide +kernel⟩,
   ⟨withCmd (cmdOf 2 1) .data, 0, 0, flightOf (cmdOf 2 1) .data, [], [], withCmd (cmdOf 2 1) .data, by decide +kernel⟩,
   ⟨withCmd (cmdOf 2 1) .lines, 0, 0, flightOf (cmdOf 2 1) .lines, by decide +kernel⟩,
   ⟨withCmd (cmdOf 1 1) .xfer, 0, 0, flightOf (cmdOf 1 1) .xfer, by decide +kernel⟩,
   ⟨withCmd (cmdOf 2 1) .data, 0, 0, flightOf (cmdOf 2 1) .data, .timeout, by decide +kernel⟩,
   ⟨withCmd (cmdOf 2 1) .data, 0, 0, flightOf (cmdOf 2 1) .data, by decide +kernel⟩⟩

/-- The hypotheses of VolumeAndStreamCommands, clause by clause. -/
theorem witness_VolumeAndStreamCommands :
    (∃ (d : Dev) (q tag : Nat) (f : Flight), d.fresh q tag 0 false f ∧ d.denyPlain f false = none) ∧
    (∃ (d : Dev) (q tag : Nat) (f : Flight) (k : Nat) (v : Store), d.fresh q tag 3 false f ∧ d.passes f (fun _ _ => OpChecks.none) k v) ∧
    (∃ (d : Dev) (q tag : Nat) (f : Flight) (k : Nat) (v : Store), d.fresh q tag 19 false f ∧ d.passes f (fun _ _ => OpChecks.none) k v) ∧
    (∃ (d : Dev) (q tag : Nat) (f : Flight) (k : Nat) (v : Store), d.fresh q tag 1 false f ∧ d.passes f (fun _ v => { OpChecks.none with bad := f.beyond v }) k v) ∧
    (∃ (d : Dev) (q tag : Nat) (f : Flight) (k : Nat) (v : Store), d.fresh q tag 6 false f ∧ d.passes f (fun _ v => { OpChecks.none with bad := f.beyond v }) k v) ∧
    (∃ (d : Dev) (q tag : Nat) (f : Flight) (k : Nat) (v : Store), d.fresh q tag 17 false f ∧ (d.passes f (fun _ v => { OpChecks.none with bad := decide (f.cmd.addr < v.floor ∨ v.committed < f.cmd.addr + f.cmd.count) }) k v)) ∧
    (∃ (d : Dev) (q tag : Nat) (f : Flight) (k : Nat) (v : Store), d.fresh q tag 2 false f ∧ d.passes f (fun _ v => { OpChecks.none with bad := f.beyond v, late := d.quotaDeny v (v.bandsAt f.cmd.addr f.cmd.count) }) k v) ∧
    (∃ (d : Dev) (q tag : Nat) (f : Flight) (k : Nat) (v : Store), d.fresh q tag 5 false f ∧ d.passes f (fun _ v => { OpChecks.none with bad := f.beyond v, late := d.quotaDeny v (if f.cmd.count = 4096 ∧ f.cmd.addr % 4096 = 0 then [] else v.bandsAt f.cmd.addr f.cmd.count) }) k v) ∧
    (∃ (d : Dev) (q tag : Nat) (f : Flight) (k : Nat) (v : Store), d.fresh q tag 4 false f ∧ d.passes f (fun _ v => { OpChecks.none with bad := f.bandsBad v }) k v) ∧
    (∃ (d : Dev) (q tag : Nat) (f : Flight) (k : Nat) (v : Store), d.fresh q tag 16 false f ∧ d.passes f (fun k v =>
        let mark := d.reserveMark k v
        let any := nbit f.cmd.arg0 63
        { OpChecks.none with
          bad := any && nbit f.cmd.flags 2 && v.refMode 1 == 0
          late := firstDeny [denyIf (decide (v.bands * 4096 < mark + f.cmd.count)) St.quota 4, d.quotaDeny v (v.bandsAt mark f.cmd.count),
            if !any && f.cmd.addr != mark then some ⟨St.conflict, 0, mark⟩ else none] }) k v) ∧
    (∃ (d : Dev) (q tag : Nat) (f : Flight) (k : Nat) (v : Store) (dst : Nat) (lost : List Nat), d.fresh q tag 18 false f ∧ d.passes f (fun _ _ => OpChecks.none) k v ∧ nbit v.flags 0 = false) ∧
    (∃ (d : Dev) (q tag : Nat) (f : Flight) (k : Nat) (v : Store) (dst : Nat) (lost : List Nat), d.fresh q tag 18 false f ∧ d.passes f (fun _ _ => OpChecks.none) k v ∧ nbit v.flags 0 = true) ∧
    (∃ (d : Dev) (q tag : Nat) (f : Flight), d.fresh q tag 0x61 false f ∧ d.denyPlain f false = none) ∧
    (∃ (d : Dev) (q tag : Nat) (f : Flight) (x : Deny), d.fresh q tag 1 false f ∧ d.denyRecord f (fun _ v => { OpChecks.none with bad := f.beyond v }) = some x) ∧
    (∃ (d : Dev) (q tag : Nat) (f : Flight) (x : Deny), d.fresh q tag 2 false f ∧ d.denyRecord f (fun _ v => { OpChecks.none with bad := f.beyond v, late := d.quotaDeny v (v.bandsAt f.cmd.addr f.cmd.count) }) = some x) :=
  ⟨⟨withCmd (cmdOf 0 0) .run, 0, 0, flightOf (cmdOf 0 0) .run, by decide +kernel⟩,
   ⟨withCmd (cmdOf 3 0) .run, 0, 0, flightOf (cmdOf 3 0) .run, 1, aVol, by decide +kernel⟩,
   ⟨withCmd (cmdOf 19 0) .run, 0, 0, flightOf (cmdOf 19 0) .run, 65537, aVol, by decide +kernel⟩,
   ⟨withCmd (cmdOf 1 1) .run, 0, 0, flightOf (cmdOf 1 1) .run, 1, aVol, by decide +kernel⟩,
   ⟨withCmd (cmdOf 6 1) .run, 0, 0, flightOf (cmdOf 6 1) .run, 1, aVol, by decide +kernel⟩,
   ⟨withCmd (cmdOf 17 1) .run, 0, 0, flightOf (cmdOf 17 1) .run, 65537, aVol, by decide +kernel⟩,
   ⟨withCmd (cmdOf 2 1) .run, 0, 0, flightOf (cmdOf 2 1) .run, 1, aVol, by decide +kernel⟩,
   ⟨withCmd (cmdOf 5 1) .run, 0, 0, flightOf (cmdOf 5 1) .run, 1, aVol, by decide +kernel⟩,
   ⟨withCmd ({ cmdOf 4 0 with arg0 := 1 }) .run, 0, 0, flightOf ({ cmdOf 4 0 with arg0 := 1 }) .run, 1, aVol, by decide +kernel⟩,
   ⟨withCmd ({ cmdOf 0x10 1 with arg0 := 0x8000000000000000 }) .run, 0, 0, flightOf ({ cmdOf 0x10 1 with arg0 := 0x8000000000000000 }) .run, 65537, aVol, by decide +kernel⟩,
   ⟨withCmd (cmdOf 18 0) .run, 0, 0, flightOf (cmdOf 18 0) .run, 65537, aVol, 0, [], by decide +kernel⟩,
   ⟨{ withCmd (cmdOf 0x12 0) .run with stores := [(65537, { aVol with flags := 1 })] }, 0, 0, flightOf (cmdOf 0x12 0) .run, 65537, { aVol with flags := 1 }, 0, [], by decide +kernel⟩,
   ⟨withCmd (cmdOf 0x61 1) .run, 0, 0, flightOf (cmdOf 0x61 1) .run, by decide +kernel⟩,
   ⟨withCmd (cmdOf 1 0) .run, 0, 0, flightOf (cmdOf 1 0) .run, ⟨0x0d, 0, 0⟩, by decide +kernel⟩,
   ⟨withCmd (cmdOf 2 0) .run, 0, 0, flightOf (cmdOf 2 0) .run, ⟨0x0d, 0, 0⟩, by decide +kernel⟩⟩

/-- The hypotheses of ForerunnerView, clause by clause. -/
theorem witness_ForerunnerView :
    (∃ (d : Dev) (bits : W32), d.life.mode = .compat ∧ d.fnOpen .pf = true ∧ d.doorOpen 0 = true) ∧
    (∃ (d : Dev) (tag : Nat) (f : Flight) (k : Nat) (v : Store), d.fresh 0 tag 1 true f ∧ d.passes f (fun _ v => { OpChecks.none with bad := f.beyond v }) k v) ∧
    (∃ (d : Dev) (tag : Nat) (f : Flight) (k : Nat) (v : Store), d.fresh 0 tag 2 true f ∧ d.passes f (fun _ v => { OpChecks.none with bad := f.beyond v, late := d.quotaDeny v (v.bandsAt f.cmd.addr f.cmd.count) }) k v) ∧
    (∃ (d : Dev) (tag : Nat) (f : Flight) (k : Nat) (v : Store), d.fresh 0 tag 3 true f ∧ d.passes f (fun _ _ => OpChecks.none) k v) ∧
    (∃ (d : Dev) (tag : Nat) (f : Flight) (k : Nat) (v : Store), d.fresh 0 tag 4 true f ∧ d.passes f (fun _ v => { OpChecks.none with bad := f.beyond v }) k v) ∧
    (∃ (d : Dev) (tag : Nat) (f : Flight), d.fresh 0 tag 0x61 true f ∧ d.denyPlain f false = none) ∧
    (∃ (d : Dev), d.life.mode = .compat ∧ d.fnOpen .pf = true ∧ d.life.fatal = false) :=
  ⟨⟨{ serving with life := { serving.life with mode := .compat }, compat := .serving }, 3#32, by decide +kernel⟩,
   ⟨withCmd ({ cmdOf 1 1 with flags := 256 }) .run, 0, flightOf ({ cmdOf 1 1 with flags := 256 }) .run, 1, aVol, by decide +kernel⟩,
   ⟨withCmd ({ cmdOf 2 1 with flags := 256 }) .run, 0, flightOf ({ cmdOf 2 1 with flags := 256 }) .run, 1, aVol, by decide +kernel⟩,
   ⟨withCmd ({ cmdOf 3 0 with flags := 256 }) .run, 0, flightOf ({ cmdOf 3 0 with flags := 256 }) .run, 1, aVol, by decide +kernel⟩,
   ⟨withCmd ({ cmdOf 4 1 with flags := 256 }) .run, 0, flightOf ({ cmdOf 4 1 with flags := 256 }) .run, 1, aVol, by decide +kernel⟩,
   ⟨withCmd { cmdOf 0x61 1 with flags := 256 } .run, 0, flightOf { cmdOf 0x61 1 with flags := 256 } .run, by decide +kernel⟩,
   ⟨{ serving with life := { serving.life with mode := .compat }, compat := .serving }, by decide +kernel⟩⟩

/-- The hypotheses of NamespaceCommands, clause by clause. -/
theorem witness_NamespaceCommands :
    (∃ (d : Dev) (q tag : Nat) (f : Flight) (nm : List Byte) (k : Nat) (v : Store) (dir b start : Nat) (fill : Option (Nat × Nat)), d.fresh q tag 32 false f ∧ f.cmd.nameLen = nm.length ∧ nm ≠ [] ∧ d.nameWaits { f with name := nm } nm = false ∧ d.passes { f with name := nm } (d.putChecks { f with name := nm }) k v ∧ d.dirFor k v nm = some dir ∧ d.placeExtent v (extentLen f.cmd.count) = some (b, start, fill) ∧ d.sealBad k v dir = false) ∧
    (∃ (d : Dev) (q tag : Nat) (f : Flight) (nm : List Byte) (k : Nat) (v : Store) (o : Obj), d.fresh q tag 33 false f ∧ f.cmd.nameLen = nm.length ∧ nm ≠ [] ∧ d.passes { f with name := nm } (fun _ v => Flight.getChecks { f with name := nm } v) k v ∧ v.objOf nm = some o ∧ d.sealBad k v o.dir = false) ∧
    (∃ (d : Dev) (q tag : Nat) (f : Flight) (nm : List Byte) (k : Nat) (v : Store) (o : Obj), d.fresh q tag 34 false f ∧ f.cmd.nameLen = nm.length ∧ nm ≠ [] ∧ d.nameWaits { f with name := nm } nm = false ∧ d.passes { f with name := nm } (fun _ v => { OpChecks.none with
        absent := f.cmd.any && (v.objOf nm).isNone
        late := firstDeny [d.keyDeny v false, Flight.genDeny { f with name := nm } v] }) k v ∧ v.objOf nm = some o ∧ d.sealBad k v o.dir = false) ∧
    (∃ (d : Dev) (q tag : Nat) (f : Flight) (nm : List Byte) (k : Nat) (v : Store) (o : Obj), d.fresh q tag 35 false f ∧ f.cmd.nameLen = nm.length ∧ nm ≠ [] ∧ d.passes { f with name := nm } (fun _ v => { OpChecks.none with absent := (v.objOf nm).isNone }) k v ∧ v.objOf nm = some o ∧ d.sealBad k v o.dir = false) ∧
    (∃ (d : Dev) (ns band : Nat) (lost : List Nat) (v : Store) (o : Obj) (b start : Nat) (fill : Option (Nat × Nat)) (x w : Dev), d.liveStore (storeKey 2 ns) = some v ∧ v.compactObj band = some o ∧ d.placeExtent v (extentLen o.sects) = some (b, start, fill) ∧ d.mayRelocate = true ∧ d.cacheHeld = false ∧ d.quotaTest v.owner (d.putBands v o.dir b) = 0 ∧ d.cacheUsed + d.newLines (v.dirKey o.dir :: (List.range (extentLen o.sects)).map (fun i => b * 4096 + (start + i))) ≤ d.cacheLines ∧ d.jobEnd 10 band false ((List.range ((extentLen o.sects + 255) / 256)).map (fun r => 2 * min 256 (extentLen o.sects - 256 * r))) = some x ∧ x.dirWrite (x.compactFlight v.owner) (storeKey 2 ns) v o.dir = some w) :=
  ⟨⟨withNs ({ cmdOf 32 1 with arg0 := 9223653511831486464, addr := 4096 }), 0, 0, flightOf ({ cmdOf 32 1 with arg0 := 9223653511831486464, addr := 4096 }) .run, [7#8], 131073, aNs, 0, 1, 1, some (1, 17), by decide +kernel⟩,
   ⟨withNs ({ cmdOf 33 1 with arg0 := 9223653511831486464, addr := 0 }), 0, 0, flightOf ({ cmdOf 33 1 with arg0 := 9223653511831486464, addr := 0 }) .run, [7#8], 131073, aNs, (⟨[7#8], 3, 4096, 1, 0, 1, 0, 1, 0⟩ : Obj), by decide +kernel⟩,
   ⟨withNs ({ cmdOf 34 0 with arg0 := 9223653511831486464, addr := 0 }), 0, 0, flightOf ({ cmdOf 34 0 with arg0 := 9223653511831486464, addr := 0 }) .run, [7#8], 131073, aNs, (⟨[7#8], 3, 4096, 1, 0, 1, 0, 1, 0⟩ : Obj), by decide +kernel⟩,
   ⟨withNs ({ cmdOf 35 1 with arg0 := 9223653511831486464, addr := 0 }), 0, 0, flightOf ({ cmdOf 35 1 with arg0 := 9223653511831486464, addr := 0 }) .run, [7#8], 131073, aNs, (⟨[7#8], 3, 4096, 1, 0, 1, 0, 1, 0⟩ : Obj), by decide +kernel⟩,
   ⟨compactDev, 0, 1, [], compactNs, ⟨[7#8], 3, 4096, 1, 0, 1, 0, 1, 0⟩, 2, 1, some (2, 17), (compactDev.jobEnd 10 1 false [2 * min 256 (extentLen 1)]).getD serving, (((compactDev.jobEnd 10 1 false [2 * min 256 (extentLen 1)]).getD serving).dirWrite (((compactDev.jobEnd 10 1 false [2 * min 256 (extentLen 1)]).getD serving).compactFlight 0) (storeKey 2 0) compactNs 0).getD serving, by decide +kernel⟩⟩

/-- The hypotheses of ProvisioningAndSnapshots, clause by clause. -/
theorem witness_ProvisioningAndSnapshots :
    (∃ (d : Dev) (r : Requester) (kind : Nat), kind < 3 ∧ d.takes r (kindPage kind) 0 Reg.VOL_CMD = true ∧ d.regB (kindPage kind) 0 Reg.VOL_STS 0 = false ∧ (d.provBegun r kind).provCheck kind false = 0 ∧ (d.provBegun r kind).store ((d.provBegun r kind).provKey kind) = none ∧ imageOk kind ((d.provBegun r kind).recImage kind) = true ∧ imgFabric kind ((d.provBegun r kind).recImage kind) = false) ∧
    (∃ (d : Dev) (r : Requester) (kind : Nat) (v : Store), kind < 3 ∧ d.takes r (kindPage kind) 0 Reg.VOL_CMD = true ∧ d.regB (kindPage kind) 0 Reg.VOL_STS 0 = false ∧ (d.provBegun r kind).provCheck kind false = 0 ∧ (d.provBegun r kind).liveStore ((d.provBegun r kind).provKey kind) = some v ∧ (d.provBegun r kind).deleteBlocked ((d.provBegun r kind).provKey kind) v = false ∧ v.fabric = false) ∧
    (∃ (d : Dev) (r : Requester) (kind : Nat) (v : Store), kind < 3 ∧ d.takes r (kindPage kind) 0 Reg.VOL_CMD = true ∧ d.regB (kindPage kind) 0 Reg.VOL_STS 0 = false ∧ (d.provBegun r kind).provCheck kind true = 0 ∧ (d.provBegun r kind).liveStore ((d.provBegun r kind).provKey kind) = some v) ∧
    (∃ (d : Dev) (r : Requester) (kind : Nat) (v : Store), kind < 3 ∧ d.takes r (kindPage kind) 0 Reg.VOL_CMD = true ∧ d.regB (kindPage kind) 0 Reg.VOL_STS 0 = false ∧ (d.provBegun r kind).provCheck kind false = 0 ∧ (d.provBegun r kind).liveStore ((d.provBegun r kind).provKey kind) = some v ∧ (d.provBegun r kind).modifyOk kind v ((d.provBegun r kind).recImage kind) = false) ∧
    (∃ (d : Dev) (r : Requester) (kind : Nat) (v w : Store), kind < 3 ∧ d.takes r (kindPage kind) 0 Reg.VOL_CMD = true ∧ d.regB (kindPage kind) 0 Reg.VOL_STS 0 = false ∧ (d.provBegun r kind).provCheck kind false = 0 ∧ (d.provBegun r kind).liveStore ((d.provBegun r kind).provKey kind) = some v ∧ (d.provBegun r kind).modifyOk kind v ((d.provBegun r kind).recImage kind) = true ∧ v.fabric = false ∧ ((d.provBegun r kind).modifyLocal ((d.provBegun r kind).provKey kind) ((d.provBegun r kind).recImage kind)).1 = provOk ∧ ((d.provBegun r kind).modifyLocal ((d.provBegun r kind).provKey kind) ((d.provBegun r kind).recImage kind)).2.store ((d.provBegun r kind).provKey kind) = some w ∧ w.oldBands ≠ 0) ∧
    (∃ (d : Dev) (r : Requester) (kind : Nat) (v w : Store), kind < 3 ∧ d.takes r (kindPage kind) 0 Reg.VOL_CMD = true ∧ d.regB (kindPage kind) 0 Reg.VOL_STS 0 = false ∧ (d.provBegun r kind).provCheck kind false = 0 ∧ (d.provBegun r kind).liveStore ((d.provBegun r kind).provKey kind) = some v ∧ (d.provBegun r kind).modifyOk kind v ((d.provBegun r kind).recImage kind) = true ∧ v.fabric = false ∧ ((d.provBegun r kind).modifyLocal ((d.provBegun r kind).provKey kind) ((d.provBegun r kind).recImage kind)).1 = provOk ∧ ((d.provBegun r kind).modifyLocal ((d.provBegun r kind).provKey kind) ((d.provBegun r kind).recImage kind)).2.store ((d.provBegun r kind).provKey kind) = some w ∧ w.oldBands = 0) ∧
    (∃ (d : Dev) (r : Requester) (kind : Nat), kind < 3 ∧ d.takes r (kindPage kind) 0 Reg.VOL_CMD = true ∧ d.regB (kindPage kind) 0 Reg.VOL_STS 0 = true) ∧
    (∃ (d : Dev) (q tag : Nat) (f : Flight) (k : Nat) (v : Store), d.flight q tag = some f ∧ f.cmd.opcode = 0x30 ∧ nbit f.cmd.flags 8 = false ∧ f.stage = .run ∧ d.passes f (fun _ v => { OpChecks.none with late := d.snapDeny f v }) k v ∧ v.fabric = false ∧ v.sameRequest f.cmd.arg0 = none ∧ v.hold = false) ∧
    (∃ (d : Dev) (q tag : Nat) (f : Flight) (k : Nat) (v : Store) (x : Nat), d.flight q tag = some f ∧ f.cmd.opcode = 0x30 ∧ nbit f.cmd.flags 8 = false ∧ f.stage = .run ∧ d.passes f (fun _ v => { OpChecks.none with late := d.snapDeny f v }) k v ∧ v.fabric = false ∧ v.sameRequest f.cmd.arg0 = some x) ∧
    (∃ (d : Dev) (q tag : Nat) (f : Flight) (k : Nat) (v : Store), d.flight q tag = some f ∧ f.cmd.opcode = 0x30 ∧ nbit f.cmd.flags 8 = false ∧ f.stage = .run ∧ d.passes f (fun _ v => { OpChecks.none with late := d.snapDeny f v }) k v ∧ v.fabric = true) ∧
    (∃ (d : Dev) (q tag : Nat) (f : Flight) (k : Nat) (v : Store), d.flight q tag = some f ∧ f.cmd.opcode = 0x30 ∧ nbit f.cmd.flags 8 = false ∧ f.stage = .xfer ∧ f.key = some k ∧ d.store k = some v ∧ v.fabric = false ∧ d.snapReady v = true) ∧
    (∃ (d : Dev) (q tag : Nat) (f : Flight) (k : Nat) (v : Store), d.fresh q tag 0x31 false f ∧ d.passes f (fun _ v => { OpChecks.none with absent := !v.snapLive (f.cmd.arg0 % 2 ^ 32) }) k v ∧ v.fabric = false) :=
  ⟨⟨{ serving with regs := [(PT.VOL.key 0 0x40, 3#32), (PT.VOL.key 0 Reg.VOL_REC_0, 1#32), (PT.VOL.key 0 (Reg.VOL_REC_0 + 4), 4#32)] }, sx, 0, by decide +kernel⟩,
   ⟨{ serving with stores := [(0, aVol)] }, sx, 0, aVol, by decide +kernel⟩,
   ⟨{ serving with stores := [(0, aVol)] }, sx, 0, aVol, by decide +kernel⟩,
   ⟨{ serving with stores := [(0, aVol)] }, sx, 0, aVol, by decide +kernel⟩,
   ⟨{ serving with stores := [(0, aVol)], regs := [(PT.VOL.key 0 (Reg.VOL_REC_0 + 4), 3#32)] }, sx, 0, aVol, { aVol with bands := 3, oldBands := 4 }, by decide +kernel⟩,
   ⟨{ serving with stores := [(0, aVol)], regs := [(PT.VOL.key 0 (Reg.VOL_REC_0 + 4), 4#32)] }, sx, 0, aVol, aVol, by decide +kernel⟩,
   ⟨{ serving with regs := [(PT.VOL.key 0 Reg.VOL_STS, 1#32)] }, sx, 0, by decide +kernel⟩,
   ⟨withCmd (cmdOf 0x30 0) .run, 0, 0, flightOf (cmdOf 0x30 0) .run, 1, aVol, by decide +kernel⟩,
   ⟨{ withCmd (cmdOf 0x30 0) .run with stores := [(1, { aVol with snaps := [⟨2, 0, 0, 0⟩] })] }, 0, 0, flightOf (cmdOf 0x30 0) .run, 1, { aVol with snaps := [⟨2, 0, 0, 0⟩] }, 2, by decide +kernel⟩,
   ⟨{ withCmd (cmdOf 0x30 0) .run with stores := [(1, { aVol with fabK := 1 })], regs := headUp.regs, life := headUp.life, fab := headUp.fab }, 0, 0, flightOf (cmdOf 0x30 0) .run, 1, { aVol with fabK := 1 }, by decide +kernel⟩,
   ⟨withCmd (cmdOf 0x30 0) .xfer, 0, 0, flightOf (cmdOf 0x30 0) .xfer, 1, aVol, by decide +kernel⟩,
   ⟨{ withCmd ({ cmdOf 0x31 0 with arg0 := 2 }) .run with stores := [(1, { aVol with snaps := [⟨2, 0, 0, 0⟩] })] }, 0, 0, flightOf ({ cmdOf 0x31 0 with arg0 := 2 }) .run, 1, { aVol with snaps := [⟨2, 0, 0, 0⟩] }, by decide +kernel⟩⟩

/-- The hypotheses of AdministrativeCommands, clause by clause. -/
theorem witness_AdministrativeCommands :
    (∃ (d : Dev) (q tag : Nat) (f : Flight) (k : Nat) (v : Store), d.fresh q tag 50 false f ∧ d.passes f (fun _ v => { OpChecks.none with bad := f.beyond v, absent := !v.snapLive (f.cmd.arg0 % 2 ^ 32) }) k v) ∧
    (∃ (d : Dev) (q tag : Nat) (f : Flight) (k : Nat) (v : Store) (x : List Byte), d.fresh q tag 64 false f ∧ d.passes f (fun _ v => { OpChecks.none with
        bad := f.beyond v
        denied := algKeyed (f.cmd.arg0 % 256) && !d.tintHoldsKey f.tint (f.cmd.arg0 / 256 % 4096) 2 }) k v ∧ x.length = algLen (f.cmd.arg0 % 256)) ∧
    (∃ (d : Dev) (q tag dst : Nat) (lost : List Nat) (f : Flight) (v : Store) (k : Nat), d.flight q tag = some f ∧ f.cmd.opcode = 0x50 ∧ f.stage = .run ∧ d.passes f (fun _ v => { OpChecks.none with bad := f.bandsBad v }) k v) ∧
    (∃ (d : Dev) (q tag dst : Nat) (lost : List Nat) (f : Flight) (v : Store) (i b : Nat) (e : BandEnt) (x : Dev), d.flight q tag = some f ∧ f.cmd.opcode = 0x50 ∧ f.stage = .media ∧ f.key.bind d.store = some v ∧ f.order = 0 ∧ d.nextReloc f v = some (i, b) ∧ d.jnlFull = false ∧ d.destOk dst false = true ∧ d.band b = some e ∧ d.jobElse 14 b = false ∧ (d.holdLog e).jobEnd 14 b false wholeCosts = some x) ∧
    (∃ (d : Dev) (q tag dst : Nat) (lost : List Nat) (f : Flight) (v : Store), d.flight q tag = some f ∧ f.cmd.opcode = 0x50 ∧ f.stage = .media ∧ f.key.bind d.store = some v ∧ f.order = 0 ∧ d.nextReloc f v = none) ∧
    (∃ (d : Dev) (q tag dst : Nat) (lost : List Nat) (f : Flight) (v : Store), d.flight q tag = some f ∧ f.cmd.opcode = 0x50 ∧ f.stage = .media ∧ f.key.bind d.store = some v ∧ f.order = 1 ∧ d.relocBusy f = false) ∧
    (∃ (d : Dev) (q tag : Nat) (f : Flight), d.fresh q tag 0x60 false f ∧ d.denyPlain f (decide (32 ≤ f.cmd.arg0) || f.cmd.arg0 % 32 == tag || (match d.flight q (f.cmd.arg0 % 32) with | some x => x.cmd.opcode == 0x60 | none => false)) = none ∧ d.flight q (f.cmd.arg0 % 32) = none) ∧
    (∃ (d : Dev) (q tag : Nat) (f : Flight) (x : Flight), d.fresh q tag 0x60 false f ∧ d.denyPlain f (decide (32 ≤ f.cmd.arg0) || f.cmd.arg0 % 32 == tag || (match d.flight q (f.cmd.arg0 % 32) with | some x => x.cmd.opcode == 0x60 | none => false)) = none ∧ d.flight q (f.cmd.arg0 % 32) = some x ∧ d.committed x = true) ∧
    (∃ (d : Dev) (q tag : Nat) (f : Flight) (x : Flight), d.fresh q tag 0x60 false f ∧ d.denyPlain f (decide (32 ≤ f.cmd.arg0) || f.cmd.arg0 % 32 == tag || (match d.flight q (f.cmd.arg0 % 32) with | some x => x.cmd.opcode == 0x60 | none => false)) = none ∧ d.flight q (f.cmd.arg0 % 32) = some x ∧ d.committed x = false ∧ x.cmd.opcode ≠ 0x50) ∧
    (∃ (d : Dev) (q tag : Nat) (f : Flight) (x : Flight), d.fresh q tag 0x60 false f ∧ d.denyPlain f (decide (32 ≤ f.cmd.arg0) || f.cmd.arg0 % 32 == tag || (match d.flight q (f.cmd.arg0 % 32) with | some x => x.cmd.opcode == 0x60 | none => false)) = none ∧ d.flight q (f.cmd.arg0 % 32) = some x ∧ d.committed x = false ∧ x.cmd.opcode = 0x50) ∧
    (∃ (d : Dev) (q tag : Nat) (f : Flight), d.flight q tag = some f ∧ f.cmd.opcode = 0x60 ∧ f.stage = .xfer ∧ d.targetRuns f (f.cmd.arg0 % 32) = false) ∧
    (∃ (d : Dev) (q tag : Nat) (f : Flight) (outs : List Decoded) (soft : Bool) (given : List Byte) (st : Nat), d.flight q tag = some f ∧ f.cmd.opcode = 112 ∧ f.stage = .run ∧ nbit f.cmd.flags 8 = false ∧ d.awaitsGlaze 112 = false ∧ d.rawDeny f = none) ∧
    (∃ (d : Dev) (q tag : Nat) (f : Flight) (outs : List Decoded) (soft : Bool) (given : List Byte) (st : Nat), d.flight q tag = some f ∧ f.cmd.opcode = 112 ∧ f.stage = .xfer) ∧
    (∃ (d : Dev) (q tag : Nat) (f : Flight) (outs : List Decoded) (soft : Bool) (given : List Byte) (st : Nat) (l : ListDone), d.flight q tag = some f ∧ f.cmd.opcode = 112 ∧ f.stage = .media ∧ d.rawDone f = some l ∧ (¬ (l.status = 4 ∨ l.status = 5 ∨ l.status = 8 ∨ l.status = 9)) ∧ given.length = f.buffer ∧ f.cmd.rawMode = 1) ∧
    (∃ (d : Dev) (q tag : Nat) (f : Flight) (given : List Byte) (st : Nat), d.flight q tag = some f ∧ f.cmd.opcode = 113 ∧ f.stage = .run ∧ nbit f.cmd.flags 8 = false ∧ d.awaitsGlaze 113 = false ∧ d.rawDeny f = none) ∧
    (∃ (d : Dev) (q tag : Nat) (f : Flight) (given : List Byte) (st : Nat), d.flight q tag = some f ∧ f.cmd.opcode = 113 ∧ f.stage = .data ∧ given.length = f.buffer) ∧
    (∃ (d : Dev) (q tag : Nat) (f : Flight) (given : List Byte) (st : Nat) (l : ListDone), d.flight q tag = some f ∧ f.cmd.opcode = 113 ∧ f.stage = .media ∧ d.rawDone f = some l ∧ (¬ (l.status = 4 ∨ l.status = 5 ∨ l.status = 8 ∨ l.status = 9))) ∧
    (∃ (d : Dev) (q tag : Nat) (f : Flight) (st : Nat), d.flight q tag = some f ∧ f.cmd.opcode = 114 ∧ f.stage = .run ∧ nbit f.cmd.flags 8 = false ∧ d.awaitsGlaze 114 = false ∧ d.rawDeny f = none) ∧
    (∃ (d : Dev) (q tag : Nat) (f : Flight) (st : Nat), d.flight q tag = some f ∧ f.cmd.opcode = 114 ∧ f.stage = .xfer) ∧
    (∃ (d : Dev) (q tag : Nat) (f : Flight) (st : Nat) (l : ListDone), d.flight q tag = some f ∧ f.cmd.opcode = 114 ∧ f.stage = .media ∧ d.rawDone f = some l ∧ (¬ (l.status = 4 ∨ l.status = 5 ∨ l.status = 8 ∨ l.status = 9))) :=
  ⟨⟨{ withCmd ({ cmdOf 0x32 1 with arg0 := 2 }) .run with stores := [(1, { aVol with snaps := [⟨2, 0, 0, 0⟩] })] }, 0, 0, flightOf ({ cmdOf 0x32 1 with arg0 := 2 }) .run, 1, { aVol with snaps := [⟨2, 0, 0, 0⟩] }, by decide +kernel⟩,
   ⟨withCmd ({ cmdOf 0x40 1 with arg0 := 1 }) .run, 0, 0, flightOf ({ cmdOf 0x40 1 with arg0 := 1 }) .run, 1, aVol, List.replicate 32 0#8, by decide +kernel⟩,
   ⟨withCmd ({ cmdOf 0x50 0 with arg0 := 1 }) .run, 0, 0, 0, [], flightOf ({ cmdOf 0x50 0 with arg0 := 1 }) .run, aVol, 1, by decide +kernel⟩,
   ⟨{ withCmd ({ cmdOf 0x50 0 with arg0 := 1 }) .media with ftl := relocFtl, jobRows := [(60129542144, wholeCosts.length)] }, 0, 0, 3, [], flightOf ({ cmdOf 0x50 0 with arg0 := 1 }) .media, aVol, 0, 0, ⟨false, false, false, 0, 0, 0, 0⟩, (Dev.jobEnd { withCmd ({ cmdOf 0x50 0 with arg0 := 1 }) .media with ftl := relocFtl, jobRows := [(60129542144, wholeCosts.length)] } 14 0 false wholeCosts).getD serving, by decide +kernel⟩,
   ⟨{ withCmd ({ cmdOf 0x50 0 with arg0 := 1 }) .media with ftl := serving.ftl }, 0, 0, 3, [], flightOf ({ cmdOf 0x50 0 with arg0 := 1 }) .media, aVol, by decide +kernel⟩,
   ⟨{ withCmd ({ cmdOf 0x50 0 with arg0 := 1 }) .media with flights := [{ flightOf ({ cmdOf 0x50 0 with arg0 := 1 }) .media with order := 1 }] }, 0, 0, 3, [], { flightOf ({ cmdOf 0x50 0 with arg0 := 1 }) .media with order := 1 }, aVol, by decide +kernel⟩,
   ⟨withCmd ({ cmdOf 0x60 0 with arg0 := 3 }) .run, 0, 0, flightOf ({ cmdOf 0x60 0 with arg0 := 3 }) .run, by decide +kernel⟩,
   ⟨{ withCmd ({ cmdOf 0x60 0 with arg0 := 3 }) .run with flights := [flightOf ({ cmdOf 0x60 0 with arg0 := 3 }) .run, { flightOf (cmdOf 2 1) .installed with tag := 3 }] }, 0, 0, flightOf ({ cmdOf 0x60 0 with arg0 := 3 }) .run, { flightOf (cmdOf 2 1) .installed with tag := 3 }, by decide +kernel⟩,
   ⟨{ withCmd ({ cmdOf 0x60 0 with arg0 := 3 }) .run with flights := [flightOf ({ cmdOf 0x60 0 with arg0 := 3 }) .run, { flightOf (cmdOf 1 1) .gate with tag := 3 }] }, 0, 0, flightOf ({ cmdOf 0x60 0 with arg0 := 3 }) .run, { flightOf (cmdOf 1 1) .gate with tag := 3 }, by decide +kernel⟩,
   ⟨{ withCmd ({ cmdOf 0x60 0 with arg0 := 3 }) .run with flights := [flightOf ({ cmdOf 0x60 0 with arg0 := 3 }) .run, { flightOf (cmdOf 0x50 1) .media with tag := 3 }] }, 0, 0, flightOf ({ cmdOf 0x60 0 with arg0 := 3 }) .run, { flightOf (cmdOf 0x50 1) .media with tag := 3 }, by decide +kernel⟩,
   ⟨withCmd ({ cmdOf 0x60 0 with arg0 := 3 }) .xfer, 0, 0, flightOf ({ cmdOf 0x60 0 with arg0 := 3 }) .xfer, by decide +kernel⟩,
   ⟨rawDev ({ cmdOf 0x70 1 with target := 0, arg0 := 1 }) .run, 0, 0, flightOf ({ cmdOf 0x70 1 with target := 0, arg0 := 1 }) .run, [], false, [], 0, by decide +kernel⟩,
   ⟨rawDev ({ cmdOf 0x70 1 with target := 0, arg0 := 1 }) .xfer, 0, 0, flightOf ({ cmdOf 0x70 1 with target := 0, arg0 := 1 }) .xfer, [], false, [], 0, by decide +kernel⟩,
   ⟨rawDev ({ cmdOf 0x70 1 with target := 65536 + 2048 }) .media, 0, 0, flightOf ({ cmdOf 0x70 1 with target := 65536 + 2048 }) .media, [], false, List.replicate 18432 0#8, 0, rawList, by decide +kernel⟩,
   ⟨rawDev ({ cmdOf 0x71 4 with target := 96256 }) .run, 0, 0, flightOf ({ cmdOf 0x71 4 with target := 96256 }) .run, [], 0, by decide +kernel⟩,
   ⟨rawDev ({ cmdOf 0x71 4 with target := 96256 }) .data, 0, 0, flightOf ({ cmdOf 0x71 4 with target := 96256 }) .data, List.replicate 73728 0#8, 0, by decide +kernel⟩,
   ⟨rawDev ({ cmdOf 0x71 4 with target := 96256 }) .media, 0, 0, flightOf ({ cmdOf 0x71 4 with target := 96256 }) .media, [], 0, rawList, by decide +kernel⟩,
   ⟨rawDev ({ cmdOf 0x72 0 with target := 30720 }) .run, 0, 0, flightOf ({ cmdOf 0x72 0 with target := 30720 }) .run, 0, by decide +kernel⟩,
   ⟨rawDev ({ cmdOf 0x72 0 with target := 30720 }) .xfer, 0, 0, flightOf ({ cmdOf 0x72 0 with target := 30720 }) .xfer, 0, by decide +kernel⟩,
   ⟨rawDev ({ cmdOf 0x72 0 with target := 30720 }) .media, 0, 0, flightOf ({ cmdOf 0x72 0 with target := 30720 }) .media, 0, rawList, by decide +kernel⟩⟩

/-- The hypotheses of BandTranslation, clause by clause. -/
theorem witness_BandTranslation :
    (∃ (d : Dev) (b start dst : Nat) (bad : Option Nat) (ls : List (Nat × Line)) (n : Nat) (e : BandEnt) (x : LogBand), d.mayPlace = true ∧ d.streamTurn b start = true ∧ d.jobOn b = false ∧ d.atReserve = false ∧ d.writeRun b start n = some ls ∧ n ≠ 4096 ∧ d.band b = some e ∧ e.logged = true ∧ d.logBand e.logIdx = some x) ∧
    (∃ (d : Dev) (b start dst : Nat) (bad : Option Nat) (ls : List (Nat × Line)) (n : Nat), d.mayPlace = true ∧ d.streamTurn b start = true ∧ d.jobOn b = false ∧ d.atReserve = false ∧ d.writeRun b start n = some ls ∧ d.band b = none) ∧
    (∃ (d : Dev) (l : Nat) (x : LogBand), d.logBand l = some x ∧ d.mayPlace = true ∧ x.unit.isEmpty = false ∧ x.more = true ∧ (x.holdUs ≤ d.life.usUp - x.unitUs ∨ d.linesWanted = true)) ∧
    (∃ (d : Dev) (l m : Nat) (x : LogBand), d.logBand l = some x ∧ d.mayPlace = true ∧ x.unit.isEmpty = false ∧ x.more = true ∧ (x.holdUs ≤ d.life.usUp - x.unitUs ∨ d.linesWanted = true)) ∧
    (∃ (d : Dev) (l dst : Nat) (lost : List Nat), d.mayRelocate = true ∧ d.mergeDue l = true) ∧
    (∃ (d x : Dev) (l dst : Nat) (fast forced : Bool) (lost : List Nat) (y : LogBand), d.mergeWaits l dst fast = false ∧ (d.settleUnit l).logBand l = some y ∧ ((d.settleUnit l).setLog l { y with state := 3 }).jobEnd 12 y.band forced ((d.settleUnit l).mergeCosts y) = some x) ∧
    (∃ (d : Dev) (dst b : Nat) (lost bs : List Nat), d.mayRelocate = true ∧ d.ftl.fastOrder = b :: bs) ∧
    (∃ (d x : Dev) (b dst gate : Nat) (forced : Bool) (lost : List Nat) (after : Dev → Dev) (e : BandEnt), d.band b = some e ∧ d.destOk dst false = true ∧ d.jobElse gate b = false ∧ (d.holdLog e).jobEnd gate b forced wholeCosts = some x) ∧
    (∃ (d : Dev), d.life.booted = true) ∧
    (∃ (d : Dev) (dsts lost : List Nat) (v : Nat), d.mayRelocate = true ∧ (0 < d.gcPressure ∨ d.jobAt 10 = true) ∧ d.gcNext = some v) ∧
    (∃ (d : Dev) (pslc fh : Bool) (p g n : Nat), d.mayPlace = true ∧ (fh = true → d.atReserve = false) ∧ (pslc = true → d.curSb + d.pslcComing < d.pslTarget) ∧ 1 ≤ p ∧ p ≤ 4 ∧ d.allocGroup = some g ∧ d.oldestFree g = some n ∧ d.lookupOpen n = false) ∧
    (∃ (d : Dev) (n a b : Nat) (bad : List Nat), (d.sb n).state = 1 ∧ d.openHeld n = false ∧ d.copyOk a b = true ∧ d.life.fatal = false ∧ bad = []) ∧
    (∃ (d : Dev) (n a b : Nat) (bad : List Nat), (d.sb n).state = 1 ∧ bad.isEmpty = false) ∧
    (∃ (d : Dev) (outs : List (Nat × Nat × Decoded)) (dsts lost : List Nat) (n : Nat), d.mayRelocate = true ∧ d.gateOpen 13 = true ∧ d.ftl.sbs.find? (fun e => e.2.state == 4 && e.2.kind == 1) = none ∧ d.patrolNext = some n) ∧
    (∃ (d : Dev) (outs : List (Nat × Nat × Decoded)) (dsts lost : List Nat) (n : Nat) (s : Sb), d.mayRelocate = true ∧ d.ftl.sbs.find? (fun e => e.2.state == 4 && e.2.kind == 1) = some (n, s)) ∧
    (∃ (d : Dev), d.mayPlace = true ∧ d.regB .MAP 0 Reg.MAP_CKPT_STS 8 = false ∧ d.deltaMax ≤ d.jnl.deltas.length ∧ d.plp.rootPages ≠ 0) ∧
    (∃ (d : Dev), d.life.fatal = false ∧ d.regB .MAP 0 Reg.MAP_CKPT_STS 8 = true) ∧
    (∃ (d : Dev), d.regB .MAP 0 Reg.MAP_CKPT_STS 8 = true ∧ d.regF .MAP 0 Reg.MAP_CKPT_STS 0 8 = 192) :=
  ⟨⟨placing, 0, 0, 3, none, [(0, aLine)], 1, ⟨true, false, false, 3, 1, 0, 0⟩, aLog 1 1, by decide +kernel⟩,
   ⟨placing, 9, 0, 3, none, [(0, aLine)], 1, by decide +kernel⟩,
   ⟨placing, 0, aLog 1 1, by decide +kernel⟩,
   ⟨placing, 0, 2, aLog 1 1, by decide +kernel⟩,
   ⟨{ placing with ftl := { placing.ftl with logs := [(0, aLog 2 4096)] } }, 0, 3, [], by decide +kernel⟩,
   ⟨mergeDev, (Dev.jobEnd ((mergeDev.settleUnit 0).setLog 0 { mergeLog with state := 3 }) 12 0 true ((mergeDev.settleUnit 0).mergeCosts mergeLog)).getD serving, 0, 3, false, true, [], mergeLog, by decide +kernel⟩,
   ⟨{ placing with ftl := { placing.ftl with fastOrder := [0] } }, 3, 0, [], [], by decide +kernel⟩,
   ⟨{ placing with ftl := relocFtl, jobRows := [(60129542144, 16)] }, { placing with ftl := relocFtl }, 0, 3, 14, false, [], id, ⟨false, false, false, 0, 0, 0, 0⟩, by decide +kernel⟩,
   ⟨serving, by decide +kernel⟩,
   ⟨{ placing with ftl := { placing.ftl with sbs := [(4, ⟨3, false, 0, 0, 48, 1, [], 0, 0, 0, 0, 0⟩)] }, jobRows := [(42949672960, 3)] }, [3], [], 4, by decide +kernel⟩,
   ⟨placing, false, false, 1, 0, 0, by decide +kernel⟩,
   ⟨{ placing with ftl := { placing.ftl with sbs := [(3, ⟨1, false, 0, 0, 0, 1, [], 0, 0, 0, 0, 0⟩)] } }, 3, 0, 16, [], by decide +kernel⟩,
   ⟨{ placing with ftl := { placing.ftl with sbs := [(3, ⟨1, false, 0, 0, 0, 1, [], 0, 0, 0, 0, 0⟩)] } }, 3, 0, 0, [2], by decide +kernel⟩,
   ⟨{ placing with ftl := { placing.ftl with sbs := [(4, ⟨3, false, 0, 0, 48, 1, [], 0, 0, 0, 0, 0⟩)] } }, [], [3], [], 4, by decide +kernel⟩,
   ⟨{ placing with ftl := { placing.ftl with sbs := [(4, ⟨4, false, 0, 0, 48, 1, [], 1, 0, 0, 0, 0⟩)] } }, [], [3], [], 4, ⟨4, false, 0, 0, 48, 1, [], 1, 0, 0, 0, 0⟩, by decide +kernel⟩,
   ⟨ckptDev, ckpt_due⟩,
   ⟨{ placing with regs := [(PT.MAP.key 0 Reg.MAP_CKPT_STS, 0x100#32)] }, by decide +kernel⟩,
   ⟨{ placing with regs := [(PT.MAP.key 0 Reg.MAP_CKPT_STS, 0x1c0#32)] }, by decide +kernel⟩⟩

/-- The hypotheses of StripesAndRebuild, clause by clause. -/
theorem witness_StripesAndRebuild :
    (∃ (d : Dev) (l row : Nat) (x : LogBand) (r : RowSt), d.logBand l = some x ∧ mget d.ftl.rows ((x.sb * 64 + x.slot) * 16 + row) = some r ∧ d.mayPlace = true ∧ 16 ≤ r.units ∧ row < 16) ∧
    (∃ (d : Dev) (l row : Nat) (x : LogBand) (r : RowSt), d.logBand l = some x ∧ mget d.ftl.rows ((x.sb * 64 + x.slot) * 16 + row) = some r ∧ d.mayPlace = true ∧ 16 ≤ r.units ∧ row < 16) ∧
    (∃ (d : Dev) (l row : Nat) (x : LogBand) (r : RowSt) (m : Nat), d.logBand l = some x ∧ mget d.ftl.rows ((x.sb * 64 + x.slot) * 16 + row) = some r ∧ d.mayPlace = true ∧ 16 ≤ r.units ∧ row < 16) ∧
    (∃ (d : Dev) (l : Nat) (x : LogBand) (res : Parity) (r : RowSt), d.logBand l = some x ∧ x.unit = [] ∧ x.more = true ∧ x.state ≠ 3 ∧ mget d.ftl.rows ((x.sb * 64 + x.slot) * 16 + x.fill / 256) = some r ∧ d.mayPlace = true ∧ (d.rowCloseUs < d.life.usUp - r.firstUs ∨ d.life.entry = .patrolEntering) ∧ r.units < 16) ∧
    (∃ (d : Dev) (a b : Nat) (p : JPage) (ps : List JPage), d.jnl.waiting = p :: ps ∧ d.copyOk a b = true ∧ d.life.fatal = false) ∧
    (∃ (d : Dev) (n : Nat) (c : Nat × Nat), d.jnl.copies.find? d.oneCopy = some c ∧ d.copyOk (if d.dieGone c.1 = true then c.2 else c.1) n = true) ∧
    (∃ (d : Dev) (dst b : Nat) (lost : List Nat) (out : List Nat) (g : Nat), d.mayRelocate = true ∧ (d.ftl.groups.filter (fun e => e.2.state == 2)).map (·.1) = g :: out ∧ d.destOk dst false = true ∧ ((g :: out).findSome? d.rebuildHere).or (d.leaving.findSome? (fun g => d.rebuildNext g)) = some b) ∧
    (∃ (d : Dev) (dst : Nat) (lost : List Nat) (out : List Nat) (g : Nat) (h : SnapEnt), d.mayRelocate = true ∧ (d.ftl.groups.filter (fun e => e.2.state == 2)).map (·.1) = g :: out ∧ d.destOk dst false = true ∧ (g :: out).findSome? d.rebuildHere = none ∧ d.leaving.findSome? (fun g => d.rebuildNext g) = none ∧ d.leaving.findSome? (fun g => (d.heldOfGroup g).head?) = some h) ∧
    (∃ (d : Dev) (n : Nat) (dsts lost : List Nat), d.mayRelocate = true ∧ (d.sb n).state = 5) ∧
    (∃ (d : Dev), d.life.booted = true) ∧
    (∃ (d : Dev) (r : Requester) (v : W32), d.takes r .REB 0 Reg.REB_REB_CTL = true) ∧
    (∃ (d : Dev) (v : W32), d.regB .REB 0 Reg.REB_REB_CTL 0 = false ∧ fld v 0 1 = 1) ∧
    (∃ (d : Dev), d.regB .REB 0 Reg.REB_REB_CTL 0 = true ∧ d.reshapePaused = false ∧ d.mayRelocate = true ∧ d.formFromPool.ftl.groups.all (fun e => e.2.width == d.formFromPool.formWidth) = true) ∧
    (∃ (d : Dev), d.regB .REB 0 Reg.REB_REB_CTL 0 = true) :=
  ⟨⟨placing, 0, 0, aLog 1 1, ⟨0, 16⟩, by decide +kernel⟩,
   ⟨placing, 0, 0, aLog 1 1, ⟨0, 16⟩, by decide +kernel⟩,
   ⟨placing, 0, 0, aLog 1 1, ⟨0, 16⟩, 2, by decide +kernel⟩,
   ⟨{ placing with ftl := { placing.ftl with logs := [(0, { aLog 1 16 with unit := [] })], rows := [((3 * 64) * 16, ⟨0, 1⟩)] } }, 0, { aLog 1 16 with unit := [] }, .ok, ⟨0, 1⟩, by decide +kernel⟩,
   ⟨{ placing with jnl := { placing.jnl with waiting := [{ state := relocFtl, recs := [] }] } }, 0, 16, { state := relocFtl, recs := [] }, [], by decide +kernel⟩,
   ⟨{ placing with jnl := { placing.jnl with copies := [(0, 33)] } }, 16, (0, 33), by decide +kernel⟩,
   ⟨{ placing with ftl := { placing.ftl with groups := [(0, ⟨1, 0, 8, 8, []⟩), (1, ⟨2, 1, 8, 8, []⟩)], bands := [(0, ⟨false, false, false, 8192, 1, 0, 0⟩)], logs := [] } }, 3, 0, [], [], 1, by decide +kernel⟩,
   ⟨{ placing with ftl := { placing.ftl with groups := [(0, ⟨1, 0, 8, 8, []⟩), (1, ⟨2, 1, 8, 8, []⟩)], bands := [], logs := [], held := [aHeld] } }, 3, [], [], 1, aHeld, by decide +kernel⟩,
   ⟨{ placing with ftl := { placing.ftl with sbs := [(4, ⟨5, false, 0, 0, 48, 1, [], 0, 0, 0, 0, 0⟩)] } }, 4, [3], [], by decide +kernel⟩,
   ⟨serving, by decide +kernel⟩,
   ⟨serving, sx, 3#32, by decide +kernel⟩,
   ⟨serving, 3#32, by decide +kernel⟩,
   ⟨{ serving with regs := [(PT.REB.key 0 Reg.REB_REB_CTL, 1#32)] }, by decide +kernel⟩,
   ⟨{ serving with regs := [(PT.REB.key 0 Reg.REB_REB_CTL, 1#32)] }, by decide +kernel⟩⟩

/-- The hypotheses of FlashChannels, clause by clause. -/
theorem witness_FlashChannels :
    (∃ (d : Dev) (ch : Nat) (p : PkgFound), ch < 128 ∧ d.page .CH ch = .starting) ∧
    (∃ (d : Dev) (ch : Nat) (c : ChSt), d.chan ch = some c ∧ d.page .CH ch = .starting) ∧
    (∃ (d : Dev) (ch : Nat) (c : ChSt) (t : Trained) (tried : List Nat) (won : Option (Nat × Nat)), d.chan ch = some c ∧ d.regB .CH ch Reg.CH_CH_STS 13 = true ∧ d.trainWalk ch (d.trainRates ch c) t.eyes = some (tried, won)) ∧
    (∃ (d : Dev) (ch : Nat) (c : ChSt) (eye : Option Nat) (t : Trained), d.chan ch = some c ∧ d.page .CH ch = .serving ∧ d.regB .CH ch Reg.CH_CH_STS 13 = false ∧ d.regF .CH ch Reg.CH_PHY_CFG 0 16 ≠ 0 ∧ d.regF .CH ch Reg.CH_PHY_CFG 0 16 ≤ d.nowS - c.trainS ∧ d.eyePasses ch (d.regF .CH ch Reg.CH_CH_STS 0 4) eye = true) ∧
    (∃ (d : Dev) (ch : Nat) (c : ChSt) (eye : Option Nat) (t : Trained), d.chan ch = some c ∧ d.page .CH ch = .serving ∧ d.regB .CH ch Reg.CH_CH_STS 13 = false ∧ d.regF .CH ch Reg.CH_PHY_CFG 0 16 ≠ 0 ∧ d.regF .CH ch Reg.CH_PHY_CFG 0 16 ≤ d.nowS - c.trainS ∧ d.eyePasses ch (d.regF .CH ch Reg.CH_CH_STS 0 4) eye = false) ∧
    (∃ (d : Dev) (ch lane lid : Nat) (es : List Entry) (c : ChSt), d.chan ch = some c ∧ (d.page .CH ch = .serving ∨ d.page .CH ch = .starting) ∧ lane < 4 ∧ 1 ≤ es.length ∧ es.length ≤ 64 ∧ c.queued lane + es.length ≤ 128 ∧ (lane != 0 || es.all (fun e => e.op == 1)) = true ∧ (d.life.mode != .flush || lane == 3) = true ∧ es.all (d.eraseMode ch) = true) ∧
    (∃ (d : Dev) (n lane id i : Nat) (e : Entry) (x : DieSt), d.nextEntry n = some (lane, id, i, e) ∧ d.mayIssue (n / 16) = true ∧ d.busDie (n / 16) = some (n % 16) ∧ d.die n = some x ∧ x.state = 8) ∧
    (∃ (d : Dev) (n lane id i : Nat) (e : Entry) (x : DieSt), d.nextEntry n = some (lane, id, i, e) ∧ d.mayIssue (n / 16) = true ∧ d.busDie (n / 16) = some (n % 16) ∧ d.die n = some x ∧ (x.state = 0 ∨ (x.state ≠ 8 ∧ entryInvalid e x.blocks = true))) ∧
    (∃ (d : Dev) (n lane id i : Nat) (e : Entry), d.nextEntry n = some (lane, id, i, e) ∧ d.mayIssue (n / 16) = true ∧ d.busDie (n / 16) = some (n % 16) ∧ d.die n = none) ∧
    (∃ (d : Dev) (n lane id i : Nat) (e : Entry) (x : DieSt), d.nextEntry n = some (lane, id, i, e) ∧ d.mayIssue (n / 16) = true ∧ d.busDie (n / 16) = some (n % 16) ∧ d.die n = some x ∧ x.state ≠ 0 ∧ x.state ≠ 8 ∧ entryInvalid e x.blocks = false ∧ e.op = 1 ∧ d.erasing n = some e.block) ∧
    (∃ (d : Dev) (n lane id i : Nat) (e : Entry) (x : DieSt), d.nextEntry n = some (lane, id, i, e) ∧ d.mayIssue (n / 16) = true ∧ d.busDie (n / 16) = some (n % 16) ∧ d.die n = some x ∧ x.state ≠ 0 ∧ x.state ≠ 8 ∧ entryInvalid e x.blocks = false ∧ (e.op ≠ 1 ∨ d.erasing n ≠ some e.block)) ∧
    (∃ (d : Dev) (n id i v : Nat) (e : Entry) (x : DieSt), d.die n = some x ∧ d.curEntry n = some (id, i, e) ∧ x.state ≠ 7 ∧ x.state ≠ 8 ∧ e.op ≠ 4 ∧ e.op ≠ 6 ∧ (e.op = 0x0c → e.arg ≤ d.life.usUp - d.curSince n)) ∧
    (∃ (d : Dev) (n id i v : Nat) (e : Entry) (x : DieSt), d.die n = some x ∧ d.curEntry n = some (id, i, e) ∧ x.state ≠ 7 ∧ x.state ≠ 8 ∧ e.op = 2) ∧
    (∃ (d : Dev) (n id i v : Nat) (e : Entry) (x : DieSt), d.die n = some x ∧ d.curEntry n = some (id, i, e) ∧ x.state ≠ 7 ∧ x.state ≠ 8 ∧ (e.op = 4 ∨ e.op = 6)) ∧
    (∃ (d : Dev) (n : Nat) (x : DieSt) (q : Nat × Nat × Entry) (c : ChSt), d.die n = some x ∧ d.curEntry n = some q ∧ d.chan (n / 16) = some c ∧ x.busy q.2.2 = true ∧ 4 * c.declared q.2.2 < d.busyUs n x ∧ x.lastTimeout = none) ∧
    (∃ (d : Dev) (n : Nat) (x : DieSt) (q : Nat × Nat × Entry) (c : ChSt) (t : Nat), d.die n = some x ∧ d.curEntry n = some q ∧ d.chan (n / 16) = some c ∧ x.busy q.2.2 = true ∧ 4 * c.declared q.2.2 < d.busyUs n x ∧ x.lastTimeout = some t ∧ d.life.usUp - t ≤ 60000000) ∧
    (∃ (d : Dev) (n : Nat) (x : DieSt) (ident : List Byte), d.die n = some x ∧ x.state = 7 ∧ ident ≠ x.ident) ∧
    (∃ (d : Dev) (n id i : Nat) (x : DieSt) (e : Entry), d.die n = some x ∧ x.state = 7 ∧ d.curEntry n = some (id, i, e) ∧ x.resetFor = 1) ∧
    (∃ (d : Dev) (n : Nat) (x : DieSt), d.die n = some x ∧ x.state = 7 ∧ d.curEntry n = none) ∧
    (∃ (d : Dev) (n : Nat) (x : DieSt), d.die n = some x ∧ x.state = 7 ∧ 4000 < d.life.usUp - x.runUs) ∧
    (∃ (d : Dev) (n id i lane rid ri : Nat) (x : DieSt) (e r : Entry) (c : ChSt), d.die n = some x ∧ d.curEntry n = some (id, i, e) ∧ d.chan (n / 16) = some c ∧ d.nextEntry n = some (lane, rid, ri, r) ∧ x.state = 4 ∧ r.op = 1 ∧ r.block ≠ x.block ∧ nbit e.flags 4 = true ∧ c.puevo.valid = true ∧ nbit c.puevo.flags 4 = true ∧ d.regB .CH (n / 16) Reg.CH_SUSP_CFG 29 = true ∧ d.regF .CH (n / 16) Reg.CH_SUSP_CFG 0 12 ≤ d.life.usUp - x.runUs ∧ x.susp < d.maxSusp (n / 16) c ∧ d.mayIssue (n / 16) = true) ∧
    (∃ (d : Dev) (n : Nat) (x : DieSt), d.die n = some x ∧ d.xHalted (n / 16) = false ∧ (x.state = 5 ∨ x.state = 6) ∧ x.cur = none ∧ (d.suspReads (n / 16) ≤ x.reads ∨ d.readWaits n = false)) :=
  ⟨⟨chanDev .starting aDie [], 0, [⟨0, [0x4f#8, 0x4e#8, 0x46#8, 0x49#8], [], []⟩], by decide +kernel⟩,
   ⟨chanDev .starting aDie [], 0, aChan [], by decide +kernel⟩,
   ⟨{ chanDev .starting aDie [] with regs := [(PT.CH.key 0 Reg.CH_CH_STS, 0x2000#32), (PT.CH.key 0 Reg.CH_CH_CFG, 7#32)] }, 0, aChan [], { aTrained with eyes := [some 40] }, [5], some (5, 40), by decide +kernel⟩,
   ⟨chanDev .serving aDie [], 0, aChan [], some 40, aTrained, by decide +kernel⟩,
   ⟨chanDev .serving aDie [], 0, aChan [], none, aTrained, by decide +kernel⟩,
   ⟨chanDev .serving aDie [], 0, 1, 7, [readEntry], aChan [], by decide +kernel⟩,
   ⟨chanDev .serving { aDie with state := 8 } [aList 1 readEntry .queued], 0, 1, 1, 0, readEntry, { aDie with state := 8 }, by decide +kernel⟩,
   ⟨chanDev .serving aDie [aList 1 { readEntry with op := 0 } .queued], 0, 1, 1, 0, { readEntry with op := 0 }, aDie, by decide +kernel⟩,
   ⟨{ chanDev .serving aDie [aList 1 { readEntry with diePl := 0x13 } .queued] with dies := [] }, 3, 1, 1, 0, { readEntry with diePl := 0x13 }, by decide +kernel⟩,
   ⟨chanDev .serving { aDie with state := 4, block := 5 } [aList 1 readEntry .queued], 0, 1, 1, 0, readEntry, { aDie with state := 4, block := 5 }, by decide +kernel⟩,
   ⟨chanDev .serving aDie [aList 1 readEntry .queued], 0, 1, 1, 0, readEntry, aDie, by decide +kernel⟩,
   ⟨chanDev .serving { aDie with state := 2, cur := some (1, 0) } [aList 1 readEntry (.issued 0)], 0, 1, 0, 0, readEntry, { aDie with state := 2, cur := some (1, 0) }, by decide +kernel⟩,
   ⟨chanDev .serving { aDie with state := 3, cur := some (1, 0) } [aList 1 { readEntry with op := 2 } (.issued 0)], 0, 1, 0, 0, { readEntry with op := 2 }, { aDie with state := 3, cur := some (1, 0) }, by decide +kernel⟩,
   ⟨chanDev .serving { aDie with state := 1, cur := some (1, 0) } [aList 1 { readEntry with op := 4 } (.issued 0)], 0, 1, 0, 9, { readEntry with op := 4 }, { aDie with state := 1, cur := some (1, 0) }, by decide +kernel⟩,
   ⟨chanDev .serving { aDie with state := 2, cur := some (1, 0), lastTimeout := none } [aList 1 readEntry (.issued 0)], 0, { aDie with state := 2, cur := some (1, 0), lastTimeout := none }, (1, 0, readEntry), aChan [aList 1 readEntry (.issued 0)], by decide +kernel⟩,
   ⟨chanDev .serving { aDie with state := 2, cur := some (1, 0), lastTimeout := (some 999999999) } [aList 1 readEntry (.issued 0)], 0, { aDie with state := 2, cur := some (1, 0), lastTimeout := (some 999999999) }, (1, 0, readEntry), aChan [aList 1 readEntry (.issued 0)], 999999999, by decide +kernel⟩,
   ⟨chanDev .serving { aDie with state := 7 } [], 0, { aDie with state := 7 }, [1#8], by decide +kernel⟩,
   ⟨chanDev .serving { aDie with state := 7, cur := some (1, 0), resetFor := 1 } [aList 1 readEntry (.issued 0)], 0, 1, 0, { aDie with state := 7, cur := some (1, 0), resetFor := 1 }, readEntry, by decide +kernel⟩,
   ⟨chanDev .serving { aDie with state := 7 } [], 0, { aDie with state := 7 }, by decide +kernel⟩,
   ⟨chanDev .serving { aDie with state := 7 } [], 0, { aDie with state := 7 }, by decide +kernel⟩,
   ⟨chanDev .serving { aDie with state := 4, cur := some (1, 0) } [aList 1 { readEntry with op := 3 } (.issued 0), aList 2 readEntry .queued], 0, 1, 0, 2, 2, 0, { aDie with state := 4, cur := some (1, 0) }, { readEntry with op := 3 }, readEntry, aChan [aList 1 { readEntry with op := 3 } (.issued 0), aList 2 readEntry .queued], by decide +kernel⟩,
   ⟨chanDev .serving { aDie with state := 6, held := some (1, 0), reads := 9 } [], 0, { aDie with state := 6, held := some (1, 0), reads := 9 }, by decide +kernel⟩⟩

/-- The hypotheses of DecodingAndMemory, clause by clause. -/
theorem witness_DecodingAndMemory :
    (∃ (d w : Dev) (q tag i : Nat) (f : Flight) (j : SecJob) (k : Nat) (x : Esc) (o : Decoded), d.life.fatal = false ∧ d.flight q tag = some f ∧ f.stage = .media ∧ f.job i = some (j, k, x) ∧ x.step = 1 ∧ d.decoder q tag i k x = some w) ∧
    (∃ (d w : Dev) (q tag i : Nat) (f : Flight) (j : SecJob) (k : Nat) (x : Esc) (o : Decoded), d.life.fatal = false ∧ d.flight q tag = some f ∧ f.stage = .media ∧ f.job i = some (j, k, x) ∧ x.step = 2 ∧ d.decoder q tag i k x = some w) ∧
    (∃ (d w : Dev) (q tag i : Nat) (f : Flight) (j : SecJob) (k : Nat) (x : Esc) (o : Decoded), d.life.fatal = false ∧ d.flight q tag = some f ∧ f.stage = .media ∧ f.job i = some (j, k, x) ∧ x.step = 4 ∧ d.decoder q tag i k x = some w) ∧
    (∃ (d w : Dev) (q tag i : Nat) (f : Flight) (j : SecJob) (k : Nat) (x : Esc) (o : Decoded), d.life.fatal = false ∧ d.flight q tag = some f ∧ f.stage = .media ∧ f.job i = some (j, k, x) ∧ x.step = 3 ∧ d.decoder q tag i k x = some w) ∧
    (∃ (d : Dev) (f : Flight) (i k n : Nat) (x : Esc) (o : Decoded), d.struck k o = .ok n) ∧
    (∃ (d : Dev) (f : Flight) (i k : Nat) (x : Esc) (o : Decoded), d.struck k o = .miscorrect ∧ ((x.note .miscorrect).next).step ≠ 5) ∧
    (∃ (d : Dev) (q tag i : Nat) (f : Flight) (j : SecJob) (k : Nat) (x : Esc) (unav : List Nat) (g : Group), d.life.fatal = false ∧ d.flight q tag = some f ∧ f.stage = .media ∧ f.job i = some (j, k, x) ∧ x.step = 5 ∧ d.group (sbGroup (keySb k)) = some g ∧ d.rowCause k = 1 ∧ maskCount ((unav.getD (k % 16) 0 % 2 ^ g.members.length) ||| d.goneMask g ||| 2 ^ memberOf g.members.length (16 * (k / 4096 % 64) + k % 4096 / 256) (keySb k % 8192) (k % 256 / 16)) g.members.length ≤ g.members.length - 16) ∧
    (∃ (d : Dev) (q tag i : Nat) (f : Flight) (j : SecJob) (k : Nat) (x : Esc) (unav : List Nat) (m : Bool) (g : Group), d.life.fatal = false ∧ d.flight q tag = some f ∧ f.stage = .media ∧ f.job i = some (j, k, x) ∧ x.step = 5 ∧ d.group (sbGroup (keySb k)) = some g ∧ (d.rowCause k == 1) = false ∧ d.goneMask g ≠ 0) ∧
    (∃ (d : Dev) (q tag i : Nat) (f : Flight) (j : SecJob) (k : Nat) (x : Esc) (unav : List Nat) (m : Bool) (g : Group), d.life.fatal = false ∧ d.flight q tag = some f ∧ f.stage = .media ∧ f.job i = some (j, k, x) ∧ x.step = 5 ∧ d.group (sbGroup (keySb k)) = some g ∧ (d.rowCause k == 1) = false ∧ d.goneMask g = 0) ∧
    (∃ (d : Dev) (r w k b p j : Nat), d.busUp = true ∧ regionUsed r = true ∧ regionAt (regionWord r w) = r ∧ d.wordClass (regionWord r w) (b % 256 * 256 ^ k) = .corrected j) ∧
    (∃ (d : Dev) (r w u p n i : Nat) (ag : Bool), d.busUp = true ∧ regionUsed r = true ∧ regionAt (regionWord r w) = r ∧ d.wordClass (regionWord r w) u = .uncorr) ∧
    (∃ (d : Dev) (hits : List ScrubHit), d.busUp = true ∧ d.regB .MEM 0 Reg.MEM_MEM_STS 0 = true ∧ d.regF .MEM 0 Reg.MEM_MEM_CFG 0 16 ≠ 0 ∧ d.scrubWords.all (fun a => hits.any (fun h => h.addr / 8 * 8 == a)) = true) ∧
    (∃ (d : Dev) (w u : Nat), d.mbuf.any (fun e => e.2.1 == w) = true) ∧
    (∃ (d : Dev) (w u p m : Nat), d.mbuf.find? (fun e => e.2.1 == w) = some (p, w, m) ∧ m ≠ 255) ∧
    (∃ (d : Dev) (r : Requester) (rg c : Nat), rg < 16 ∧ d.takes r .MEM 0 (regionOff rg) = true ∧ d.regB .MEM 0 Reg.MEM_MEM_STS 0 = false) ∧
    (∃ (d : Dev) (r : Requester) (rg c : Nat), rg < 16 ∧ d.takes r .MEM 0 (regionOff rg) = true ∧ d.regB .MEM 0 Reg.MEM_MEM_STS 0 = true) :=
  ⟨⟨reading 1, reading 1, 0, 0, 0, inRead 1, ⟨0, 0, .media 0 (anEsc 1)⟩, 0, anEsc 1, .ok 3, by decide +kernel⟩,
   ⟨reading 2, reading 2, 0, 0, 0, inRead 2, ⟨0, 0, .media 0 (anEsc 2)⟩, 0, anEsc 2, .ok 3, by decide +kernel⟩,
   ⟨reading 4, reading 4, 0, 0, 0, inRead 4, ⟨0, 0, .media 0 (anEsc 4)⟩, 0, anEsc 4, .ok 3, by decide +kernel⟩,
   ⟨reading 3, reading 3, 0, 0, 0, inRead 3, ⟨0, 0, .media 0 (anEsc 3)⟩, 0, anEsc 3, .ok 3, by decide +kernel⟩,
   ⟨reading 1, inRead 1, 0, 0, 3, anEsc 1, .ok 3, by decide +kernel⟩,
   ⟨reading 1, inRead 1, 0, 0, anEsc 1, .miscorrect, by decide +kernel⟩,
   ⟨{ reading 5 with dies := (List.range 17).map (fun i => (i, aDie)), ftl := { serving.ftl with groups := [(0, ⟨1, 0, 17, 8, List.range 17⟩)] } }, 0, 0, 0, inRead 5, ⟨0, 0, .media 0 (anEsc 5)⟩, 0, anEsc 5, [], ⟨1, 0, 17, 8, List.range 17⟩, by decide +kernel⟩,
   ⟨{ reading 5 with dies := [], ftl := { serving.ftl with groups := [(0, ⟨1, 0, 17, 8, List.range 17⟩)], unprot := [0] } }, 0, 0, 0, inRead 5, ⟨0, 0, .media 0 (anEsc 5)⟩, 0, anEsc 5, [], false, ⟨1, 0, 17, 8, List.range 17⟩, by decide +kernel⟩,
   ⟨{ reading 5 with dies := (List.range 17).map (fun i => (i, aDie)), ftl := { serving.ftl with groups := [(0, ⟨1, 0, 17, 8, List.range 17⟩)], unprot := [0] } }, 0, 0, 0, inRead 5, ⟨0, 0, .media 0 (anEsc 5)⟩, 0, anEsc 5, [], false, ⟨1, 0, 17, 8, List.range 17⟩, by decide +kernel⟩,
   ⟨serving, 2, 0, 0, 1, 3, 0, by decide +kernel⟩,
   ⟨serving, 2, 0, 0x111, 0, 5, 0, false, by decide +kernel⟩,
   ⟨{ serving with regs := [(PT.MEM.key 0 Reg.MEM_MEM_STS, 1#32), (PT.MEM.key 0 Reg.MEM_MEM_CFG, 7#32)] }, [⟨0xc000000, 1, 0, 0, false⟩], by decide +kernel⟩,
   ⟨{ serving with mbuf := [(0, 8, 15)] }, 8, 0, by decide +kernel⟩,
   ⟨{ serving with mbuf := [(0, 8, 15)] }, 8, 0, 0, 15, by decide +kernel⟩,
   ⟨serving, sx, 2, 1, by decide +kernel⟩,
   ⟨{ serving with regs := [(PT.MEM.key 0 Reg.MEM_MEM_STS, 1#32)] }, sx, 2, 1, by decide +kernel⟩⟩

/-- The hypotheses of FabricStripesAndShards, clause by clause. -/
theorem witness_FabricStripesAndShards :
    (∃ (d : Dev) (h : MsgHdr) (vol st fi xid : Nat) (secs : List SectorIn), d.hears 0x30 h = true ∧ d.rxBad 0x30 h = false) ∧
    (∃ (d : Dev) (h : MsgHdr) (xid st dt : Nat), d.hears 0x31 h = true ∧ d.rxBad 0x31 h = false) ∧
    (∃ (d : Dev) (h : MsgHdr) (vol j st fi ws : Nat) (secs : List SectorIn) (v : Store), d.hears 0x32 h = true ∧ d.rxBad 0x32 h = false ∧ (d.heard 0x32 h).store vol = some v ∧ v.base ≠ 0xffffff ∧ v.holder st j = (d.heard 0x32 h).fabId) ∧
    (∃ (d : Dev) (h : MsgHdr) (vol j st fi ws : Nat) (secs : List SectorIn), d.hears 0x32 h = true ∧ d.rxBad 0x32 h = false ∧ (d.heard 0x32 h).store vol = none) ∧
    (∃ (d : Dev) (h : MsgHdr) (vol j st i ws : Nat), d.hears 0x33 h = true ∧ d.rxBad 0x33 h = false) ∧
    (∃ (d : Dev) (h : MsgHdr) (x : StripeRec) (secs : List SectorIn), d.hears 0x36 h = true ∧ d.rxBad 0x36 h = false ∧ x.ty = 0x30 ∧ (d.heard 0x36 h).fab.closed.contains (x.owner, x.volume, x.stripe) = false) ∧
    (∃ (d : Dev) (h : MsgHdr) (x : StripeRec) (secs : List SectorIn), d.hears 0x36 h = true ∧ d.rxBad 0x36 h = false ∧ x.ty = 0x32 ∧ nbit x.flags 1 = false) ∧
    (∃ (d : Dev) (h : MsgHdr) (s : Nat) (x : FStripe), d.hears 0x37 h = true ∧ d.rxBad 0x37 h = false ∧ ((d.heard 0x37 h).answered (fun u => u.ty == 0x36 && u.dst == h.src && u.body.getD 10 0 == s)).fab.stripes.find? (fun r => !r.mirror && r.jseq == s && r.buddy == h.src && s != 0) = some x) ∧
    (∃ (d : Dev) (h : MsgHdr) (vol j st fi n rt xid sn : Nat) (v : Store), d.hears 0x34 h = true ∧ d.rxBad 0x34 h = false ∧ (d.heard 0x34 h).store vol = some v ∧ ((List.range n).filter (fun i => sn == 0 && ((d.heard 0x34 h).openSector vol st j (fi + i)).isSome) = [] ∨ ((List.range n).filter (fun i => sn == 0 && ((d.heard 0x34 h).openSector vol st j (fi + i)).isSome)).length = n)) ∧
    (∃ (d : Dev) (h : MsgHdr) (vol j st fi n rt xid sn : Nat), d.hears 0x34 h = true ∧ d.rxBad 0x34 h = false ∧ (d.heard 0x34 h).store vol = none) ∧
    (∃ (d : Dev) (h : MsgHdr) (xid st : Nat) (secs : List SectorIn), d.hears 0x35 h = true ∧ d.rxBad 0x35 h = false) ∧
    (∃ (d : Dev) (s : Nat) (u : Unacked), d.fab.unacked.find? (fun u => u.seq == s) = some u ∧ 20 ≤ d.life.usUp - u.sentUs ∧ liveMode d.life.mode = true ∧ 4 ≤ u.tries) ∧
    (∃ (d : Dev) (s : Nat) (u : Unacked), d.fab.unacked.find? (fun u => u.seq == s) = some u ∧ 20 ≤ d.life.usUp - u.sentUs ∧ liveMode d.life.mode = true ∧ u.tries < 4) ∧
    (∃ (d : Dev) (m k : Nat) (parts : List (Nat × Nat × List (Nat × SectorIn))) (left : List Nat) (v : Store), mget d.fab.resync m = some left ∧ d.store (k / 2 ^ 24) = some v ∧ left.contains k = true ∧ d.memberState m = 1 ∧ d.fabState = 3 ∧ d.gateOpen 14 = true ∧ d.resyncWork v m (k % 2 ^ 24) = []) ∧
    (∃ (d : Dev) (m k : Nat) (parts : List (Nat × Nat × List (Nat × SectorIn))) (left : List Nat) (v : Store), mget d.fab.resync m = some left ∧ d.store (k / 2 ^ 24) = some v ∧ left.contains k = true ∧ d.memberState m = 1 ∧ d.fabState = 3 ∧ d.gateOpen 14 = true ∧ (d.resyncWork v m (k % 2 ^ 24)).all (resyncGood v parts) = true) :=
  ⟨⟨memberUp, hdr0, 1, 0, 0, 7, [], by decide +kernel⟩,
   ⟨memberUp, hdr0, 7, 0, 0, by decide +kernel⟩,
   ⟨{ memberUp with stores := [(1, aStore)] }, hdr0, 1, 1, 0, 0, 1, [], aStore, by decide +kernel⟩,
   ⟨memberUp, hdr0, 1, 1, 0, 0, 1, [], by decide +kernel⟩,
   ⟨memberUp, hdr0, 1, 1, 0, 0, 1, by decide +kernel⟩,
   ⟨memberUp, hdr0, ⟨0x30, 0, 1, 0, 0, 0, 0, 1, 0, 0, 9⟩, [], by decide +kernel⟩,
   ⟨memberUp, hdr0, ⟨0x32, 0, 1, 0, 0, 0, 0, 1, 0, 0, 9⟩, [], by decide +kernel⟩,
   ⟨{ memberUp with fab := { memberUp.fab with stripes := [aStripe] } }, hdr0, 9, aStripe, by decide +kernel⟩,
   ⟨{ memberUp with stores := [(1, aStore)] }, hdr0, 1, 1, 0, 0, 1, 0, 7, 0, aStore, by decide +kernel⟩,
   ⟨memberUp, hdr0, 1, 1, 0, 0, 1, 0, 7, 0, by decide +kernel⟩,
   ⟨memberUp, hdr0, 7, 0, [], by decide +kernel⟩,
   ⟨{ headUp with fab := { headUp.fab with unacked := [⟨0x12, 1, 7, [], 0, 4⟩] } }, 7, ⟨0x12, 1, 7, [], 0, 4⟩, by decide +kernel⟩,
   ⟨{ headUp with fab := { headUp.fab with unacked := [⟨0x12, 1, 7, [], 0, 1⟩] } }, 7, ⟨0x12, 1, 7, [], 0, 1⟩, by decide +kernel⟩,
   ⟨{ headUp with stores := [(1, { aStore with bands := 0 })], fab := { headUp.fab with members := [(0, ⟨2, 1, 0, false, 0, none⟩), (1, ⟨1, 1, 7, false, 0, none⟩)], resync := [(1, [16777216])] } }, 1, 16777216, [], [16777216], { aStore with bands := 0 }, by decide +kernel⟩,
   ⟨{ headUp with stores := [(1, { aStore with bands := 0 })], fab := { headUp.fab with members := [(0, ⟨2, 1, 0, false, 0, none⟩), (1, ⟨1, 1, 7, false, 0, none⟩)], resync := [(1, [16777216])] } }, 1, 16777216, [], [16777216], { aStore with bands := 0 }, by decide +kernel⟩⟩

/-- The hypotheses of CipherAndKeys, clause by clause. -/
theorem witness_CipherAndKeys :
    (∃ (d : Dev) (g : Nat) (j : CipherJob), j.req < 5 ∧ d.cip.alarm = false) ∧
    (∃ (d : Dev) (g l r : Nat) (j : CipherJob), d.cip.alarm = false ∧ d.seeded = true ∧ d.freeLane g = some l ∧ rrPick 5 (d.arbPtr (0x310 + g)) (fun r => d.cip.waiting.any (fun e => e.1 == g && e.2.req == r)) = some r ∧ d.cip.waiting.find? (fun e => e.1 == g && e.2.req == r) = some (g, j)) ∧
    (∃ (d : Dev) (l : Nat), mhas d.cip.busy l = true) ∧
    (∃ (d : Dev) (l : Nat) (j : CipherJob), l < 640 ∧ d.cip.fenced.contains l = false ∧ mget d.cip.busy l = some j) ∧
    (∃ (d : Dev) (r : Requester), d.takes r .KEY 0 Reg.KEY_KEY_CMD = true ∧ (d.taken r .KEY 0).sxHalted = false) ∧
    (∃ (d : Dev) (r : Requester), d.takes r .KEY 0 Reg.KEY_KEY_CMD = true ∧ (d.taken r .KEY 0).sxHalted = false) ∧
    (∃ (d : Dev) (r : Requester) (b : List Byte), d.takes r .KEY 0 Reg.KEY_KEY_CMD = true ∧ (d.taken r .KEY 0).sxHalted = false) ∧
    (∃ (d : Dev) (r : Requester), d.takes r .KEY 0 Reg.KEY_KEY_CMD = true ∧ (d.taken r .KEY 0).sxHalted = false) ∧
    (∃ (d : Dev) (r : Requester), d.takes r .KEY 0 Reg.KEY_KEY_CMD = true ∧ (d.taken r .KEY 0).sxHalted = false) ∧
    (∃ (d : Dev) (r : Requester), d.takes r .KEY 0 Reg.KEY_KEY_CMD = true ∧ (d.taken r .KEY 0).sxHalted = false) ∧
    (∃ (d : Dev) (r : Requester), d.takes r .KEY 0 Reg.KEY_KEY_CMD = true ∧ (d.taken r .KEY 0).sxHalted = true) ∧
    (∃ (d : Dev), d.cip.alarm = true) ∧
    (∃ (d : Dev) (n : Nat), d.regF .KEY 0 Reg.KEY_KEY_SEL 0 12 = n ∧ d.cip.alarm = false ∧ d.key n = none ∧ useFits (if d.regF .KEY 0 Reg.KEY_KEY_ATTR 0 2 = 3 then 0 else d.regF .KEY 0 Reg.KEY_KEY_ATTR 0 2) n = true) ∧
    (∃ (d : Dev) (n : Nat) (k : KeySlot), d.regF .KEY 0 Reg.KEY_KEY_SEL 0 12 = n ∧ d.cip.alarm = false ∧ d.key n = some k ∧ k.gen ≠ 0xff ∧ (k.gen = 0 ∨ d.sealedBy n (k.gen - 1) = [])) ∧
    (∃ (d : Dev) (n : Nat), d.regF .KEY 0 Reg.KEY_KEY_SEL 0 12 = n ∧ d.cip.alarm = false) ∧
    (∃ (d : Dev) (n : Nat) (k : KeySlot), d.key n = some k ∧ d.reseal.contains n = true ∧ k.gen = 0) ∧
    (∃ (d : Dev), d.cip.alarm = false) ∧
    (∃ (d : Dev) (r : Requester), r.dom = .secure ∧ d.takes r .KEY 0 Reg.FORCE = true) :=
  ⟨⟨serving, 0, ⟨0, 0, 1, 1, 0, true⟩, by decide +kernel⟩,
   ⟨{ serving with regs := [(PT.RNG.key 0 Reg.RNG_RNG_STS, 1#32)], cip := { serving.cip with waiting := [(0, ⟨0, 0, 1, 1, 0, true⟩)] } }, 0, 0, 0, ⟨0, 0, 1, 1, 0, true⟩, by decide +kernel⟩,
   ⟨{ serving with cip := { serving.cip with busy := [(3, ⟨0, 0, 1, 1, 0, true⟩)] } }, 3, by decide +kernel⟩,
   ⟨{ serving with cip := { serving.cip with busy := [(3, ⟨0, 0, 1, 1, 0, true⟩)] } }, 3, ⟨0, 0, 1, 1, 0, true⟩, by decide +kernel⟩,
   ⟨serving, sx, by decide +kernel⟩,
   ⟨serving, sx, by decide +kernel⟩,
   ⟨serving, sx, [], by decide +kernel⟩,
   ⟨serving, sx, by decide +kernel⟩,
   ⟨serving, sx, by decide +kernel⟩,
   ⟨serving, sx, by decide +kernel⟩,
   ⟨{ serving with dbg := { serving.dbg with cores := [(32, ⟨1, 0, false, true, 0, [], [], [], []⟩)] } }, sx, by decide +kernel⟩,
   ⟨{ serving with cip := { serving.cip with alarm := true } }, by decide +kernel⟩,
   ⟨{ serving with regs := [(PT.KEY.key 0 Reg.KEY_KEY_SEL, 5#32), (PT.KEY.key 0 Reg.KEY_KEY_ATTR, 1#32)] }, 5, by decide +kernel⟩,
   ⟨{ serving with keys := [(0, aKey)] }, 0, aKey, by decide +kernel⟩,
   ⟨serving, 0, by decide +kernel⟩,
   ⟨{ serving with keys := [(0, aKey)], reseal := [0] }, 0, aKey, by decide +kernel⟩,
   ⟨serving, by decide +kernel⟩,
   ⟨serving, sx, by decide +kernel⟩⟩

/-- The hypotheses of DigestEngine, clause by clause. -/
theorem witness_DigestEngine :
    (∃ (d : Dev) (r : Requester) (a k o : Nat) (c : Bool), d.takes r .DIG 0 Reg.DIG_SEC_CMD = true ∧ d.secBusy = false) ∧
    (∃ (d : Dev) (a k o : Nat) (c : Bool), ((List.range 16).foldl (fun e i => e.setRegN .DIG 0 (Reg.DIG_OUT_0 + 4 * i) 0) d).secKeyOk a k o = true ∧ ((List.range 16).foldl (fun e i => e.setRegN .DIG 0 (Reg.DIG_OUT_0 + 4 * i) 0) d).secCtx = none) ∧
    (∃ (d : Dev) (r : Requester) (b : List Byte), d.takes r .DIG 0 Reg.DIG_SEC_CMD = true ∧ d.secBusy = false) ∧
    (∃ (d : Dev) (b : List Byte) (n : Nat) (c : DigCtx), d.secCtx = some (n, c) ∧ d.regF .DIG 0 Reg.DIG_SEC_LEN 0 25 ≠ 0 ∧ c.msg.length + d.regF .DIG 0 Reg.DIG_SEC_LEN 0 25 ≤ 2 ^ 48 - 1) ∧
    (∃ (d : Dev) (r : Requester) (b : List Byte), d.takes r .DIG 0 Reg.DIG_SEC_CMD = true ∧ d.secBusy = false) ∧
    (∃ (d : Dev) (b : List Byte) (n : Nat) (c : DigCtx), d.secCtx = some (n, c)) ∧
    (∃ (d : Dev) (r : Requester), d.takes r .DIG 0 Reg.DIG_SEC_CMD = true ∧ d.secBusy = false) ∧
    (∃ (d : Dev) (n : Nat) (c : DigCtx), d.secCtx = some (n, c)) ∧
    (∃ (d : Dev), d.secCtx = none) ∧
    (∃ (d : Dev) (n : Nat) (fr : Bool) (c : DigCtx), d.digPick = some (n, fr) ∧ mget d.dig.ctxs n = some c) ∧
    (∃ (d : Dev) (n : Nat) (c : DigCtx), mget d.dig.ctxs n = some c) :=
  ⟨⟨serving, sx, 1, 0, 1, false, by decide +kernel⟩,
   ⟨serving, 1, 0, 1, false, by decide +kernel⟩,
   ⟨serving, sx, [], by decide +kernel⟩,
   ⟨digDev, [1#8, 2#8], 0, aCtx, by decide +kernel⟩,
   ⟨serving, sx, [], by decide +kernel⟩,
   ⟨digDev, [], 0, aCtx, by decide +kernel⟩,
   ⟨serving, sx, by decide +kernel⟩,
   ⟨digDev, 0, aCtx, by decide +kernel⟩,
   ⟨serving, by decide +kernel⟩,
   ⟨{ digDev with dig := { digDev.dig with ctxs := [(0, { aCtx with final := true })] } }, 0, true, { aCtx with final := true }, by decide +kernel⟩,
   ⟨digDev, 0, aCtx, by decide +kernel⟩⟩

/-- The hypotheses of MadderControl, clause by clause. -/
theorem witness_MadderControl :
    (∃ (d : Dev) (p g : Nat) (ls : List Nat), d.madderRuns = true) ∧
    (∃ (d : Dev) (r : Requester) (n : Nat), n < 16 ∧ d.takes r .MLP n Reg.MLP_LOOP_CTL = true) ∧
    (∃ (d : Dev) (r : Requester) (n : Nat), n < 16 ∧ d.takes r .MLP n Reg.MLP_LOOP_CTL = true) ∧
    (∃ (d : Dev) (n : Nat), n < 16) ∧
    (∃ (d : Dev) (r : Requester) (b : Nat), b < 4 ∧ d.takes r .MAD 0 (Reg.MAD_TRC_CTL + 0x10 * b) = true ∧ ((d.taken r .MAD 0).trcState b = 0 ∨ (d.taken r .MAD 0).trcState b = 3)) ∧
    (∃ (d : Dev) (r : Requester) (b : Nat), b < 4 ∧ d.takes r .MAD 0 (Reg.MAD_TRC_CTL + 0x10 * b) = true ∧ (d.taken r .MAD 0).trcState b = 1) ∧
    (∃ (d : Dev) (r : Requester) (b : Nat), b < 4 ∧ d.takes r .MAD 0 (Reg.MAD_TRC_CTL + 0x10 * b) = true ∧ ((d.taken r .MAD 0).trcState b = 1 ∨ (d.taken r .MAD 0).trcState b = 2)) :=
  ⟨⟨serving, 500, 0, [], by decide +kernel⟩,
   ⟨serving, sx, 3, by decide +kernel⟩,
   ⟨serving, sx, 3, by decide +kernel⟩,
   ⟨serving, 3, by decide +kernel⟩,
   ⟨serving, sx, 1, by decide +kernel⟩,
   ⟨{ serving with regs := [(PT.MAD.key 0 (Reg.MAD_TRC_STS + 0x10), 1#32)] }, sx, 1, by decide +kernel⟩,
   ⟨{ serving with regs := [(PT.MAD.key 0 (Reg.MAD_TRC_STS + 0x10), 1#32)] }, sx, 1, by decide +kernel⟩⟩

/-- The hypotheses of BootFlashAndMailbox, clause by clause. -/
theorem witness_BootFlashAndMailbox :
    (∃ (d : Dev) (r : Requester) (o : Nat) (ws : List W32), d.busUp = true ∧ r.dom = .secure) ∧
    (∃ (d : Dev) (r : Requester) (a : Nat), d.busUp = true ∧ r.dom = .secure) ∧
    (∃ (d : Dev) (r : Requester) (o : Nat) (ws : List W32), d.busUp = true ∧ r.dom = .secure) ∧
    (∃ (d : Dev) (r : Requester) (o : Nat) (ws : List W32), d.busUp = true ∧ r.dom = .secure) ∧
    (∃ (d : Dev) (r : Requester), d.busUp = true ∧ r.dom = .secure) ∧
    (∃ (d : Dev) (r : Requester), d.busUp = true ∧ r.dom = .secure) ∧
    (∃ (d : Dev) (r : Requester) (o : Nat) (ws : List W32), d.busUp = true ∧ r.dom = .glaze) ∧
    (∃ (d : Dev) (c b : Nat) (ws : List W32), d.bfl.op = some (c, b, ws)) ∧
    (∃ (d : Dev), d.bfl.op.isSome = true) ∧
    (∃ (d : Dev) (s a : Nat) (rd : Bool), s < 64 ∧ d.life.glaze = .running ∧ d.sxHalted = false) ∧
    (∃ (d : Dev) (s a : Nat) (rd : Bool), s < 64 ∧ d.life.glaze = .running ∧ d.sxHalted = true) :=
  ⟨⟨serving, sx, 64, [], by decide +kernel⟩,
   ⟨serving, sx, 0x8000, by decide +kernel⟩,
   ⟨serving, sx, 64, [], by decide +kernel⟩,
   ⟨serving, sx, 64, [], by decide +kernel⟩,
   ⟨serving, sx, by decide +kernel⟩,
   ⟨serving, sx, by decide +kernel⟩,
   ⟨serving, { dom := .glaze }, 64, [], by decide +kernel⟩,
   ⟨{ serving with bfl := { serving.bfl with op := some (0x10, 64, []) } }, 0x10, 64, [], by decide +kernel⟩,
   ⟨{ serving with bfl := { serving.bfl with op := some (0x10, 64, []) } }, by decide +kernel⟩,
   ⟨serving, 3, 1, true, by decide +kernel⟩,
   ⟨{ serving with dbg := { serving.dbg with cores := [(32, ⟨1, 0, false, true, 0, [], [], [], []⟩)] } }, 3, 1, true, by decide +kernel⟩⟩

/-- The hypotheses of SidebandPort, clause by clause. -/
theorem witness_SidebandPort :
    (∃ (d : Dev) (a : Nat), d.i3cUp = true ∧ a % 4 = 0 ∧ a < 2 ^ 32 ∧ (d.i3cTake.i3cWake a).remoteOf i3cReq a = none) ∧
    (∃ (d : Dev) (a m : Nat), d.i3cUp = true ∧ a % 4 = 0 ∧ a < 2 ^ 32 ∧ (d.i3cTake.i3cWake a).remoteOf i3cReq a = some m) ∧
    (∃ (d : Dev) (a : Nat), d.i3cUp = true ∧ a % 8 = 0 ∧ a < 2 ^ 32 ∧ (d.i3cTake.i3cWake a).remoteOf i3cReq a = none) ∧
    (∃ (d : Dev) (a m : Nat), d.i3cUp = true ∧ a % 8 = 0 ∧ a < 2 ^ 32 ∧ (d.i3cTake.i3cWake a).remoteOf i3cReq a = some m) ∧
    (∃ (d : Dev) (a : Nat) (v : W32), d.i3cUp = true ∧ a % 4 = 0 ∧ a < 2 ^ 32) ∧
    (∃ (d : Dev) (a : Nat) (v : W64), d.i3cUp = true ∧ a % 8 = 0 ∧ a < 2 ^ 32) ∧
    (∃ (d : Dev) (a : Nat), d.i3cUp = true ∧ a % 4 ≠ 0) ∧
    (∃ (d : Dev) (a : Nat) (v : W32), d.i3cUp = true ∧ a % 4 ≠ 0) ∧
    (∃ (d : Dev) (o : Nat) (bs : List Byte), d.i3cUp = true ∧ d.recOpen = true ∧ o % 64 = 0 ∧ o ≤ 0x81fc0 ∧ bs.length = 64) ∧
    (∃ (d : Dev) (n : Nat), d.i3cUp = true ∧ d.recOpen = true) ∧
    (∃ (d : Dev), d.i3cUp = true ∧ d.recOpen = true) ∧
    (∃ (d : Dev), d.i3cUp = true ∧ d.recOpen = false) ∧
    (∃ (d : Dev) (a : Nat), d.i3cUp = true) ∧
    (∃ (d : Dev) (c : Nat) (cs : List Nat), d.i3cUp = true ∧ d.sbd.ibiNow = 0 ∧ d.regB .SBD 0 Reg.SBD_SBD_CFG 0 = true ∧ bitList d.sbd.ibi 8 = c :: cs) ∧
    (∃ (d : Dev), d.sbd.ibiNow ≠ 0) ∧
    (∃ (d : Dev), d.i3cUp = true) :=
  ⟨⟨serving, 0, by decide +kernel⟩,
   ⟨{ headUp with regs := (PT.RECW.key 0 0x40, 1#32) :: headUp.regs }, 0x1801000, 1, by decide +kernel⟩,
   ⟨serving, 0, by decide +kernel⟩,
   ⟨{ headUp with regs := (PT.RECW.key 0 0x40, 1#32) :: headUp.regs }, 0x1801000, 1, by decide +kernel⟩,
   ⟨serving, 0, 0, by decide +kernel⟩,
   ⟨serving, 0, 0, by decide +kernel⟩,
   ⟨serving, 2, by decide +kernel⟩,
   ⟨serving, 2, 0, by decide +kernel⟩,
   ⟨{ serving with regs := [(PT.SX.key 0 Reg.SX_BOOT_STS, 0x4000#32)], life := { serving.life with mordant := false } }, 64, List.replicate 64 0#8, by decide +kernel⟩,
   ⟨{ serving with regs := [(PT.SX.key 0 Reg.SX_BOOT_STS, 0x4000#32)], life := { serving.life with mordant := false } }, 1, by decide +kernel⟩,
   ⟨{ serving with regs := [(PT.SX.key 0 Reg.SX_BOOT_STS, 0x4000#32)], life := { serving.life with mordant := false } }, by decide +kernel⟩,
   ⟨serving, by decide +kernel⟩,
   ⟨serving, 9, by decide +kernel⟩,
   ⟨{ serving with sbd := { serving.sbd with ibi := 4 }, regs := [(PT.SBD.key 0 Reg.SBD_SBD_CFG, 1#32)] }, 2, [], by decide +kernel⟩,
   ⟨{ serving with sbd := { serving.sbd with ibiNow := 2 } }, by decide +kernel⟩,
   ⟨serving, by decide +kernel⟩⟩

/-- The hypotheses of RecorderAndCalendar, clause by clause. -/
theorem witness_RecorderAndCalendar :
    (∃ (d : Dev) (sv so co p0 p1 : Nat), sv ≤ 4 ∧ d.life.mode ≠ .backup) ∧
    (∃ (d : Dev) (a b : Bool), d.ringReady = true ∧ d.pageDue = true ∧ (a = true ∨ b = true)) ∧
    (∃ (d : Dev), d.ringReady = true ∧ d.pageDue = true) ∧
    (∃ (d : Dev), d.recd.pending.any (fun r => decide (3 ≤ r.sev ∧ 10000 ≤ d.life.usUp - r.atUs)) = true) ∧
    (∃ (d : Dev) (x : Rec) (xs : List Rec), d.recd.pending = x :: xs ∧ d.holdS * 1000000 ≤ d.life.usUp - x.atUs) ∧
    (∃ (d : Dev) (bad : List Nat), d.recd.rotating = true ∧ d.mayRotate = true) ∧
    (∃ (d : Dev), d.life.mode ≠ .backup) ∧
    (∃ (d : Dev) (r : Requester) (v : W64), d.takes r .RECW 0 Reg.RECW_CURSOR = true) ∧
    (∃ (d : Dev) (v : Nat), (d.view v).loading = true) ∧
    (∃ (d : Dev) (r : Requester) (v : W32), d.takes r .RECW 0 Reg.RECW_FREEZE_CTL = true) ∧
    (∃ (d : Dev) (v : Nat), (d.view v).freeze = true ∧ (if (d.view v).maxS = 0 then 60 else (d.view v).maxS) * 1000000 ≤ d.life.usUp - (d.view v).freezeUs) ∧
    (∃ (d : Dev) (r : Requester) (v : W32), d.takes r .REC 0 Reg.REC_HREC_CMD = true) ∧
    (∃ (d : Dev) (r : Requester), d.takes r .REC 0 Reg.REC_REC_CLR = true) ∧
    (∃ (d : Dev) (r : Requester), r.dom = .secure ∧ d.takes r .REC 0 Reg.REC_REC_CLR = true) ∧
    (∃ (d : Dev) (r : Requester), d.takes r .CAL 0 Reg.CAL_CAL_CTL = true ∧ (d.taken r .CAL 0).calFollows = false) ∧
    (∃ (d : Dev) (r : Requester), d.takes r .CAL 0 Reg.CAL_CAL_CTL = true ∧ (d.taken r .CAL 0).calFollows = true) ∧
    (∃ (d : Dev), d.life.mode ≠ .backup ∧ d.regB .CAL 0 Reg.CAL_CAL_CTL 1 = true ∧ d.bak.sec = d.regN .CAL 0 Reg.CAL_ALARM_SEC) ∧
    (∃ (d : Dev), d.life.mode ≠ .backup) :=
  ⟨⟨serving, 1, 2, 3, 4, 5, by decide +kernel⟩,
   ⟨{ placing with life := { placing.life with replayed := true }, recd := { placing.recd with pending := [aRec], due := true }, plp := { placing.plp with dies := [0] } }, true, false, by decide +kernel⟩,
   ⟨{ placing with life := { placing.life with replayed := true }, recd := { placing.recd with pending := [aRec], due := true }, plp := { placing.plp with dies := [0] } }, by decide +kernel⟩,
   ⟨{ placing with recd := { placing.recd with pending := [{ aRec with sev := 3 }] } }, by decide +kernel⟩,
   ⟨{ placing with recd := { placing.recd with pending := [aRec] } }, aRec, [], by decide +kernel⟩,
   ⟨{ placing with recd := { placing.recd with rotating := true } }, [], by decide +kernel⟩,
   ⟨serving, by decide +kernel⟩,
   ⟨serving, sx, 5, by decide +kernel⟩,
   ⟨{ serving with recd := { serving.recd with views := [(0, { viewReset with loading := true })] } }, 0, by decide +kernel⟩,
   ⟨serving, sx, 1#32, by decide +kernel⟩,
   ⟨{ placing with recd := { placing.recd with views := [(0, { viewReset with freeze := true })] } }, 0, by decide +kernel⟩,
   ⟨serving, sx, 1#32, by decide +kernel⟩,
   ⟨serving, sx, by decide +kernel⟩,
   ⟨serving, sx, by decide +kernel⟩,
   ⟨serving, sx, by decide +kernel⟩,
   ⟨memberUp, sx, by decide +kernel⟩,
   ⟨{ serving with regs := [(PT.CAL.key 0 Reg.CAL_CAL_CTL, 2#32)] }, by decide +kernel⟩,
   ⟨serving, by decide +kernel⟩⟩

/-- The hypotheses of FaultsAndWatchdogs, clause by clause. -/
theorem witness_FaultsAndWatchdogs :
    (∃ (d : Dev) (ty i b : Nat) (p : PT), PT.ofCode ty = some p ∧ i < p.units ∧ b < p.errClasses.length ∧ i < p.count ∧ p ≠ .LDP) ∧
    (∃ (d : Dev) (ty i b : Nat) (p : PT), PT.ofCode ty = some p ∧ i < p.units ∧ b < p.errClasses.length ∧ (p.count ≤ i ∨ p = .LDP)) ∧
    (∃ (d : Dev) (ty i b : Nat) (p : PT), PT.ofCode ty = some p ∧ i < p.units) ∧
    (∃ (d : Dev), d.life.glaze = .restarting ∧ d.life.fatal = false) ∧
    (∃ (d : Dev) (n : Nat), n < 32 ∧ d.life.glaze = .running ∧ d.wdogCounts (nbit d.haltMask n) = true ∧ max 10 (d.regF .FLT 0 Reg.FLT_WDOG_CFG 0 16) * 1000 ≤ d.wdogAge n) ∧
    (∃ (d : Dev), d.wdogCounts d.sxHalted = true ∧ max 10 (d.regF .FLT 0 Reg.FLT_WDOG_CFG 16 16) * 1000 ≤ d.wdogAge 32) ∧
    (∃ (d : Dev) (r : Requester) (v : W32), (r.dom = .glaze ∨ r.dom = .secure) ∧ d.takes r .FLT 0 Reg.FLT_WDOG_KICK = true) ∧
    (∃ (d : Dev) (r : Requester), r.dom = .secure ∧ d.takes r .FLT 0 Reg.FLT_SX_KICK = true) ∧
    (∃ (d : Dev) (r : Requester), r.dom ≠ .secure) ∧
    (∃ (d : Dev), d.life.mode ≠ .backup) ∧
    (∃ (d : Dev) (r : Requester), r.dom = .secure ∧ d.takes r .SX 0 Reg.FORCE = true) ∧
    (∃ (d : Dev) (r : Requester) (b : Bool), r.dom = .secure ∧ d.takes r .THM 0 Reg.FORCE = true) ∧
    (∃ (d : Dev) (r : Requester), r.dom = .secure ∧ d.takes r .THM 0 Reg.FORCE = true) ∧
    (∃ (d : Dev) (t0 t1 t2 t3 : Int), d.life.mode ≠ .backup) ∧
    (∃ (d : Dev) (r : Requester), d.takes r .FLT 0 Reg.FLT_FLT_CLR = true) ∧
    (∃ (d : Dev) (r : Requester), d.takes r .FLT 0 Reg.FLT_FLT_CLR = true) ∧
    (∃ (d : Dev) (r : Requester), d.takes r .FLT 0 Reg.FLT_FLT_CLR = true) ∧
    (∃ (d : Dev) (r : Requester) (v : W32), d.takes r .FLT 0 Reg.FLT_OVR = true) :=
  ⟨⟨serving, PT.MEM.code, 0, 0, .MEM, by decide +kernel⟩,
   ⟨serving, PT.LDP.code, 287, 0, .LDP, by decide +kernel⟩,
   ⟨serving, PT.MEM.code, 0, 0, .MEM, by decide +kernel⟩,
   ⟨{ serving with life := { serving.life with glaze := .restarting } }, by decide +kernel⟩,
   ⟨placing, 3, by decide +kernel⟩,
   ⟨placing, by decide +kernel⟩,
   ⟨serving, sx, 6#32, by decide +kernel⟩,
   ⟨serving, sx, by decide +kernel⟩,
   ⟨serving, hostR, by decide +kernel⟩,
   ⟨serving, by decide +kernel⟩,
   ⟨serving, sx, by decide +kernel⟩,
   ⟨serving, sx, true, by decide +kernel⟩,
   ⟨serving, sx, by decide +kernel⟩,
   ⟨serving, 200, 210, 190, 180, by decide +kernel⟩,
   ⟨serving, sx, by decide +kernel⟩,
   ⟨serving, sx, by decide +kernel⟩,
   ⟨serving, sx, by decide +kernel⟩,
   ⟨serving, sx, 0x20000000#32, by decide +kernel⟩⟩

/-- The hypotheses of FieldUpdate, clause by clause. -/
theorem witness_FieldUpdate :
    (∃ (d : Dev) (q tag : Nat) (data : List Byte) (sigOk flashOk : Bool) (f : Flight), d.flight q tag = some f ∧ f.cmd.opcode = 0x62 ∧ f.stage = .run ∧ d.denyPlain f false = none) ∧
    (∃ (d : Dev) (q tag : Nat) (data : List Byte) (sigOk flashOk : Bool) (f : Flight), d.flight q tag = some f ∧ f.cmd.opcode = 0x62 ∧ f.stage = .data ∧ data.length = 65536 ∧ d.blockRefused data f.cmd.addr = none ∧ bytesAt data 0x18 4 ≠ f.cmd.count * 4096) ∧
    (∃ (d : Dev) (q tag : Nat) (data : List Byte) (sigOk flashOk : Bool) (f : Flight) (x : Nat), d.flight q tag = some f ∧ f.cmd.opcode = 0x62 ∧ f.stage = .data ∧ data.length = 65536 ∧ d.blockRefused data f.cmd.addr = some x) ∧
    (∃ (d : Dev) (q tag : Nat) (data : List Byte) (sigOk flashOk : Bool) (f : Flight), d.flight q tag = some f ∧ f.cmd.opcode = 0x62 ∧ f.stage = .data ∧ data.length = 65536 ∧ bytesAt data 0x18 4 = f.cmd.count * 4096 ∧ d.blockRefused data f.cmd.addr = none ∧ mget d.upd.blocks (bytesAt data 0x10 4) = none ∧ d.blocksOut < 32) ∧
    (∃ (d : Dev) (h : MsgHdr) (data : List Byte) (sigOk flashOk : Bool), d.hears 0x40 h = true ∧ d.rxBad 0x40 h = false ∧ (d.heard 0x40 h).isMember = true ∧ data.length = 65536 ∧ blockOk data = false) ∧
    (∃ (d : Dev) (h : MsgHdr) (data : List Byte) (sigOk : Bool), d.hears 0x40 h = true ∧ d.rxBad 0x40 h = false ∧ (d.heard 0x40 h).isMember = true ∧ data.length = 65536 ∧ blockOk data = true ∧ ((d.heard 0x40 h).forwardBlock data).blockRefused data (bytesAt data 0x10 4) = none ∧ mget ((d.heard 0x40 h).forwardBlock data).upd.blocks (bytesAt data 0x10 4) = none) ∧
    (∃ (d : Dev) (h : MsgHdr) (ix pkg : Nat), d.hears 0x40 h = true ∧ d.rxBad 0x40 h = false ∧ (d.heard 0x40 h).isHead = true ∧ pkg = (d.heard 0x40 h).reg64 .UPD 0 Reg.UPD_PKG_ID) ∧
    (∃ (d : Dev) (h : MsgHdr) (pkg : Nat), d.hears 0x40 h = true ∧ d.rxBad 0x40 h = false ∧ (d.heard 0x40 h).isHead = true ∧ ((d.heard 0x40 h).updState = 5 ∨ (d.heard 0x40 h).updState = 6) ∧ (d.heard 0x40 h).pkgMembers.contains h.src = true ∧ pkg = (d.heard 0x40 h).runPkg) ∧
    (∃ (d : Dev) (h : MsgHdr) (st pkg : Nat), d.hears 0x40 h = true ∧ d.rxBad 0x40 h = false ∧ (d.heard 0x40 h).isHead = true ∧ ((d.heard 0x40 h).updState = 5 ∨ (d.heard 0x40 h).updState = 6) ∧ (d.heard 0x40 h).pkgMembers.contains h.src = true ∧ (st ≠ 0 ∨ pkg ≠ (d.heard 0x40 h).runPkg)) ∧
    (∃ (d : Dev), d.updState = 2 ∧ (d.writeParts d.manifest [1, 2, 3, 4, 5, 6, 7]).1 = 0 ∧ ((d.writeParts d.manifest [1, 2, 3, 4, 5, 6, 7]).2.2).badDigest d.manifest = none) ∧
    (∃ (d : Dev) (k m : Nat), d.updState = 2 ∧ checkCode m = true ∧ (d.writeParts d.manifest [1, 2, 3, 4, 5, 6, 7]).1 = 0) ∧
    (∃ (d : Dev), d.life.mordant = true ∧ d.life.glaze ≠ .stopped ∧ d.isMember = true ∧ d.updState = 5 ∧ d.fabState ≠ 3 ∧ d.settleOver = true ∧ d.upd.reports.contains d.fabId = false) ∧
    (∃ (d : Dev), d.life.mordant = true ∧ d.life.glaze ≠ .stopped ∧ d.isMember = false ∧ d.updState = 5 ∧ d.settleOver = true) ∧
    (∃ (d : Dev) (h : MsgHdr) (id pkg x : Nat), d.hears 0x12 h = true ∧ d.rxBad 0x12 h = false ∧ goesUp h = false ∧ goesDown h = true ∧ (d.heard 0x12 h).isMember = true) ∧
    (∃ (d : Dev) (h : MsgHdr) (id pkg x : Nat), d.hears 0x12 h = true ∧ d.rxBad 0x12 h = false ∧ goesUp h = false ∧ goesDown h = true ∧ (d.heard 0x12 h).isMember = true) ∧
    (∃ (d : Dev) (h : MsgHdr) (id pkg : Nat), d.hears 0x12 h = true ∧ d.rxBad 0x12 h = false ∧ goesUp h = false ∧ goesDown h = true ∧ (d.heard 0x12 h).isMember = true) ∧
    (∃ (d : Dev) (h : MsgHdr) (id pkg : Nat), d.hears 0x12 h = true ∧ d.rxBad 0x12 h = false ∧ goesUp h = false ∧ goesDown h = true ∧ (d.heard 0x12 h).isMember = true) ∧
    (∃ (d : Dev) (h : MsgHdr) (id sec sub fl w : Nat), d.hears 0x12 h = true ∧ d.rxBad 0x12 h = false ∧ goesUp h = false ∧ goesDown h = true ∧ (d.heard 0x12 h).isMember = true) ∧
    (∃ (d : Dev) (o : GlobalOp), d.fab.op = some o ∧ o.kind = 7 ∧ wordAt o.body 0 = 0x100 ∧ o.awaiting ≠ 0 ∧ 1000000000 ≤ d.fabNow - o.startNs) ∧
    (∃ (d : Dev) (t : Nat), d.upd.go = some t ∧ restartMode d.life.mode = true ∧ t ≤ d.fabNow) ∧
    (∃ (d : Dev), d.isHead = true ∧ liveMode d.life.mode = true ∧ (d.fab.calUs = 0 ∨ 1000000 ≤ d.life.usUp - d.fab.calUs)) :=
  ⟨⟨withCmd (cmdOf 0x62 16) .run, 0, 0, [], true, true, flightOf (cmdOf 0x62 16) .run, by decide +kernel⟩,
   ⟨withCmd (cmdOf 0x62 16) .data, 0, 0, goodBlock 0 0, true, true, flightOf (cmdOf 0x62 16) .data, by decide +kernel, rfl, rfl, (goodBlock_spec 0 0).1, by rw [Dev.blockRefused, (goodBlock_spec 0 0).2]; decide +kernel, by decide +kernel⟩,
   ⟨withCmd (cmdOf 0x62 16) .data, 0, 0, goodBlock 65536 7, true, true, flightOf (cmdOf 0x62 16) .data, 0x42, by decide +kernel, rfl, rfl, (goodBlock_spec 65536 7).1, by rw [Dev.blockRefused, (goodBlock_spec 65536 7).2]; decide +kernel⟩,
   ⟨withCmd (cmdOf 0x62 16) .data, 0, 0, goodBlock 65536 0, true, true, flightOf (cmdOf 0x62 16) .data, by decide +kernel, rfl, rfl, (goodBlock_spec 65536 0).1, by decide +kernel, by rw [Dev.blockRefused, (goodBlock_spec 65536 0).2]; decide +kernel, by decide +kernel, by decide +kernel⟩,
   ⟨memberUp, hdr0, zeros 65536, true, true, by decide +kernel, by decide +kernel, by decide +kernel, zeros_block.1, zeros_block.2⟩,
   ⟨memberUp, hdr0, goodBlock 65536 0, true, by decide +kernel, by decide +kernel, by decide +kernel, (goodBlock_spec 65536 0).1, (goodBlock_spec 65536 0).2, by rw [Dev.blockRefused, (goodBlock_spec 65536 0).2]; decide +kernel, by decide +kernel⟩,
   ⟨headUp, hdr1, 3, 0, by decide +kernel⟩,
   ⟨headTrial, hdr1, headTrial.runPkg, by decide +kernel⟩,
   ⟨headTrial, hdr1, 3, headTrial.runPkg, by decide +kernel⟩,
   ⟨applyGood, by decide +kernel, by rw [applyGood_manifest, applyGood_parts], by rw [applyGood_manifest, applyGood_parts]; exact applyGood_ok⟩,
   ⟨applyGood, 2, 1, by decide +kernel, by decide +kernel, by rw [applyGood_manifest, applyGood_parts]⟩,
   ⟨{ member with regs := [((PT.FAB.key 0 0x44), 0x1001#32), ((PT.FAB.key 0 0x48), 2#32), (PT.UPD.key 0 Reg.UPD_UPD_STS, 5#32)], life := { member.life with usUp := 300000000 } }, by decide +kernel⟩,
   ⟨{ serving with regs := [(PT.UPD.key 0 Reg.UPD_UPD_STS, 5#32)], life := { serving.life with usUp := 300000000 } }, by decide +kernel⟩,
   ⟨memberUp, hdrDown, 1, 5, 0, by decide +kernel⟩,
   ⟨memberUp, hdrDown, 1, 5, 0, by decide +kernel⟩,
   ⟨memberUp, hdrDown, 1, 5, by decide +kernel⟩,
   ⟨memberUp, hdrDown, 1, 5, by decide +kernel⟩,
   ⟨memberUp, hdrDown, 1, 5, 6, 1, 7, by decide +kernel⟩,
   ⟨{ headUp with fab := { headUp.fab with op := some ⟨7, 1, [0x100, 5, 0], 1, 0, 0, 0, false⟩ }, life := { headUp.life with usUp := 3000000 } }, ⟨7, 1, [0x100, 5, 0], 1, 0, 0, 0, false⟩, by decide +kernel⟩,
   ⟨{ headUp with upd := { headUp.upd with go := some 0 } }, 0, by decide +kernel⟩,
   ⟨headUp, by decide +kernel⟩⟩

/-- The hypotheses of UpdateRequests, clause by clause. -/
theorem witness_UpdateRequests :
    (∃ (d : Dev) (r : Requester), d.takes r .UPD 0 Reg.UPD_REQ = true ∧ d.reqBusy = false ∧ r.dom ≠ .glaze) ∧
    (∃ (d : Dev) (r : Requester), d.takes r .UPD 0 Reg.UPD_REQ = true ∧ d.reqBusy = false ∧ r.dom ≠ .glaze) ∧
    (∃ (d : Dev) (r : Requester), d.takes r .UPD 0 Reg.UPD_REQ = true ∧ d.reqBusy = false ∧ r.dom ≠ .glaze) ∧
    (∃ (d : Dev) (r : Requester), d.takes r .UPD 0 Reg.UPD_REQ = true ∧ d.reqBusy = false ∧ r.dom ≠ .glaze) ∧
    (∃ (d : Dev) (r : Requester) (slot : Nat), d.takes r .UPD 0 Reg.UPD_REQ = true ∧ d.reqBusy = false ∧ r.dom ≠ .glaze) ∧
    (∃ (d : Dev) (r : Requester), d.takes r .UPD 0 Reg.UPD_REQ = true ∧ d.reqBusy = false ∧ r.dom ≠ .glaze) ∧
    (∃ (d : Dev) (r : Requester) (ok : Bool), d.takes r .UPD 0 Reg.UPD_REQ = true ∧ d.reqBusy = false ∧ r.dom ≠ .glaze ∧ optionOk (((d.taken r .UPD 0).reqSaid 7 0).mbox 0 0x230) = false) ∧
    (∃ (d : Dev) (r : Requester), d.takes r .UPD 0 Reg.UPD_REQ = true ∧ d.reqBusy = false ∧ r.dom ≠ .glaze ∧ optionOk (((d.taken r .UPD 0).reqSaid 7 0).mbox 0 0x230) = true) ∧
    (∃ (d : Dev) (r : Requester), d.takes r .UPD 0 Reg.UPD_REQ = true ∧ d.reqBusy = false ∧ r.dom ≠ .glaze) ∧
    (∃ (d : Dev) (r : Requester) (ok : Bool), d.takes r .UPD 0 Reg.UPD_REQ = true ∧ d.reqBusy = false ∧ r.dom ≠ .glaze) ∧
    (∃ (d : Dev) (r : Requester) (ok : Bool), d.takes r .UPD 0 Reg.UPD_REQ = true ∧ d.reqBusy = false) ∧
    (∃ (d : Dev) (r : Requester) (ok : Bool), d.takes r .UPD 0 Reg.UPD_REQ = true ∧ d.reqBusy = false ∧ r.dom ≠ .glaze) ∧
    (∃ (d : Dev) (r : Requester) (arg : Nat) (marks : List (Nat × List Nat)), d.takes r .UPD 0 Reg.UPD_REQ = true ∧ d.reqBusy = false ∧ r.dom ≠ .glaze) ∧
    (∃ (d : Dev) (w : FormatRec), d.formatting = some w) ∧
    (∃ (d : Dev) (r : Requester), d.takes r .UPD 0 Reg.UPD_REQ = true ∧ d.reqBusy = false ∧ r.dom = .glaze) ∧
    (∃ (d : Dev) (r : Requester), d.takes r .UPD 0 Reg.UPD_REQ = true ∧ d.reqBusy = false ∧ r.dom = .glaze) ∧
    (∃ (d : Dev) (r : Requester), d.takes r .UPD 0 Reg.UPD_REQ = true ∧ d.reqBusy = false ∧ r.dom = .glaze) :=
  ⟨⟨serving, hostR, by decide +kernel⟩,
   ⟨serving, hostR, by decide +kernel⟩,
   ⟨serving, hostR, by decide +kernel⟩,
   ⟨serving, hostR, by decide +kernel⟩,
   ⟨serving, hostR, 3, by decide +kernel⟩,
   ⟨serving, hostR, by decide +kernel⟩,
   ⟨serving, hostR, true, by decide +kernel⟩,
   ⟨optDev, hostR, by decide +kernel⟩,
   ⟨inMode .maint serving, hostR, by decide +kernel⟩,
   ⟨inMode .maint serving, hostR, true, by decide +kernel⟩,
   ⟨serving, hostR, true, by decide +kernel⟩,
   ⟨serving, hostR, true, by decide +kernel⟩,
   ⟨inMode .maint serving, hostR, 1, [], by decide +kernel⟩,
   ⟨{ serving with formatting := some ⟨0, 1, 1, 1, 8⟩ }, ⟨0, 1, 1, 1, 8⟩, by decide +kernel⟩,
   ⟨serving, { dom := .glaze }, by decide +kernel⟩,
   ⟨serving, { dom := .glaze }, by decide +kernel⟩,
   ⟨serving, { dom := .glaze }, by decide +kernel⟩⟩

/-- The hypotheses of DebugPort, clause by clause. -/
theorem witness_DebugPort :
    (∃ (d : Dev), d.tapUp = true) ∧
    (∃ (d : Dev), d.tapUp = true) ∧
    (∃ (d : Dev) (c : Nat), d.tapUp = true) ∧
    (∃ (d : Dev) (c : Nat), d.tapUp = true) ∧
    (∃ (d : Dev) (c : Nat), d.tapUp = true ∧ (d.life.mode = .reset ∨ (d.life.mode = .maint ∧ d.dbg.level = 2))) ∧
    (∃ (d : Dev) (c : Option Nat), d.tapUp = true ∧ d.scanAllowed = false) ∧
    (∃ (d : Dev), d.tapUp = true ∧ d.scanAllowed = true) ∧
    (∃ (d : Dev) (c : Nat), c < 256 ∧ c ∉ [0x01, 0x02, 0x03, 0x04, 0x20, 0x21]) ∧
    (∃ (d : Dev), d.tapUp = true ∧ d.life.mode ≠ .flush ∧ d.dbg.refused = false ∧ d.mordantActs = true ∧ d.dbg.busy = false) ∧
    (∃ (d : Dev), d.tapUp = true ∧ d.life.mode ≠ .flush ∧ d.dbg.refused = true) ∧
    (∃ (d : Dev) (n : Nat), d.tapUp = true ∧ d.life.mode ≠ .flush ∧ d.dbg.busy = false ∧ d.dbg.nonce = some n ∧ d.dbg.word < 10) ∧
    (∃ (d : Dev) (w : W32), d.tapUp = true ∧ d.life.mode ≠ .flush ∧ d.dbg.busy = false) ∧
    (∃ (d : Dev), d.tapUp = true ∧ d.life.mode ≠ .flush ∧ d.dbg.busy = false) ∧
    (∃ (d : Dev), d.tapUp = true ∧ d.life.mode ≠ .flush) ∧
    (∃ (d : Dev), d.dbg.busy = true ∧ d.mordantActs = true ∧ d.tokenFits = true) ∧
    (∃ (d : Dev) (ok : Bool), d.dbg.busy = true ∧ d.mordantActs = true ∧ (ok = false ∨ d.tokenFits = false)) ∧
    (∃ (d : Dev), d.regN .DBG 0 Reg.DBG_LEVEL_EXPIRY ≠ 0 ∧ d.regN .DBG 0 Reg.DBG_LEVEL_EXPIRY ≤ d.bak.pos) ∧
    (∃ (d : Dev) (r : Requester), d.takes r .DBG 0 Reg.DBG_DBG_CTL = true) ∧
    (∃ (d : Dev) (r : Requester), d.life.fatal = true ∧ r.dom = .secure ∧ d.dbg.level = 2) ∧
    (∃ (d : Dev), d.dbg.level ≠ 0) ∧
    (∃ (d : Dev), d.tapUp = true ∧ d.life.mode ≠ .flush ∧ d.dbg.dapWait = false) ∧
    (∃ (d : Dev), d.tapUp = true ∧ (d.life.mode = .flush ∨ d.dbg.dapWait = true)) ∧
    (∃ (d : Dev) (b i : Bool) (sp a : Nat) (x : Option (Nat × Nat × Bool)), d.tapUp = true ∧ d.life.mode ≠ .flush ∧ d.dbg.dapWait = false ∧ a < 2 ^ 32) ∧
    (∃ (d : Dev) (b i : Bool) (sp a : Nat) (v : W64), d.tapUp = true ∧ d.life.mode ≠ .flush ∧ d.dbg.dapWait = false ∧ a < 2 ^ 32 ∧ d.life.fatal = false ∧ a % (if b = true then 8 else 4) = 0 ∧ ((({ d with dbg := { d.dbg with ir := 0x21, balls := 0 } }).emit (.tap (dapWord d.dbg.dapSts d.dbg.dapEcho d.dbg.dapAddr d.dbg.dapData))).dapNote b i sp a).dapReach true sp a = true) ∧
    (∃ (d : Dev) (n : Nat), d.dapWrites = true ∧ d.coreReach n = true) ∧
    (∃ (d : Dev) (n : Nat), d.dapWrites = true ∧ d.coreReach n = true) ∧
    (∃ (d : Dev) (n : Nat), d.dapWrites = true ∧ d.coreReach n = true) ∧
    (∃ (d : Dev) (n : Nat), (d.coreDbg n).reason ≠ 0) ∧
    (∃ (d : Dev) (n : Nat), (d.dapWrites = false ∨ d.coreReach n = false)) ∧
    (∃ (d : Dev) (n k : Nat), n < 33 ∧ d.coreHalted n = false ∧ ((mget (d.coreDbg n).bps k).getD 0) % 2 = 1) ∧
    (∃ (d : Dev) (n k : Nat), n < 33 ∧ d.coreHalted n = false ∧ wpArmed ((mget (d.coreDbg n).wpCtl k).getD 0) = true) ∧
    (∃ (d : Dev) (u : Nat), d.dapWrites = true ∧ 1 ≤ d.dbg.level ∧ u ≤ 128) ∧
    (∃ (d : Dev) (u : Nat), d.dapWrites = true ∧ 1 ≤ d.dbg.level ∧ u ≤ 128) ∧
    (∃ (d : Dev) (u : Nat), d.dapWrites = true ∧ 1 ≤ d.dbg.level ∧ u ≤ 128) ∧
    (∃ (d : Dev) (k n : Nat), (d.xDbg 128).hit = some k) :=
  ⟨⟨serving, by decide +kernel⟩,
   ⟨serving, by decide +kernel⟩,
   ⟨serving, 2, by decide +kernel⟩,
   ⟨serving, 5, by decide +kernel⟩,
   ⟨inMode .reset serving, 5, by decide +kernel⟩,
   ⟨serving, none, by decide +kernel⟩,
   ⟨inMode .reset serving, by decide +kernel⟩,
   ⟨serving, 255, by decide +kernel⟩,
   ⟨serving, by decide +kernel⟩,
   ⟨{ serving with dbg := { serving.dbg with refused := true } }, by decide +kernel⟩,
   ⟨{ serving with dbg := { serving.dbg with nonce := some 5 } }, 5, by decide +kernel⟩,
   ⟨serving, 5#32, by decide +kernel⟩,
   ⟨serving, by decide +kernel⟩,
   ⟨serving, by decide +kernel⟩,
   ⟨tokenDev, rfl, by decide +kernel, tokenDev_fits⟩,
   ⟨{ serving with dbg := { serving.dbg with busy := true } }, false, by decide +kernel⟩,
   ⟨{ serving with regs := [(PT.DBG.key 0 Reg.DBG_LEVEL_EXPIRY, 1#32)], bak := { serving.bak with pos := 5 } }, by decide +kernel⟩,
   ⟨serving, sx, by decide +kernel⟩,
   ⟨{ serving with life := { serving.life with fatal := true }, dbg := { serving.dbg with level := 2 } }, sx, by decide +kernel⟩,
   ⟨{ serving with dbg := { serving.dbg with level := 2 } }, by decide +kernel⟩,
   ⟨serving, by decide +kernel⟩,
   ⟨inMode .flush serving, by decide +kernel⟩,
   ⟨serving, false, false, 0, 0, none, by decide +kernel⟩,
   ⟨{ serving with dbg := { serving.dbg with level := 2 } }, false, false, 1, 0x10, 7#64, by decide +kernel⟩,
   ⟨{ serving with dbg := { serving.dbg with level := 1 } }, 3, by decide +kernel⟩,
   ⟨{ serving with dbg := { serving.dbg with level := 1 } }, 3, by decide +kernel⟩,
   ⟨{ serving with dbg := { serving.dbg with level := 1 } }, 3, by decide +kernel⟩,
   ⟨{ serving with dbg := { serving.dbg with cores := [(3, { coreDbgReset with reason := 1 })] } }, 3, by decide +kernel⟩,
   ⟨serving, 3, by decide +kernel⟩,
   ⟨{ serving with dbg := { serving.dbg with cores := [(3, { coreDbgReset with bps := [(1, 0x101)] })] } }, 3, 1, by decide +kernel⟩,
   ⟨{ serving with dbg := { serving.dbg with cores := [(3, { coreDbgReset with wpCtl := [(1, 3)] })] } }, 3, 1, by decide +kernel⟩,
   ⟨{ serving with dbg := { serving.dbg with level := 1 } }, 3, by decide +kernel⟩,
   ⟨{ serving with dbg := { serving.dbg with level := 1 } }, 3, by decide +kernel⟩,
   ⟨{ serving with dbg := { serving.dbg with level := 1 } }, 3, by decide +kernel⟩,
   ⟨{ serving with dbg := { serving.dbg with units := [(128, { xDbgReset with hit := some 1 })] } }, 1, 0, by decide +kernel⟩⟩

/-- The hypotheses of LockedPageWrites, clause by clause. -/
theorem witness_LockedPageWrites :
    (∃ (d : Dev) (r : Requester) (p : PT) (i off : Nat) (f g : Dev → Dev) (ok : Bool), d.busUp = true ∧ d.life.fatal = false ∧ d.shows r p i = true ∧ r.dom ≠ .secure ∧ d.locked p i = true ∧ (off = Reg.OWNER ∨ 0x40 ≤ off)) ∧
    (∃ (d : Dev) (r : Requester) (p q : PT) (i j off x : Nat), q.key j x ≠ p.key i Reg.ERR_STS ∧ q.key j x ≠ p.key i Reg.IRQ_STS) ∧
    (∃ (d : Dev) (r : Requester) (p : PT) (i off : Nat) (f : Dev → Dev), d.busUp = true ∧ d.life.fatal = false ∧ d.shows r p i = true ∧ d.mayWrite r p i = true ∧ (off = Reg.PAGE_CTL ∨ off = Reg.IRQ_STS ∨ off = Reg.IRQ_EN ∨ off = Reg.ERR_STS ∨ off = Reg.ERR_ACT)) ∧
    (∃ (d : Dev) (r : Requester) (p : PT) (i off : Nat) (f : Dev → Dev), d.busUp = true ∧ d.life.fatal = false ∧ d.shows r p i = true ∧ r.dom = .secure) :=
  ⟨⟨{ serving with regs := [(PT.VOL.key 0 8, 0x8#32)] , fns := [(0, { openFn with mse := true })] }, hostR, .VOL, 0, 0x40, id, id, true, by decide +kernel⟩,
   ⟨serving, hostR, .VOL, .VOL, 0, 0, 0x40, 0x44, by decide +kernel⟩,
   ⟨{ serving with regs := [(PT.VOL.key 0 8, 0x8#32)], fns := [(0, { openFn with mse := true })] }, hostR, .VOL, 0, 0x10, id, by decide +kernel⟩,
   ⟨{ serving with regs := [(PT.VOL.key 0 8, 0x8#32)] }, sx, .VOL, 0, 0x40, id, by decide +kernel⟩⟩

/-- The hypotheses of ProtectedActsAndForce, clause by clause. -/
theorem witness_ProtectedActsAndForce :
    (∃ (d : Dev) (r : Requester) (p : PT) (i b : Nat) (v : W32), d.takes r p i Reg.ERR_ACT = true ∧ r.dom ≠ .secure ∧ b < p.errClasses.length ∧ 3 ≤ p.errClasses.getD b 0 ∧ d.regB p i Reg.ERR_ACT b = true ∧ fld v b 1 = 0) ∧
    (∃ (d : Dev) (r : Requester) (p : PT) (i : Nat) (f : Dev → Dev), d.takes r p i Reg.FORCE = true ∧ r.dom ≠ .secure) ∧
    (∃ (d : Dev) (r : Requester) (p : PT) (i : Nat) (f : Dev → Dev), d.takes r p i Reg.FORCE = true ∧ r.dom = .secure) :=
  ⟨⟨serving, hostR, .PWR, 0, 1, 0#32, by decide +kernel⟩,
   ⟨serving, hostR, .DEV, 0, id, by decide +kernel⟩,
   ⟨serving, sx, .PLP, 0, id, by decide +kernel⟩⟩

/-- The hypotheses of DebugIdentification, clause by clause. -/
theorem witness_DebugIdentification :
    ∃ (d : Dev), d.tapUp = true :=
  ⟨serving, by decide +kernel⟩

/-- The hypotheses of MsixMasking, clause by clause. -/
theorem witness_MsixMasking :
    (∃ (d : Dev) (f : Fn) (v : Nat), (d.fn f).masked v = true) ∧
    (∃ (d : Dev) (f : Fn) (v : Nat), (d.fn f).masked v = false) :=
  ⟨⟨serving, .pf, 3, by decide +kernel⟩,
   ⟨{ serving with fns := [(0, { openFn with bme := true, unmasked := [3], fmask := false })] }, .pf, 3, by decide +kernel⟩⟩

/-- The hypotheses of MessageDrops, clause by clause. -/
theorem witness_MessageDrops :
    (∃ (d : Dev) (ty : Nat) (h : MsgHdr) (f : Dev → Dev), d.hears ty h = false) ∧
    (∃ (d : Dev) (ty : Nat) (h : MsgHdr) (f : Dev → Dev), d.hears ty h = true) ∧
    (∃ (d : Dev) (ty : Nat) (h g : MsgHdr), ty ≠ 1 ∧ g.src = h.src ∧ g.seq = h.seq) :=
  ⟨⟨serving, 5, hdr0, id, by decide +kernel⟩,
   ⟨memberUp, 5, hdr0, id, by decide +kernel⟩,
   ⟨memberUp, 5, hdr0, hdr0, by decide +kernel⟩⟩

/-- The hypotheses of LostAndStoppedWrites, clause by clause. -/
theorem witness_LostAndStoppedWrites :
    (∃ (d : Dev) (r : Requester) (p : PT) (i off : Nat) (f g : Dev → Dev) (ok : Bool), (d.busUp = false ∨ d.life.fatal = true ∨ d.shows r p i = false)) ∧
    (∃ (d : Dev) (r : Requester) (p : PT) (i off : Nat) (f g : Dev → Dev) (ok : Bool), d.busUp = true ∧ d.life.fatal = false ∧ d.shows r p i = true ∧ d.mayWrite r p i = false) ∧
    (∃ (d : Dev) (r : Requester) (p : PT) (i : Nat), r.dom = .host ∧ r.i3c = false ∧ r.num = 0 ∧ (d.fn .pf).mse = false) :=
  ⟨⟨inMode .backup serving, hostR, .VOL, 0, 0x40, id, id, true, by decide +kernel⟩,
   ⟨serving, { dom := .glaze }, .DBG, 0, 0x40, id, id, true, by decide +kernel⟩,
   ⟨{ serving with fns := [(0, { fnReset with mse := false, bme := true })] }, hostR, .VOL, 0, by decide +kernel⟩⟩

/-- The hypotheses of RegisterStore, clause by clause. -/
theorem witness_RegisterStore :
    (∃ (d : Dev) (p : PT) (i off lo n v : Nat), lo + n ≤ 32) ∧
    (∃ (p q : PT) (i j x y : Nat), (p ≠ q ∨ i % 0x1000 ≠ j % 0x1000 ∨ x % 0x1000 ≠ y % 0x1000)) :=
  ⟨⟨serving, .VOL, 0, 0x44, 4, 8, 0x123, by decide +kernel⟩,
   ⟨.VOL, .STM, 0, 0, 0, 0, by decide +kernel⟩⟩

/-- The hypotheses of SlotMemoryBytes, clause by clause. -/
theorem witness_SlotMemoryBytes :
    ∃ (m : List Host.Cell) (a : Nat) (bs : List Byte), Memory.wf slotBlank m = true :=
  ⟨[(3, 1#8)], 4, [0#8, 7#8], by decide +kernel⟩

/-- The hypotheses of BootFlashBytes, clause by clause. -/
theorem witness_BootFlashBytes :
    ∃ (d : Dev) (a n : Nat) (bs : List Byte), Memory.wf flashBlank d.flash = true :=
  ⟨serving, 0, 4096, [0x12#8], by decide +kernel⟩

/-- The hypotheses of QuietTail, clause by clause. -/
theorem witness_QuietTail :
    ∃ (e : Dev), e.eventsTaken ∧ e.recordsFinish = e ∧ e.updateArmed = e ∧ e.life.wakeReq = none ∧ e.modeSettled ∧ e.idleSettled :=
  ⟨Dev.first, rfl, by decide +kernel, by decide +kernel, rfl, by unfold Dev.modeSettled; decide +kernel, by unfold Dev.idleSettled; decide +kernel⟩

end Sys2Proof.Tests
end

section
/-! PROOFS. Every step leaves a settled device (R26, R28, R552, R594). -/
namespace Sys2Proof.Machine
open Sys2Proof

/-! ### The mode after a command (R26, R28) -/

theorem idleTimer_fatal (d : Dev) : d.idleTimer.life.fatal = d.life.fatal := by rw [idleTimer_eq]

theorem settleMode_halted {d : Dev} (h : d.life.fatal = true) : settleMode d = d := if_pos h

theorem settleMode_conditional {d : Dev} (hf : d.life.fatal = false) (hm : Mode.conditional d.life.mode = true) :
    settleMode d = d.setMode d.condMode := by
  unfold settleMode; rw [if_neg (by simp [hf])]
  cases h : d.life.mode <;> simp [h, Mode.conditional] at hm ⊢

theorem settleMode_asleep {d : Dev} (hf : d.life.fatal = false) (hm : d.life.mode = .idle ∨ d.life.mode = .patrol) :
    settleMode d = if d.condMode = .active then d else (d.wakeFor .condition).setMode d.condMode := by
  unfold settleMode; rw [if_neg (by simp [hf])]
  rcases hm with hm | hm <;> rw [hm]

theorem settleMode_other {d : Dev} (hm : ¬Mode.conditional d.life.mode = true) (hi : ¬(d.life.mode = .idle ∨ d.life.mode = .patrol)) :
    settleMode d = d := by
  unfold settleMode
  cases h : d.life.mode <;> simp [h, Mode.conditional] at hm hi ⊢

/-- A device put into the mode that its conditions ask for is settled: the mode change moves no condition, and no condition asks for sleep. -/
theorem setMode_settled {d e : Dev} (h : e.condMode = d.condMode) : (e.setMode d.condMode).modeSettled := fun _ => by
  rw [setMode_mode, setMode_condMode, h]
  exact ⟨fun _ => rfl, fun hs => absurd hs (condMode_awake d)⟩

theorem settleMode_settled (d : Dev) : (settleMode d).modeSettled := by
  by_cases hf : d.life.fatal = true
  · rw [settleMode_halted hf]; exact fun h => absurd (hf.symm.trans h) (by decide)
  rw [Bool.not_eq_true] at hf
  by_cases hm : Mode.conditional d.life.mode = true
  · rw [settleMode_conditional hf hm]; exact setMode_settled rfl
  by_cases hi : d.life.mode = .idle ∨ d.life.mode = .patrol
  · rw [settleMode_asleep hf hi]
    split
    · next ha => exact fun _ => ⟨fun h => absurd h hm, fun _ => ha⟩
    · exact setMode_settled (wakeFor_condMode _ _)
  · rw [settleMode_other hm hi]
    exact fun _ => ⟨fun h => absurd h hm, fun h => absurd h hi⟩

theorem modeSettled_congr {d e : Dev} (hf : e.life.fatal = d.life.fatal) (hm : e.life.mode = d.life.mode) (hc : e.condMode = d.condMode) :
    e.modeSettled ↔ d.modeSettled := by
  unfold Dev.modeSettled; rw [hf, hm, hc]

theorem idleTimer_modeSettled (d : Dev) : d.idleTimer.modeSettled ↔ d.modeSettled :=
  modeSettled_congr (idleTimer_fatal d) (idleTimer_mode d) (idleTimer_condMode d)

/-! ### The end of every step -/

/-- What every step leaves: no event waits, the mode follows its conditions and the idle timer its own. -/
def Dev.settled (d : Dev) : Prop := d.eventsTaken ∧ d.modeSettled ∧ d.idleSettled

theorem settle_settled (d : Dev) : (settle d).settled := by
  unfold settle
  refine ⟨?_, (idleTimer_modeSettled _).2 (settleMode_settled _), idleTimer_settled _⟩
  unfold Dev.eventsTaken
  rw [idleTimer_evq, settleMode_evq, wakes_evq]; exact collectN_evq 3 _

/-- Publication of the DDT (R68) moves none of it. -/
theorem published_settled (d e : Dev) (h : e.settled) : (Dev.published d e).settled := by
  rw [published_eq]; exact h

/-- Whatever a command does, the device it leaves comes out of `settle` and is then published. -/
theorem exec_settles (i : Instr) (s : State) : ∃ d, exec i s = .next { s with dev := Dev.published s.dev (settle d) } := by
  cases i <;> exact ⟨_, rfl⟩

/-- So does every step, the idle microsecond among them. -/
theorem step_settles {s t : State} (h : step s = .next t) : ∃ d, t.dev = Dev.published s.dev (settle d) := by
  obtain ⟨_ | ⟨i, q⟩, d⟩ := s
  · cases h; exact ⟨_, by dsimp only⟩
  · obtain ⟨e, he⟩ := exec_settles i ⟨q, d⟩
    cases he.symm.trans h; exact ⟨e, by dsimp only⟩

end Sys2Proof.Machine
end

section
open Sys2Proof Sys2Proof.Machine

/-- Settles O6: every step ends in `settle`, which settles the device whatever the step did before. -/
theorem settledAlways : Obligations.SettledAlways := by
  intro s t h
  obtain ⟨d, hd⟩ := step_settles h
  rw [hd]
  exact published_settled s.dev _ (settle_settled d)

end

section
/-! PROOFS. A settled device at rest, a message heard, the reset state (R33, R415, R416). -/
namespace Sys2Proof.Machine
open Sys2Proof

/-! ### A settled device at rest -/

theorem wakes_unasked {d : Dev} (h : d.life.wakeReq = none) : d.wakes = d := by
  unfold Dev.wakes; rw [h]; exact ite_self d

theorem setMode_same {d : Dev} {m : Mode} (h : d.life.mode = m) : d.setMode m = d := if_pos h

/-- A mode that its conditions already give stays. -/
theorem settleMode_of_settled {d : Dev} (h : d.modeSettled) : settleMode d = d := by
  by_cases hf : d.life.fatal = true
  · exact settleMode_halted hf
  rw [Bool.not_eq_true] at hf
  obtain ⟨hc, hs⟩ := h hf
  by_cases hm : Mode.conditional d.life.mode = true
  · rw [settleMode_conditional hf hm, setMode_same (hc hm)]
  by_cases hi : d.life.mode = .idle ∨ d.life.mode = .patrol
  · rw [settleMode_asleep hf hi, if_pos (hs hi)]
  · exact settleMode_other hm hi

/-- An idle timer that already runs exactly when it must keeps its start. -/
theorem idleTimer_of_settled {d : Dev} (h : d.idleSettled) : d.idleTimer = d := by
  unfold Dev.idleSettled at h
  refine if_pos ?_
  have hb : (d.life.mode == .active && d.idleCond) = d.life.idleSince.isSome := by
    rw [Bool.eq_iff_iff, h, Bool.and_eq_true, beq_iff_eq]
  unfold Dev.idleStart; rw [hb]
  cases d.life.idleSince <;> rfl

/-! ### What a message that is heard leaves alone -/

theorem setIrq_fab (d : Dev) (p : PT) (i b : Nat) : (d.setIrq p i b).fab = d.fab := by rw [setIrq_eq]

theorem setMode_fab (d : Dev) (m : Mode) : (d.setMode m).fab = d.fab := by
  unfold Dev.setMode; split <;> rfl

theorem wokenBy_fab (d : Dev) (c : WakeCause) : (d.wokenBy c).fab = d.fab := by
  unfold Dev.wokenBy; rw [setIrq_fab, setMode_fab]; rfl

theorem ringAlarm_fab (d : Dev) : d.ringAlarm.fab = d.fab := by
  unfold Dev.ringAlarm; split
  · rw [setIrq_fab]
  · rfl

theorem wakeFor_fab (d : Dev) (c : WakeCause) : (d.wakeFor c).fab = d.fab := by
  unfold Dev.wakeFor; split
  · rfl
  · split <;> simp only [ringAlarm_fab, wokenBy_fab]

/-- Noting a message changes what the device remembers of its senders and nothing else of the fabric. -/
theorem noteSeen_eq (d : Dev) (h : MsgHdr) :
    d.noteSeen h = { d with fab := { d.fab with seen := (d.noteSeen h).fab.seen } } := rfl

theorem noteSeen_rest (d : Dev) (h : MsgHdr) : (d.noteSeen h).rest = d.rest := rest_fab _ _

theorem heard_rest (d : Dev) (ty : Nat) (h : MsgHdr) : (d.heard ty h).rest = d.rest := by
  unfold Dev.heard; split
  · exact noteSeen_rest d h
  · rw [wakeFor_rest, noteSeen_rest]

theorem heard_fab (d : Dev) (ty : Nat) (h : MsgHdr) : (d.heard ty h).fab = (d.noteSeen h).fab := by
  unfold Dev.heard; split
  · rfl
  · exact wakeFor_fab _ _

/-! ### The reset state -/

/-- At reset the only registers stored are of OPT and FAB (R523): every other page reads what its map gives (R33). -/
theorem first_reg {p : PT} (i off : Nat) (ho : p ≠ .OPT) (hf : p ≠ .FAB) : Dev.first.reg p i off = resetOf p off := by
  have hn : mget Dev.first.regs (p.key i off) = none := by
    simp only [Dev.first, optDefaults, mget, Ne.symm (key_page i _ off _ ho), Ne.symm (key_page i _ off _ hf), if_false]
  unfold Dev.reg; rw [hn]

theorem first_modeSettled : Dev.first.modeSettled :=
  fun _ => ⟨fun h => absurd h (by decide), fun h => absurd h (by decide)⟩

theorem first_idleSettled : Dev.first.idleSettled :=
  ⟨fun h => absurd h (by decide), fun h => absurd h.1 (by decide)⟩

end Sys2Proof.Machine
end

section
open Sys2Proof Sys2Proof.Machine
/-- Settles O55: each part of the tail leaves a device that already stands as that part would leave it. -/
theorem quietTail : Obligations.QuietTail := by
  intro e hq hr hu hw hm hi
  unfold afterAll settle
  rw [collect_quiet e hq, hr, hu, collect_quiet e hq, wakes_unasked hw, settleMode_of_settled hm, idleTimer_of_settled hi]

/-- Settles O58: noting a message adds to the senders seen, and the wake leaves the fabric alone. -/
theorem heardFrame : Obligations.HeardFrame := by
  intro d ty h
  rw [heard_rest, heard_fab, noteSeen_eq]
  exact ⟨rfl, rfl, rfl, rfl, rfl⟩

/-- Settles O4: the reset state as it is written out. -/
theorem resetState : Obligations.ResetState :=
  ⟨⟨rfl, rfl, rfl, rfl⟩, ⟨rfl, rfl, rfl⟩, fun _ => first_reg, fun _ => rfl⟩

/-- Settles O5: RESET is no mode that conditions choose, and no timer runs in it. -/
theorem settledAtReset : Obligations.SettledAtReset := ⟨rfl, first_modeSettled, first_idleSettled⟩
end

section
/-! PROOFS. Where a command ends; the opcodes of volumes and streams (R112, R128). -/
namespace Sys2Proof.Machine
open Sys2Proof

/-! ### Where a command ends, by the way it runs -/

theorem ends_run {i : Instr} {f : Dev → Dev} {d e : Dev} (hx : ∀ s, exec i s = run f s) (he : f d = e) :
    Ends afterAll i d e := fun q => by rw [hx, run_eq, he]

theorem ends_runCmd {i : Instr} {f : Dev → Dev} {d e : Dev} (hx : ∀ s, exec i s = runCmd f s) (he : f d = e) :
    Ends afterFlights i d e := fun q => by rw [hx, runCmd_eq, he]

/-! ### Commands that are taken up and checked (R112, R128) -/

section
variable {i : Instr} {d e : Dev} {q tag op : Nat} {fore : Bool} {f : Flight} {go : Dev → Flight → Dev}

/-- A command just admitted ends where its own work ends. -/
theorem ends_taken (hx : ∀ s, exec i s = runCmd (fun d => d.take q tag op fore go) s) (hf : d.fresh q tag op fore f) (he : go d f = e) :
    Ends afterFlights i d e := ends_runCmd hx ((take_fresh go hf).trans he)

variable {g : Dev → Flight → Nat → Store → OpChecks} {work : Dev → Flight → Dev → Nat → Store → Dev}

/-- One whose checks pass does its work on the record it names. -/
theorem ends_checked {k : Nat} {v : Store}
    (hx : ∀ s, exec i s = runCmd (fun d => d.take q tag op fore (fun d f => d.onChecked f (g d f) (work d f))) s)
    (hf : d.fresh q tag op fore f) (hp : d.passes f (g d f) k v) (he : work d f d k v = e) : Ends afterFlights i d e :=
  ends_taken hx hf ((onChecked_passes _ hp).trans he)

/-- One whose check fails is completed with that check's status. -/
theorem ends_refused {x : Deny}
    (hx : ∀ s, exec i s = runCmd (fun d => d.take q tag op fore (fun d f => d.onChecked f (g d f) (work d f))) s)
    (hf : d.fresh q tag op fore f) (hd : d.denyRecord f (g d f) = some x) : Ends afterFlights i d (d.refuse f x) :=
  ends_taken hx hf (onChecked_fails _ hd)
end

end Sys2Proof.Machine
end

section
open Sys2Proof Sys2Proof.Machine
/-- Settles O25, clause by clause: a command just admitted whose checks pass does its opcode's work on the record it names, and one whose check
fails is refused. -/
theorem volumeAndStreamCommands : Obligations.VolumeAndStreamCommands := by
  refine ⟨fun d q tag f hf hd => ?nop, fun d q tag f k v hf hp => ?flush, fun d q tag f k v hf hp => ?streamInfo,
    fun d q tag f k v hf hp => ?read, fun d q tag f k v hf hp => ?verify, fun d q tag f k v hf hp => ?streamRead,
    fun d q tag f k v hf hp => ?write, fun d q tag f k v hf hp => ?writeZeroes, fun d q tag f k v hf hp => ?deallocate,
    fun d q tag f k v hf hp => ?append, fun d q tag f k v dst lost hf hp hs => ?sealFirst,
    fun d q tag f k v dst lost hf hp hs => ?sealAgain, fun d q tag f hf hd => ?identify,
    fun d q tag f x hf hd => ?readRefused, fun d q tag f x hf hd => ?writeRefused⟩
  case nop => exact ends_taken (exec_nop q tag) hf (by rw [hd])
  case flush => exact ends_checked (exec_flushCmd q tag) hf hp rfl
  case streamInfo => exact ends_checked (exec_streamInfo q tag) hf hp rfl
  case read => exact ends_checked (exec_read q tag) hf hp rfl
  case verify => exact ends_checked (exec_verify q tag) hf hp rfl
  case streamRead => exact ends_checked (exec_streamRead q tag) hf hp rfl
  case write => exact ends_checked (exec_write q tag) hf hp rfl
  case writeZeroes => exact ends_checked (exec_writeZeroes q tag) hf hp rfl
  case deallocate => exact ends_checked (exec_deallocate q tag) hf hp rfl
  case append => exact ends_checked (exec_append q tag) hf hp rfl
  case sealFirst => exact ends_checked (exec_seal q tag dst lost) hf hp (if_neg (by simp [hs]))
  case sealAgain => exact ends_checked (exec_seal q tag dst lost) hf hp (if_pos hs)
  case identify => exact ends_taken (exec_identify q tag) hf (by rw [hd]; rfl)
  case readRefused => exact ends_refused (exec_read q tag) hf hd
  case writeRefused => exact ends_refused (exec_write q tag) hf hd
end

section
/-! PROOFS. Reset inputs and rail losses (R27, R30, R304, R615). -/
namespace Sys2Proof.Machine
open Sys2Proof

/-! ### A warm reset source (R27, R615) -/

theorem warmReset_direct {d : Dev} {cause : Nat} (hl : liveMode d.life.mode = true) (hp : d.dataPending = false) :
    d.warmReset cause = d.deviceReset false cause false := by
  unfold Dev.warmReset; simp only [hl, hp, Bool.not_true, Bool.false_eq_true, if_false]

theorem warmReset_flush {d : Dev} {cause : Nat} (hl : liveMode d.life.mode = true) (hp : d.dataPending = true) :
    d.warmReset cause = d.enterFlush cause := by
  unfold Dev.warmReset; simp only [hl, hp, Bool.not_true, Bool.false_eq_true, if_false, if_true]

/-! ### A register write that is taken, as a command -/

/-- A command that is a register write and is taken ends where its effect on the written device ends. -/
theorem ends_write {i : Instr} {r : Requester} {p : PT} {n off : Nat} {f : Dev → Dev} {d e : Dev}
    (hx : ∀ s, exec i s = run (fun d => d.regWrite r p n off f) s) (ht : d.takes r p n off = true) (he : f (d.taken r p n) = e) :
    Ends afterAll i d e := ends_run hx ((regWrite_takes f ht).trans he)

end Sys2Proof.Machine
end

section
open Sys2Proof Sys2Proof.Machine

/-- Settles O8, clause by clause: both pins are warm sources of `Dev.warmReset`, a member's PERST_N none, and each main rail leads to BACKUP. -/
theorem resetInputs : Obligations.ResetInputs := by
  refine ⟨fun d hl hp => ?rstDirect, fun d hl hp => ?rstFlush, fun d hm hl hp => ?perstDirect, fun d hm hl hp => ?perstFlush,
    fun d hm => ?perstMember, fun d r hb => ?rail⟩
  case rstDirect => exact ends_run exec_rstNAssert (warmReset_direct hl hp)
  case rstFlush => exact ends_run exec_rstNAssert (warmReset_flush hl hp)
  case perstDirect => exact ends_run exec_perstNAssert ((if_neg (by simp [hm])).trans (warmReset_direct hl hp))
  case perstFlush => exact ends_run exec_perstNAssert ((if_neg (by simp [hm])).trans (warmReset_flush hl hp))
  case perstMember => exact ends_run exec_perstNAssert (if_pos hm)
  case rail =>
    refine ends_run (exec_railMonitorTrip r) ?_
    cases r <;> exact if_neg hb
end

section
/-! PROOFS. Start-up, from the rails to the release of Glaze (R27, R34, R511 to R514). -/
namespace Sys2Proof.Machine
open Sys2Proof

/-! ### BOOT (R27, R34, R511 to R514) -/

theorem bootEntry_testLow (headSel : Bool) (d : Dev) : Dev.bootEntry headSel false d = d := by
  unfold Dev.bootEntry; simp

theorem bootEntry_reset {headSel : Bool} {d : Dev} (h : d.life.mode = .reset) :
    Dev.bootEntry headSel true d =
      let b := ((({ d with life := { d.life with
        rstN := true, pgood := true, pfailN := true, pllLocked := true, refclk := true, strapHead := headSel, strapTest := true
        bootUs := d.life.usUp } }).setRegN .CLK 0 Reg.CLK_STRAP_STS (b2n headSel + 2)).setMode .boot).fabBoot
      if (b.hostPort && b.life.perstN) = true then { b with ep := { b.ep with termination := true, cfgReady := true } } else b := by
  unfold Dev.bootEntry; simp [h]

/-- Mordant waits for its banks' checks: BOOT without C4 halt, Mordant not running, BOOT_STS.HALT clear. -/
def Dev.mordantDue (d : Dev) : Prop :=
  d.life.mode = .boot ∧ d.life.fatal = false ∧ d.life.mordant = false ∧ d.regB .SX 0 Reg.SX_BOOT_STS 14 = false

theorem mordantVerified_named {d : Dev} {a b m g : Nat} (hd : d.mordantDue) (hn : d.namedBanks = (m, g, false, false, 0))
    (ha : checkCode a = true) (hb : checkCode b = true) (hr : (if m = 0 then a else b) = 1) :
    Dev.mordantVerified a b d =
      let e := ((d.bootResult (if m = 0 then 1 else 4) 1).setRegF .SX 0 Reg.SX_BOOT_STS 0 1 m).setRegF .SX 0 Reg.SX_BOOT_STS 15 1 0
      e.mordantStart (e.flashNat (mordantBank m + 8) 4) := by
  obtain ⟨hm, hf, hr0, hh⟩ := hd
  unfold Dev.mordantVerified
  simp [hm, hf, hr0, hh, ha, hb, hn, hr, b2n]

theorem checkCode_bad {a : Nat} (h : 2 ≤ a ∧ a ≤ 6) : checkCode a = true := decide_eq_true ⟨by omega, h.2⟩

theorem mordantVerified_none {d : Dev} {a b : Nat} (hd : d.mordantDue) (ha : 2 ≤ a ∧ a ≤ 6) (hb : 2 ≤ b ∧ b ≤ 6) :
    Dev.mordantVerified a b d =
      let n := d.namedBanks.1
      ((d.bootResult (if n = 0 then 1 else 4) (if n = 0 then a else b)).bootResult (if 1 - n = 0 then 1 else 4) (if 1 - n = 0 then a else b)).setRegF
        .SX 0 Reg.SX_BOOT_STS 14 1 1 := by
  obtain ⟨hm, hf, hr0, hh⟩ := hd
  have bad : ∀ n : Nat, (if n = 0 then a else b) ≠ 1 := fun n => by split <;> omega
  unfold Dev.mordantVerified
  simp [hm, hf, hr0, hh, checkCode_bad ha, checkCode_bad hb, bad]
/-- Glaze waits for its banks' checks, and no boot control record names a bank: Mordant's own bank number decides (R511). -/
def Dev.glazeDue (d : Dev) : Prop :=
  d.life.mode = .boot ∧ d.life.fatal = false ∧ d.life.mordant = true ∧ d.life.glaze = .stopped ∧
    d.bootInForce = none ∧ d.regF .SX 0 Reg.SX_BOOT_STS 0 1 = 0

/-- Glaze runs from the bank chosen: its trial is timed and it configures the pages (R511, R548). -/
def Dev.glazeRuns (g : Dev) : Dev :=
  let r : Dev := { g with upd := { g.upd with trialUs := g.life.usUp }, life := { g.life with glaze := .running } }
  (r.setRegN .SX 0 Reg.SX_BOOT_TIME r.us).kickAll.glazeConfig

/-- Unformatted media has nothing to replay and leads to MAINT (R27, R188). -/
def Dev.unformattedToMaint (e : Dev) : Dev :=
  if e.formatted = true then e else ({ e with life := { e.life with replayed := true } }).toMaint

theorem glazeRelease_named {d : Dev} {b : Nat} (hd : d.glazeDue) (hb : checkCode b = true) :
    Dev.glazeRelease 1 b d = ((d.bootResult 8 1).setRegF .SX 0 Reg.SX_BOOT_STS 7 1 0).glazeRuns.unformattedToMaint := by
  obtain ⟨hm, hf, hr, hg, hi, hs⟩ := hd
  unfold Dev.glazeRelease
  rw [if_neg (by simp [hm, hf, hr, hg, hb, show checkCode 1 = true from rfl])]
  extract_lets +onlyGivenNames rec0 flags tries named res lo d1 other d2 g d3 d4 d5 _ _ r e
  have hflags : flags = 0 := by simp only [flags, rec0, hi, hs]
  have hnamed : named = 0 := by simp only [named, hflags]
  have hres : res named = 1 := by simp only [res, hnamed, if_true]
  have hlo : lo named = 8 := by simp only [lo, hnamed, if_true]
  have hg : g = named := if_pos hres
  have hbit : ¬nbit flags 2 = true := by rw [hflags]; decide
  have h5 : d5 = (d.bootResult 8 1).setRegF .SX 0 Reg.SX_BOOT_STS 7 1 0 := calc
    d5 = d4 := if_neg hbit
    _ = d2.setRegF .SX 0 Reg.SX_BOOT_STS 7 1 g := if_pos hg
    _ = d1.setRegF .SX 0 Reg.SX_BOOT_STS 7 1 0 := by rw [hg, hnamed, show d2 = d1 from if_pos hres]
    _ = (d.bootResult (lo named) (res named)).setRegF .SX 0 Reg.SX_BOOT_STS 7 1 0 := rfl
    _ = _ := by rw [hlo, hres]
  have he : e = d5.glazeRuns := rfl
  rw [if_neg (fun h : res named ≠ 1 ∧ res other ≠ 1 => h.1 hres)]
  show e.unformattedToMaint = _
  rw [he, h5]

theorem glazeRelease_none {d : Dev} {a b : Nat} (hd : d.glazeDue) (ha : 2 ≤ a ∧ a ≤ 6) (hb : 2 ≤ b ∧ b ≤ 6) :
    Dev.glazeRelease a b d = ((d.bootResult 8 a).bootResult 11 b).toMaint := by
  obtain ⟨hm, hf, hr, hg, hi, hs⟩ := hd
  unfold Dev.glazeRelease
  rw [if_neg (by simp [hm, hf, hr, hg, checkCode_bad ha, checkCode_bad hb])]
  extract_lets +onlyGivenNames rec0 flags tries named res lo d1 other d2
  have hflags : flags = 0 := by simp only [flags, rec0, hi, hs]
  have hnamed : named = 0 := by simp only [named, hflags]
  have hbad : ∀ i, res i ≠ 1 := fun i => by simp only [res]; split <;> omega
  have h2 : d2 = (d.bootResult 8 a).bootResult 11 b := calc
    d2 = (d.bootResult (lo named) (res named)).bootResult (lo (1 - named)) (res (1 - named)) := if_neg (hbad named)
    _ = _ := by rw [hnamed]; rfl
  rw [if_pos ⟨hbad named, hbad other⟩, h2]

theorem replayComplete_due {d : Dev} (lost : List Nat) (hm : d.life.mode = .boot) (hf : d.life.fatal = false) (hg : d.life.glaze = .running)
    (hr : d.life.replayed = false) :
    Dev.replayComplete lost d =
      let r := d.replay lost
      ({ r with life := { r.life with replayed := true } }).pslRecompute.bootLeave := by
  unfold Dev.replayComplete; simp [hm, hf, hg, hr]

end Sys2Proof.Machine
end

section
open Sys2Proof Sys2Proof.Machine

/-- Settles O7, clause by clause: each command finds its trigger holding and has the effect of its transition. -/
theorem startUp : Obligations.StartUp := by
  refine ⟨fun d hm => ?rails, fun d headSel hm => ?boot, fun d headSel => ?testLow, fun d a b m g hm hf hr hh hn ha hb h1 => ?mordant,
    fun d a b hm hf hr hh ha ha' hb hb' => ?mordantNone, fun d b hm hf hr hg hi hs hb _ => ?glaze,
    fun d a b hm hf hr hg hi hs ha ha' hb hb' => ?glazeNone, fun d lost hm hf hg hr => ?replay, fun d hi hb hr => ?perst⟩
  case rails => exact ends_run exec_mainRailsRising (if_neg (fun h => h hm))
  case boot => exact ends_run (exec_bootEntry headSel true) (bootEntry_reset hm)
  case testLow => exact ends_run (exec_bootEntry headSel false) (bootEntry_testLow headSel d)
  case mordant => exact ends_run (exec_mordantVerified a b) (mordantVerified_named ⟨hm, hf, hr, hh⟩ hn ha hb h1)
  case mordantNone => exact ends_run (exec_mordantVerified a b) (mordantVerified_none ⟨hm, hf, hr, hh⟩ ⟨ha, ha'⟩ ⟨hb, hb'⟩)
  case glaze =>
    intro g r e
    have he : e = g.glazeRuns := rfl
    show Ends afterAll (.glazeRelease 1 b) d e.unformattedToMaint
    rw [he]
    exact ends_run (exec_glazeRelease 1 b) (glazeRelease_named ⟨hm, hf, hr, hg, hi, hs⟩ hb)
  case glazeNone => exact ends_run (exec_glazeRelease a b) (glazeRelease_none ⟨hm, hf, hr, hg, hi, hs⟩ ⟨ha, ha'⟩ ⟨hb, hb'⟩)
  case replay => exact ends_run (exec_replayComplete lost) (replayComplete_due lost hm hf hg hr)
  case perst => exact ends_run exec_perstNRise ((if_neg (by simp [hi])).trans (if_neg (not_or.2 ⟨hb, hr⟩)))
end

section
/-! PROOFS. Shutdown, MAINT and RESTART (R34, R35). -/
namespace Sys2Proof.Machine
open Sys2Proof

/-! ### Shutdown, MAINT, RESTART (R34, R35) -/

theorem shutdown_again {d : Dev} (h : d.life.shutDone = true) : d.shutdown = d := if_pos h

theorem shutdown_first {d : Dev} (h : d.life.shutDone = false) :
    d.shutdown = { d with life := { d.life with shutting := true }, recd := { d.recd with due := true } } := if_neg (by simp [h])

/-- Everything that SHUTDOWN_COMPLETE waits for is done, but for replay. -/
def Dev.quietForShutdown (d : Dev) : Prop :=
  d.life.shutting = true ∧ d.flights = [] ∧ d.cache = [] ∧ d.fab.stripes = [] ∧ d.ftl.logs = [] ∧ d.recd.pending = []

theorem shutdownComplete_replayed {d : Dev} (h : d.quietForShutdown) (hr : d.life.replayed = true) :
    d.shutdownComplete =
      let g := (d.closeOpen.journalDown.newGen true).mapGen (fun g => { g with done := g.plan.map List.length, ended := true })
      let e := match g.plp.gens.getLast? with
        | some x => g.showFlush x
        | none => g
      { e with life := { e.life with shutting := false, shutDone := true } } := by
  obtain ⟨hs, hf, hc, ht, hl, hp⟩ := h
  unfold Dev.shutdownComplete
  exact (if_neg (by simp [hs, hf, hc, ht, hl, hp, hr])).trans (if_neg (by simp [hr]))

theorem shutdownComplete_maint {d : Dev} (h : d.quietForShutdown) (hr : d.life.replayed = false) (hm : d.life.mode = .maint) :
    d.shutdownComplete = { d with life := { d.life with shutting := false, shutDone := true } } := by
  obtain ⟨hs, hf, hc, ht, hl, hp⟩ := h
  unfold Dev.shutdownComplete
  rw [if_neg (by simp [hs, hf, hc, ht, hl, hp, hm]), if_pos (by simp [hr])]

theorem maintEntry_due {d : Dev} (hr : d.life.maintReq = true) (hf : d.life.fatal = false) (hm : Mode.conditional d.life.mode = true)
    (hq : d.flights = []) (hc : d.cache = []) (ht : d.fab.stripes = []) :
    d.maintEntry = { d.toMaint with recd := { d.recd with due := true } } := by
  have hfrom : (d.life.mode == .active || d.life.mode == .degraded || d.life.mode == .fenced || d.life.mode == .readonly) = true := by
    cases h : d.life.mode <;> simp [h, Mode.conditional] at hm ⊢
  unfold Dev.maintEntry
  rw [if_pos (by simp only [hr, hfrom, hf, hq, hc, ht]; rfl)]

theorem restart_early {d : Dev} (hs : d.wakes.life.shutDone = false) (hm : d.wakes.life.mode ≠ .maint) : d.restart = d.wakes := by
  unfold Dev.restart; simp [hs, hm]

theorem restart_resets {d : Dev} (hs : d.wakes.life.shutDone = true ∨ d.wakes.life.mode = .maint) (hm : restartMode d.wakes.life.mode = true)
    (hc : d.wakes.cache = []) (ht : d.wakes.fab.stripes = []) : d.restart = d.wakes.journalDown.deviceReset false 4 false := by
  unfold Dev.restart
  have ho : ¬((!d.wakes.life.shutDone && d.wakes.life.mode != .maint) || !restartMode d.wakes.life.mode) = true := by
    rw [hm]; rcases hs with hs | hs <;> simp [hs]
  rw [if_neg ho, if_neg (by simp [hc, ht])]

end Sys2Proof.Machine
end

section
open Sys2Proof Sys2Proof.Machine

/-- Settles O9, clause by clause: the three written bits of MODE_CTL and the completions that answer them, each where its trigger holds. -/
theorem shutdownMaintRestart : Obligations.ShutdownMaintRestart := by
  refine ⟨fun d r ht hs => ?shutdown, fun d r ht hs => ?shutdownAgain, fun d hs hf hc ht hl hp hr => ?complete,
    fun d hs hf hc ht hl hp hr hm => ?completeMaint, fun d r ht => ?maintReq, fun d hr hf hm hq hc ht => ?maintEntry,
    fun d r ht hs hm hc hst => ?restart, fun d r ht hs hm => ?restartEarly⟩
  case shutdown => exact ends_write (exec_shutdown r) ht (shutdown_first ((taken_shutDone ..).trans hs))
  case shutdownAgain => exact ends_write (exec_shutdown r) ht (shutdown_again ((taken_shutDone ..).trans hs))
  case complete => exact ⟨_, ends_run exec_shutdownComplete (shutdownComplete_replayed ⟨hs, hf, hc, ht, hl, hp⟩ hr), rfl⟩
  case completeMaint => exact ends_run exec_shutdownComplete (shutdownComplete_maint ⟨hs, hf, hc, ht, hl, hp⟩ hr hm)
  case maintReq => exact ends_write (exec_maintReq r) ht rfl
  case maintEntry => exact ends_run exec_maintEntry (maintEntry_due hr hf hm hq hc ht)
  case restart => exact ends_write (exec_restart r) ht (restart_resets hs hm hc hst)
  case restartEarly => exact ends_write (exec_restart r) ht (restart_early hs hm)
end

section
/-! PROOFS. The idle timer, the wake, patrol and the power domains (R592 to R602). -/
namespace Sys2Proof.Machine
open Sys2Proof

/-! ### IDLE (R594 to R598) -/

theorem idleExpiry_due {d : Dev} {t : Nat} (ht : d.life.idleSince = some t) (hf : d.life.fatal = false) (hm : d.life.mode = .active)
    (hc : d.idleCond = true) (he : d.life.entry = .none) (hu : d.idleUs ≠ 0) (hd : d.idleUs ≤ d.life.usUp - t) :
    d.idleExpiry = { d.setRegF .PWR 0 Reg.PWR_PWR_STS 2 1 1 with life := { d.life with entry := .quiescing } } := by
  unfold Dev.idleExpiry; rw [ht]
  exact if_pos (by simp [hf, hm, hc, he, hu, hd])

theorem quiesceAck_holds {d : Dev} (he : d.life.entry = .quiescing) (hf : d.life.fatal = false) (hm : d.life.mode = .active)
    (hc : d.idleCond = true) :
    d.quiesceAck =
      let o := d.entryOver false
      let a : Dev := { o.setMode .idle with doms := o.doms.modify 12 (fun x => { x with retained := true }) }
      ({ a with life := { a.life with idleAt := a.life.usUp } }).incWrap .PWR 0 Reg.PWR_IDLE_CNT 1 := by
  unfold Dev.quiesceAck
  rw [if_neg (by simp [he, hf, hm])]
  exact if_neg (by simp [hc])

theorem quiesceLate_due {d : Dev} (he : d.life.entry = .quiescing) : d.quiesceLate = (d.entryOver true).raiseErr .PWR 0 2 noDetail :=
  if_neg (fun h => h he)

theorem wakeSource_none {c : WakeCause} {d : Dev} (he : d.life.entry = .none) : Dev.wakeSource c d = d.wakeFor c := by
  unfold Dev.wakeSource; rw [he]

theorem wakeSource_latched {c : WakeCause} {d : Dev} (he : d.life.entry = .quiescing) (hr : d.life.wakeReq = none) :
    Dev.wakeSource c d = { d with life := { d.life with wakeReq := some c } } := by
  unfold Dev.wakeSource; rw [he]; exact if_neg (by simp [hr])

/-! ### PATROL (R599 to R602) -/

theorem patrolExpiry_due {d : Dev} (hm : d.life.mode = .idle) (hf : d.life.fatal = false) (hs : d.regF .PWR 0 Reg.PWR_PATROL_CFG 0 16 ≠ 0)
    (hu : d.idleUs ≠ 0) (hd : d.regF .PWR 0 Reg.PWR_PATROL_CFG 0 16 * 1000000 ≤ d.life.usUp - d.life.idleAt) :
    d.patrolExpiry =
      let w := d.wakeFor .patrolTimer
      let e := w.setRegF .PWR 0 Reg.PWR_PWR_STS 2 1 1
      if w.patrolCond = true then { e with life := { e.life with entry := .patrolEntering } } else w := by
  unfold Dev.patrolExpiry
  exact if_pos (by simp [hm, hf, hs, hu, hd])

theorem patrolEntered_due {d : Dev} (he : d.life.entry = .patrolEntering) (hf : d.life.fatal = false) (hm : d.life.mode = .active)
    (hp : d.patrolCond = true) (hr : d.ftl.rows = []) (hc : d.idleCond = true) :
    d.patrolEntered =
      let o := d.entryOver false
      let a : Dev := { o.setMode .patrol with doms := o.doms.mapIdx (fun i x => if i = 0 then x
        else if i = 10 ∨ i = 13 then { x with stage := 0, retained := true }
        else if x.st = .serving then { x with stage := 0, retained := true } else x) }
      a.incWrap .PWR 0 Reg.PWR_PATROL_CNT 1 := by
  unfold Dev.patrolEntered
  exact if_neg (by simp [he, hf, hm, hp, hr, hc])

theorem wakeSentinels_nil {d : Dev} (h : d.sentinels = []) : d.wakeSentinels = [] := by
  unfold Dev.wakeSentinels; simp [h]

/-- A patrol wake that no valid sentinel takes part in leaves the device as it is, whatever is read. -/
theorem patrolWake_none {d : Dev} (rs : List (Option Nat)) (h : d.sentinels = []) : Dev.patrolWake rs d = d := by
  unfold Dev.patrolWake; rw [wakeSentinels_nil h]; exact ite_self d

/-- One sentinel read with fewer corrected bits than the patrol's bound: its result is stored and NEXT_SENT moves on (R602). -/
theorem patrolWake_one {d : Dev} {n b : Nat} (hm : d.life.mode = .patrol) (hf : d.life.fatal = false) (hw : d.wakeSentinels = [n])
    (hb : b < d.patrolBits) :
    Dev.patrolWake [some b] d =
      (d.setRegF .PWR 0 (Reg.PWR_SENT_0 + 16 * n + 12) 16 16 (min 0xfffe b)).setRegF .PWR 0 Reg.PWR_PWR_STS 4 6 ((n + 1) % 64) := by
  unfold Dev.patrolWake
  rw [if_neg (by simp [hm, hf]), hw]
  exact if_pos (by simp [hb])

/-! ### Power domains (R592, R593) -/

theorem stageReady_starting {d : Dev} {n : Nat} (hn : n < 16) (hs : (d.dom n).stage < 4) (ht : (d.dom n).st = .starting) :
    Dev.stageReady n d =
      d.setDom n { stage := (d.dom n).stage + 1, st := if (d.dom n).stage = 3 then .serving else .starting, retained := false } := by
  unfold Dev.stageReady
  rw [if_neg (by simp [ht]; omega), ht]

theorem stageTimeout_starting {d : Dev} {n : Nat} (hn : n < 16) (hs : (d.dom n).stage < 4) (ht : (d.dom n).st = .starting) :
    Dev.stageTimeout n d =
      if 1 ≤ n ∧ n ≤ 10 then d.raiseErrAs .PWR 0 0 2 noDetail n else (d.containDomain n).raiseErr .PWR 0 1 noDetail := by
  unfold Dev.stageTimeout
  exact if_neg (by simp [ht]; omega)

end Sys2Proof.Machine
end

section
open Sys2Proof Sys2Proof.Machine

/-- Settles O12, clause by clause: each timer, acknowledgement and domain event finds its trigger holding. -/
theorem idleAndPatrol : Obligations.IdleAndPatrol := by
  refine ⟨fun d t ht hf hm hc he hu hd => ?idleTimer, fun d he hf hm hc => ?ack, fun d he => ?late, fun d c he _ => ?wake,
    fun d c he hr => ?latched, fun d hm hw => ?work, fun d hm hf hs hu hd => ?patrolTimer, fun d he hf hm hp hr hc => ?patrolEntry,
    fun d bits _ hs => ?wakeNone, fun d n b hm hf hw hb => ?wakeOne, fun d n hn hs ht => ?ready, fun d n h1 h10 hs ht => ?timeout,
    fun d n h0 hn hs ht => ?timeoutOther⟩
  case idleTimer => exact ends_run exec_idleTimerExpiry (idleExpiry_due ht hf hm hc he hu hd)
  case ack => exact ends_run exec_quiesceAck (quiesceAck_holds he hf hm hc)
  case late => exact ends_run exec_quiesceLate (quiesceLate_due he)
  case wake => exact ends_run (exec_wake c) (wakeSource_none he)
  case latched => exact ends_run (exec_wake c) (wakeSource_latched he hr)
  case work => exact ends_run exec_workTimerExpiry (if_pos (by simp [hm, hw]))
  case patrolTimer => exact ends_run exec_patrolTimerExpiry (patrolExpiry_due hm hf hs hu hd)
  case patrolEntry => exact ends_run exec_patrolEntryComplete (patrolEntered_due he hf hm hp hr hc)
  case wakeNone => exact ends_run (exec_patrolWake _) (patrolWake_none _ hs)
  case wakeOne => exact ends_run (exec_patrolWake _) (patrolWake_one hm hf hw hb)
  case ready => exact ends_run (exec_domainStageReady n) (stageReady_starting hn hs ht)
  case timeout => exact ends_run (exec_domainStageTimeout n) ((stageTimeout_starting (by omega) hs ht).trans (if_pos ⟨h1, h10⟩))
  case timeoutOther => exact ends_run (exec_domainStageTimeout n) ((stageTimeout_starting hn hs ht).trans (if_neg (by omega)))
end

section
/-! PROOFS. The path of a command through its queue (R110 to R135). -/
namespace Sys2Proof.Machine
open Sys2Proof

/-! ### Doorbells and slots (R110, R113, R114) -/

theorem doorbell_open {d : Dev} {r : Requester} {q : Nat} {bits : W32} (ht : d.takes r (qPage q).1 (qPage q).2 Reg.HQ_DOORBELL = true)
    (ho : d.doorOpen q = true) :
    Dev.doorbell r q bits d =
      let t := d.taken r (qPage q).1 (qPage q).2
      let ts := bitList bits.toNat 32
      let e := if ts.any (t.rung q) = true then t.raiseErr (qPage q).1 (qPage q).2 1 noDetail else t
      e.ring q (ts.filter (fun x => !e.rung q x)) := by
  unfold Dev.doorbell; rw [ho]; exact regWriteElse_takes _ _ ht

theorem doorbell_shut {d : Dev} {r : Requester} {q : Nat} {bits : W32} (ht : d.takes r (qPage q).1 (qPage q).2 Reg.HQ_DOORBELL = true)
    (ho : d.doorOpen q = false) :
    Dev.doorbell r q bits d = (d.noteWake r (qPage q).1).raiseErr (qPage q).1 (qPage q).2 2 noDetail := by
  unfold Dev.doorbell; rw [ho]; exact regWriteElse_else _ _ ht

section
variable {d : Dev} {r : Requester} {q o : Nat} {bs : List Byte} (hf : slotForm o bs.length = true)
  (ht : d.takes r (qPage q).1 (qPage q).2 (0x800 + o) = true) (hc : ¬(d.life.mode = .compat ∧ r.dom = .host ∧ r.i3c = false ∧ q = 0))
include hf ht hc

/-- A taken write to a free slot stores its bytes. -/
theorem slotWrite_free (hb : d.rung q (o / 64) = false) :
    Dev.slotWrite r q o bs d = (d.taken r (qPage q).1 (qPage q).2).slotStore q o bs := by
  unfold Dev.slotWrite
  rw [if_neg (by simp [hf]), hb]
  exact (if_neg (by simpa using hc)).trans (regWriteElse_takes _ _ ht)

/-- One to a slot whose doorbell bit stands reports SLOT_BUSY and stores nothing. -/
theorem slotWrite_busy (hb : d.rung q (o / 64) = true) :
    Dev.slotWrite r q o bs d = (d.noteWake r (qPage q).1).raiseErr (qPage q).1 (qPage q).2 0 noDetail := by
  unfold Dev.slotWrite
  rw [if_neg (by simp [hf]), hb]
  exact (if_neg (by simpa using hc)).trans (regWriteElse_else _ _ ht)
end

/-! ### Admission and lists (R117, R131, R135) -/

theorem grantOne_chooses {d : Dev} {e t q g : Nat} (he : e < 4) (hf : d.fetching = true) (hc : d.choose e = some (t, q, g)) :
    Dev.grantOne e d = (((d.arbWin (arbTint e) 1024 t).arbWin (arbQueue e t) 2560 q).arbWin (arbTag q) 32 g).admitTag e t q g := by
  unfold Dev.grantOne
  rw [if_neg (by simp [hf, he]), hc]

/-- The entries of a native list once the next block is read, of which the device has `f.descs` (R117). -/
def Flight.listRead (f : Flight) (xs : List Desc) : List Desc := f.descs ++ xs.take (listBlock f.cmd.dataAddr f.descs.length)

section
variable {d : Dev} {q tag : Nat} {f : Flight} (hf : d.flight q tag = some f)
include hf

section
variable {xs : List Desc} (hs : f.stage = .list) (hn : nbit f.cmd.flags 8 = false)
include hs hn

theorem listFetch_more (hw : walkList f.buffer 0 0 (f.listRead xs) = .more) (hl : listBlock f.cmd.dataAddr f.descs.length ≤ xs.length) :
    Dev.listFetch q tag xs d = d.setFlight { f with descs := f.listRead xs } := by
  unfold Flight.listRead at hw ⊢
  have hl' : ¬xs.length < listBlock f.cmd.dataAddr f.descs.length := Nat.not_lt.2 hl
  unfold Dev.listFetch
  simp only [hf, hs, hn, hw, hl', ne_eq, not_true_eq_false, Bool.false_eq_true, if_false]

theorem listFetch_ok (hw : walkList f.buffer 0 0 (f.listRead xs) = .ok) :
    Dev.listFetch q tag xs d = d.listGood { f with descs := listUsed f.buffer 0 (f.listRead xs) } := by
  unfold Flight.listRead at hw ⊢
  unfold Dev.listFetch
  simp only [hf, hs, hn, hw, ne_eq, not_true_eq_false, Bool.false_eq_true, if_false]

theorem listFetch_bad {detail n : Nat} (hw : walkList f.buffer 0 0 (f.listRead xs) = .bad detail n) :
    Dev.listFetch q tag xs d =
      ((d.post f St.lengthMismatch 0 detail f.buffer n f.cmd.addr 0).padExtent f).freeze q Fz.length (some (tag, f.cmd.shownOp)) [] := by
  unfold Flight.listRead at hw
  unfold Dev.listFetch
  simp only [hf, hs, hn, hw, ne_eq, not_true_eq_false, Bool.false_eq_true, if_false]
end

/-! ### Data, installation, completion of a read (R15, R20, R79) -/

theorem dataArrived_installs {ss xs : List SectorIn} {e : Dev} (hs : f.stage = .data) (ho : [0x02, 0x10, 0x20].contains f.cmd.opcode = true)
    (hw : d.withPushed f ss = some (xs, e)) : Dev.dataArrived q tag ss d = e.dataIn f xs := by
  unfold Dev.dataArrived
  simp only [hf, hs, ho, hw, ne_eq, not_true_eq_false, Bool.not_true, Bool.false_eq_true, or_self, if_false]

theorem linesFree_first (hs : f.stage = .lines) (hw : d.flights.any (fun x => x.stage == .lines && decide (x.order < f.order)) = false) :
    d.linesFree q tag = d.atInstall f := by
  unfold Dev.linesFree
  simp only [hf, hs, hw, ne_eq, not_true_eq_false, Bool.false_eq_true, or_self, if_false]

theorem readWritten_settled (hs : f.stage = .xfer) (hj : settledJobs f.jobs = true)
    (ho : [0x01, 0x11, 0x21, 0x23, 0x32, 0x61].contains f.cmd.opcode = true) :
    Dev.readWritten q tag d = ((d.dmaOut f (f.jobs.flatMap (fun j => j.st.data))).piDma f).postOk f f.readResult := by
  unfold Dev.readWritten
  simp only [hf, hs, hj, ho, and_self, if_true]

theorem dmaFail_reading {detail : Nat} (hr : f.reads = true) :
    Dev.dmaFail q tag detail d =
      ((d.failFreeze f St.dmaFault Fz.dma detail 0 0).padExtent f).aerLog (d.qOwner q) (dmaAerBit detail) true detail := by
  unfold Dev.dmaFail
  simp only [hf, hr, if_true]
end

theorem gateAdmit_next {d : Dev} {g : Nat} {b : Bucket} {f : Flight} (hg : d.gates[g]? = some b) (hw : d.nextWaiter g b.waiters [] = some f) :
    Dev.gateAdmit g d =
      let e : Dev := { d with gates := d.gates.modify g (fun x => { x with waiters := x.waiters.filter (fun w => !(w.1 == f.q && w.2 == f.tag)) }) }
      (e.chargeFor f).passed f := by
  unfold Dev.gateAdmit
  simp only [hg, hw]

end Sys2Proof.Machine
end

section
open Sys2Proof Sys2Proof.Machine

/-- Settles O24, clause by clause: each step of a command's path finds its stage and has its effect. -/
theorem queuePath : Obligations.QueuePath := by
  refine ⟨fun d r q bits ht ho => ?rung, fun d r q bits ht ho _ => ?ignored, fun d r q o bs hf ht hb hc => ?slot,
    fun d r q o bs hf ht hb hc => ?slotBusy, fun d e t q g he hf hc => ?grant, fun d q tag f xs hf hs hn hw hl => ?listMore,
    fun d q tag f xs hf hs hn hw => ?listOk, fun d q tag f xs dt n hf hs hn hw => ?listBad, fun d g b f hg hw => ?gate,
    fun d q tag f ss xs e hf hs ho hw => ?data, fun d q tag f hf hs hw => ?lines, fun d q tag f hf hs hj ho => ?written,
    fun d q tag f err hf hr => ?dmaError, fun d q tag f hf hr => ?malformed⟩
  case rung => exact ends_run (exec_doorbell r q bits) (doorbell_open ht ho)
  case ignored => exact ends_run (exec_doorbell r q bits) (doorbell_shut ht ho)
  case slot => exact ends_run (exec_slotWrite r q o bs) (slotWrite_free hf ht hc hb)
  case slotBusy => exact ends_run (exec_slotWrite r q o bs) (slotWrite_busy hf ht hc hb)
  case grant => exact ends_runCmd (exec_admitNext e) (grantOne_chooses he hf hc)
  case listMore => exact ends_runCmd (exec_descriptorFetch q tag xs) (listFetch_more hf hs hn hw hl)
  case listOk => exact ends_runCmd (exec_descriptorFetch q tag xs) (listFetch_ok hf hs hn hw)
  case listBad => exact ends_runCmd (exec_descriptorFetch q tag xs) (listFetch_bad hf hs hn hw)
  case gate => exact ends_runCmd (exec_gateAdmit g) (gateAdmit_next hg hw)
  case data => exact ends_runCmd (exec_dataArrived q tag ss) (dataArrived_installs hf hs ho hw)
  case lines => exact ends_runCmd (exec_installWaitLines q tag) (congrArg Dev.fabKick (linesFree_first hf hs hw))
  case written => exact ends_runCmd (exec_readDataWritten q tag) (readWritten_settled hf hs hj ho)
  case dmaError => exact ends_runCmd (exec_dmaReadError q tag err) (dmaFail_reading hf hr)
  case malformed => exact ends_runCmd (exec_malformedCompletion q tag) (dmaFail_reading hf hr)
end

section
/-! PROOFS. Bits of register words, keys of registers, interrupt requests (R46, R53, R54). -/
namespace Sys2Proof.Machine
open Sys2Proof

/-! ### Bits and fields of a word -/

theorem fld_bit (w : W32) (b : Nat) : fld w b 1 = (w.getLsbD b).toNat := by
  rw [BitVec.getLsbD, Nat.toNat_testBit, fld, Nat.shiftRight_eq_div_pow, Nat.pow_one]

/-- A digit below its base leaves the number below the next one. -/
theorem mul_add_lt_mul {a b m k : Nat} (ha : a < m) (hb : b < k) : a * k + b < m * k :=
  calc a * k + b < a * k + k := Nat.add_lt_add_left hb _
    _ = (a + 1) * k := (Nat.succ_mul a k).symm
    _ ≤ m * k := Nat.mul_le_mul_right k ha

/-- What lies above a field, the field, what lies below it. -/
theorem field_split (w lo n : Nat) : (w / 2 ^ (lo + n) * 2 ^ n + w / 2 ^ lo % 2 ^ n) * 2 ^ lo + w % 2 ^ lo = w := by
  rw [Nat.pow_add, ← Nat.div_div_eq_div_mul, Nat.div_add_mod', Nat.div_add_mod']

/-- A word with one field replaced: what lay above the field, the new value, what lay below it. -/
theorem setFld_toNat (w : W32) {lo n : Nat} (v : Nat) (h : lo + n ≤ 32) :
    (setFld w lo n v).toNat = (w.toNat / 2 ^ (lo + n) * 2 ^ n + v % 2 ^ n) * 2 ^ lo + w.toNat % 2 ^ lo := by
  have htop : w.toNat / 2 ^ (lo + n) < 2 ^ (32 - lo - n) := by
    rw [Nat.div_lt_iff_lt_mul (Nat.two_pow_pos _), ← Nat.pow_add, show 32 - lo - n + (lo + n) = 32 by omega]; exact w.isLt
  have hupper : w.toNat / 2 ^ (lo + n) * 2 ^ n + v % 2 ^ n < 2 ^ (32 - lo) := by
    have hlt := mul_add_lt_mul htop (Nat.mod_lt v (Nat.two_pow_pos n))
    rwa [← Nat.pow_add, show 32 - lo - n + n = 32 - lo by omega] at hlt
  have hlt : (w.toNat / 2 ^ (lo + n) * 2 ^ n + v % 2 ^ n) * 2 ^ lo + w.toNat % 2 ^ lo < 2 ^ 32 := by
    have hlt := mul_add_lt_mul hupper (Nat.mod_lt w.toNat (Nat.two_pow_pos lo))
    rwa [← Nat.pow_add, show 32 - lo + lo = 32 by omega] at hlt
  have hsplit := field_split w.toNat lo n
  rw [Nat.add_mul] at hsplit hlt ⊢
  rw [setFld, BitVec.toNat_ofNat, Nat.shiftRight_eq_div_pow, Nat.mod_eq_of_lt] <;> omega

section
variable (w : W32) {lo n : Nat} (v : Nat) (h : lo + n ≤ 32)
include h

theorem setFld_mod : (setFld w lo n v).toNat % 2 ^ lo = w.toNat % 2 ^ lo := by
  rw [setFld_toNat w v h, Nat.add_comm, Nat.add_mul_mod_self_right, Nat.mod_mod]

theorem setFld_div : (setFld w lo n v).toNat / 2 ^ lo = w.toNat / 2 ^ (lo + n) * 2 ^ n + v % 2 ^ n := by
  rw [setFld_toNat w v h, Nat.add_comm, Nat.add_mul_div_right _ _ (Nat.two_pow_pos _), Nat.div_eq_of_lt (Nat.mod_lt _ (Nat.two_pow_pos _)),
    Nat.zero_add]

theorem setFld_div_above : (setFld w lo n v).toNat / 2 ^ (lo + n) = w.toNat / 2 ^ (lo + n) := by
  rw [Nat.pow_add, ← Nat.div_div_eq_div_mul, setFld_div w v h, Nat.add_comm, Nat.add_mul_div_right _ _ (Nat.two_pow_pos _),
    Nat.div_eq_of_lt (Nat.mod_lt _ (Nat.two_pow_pos _)), Nat.zero_add, Nat.pow_add]

/-- A field reads what was stored in it, modulo its width. -/
theorem fld_setFld_same : fld (setFld w lo n v) lo n = v % 2 ^ n := by
  rw [fld, Nat.shiftRight_eq_div_pow, setFld_div w v h, Nat.add_comm, Nat.add_mul_mod_self_right, Nat.mod_mod]

theorem getLsbD_setFld_below {b : Nat} (hb : b < lo) : (setFld w lo n v).getLsbD b = w.getLsbD b := by
  have hbit := congrArg (fun x => x.testBit b) (setFld_mod w v h)
  simpa only [BitVec.getLsbD, Nat.testBit_mod_two_pow, hb, decide_true, Bool.true_and] using hbit

theorem getLsbD_setFld_above {b : Nat} (hb : lo + n ≤ b) : (setFld w lo n v).getLsbD b = w.getLsbD b := by
  have hbit := congrArg (fun x => x.testBit (b - (lo + n))) (setFld_div_above w v h)
  simpa only [BitVec.getLsbD, Nat.testBit_div_two_pow, Nat.sub_add_cancel hb] using hbit
end

theorem regB_eq (d : Dev) (p : PT) (i off b : Nat) : d.regB p i off b = (d.reg p i off).getLsbD b := by
  rw [Dev.regB, Dev.regF, fld_bit]; cases (d.reg p i off).getLsbD b <;> rfl

/-- A word is not 0 exactly when some bit of it is 1. -/
theorem bne_zero_iff_bit (w : W32) : (w != 0#32) = true ↔ ∃ b, b < 32 ∧ w.getLsbD b = true := by
  rw [bne_iff_ne]
  constructor
  · intro h
    refine Classical.byContradiction fun hn => h (BitVec.eq_of_getLsbD_eq fun b hb => ?_)
    rw [BitVec.getLsbD_zero]
    exact Bool.eq_false_iff.2 fun ht => hn ⟨b, hb, ht⟩
  · rintro ⟨b, -, hb⟩ rfl
    rw [BitVec.getLsbD_zero] at hb
    cases hb

/-! ### Keys and stores of registers -/

/-- The key of a register names its page and its offset. -/
theorem key_inj {p q : PT} {i j x y : Nat} (h : p.key i x = q.key j y) : p = q ∧ i % 0x1000 = j % 0x1000 ∧ x % 0x1000 = y % 0x1000 := by
  unfold PT.key at h
  exact ⟨code_inj (by omega), by omega, by omega⟩

theorem reg_setRegF_same (d : Dev) (p : PT) (i off lo n v : Nat) : (d.setRegF p i off lo n v).reg p i off = setFld (d.reg p i off) lo n v :=
  reg_setReg_same d p i off _

/-! ### What a write may change besides its own effect (R53, R59, R596) -/

theorem noteWake_reg (d : Dev) (r : Requester) (p q : PT) (j off : Nat) : (d.noteWake r p).reg q j off = d.reg q j off := by
  rw [noteWake_eq]; rfl

theorem taken_pageSeq (d : Dev) (r : Requester) (p : PT) (i : Nat) :
    (d.taken r p i).reg p i Reg.PAGE_SEQ = d.reg p i Reg.PAGE_SEQ + 1#32 := by
  unfold Dev.taken Dev.countWrite Dev.incWrap Dev.setRegN
  rw [reg_setReg_same, Dev.regN, noteWake_reg, BitVec.ofNat_add, BitVec.ofNat_toNat, BitVec.setWidth_eq]

/-- An event that waits for the collector is in no register. -/
theorem event_reg (d : Dev) (e : Ev) (q : PT) (j off : Nat) : (d.event e).reg q j off = d.reg q j off := by
  unfold Dev.event; split <;> rfl

/-- Reporting an error touches ERR_STS and IRQ_STS of its page and no other register. -/
theorem raiseErr_reg (d : Dev) {p q : PT} {i j x : Nat} (b detail : Nat) (he : q.key j x ≠ p.key i Reg.ERR_STS)
    (hs : q.key j x ≠ p.key i Reg.IRQ_STS) : (d.raiseErr p i b detail).reg q j x = d.reg q j x := by
  unfold Dev.raiseErr
  dsimp only
  split
  · rw [event_reg, setIrq_reg _ _ _ _ _ _ _ hs]; exact reg_setReg_ne d _ he
  · exact reg_setReg_ne d _ he

/-! ### The three ways in which a row writes (R44, R59, R60, R556) -/

theorem regWrite_eq_else (d : Dev) (r : Requester) (p : PT) (i off : Nat) (f g : Dev → Dev) :
    d.regWrite r p i off f = d.regWriteElse r p i off true f g := rfl

theorem regWriteIf_eq_else (d : Dev) (r : Requester) (p : PT) (i off : Nat) (ok : Bool) (f : Dev → Dev) :
    d.regWriteIf r p i off ok f = d.regWriteElse r p i off ok f id := rfl

section
variable {d : Dev} {r : Requester} {p : PT} {i off : Nat}

/-- What holds of a write whatever its own effect holds of the three ways of writing. -/
theorem every_write {e : Dev} (h : ∀ ok f g, d.regWriteElse r p i off ok f g = e) (f g : Dev → Dev) (ok : Bool) :
    d.regWrite r p i off f = e ∧ d.regWriteIf r p i off ok f = e ∧ d.regWriteElse r p i off ok f g = e :=
  ⟨(regWrite_eq_else d r p i off f g).trans (h true f g), (regWriteIf_eq_else d r p i off ok f).trans (h ok f id), h ok f g⟩

theorem regWriteElse_lost (hl : d.busUp = false ∨ d.life.fatal = true ∨ d.shows r p i = false) (ok : Bool) (f g : Dev → Dev) :
    d.regWriteElse r p i off ok f g = d.noteWake r p := by
  unfold Dev.regWriteElse
  refine if_pos ?_
  rw [noteWake_busUp, noteWake_fatal, noteWake_shows]
  rcases hl with h | h | h <;> simp [h]

theorem regWriteElse_stops (hs : d.stops r p i off = true) (ok : Bool) (f g : Dev → Dev) :
    d.regWriteElse r p i off ok f g = (d.noteWake r p).ownerViol r p i off := by
  simp only [Dev.stops, Bool.and_eq_true, Bool.not_eq_true'] at hs
  obtain ⟨⟨⟨hb, hf⟩, hv⟩, hm⟩ := hs
  unfold Dev.regWriteElse
  simp only [noteWake_busUp, noteWake_fatal, noteWake_shows, noteWake_mayWrite, noteWake_locked, hb, hf, hv]
  by_cases hw : d.mayWrite r p i = true
  · rw [hw, Bool.not_true, Bool.false_or] at hm
    simp only [hw, hm, Bool.not_true, Bool.or_false, Bool.false_eq_true, if_false, if_true]
  · simp [hw]

variable (hb : d.busUp = true) (hf : d.life.fatal = false) (hv : d.shows r p i = true)
include hb hf hv

theorem stops_of_owner (hm : d.mayWrite r p i = false) : d.stops r p i off = true := by
  simp [Dev.stops, hb, hf, hv, hm]

theorem stops_of_lock (hr : r.dom ≠ .secure) (hl : d.locked p i = true) (ho : off = Reg.OWNER ∨ 0x40 ≤ off) : d.stops r p i off = true := by
  rcases ho with rfl | ho
  · simp [Dev.stops, hb, hf, hv, hr]
  · simp [Dev.stops, hb, hf, hv, hr, hl, ho]

theorem takes_of_secure (hr : r.dom = .secure) : d.takes r p i off = true := by
  simp [Dev.takes, Dev.mayWrite, hb, hf, hv, hr]

theorem takes_of_owner (hm : d.mayWrite r p i = true) (h40 : off < 0x40) (ho : off ≠ Reg.OWNER) : d.takes r p i off = true := by
  have h : ¬0x40 ≤ off := Nat.not_le.2 h40
  simp [Dev.takes, hb, hf, hv, hm, h, ho]
end

/-- The host's view of its BARs shows no page while Memory Space Enable is off (R90). -/
theorem shows_host_closed {d : Dev} {r : Requester} (p : PT) (i : Nat) (hd : r.dom = .host) (hi : r.i3c = false) (hn : r.num = 0)
    (hm : (d.fn .pf).mse = false) : d.shows r p i = false := by
  have hp : proxied r = false := by simp [proxied, hn]
  have ho : d.fnOpen .pf = false := by simp [Dev.fnOpen, hm]
  unfold Dev.shows; rw [hd]; simp [hi, hp, ho]

/-! ### Writes that act not (R55) -/

/-- Devices that differ in the noted wake source and in PAGE_SEQ of one page at most. -/
def Dev.countedOnly (d e : Dev) (p : PT) (i : Nat) : Prop :=
  ∃ (w : Option WakeCause) (rs : List (Nat × W32)), e = { d with life := { d.life with wakeReq := w }, regs := rs } ∧
    ∀ (q : PT) (j x : Nat), q.key j x ≠ p.key i Reg.PAGE_SEQ → ({ d with regs := rs } : Dev).reg q j x = d.reg q j x

theorem taken_countedOnly (d : Dev) (r : Requester) (p : PT) (i : Nat) : d.countedOnly (d.taken r p i) p i :=
  ⟨_, _, taken_eq d r p i, fun _ _ _ h => taken_reg d r h⟩

theorem clearsAct_of_bit {d : Dev} {p : PT} {i b : Nat} {v : W32} (hb : b < p.errClasses.length) (hc : 3 ≤ p.errClasses.getD b 0)
    (ha : d.regB p i Reg.ERR_ACT b = true) (hv : fld v b 1 = 0) : d.clearsAct p i v = true :=
  List.any_eq_true.2 ⟨b, List.mem_range.2 hb, by rw [ha, hv, decide_eq_true hc]; rfl⟩

theorem errAct_ignored {d : Dev} {r : Requester} {p : PT} {i : Nat} {v : W32} (ht : d.takes r p i Reg.ERR_ACT = true) (hr : r.dom ≠ .secure)
    (hc : d.clearsAct p i v = true) : Dev.commonWord r p i Reg.ERR_ACT v d = d.taken r p i :=
  (regWrite_takes _ ht).trans (by simp [hr, hc])

theorem forceWrite_ignored {d : Dev} {r : Requester} {p : PT} {i : Nat} (f : Dev → Dev) (ht : d.takes r p i Reg.FORCE = true)
    (hr : r.dom ≠ .secure) : d.forceWrite r p i f = d.taken r p i :=
  (regWrite_takes _ ht).trans (by simp [hr])

theorem forceWrite_secure {d : Dev} {r : Requester} {p : PT} {i : Nat} (f : Dev → Dev) (ht : d.takes r p i Reg.FORCE = true)
    (hr : r.dom = .secure) : d.forceWrite r p i f = f (d.taken r p i) :=
  (regWrite_takes _ ht).trans (by simp [hr])

end Sys2Proof.Machine
end

section
open Sys2Proof Sys2Proof.Machine

/-- Settles O52: a store is read back, a field store splits the word in three, and a key names its register. -/
theorem registerStore : Obligations.RegisterStore := by
  refine ⟨fun d p i off v => ⟨reg_setReg_same d p i off v, fun q j x h => reg_setReg_ne d v h⟩,
    fun d p i off lo n v h => ⟨?field, fun b hb => ?other⟩, fun p q i j x y h e => ?keys⟩
  case field => rw [Dev.regF, reg_setRegF_same, fld_setFld_same _ _ h]
  case other =>
    rw [regB_eq, regB_eq, reg_setRegF_same]
    exact hb.elim (getLsbD_setFld_below _ v h) (getLsbD_setFld_above _ v h)
  case keys =>
    obtain ⟨hp, hi, hx⟩ := key_inj e
    exact h.elim (· hp) (·.elim (· hi) (· hx))

/-- Settles O57: noting the wake source and counting the write are all that happens. -/
theorem takenWriteFrame : Obligations.TakenWriteFrame :=
  fun d r p i => ⟨taken_eq d r p i, taken_pageSeq d r p i, fun _ _ _ h => taken_reg d r h⟩

/-- Settles O47: a word is not 0 exactly when it has a bit. -/
theorem pageInterruptRequest : Obligations.PageInterruptRequest := by
  intro d p i
  simp only [Dev.irqReq, bne_zero_iff_bit, BitVec.getLsbD_and, Bool.and_eq_true]

/-- Settles O45: LOCK stops a write whatever its effect, the report of R59 stays in two registers, and what LOCK spares is taken. -/
theorem lockedPageWrites : Obligations.LockedPageWrites := by
  refine ⟨fun d r p i off f g ok hb hf hv hr hl ho => ?stopped, fun d r p q i j off x he hs => ?report,
    fun d r p i off f hb hf hv hm ho => ?common, fun d r p i off f hb hf hv hr => ?secure⟩
  case stopped => exact every_write (regWriteElse_stops (stops_of_lock hb hf hv hr hl ho)) f g ok
  case report => exact (raiseErr_reg _ _ _ he hs).trans (noteWake_reg d r p q j x)
  case common =>
    refine regWrite_takes f (takes_of_owner hb hf hv hm ?_ ?_) <;> rcases ho with rfl | rfl | rfl | rfl | rfl <;> decide
  case secure => exact regWrite_takes f (takes_of_secure hb hf hv hr)

/-- Settles O51: the test of bus, C4 halt and view comes first, then that of OWNER. -/
theorem lostAndStoppedWrites : Obligations.LostAndStoppedWrites := by
  refine ⟨fun d r p i off f g ok hl => ?lost, fun d r p i off f g ok hb hf hv hm => ?discarded, fun d r p i hd hi hn hm => ?closed⟩
  case lost => exact every_write (regWriteElse_lost hl) f g ok
  case discarded => exact every_write (regWriteElse_stops (stops_of_owner hb hf hv hm)) f g ok
  case closed => exact shows_host_closed p i hd hi hn hm

/-- Settles O46: both writes are counted and, from any domain but the secure one, do no more. -/
theorem protectedActsAndForce : Obligations.ProtectedActsAndForce := by
  refine ⟨fun d r p i b v ht hr hb hc ha hv => ?act, fun d r p i f ht hr => ?ignored, fun d r p i f ht hr => ?secure⟩
  case act => rw [errAct_ignored ht hr (clearsAct_of_bit hb hc ha hv)]; exact taken_countedOnly d r p i
  case ignored => rw [forceWrite_ignored f ht hr]; exact taken_countedOnly d r p i
  case secure => exact forceWrite_secure f ht hr
end

section
/-! PROOFS. PAGE_CTL and the enable machine (R53, R60, R63, R672). -/
namespace Sys2Proof.Machine
open Sys2Proof

/-! ### Commands that name a page, and commands that ask the fabric -/

theorem ends_runFab {i : Instr} {f : Dev → Dev} {d e : Dev} (hx : ∀ s, exec i s = runFab f s) (he : f d = e) :
    Ends afterFabric i d e := fun q => by rw [hx, runFab_eq, he]

theorem withPage_some {ty : Nat} {p : PT} (f : PT → Dev → Dev) (d : Dev) (h : PT.ofCode ty = some p) : withPage ty f d = f p d := by
  rw [withPage, h]

/-! ### What taking a write leaves of a unit -/

theorem taken_unitSt (d : Dev) (r : Requester) (p q : PT) (i j : Nat) : (d.taken r p i).unitSt q j = d.unitSt q j := by
  rw [taken_eq]; rfl

theorem taken_unitFlr (d : Dev) (r : Requester) (p q : PT) (i j : Nat) : (d.taken r p i).unitFlr q j = d.unitFlr q j := by
  rw [taken_eq]; rfl

/-! ### The bits of a value written to PAGE_CTL (R53) -/

section
variable {p : PT} {i : Nat} {d : Dev}

theorem ctlWrite_enable (h : p.hasDrain = true) : Dev.ctlWrite p i 1#32 d = d.unitEnable p i := by unfold Dev.ctlWrite; rw [h]; rfl
theorem ctlWrite_disable (h : p.hasDrain = true) : Dev.ctlWrite p i 0#32 d = d.unitDisable p i := by unfold Dev.ctlWrite; rw [h]; rfl
theorem ctlWrite_drain (h : p.hasDrain = true) : Dev.ctlWrite p i 2#32 d = d.unitDrain p i := by unfold Dev.ctlWrite; rw [h]; rfl
theorem ctlWrite_reset (h : p.hasDrain = true) : Dev.ctlWrite p i 4#32 d = d.unitReset p i := by unfold Dev.ctlWrite; rw [h]; rfl
theorem ctlWrite_plain (h : p.hasDrain = false) : Dev.ctlWrite p i 4#32 d = d.srstPlain p := by unfold Dev.ctlWrite; rw [h]; rfl

/-! ### One written bit in one state (R63) -/

/-- Only a tenant queue has an allowance to pass (R380). -/
theorem overAllowed_of_ne (h : p ≠ .TQ) : d.overAllowed p i = false := by
  unfold Dev.overAllowed; split
  · exact absurd rfl h
  · rfl

theorem unitEnable_off (hs : d.unitSt p i = .off) (hp : p ≠ .TQ) (hf : d.unitFlr p i = false) :
    d.unitEnable p i = (d.setUnit p i .starting).cleanUnit p i := by
  unfold Dev.unitEnable; rw [hs, overAllowed_of_ne hp, hf]; rfl

theorem unitEnable_serving (hs : d.unitSt p i = .serving) : d.unitEnable p i = d.setUnit p i .serving := by
  unfold Dev.unitEnable; rw [hs]; rfl

theorem unitEnable_draining {e s : Bool} (hs : d.unitSt p i = .draining e s) : d.unitEnable p i = d.setUnit p i (.draining true s) := by
  unfold Dev.unitEnable; rw [hs]; rfl

theorem unitDisable_draining {e s : Bool} (hs : d.unitSt p i = .draining e s) :
    d.unitDisable p i = (d.setUnit p i (.draining false s)).drainCut p i := by
  unfold Dev.unitDisable; rw [hs]; rfl

theorem unitDisable_serving (hs : d.unitSt p i = .serving) :
    d.unitDisable p i = ((d.setUnit p i (.draining false false)).leaveServing p i .serving).cutWork p i := by
  unfold Dev.unitDisable; rw [hs]

theorem unitDrain_serving (hs : d.unitSt p i = .serving) :
    d.unitDrain p i = (d.setUnit p i (.draining false false)).leaveServing p i .serving := by
  unfold Dev.unitDrain; rw [hs]

theorem unitReset_serving (hs : d.unitSt p i = .serving) :
    d.unitReset p i = ((d.setUnit p i (.draining false true)).leaveServing p i .serving).cutWork p i := by
  unfold Dev.unitReset; rw [hs]

theorem unitReset_off (hs : d.unitSt p i = .off) : d.unitReset p i = d.loadUnit p i := by
  unfold Dev.unitReset; rw [hs]

/-- A drain whose work has ended goes to OFF, or through OFF to a clean start where EN was asked for meanwhile. -/
theorem unitDrained_idle {e s : Bool} (hi : d.drainIdle p i = true) (hs : d.unitSt p i = .draining e s) :
    d.unitDrained p i =
      let x := d.drainEnds p i
      let y := (if s = true then x.loadUnit p i else x).setUnit p i .off
      if e = true then (y.setUnit p i .starting).cleanUnit p i else y := by
  unfold Dev.unitDrained Dev.finishDrain; rw [if_pos hi, hs]

/-- An engine waits for nothing but its own time. -/
theorem unitStarted_engine (hs : d.page .QE i = .starting) : d.unitStarted .QE i = d.setPage .QE i .serving := by
  have hr : d.startReady .QE i = true := rfl
  exact if_neg (not_or_intro (not_not_intro hs) (by simp [hr]))
end

/-! ### The PAGE_CTL commands on a page -/

/-- No page with HAS_DRAIN holds VFs or domains. -/
theorem parts_not_drained {p : PT} (h : p.hasDrain = true) : p ≠ .VF ∧ p ≠ .PWR := by
  constructor <;> (rintro rfl; cases h)

section
variable {d : Dev} {r : Requester} {ty i : Nat} {p : PT} {e : Dev} (hp : PT.ofCode ty = some p) (hi : i < p.count)
  (hc : ¬(p = .HQ ∧ i = 0 ∧ d.life.mode = .compat)) (ht : d.takes r p i Reg.PAGE_CTL = true)
include hi hc ht

/-- An enable write to a page, not to a VF, a domain or the forerunner's queue, is a taken write of PAGE_CTL. -/
theorem unitWrite_page (f g : Dev → Dev) (hv : p ≠ .VF) (hw : p ≠ .PWR) : Dev.unitWrite r p i f g d = f (d.taken r p i) := by
  have hq : ¬(p = .HQ ∧ i = 0 ∧ d.life.mode = .compat ∧ r.dom = .host ∧ (!r.i3c) = true) :=
    fun ⟨h1, h2, h3, _⟩ => hc ⟨h1, h2, h3⟩
  unfold Dev.unitWrite
  rw [if_neg (fun h => hv h.1), if_neg (fun h => hw h.1), if_neg hq, if_pos hi]
  exact regWrite_takes f ht

include hp

theorem ends_pageCtl {c : Instr} {v : W32} {g : PT → Dev → Dev} (hv : p ≠ .VF) (hw : p ≠ .PWR)
    (hx : ∀ s, exec c s = runFab (withPage ty (fun p => Dev.unitWrite r p i (Dev.ctlWrite p i v) (g p))) s)
    (he : Dev.ctlWrite p i v (d.taken r p i) = e) : Ends afterFabric c d e :=
  ends_runFab hx ((withPage_some _ d hp).trans ((unitWrite_page hi hc ht _ _ hv hw).trans he))

theorem ends_lock (hv : p ≠ .VF) (hw : p ≠ .PWR) :
    Ends afterAll (.lock r ty i) d ((d.taken r p i).setRegF p i Reg.PAGE_CTL 3 1 1) :=
  ends_run (exec_lock r ty i) ((withPage_some _ d hp).trans (unitWrite_page hi hc ht _ _ hv hw))

variable (hd : p.hasDrain = true)
include hd

theorem ends_enSet (he : (d.taken r p i).unitEnable p i = e) : Ends afterFabric (.enSet r ty i) d e :=
  ends_pageCtl hp hi hc ht (parts_not_drained hd).1 (parts_not_drained hd).2 (exec_enSet r ty i) ((ctlWrite_enable hd).trans he)

theorem ends_enClear (he : (d.taken r p i).unitDisable p i = e) : Ends afterFabric (.enClear r ty i) d e :=
  ends_pageCtl hp hi hc ht (parts_not_drained hd).1 (parts_not_drained hd).2 (exec_enClear r ty i) ((ctlWrite_disable hd).trans he)

theorem ends_drain (he : (d.taken r p i).unitDrain p i = e) : Ends afterFabric (.drain r ty i) d e :=
  ends_pageCtl (g := fun _ => id) hp hi hc ht (parts_not_drained hd).1 (parts_not_drained hd).2 (exec_drain r ty i) ((ctlWrite_drain hd).trans he)

theorem ends_srst (he : (d.taken r p i).unitReset p i = e) : Ends afterFabric (.srst r ty i) d e :=
  ends_pageCtl (g := fun _ => id) hp hi hc ht (parts_not_drained hd).1 (parts_not_drained hd).2 (exec_srst r ty i) ((ctlWrite_reset hd).trans he)
end

theorem ends_drainComplete {d : Dev} {ty i : Nat} {p : PT} {e : Dev} (hp : PT.ofCode ty = some p) (hx : unitExists p i = true)
    (he : d.unitDrained p i = e) : Ends afterFabric (.drainComplete ty i) d e :=
  ends_runFab (exec_drainComplete ty i) ((withPage_some _ d hp).trans ((if_pos hx).trans he))

end Sys2Proof.Machine
end

section
open Sys2Proof Sys2Proof.Machine

/-- Settles O13, clause by clause: the written bit reaches the enable machine of the unit, whose state the write left as it was. -/
theorem pageEnableMachine : Obligations.PageEnableMachine := by
  refine ⟨fun d r ty i p hp hi hd hc ht hs hq hf => ?enOff, fun d r ty i p hp hi hd hc ht hs => ?enServing,
    fun d r ty i p e s hp hi hd hc ht hs => ⟨?enDraining, ?clearDraining⟩, fun d r ty i p hp hi hd hc ht hs => ?clearServing,
    fun d r ty i p hp hi hd hc ht hs => ?drainServing, fun d r ty i p hp hi hd hc ht hs => ?srstServing,
    fun d r ty i p hp hi hd hc ht hs => ?srstOff, fun d r ty i p hp hi hd hv hw ht => ?srstPlain,
    fun d r ty i p hp hi hv hw hc ht => ends_lock hp hi hc ht hv hw, fun d i hi hs => ?started,
    fun d ty i p s hp hx hi hs => ?drained, fun d ty i p s hp hx hi hs => ?drainedPending⟩
  case enOff =>
    exact ends_enSet hp hi hc ht hd (unitEnable_off ((taken_unitSt ..).trans hs) hq ((taken_unitFlr ..).trans hf))
  case enServing => exact ends_enSet hp hi hc ht hd (unitEnable_serving ((taken_unitSt ..).trans hs))
  case enDraining => exact ends_enSet hp hi hc ht hd (unitEnable_draining ((taken_unitSt ..).trans hs))
  case clearDraining => exact ends_enClear hp hi hc ht hd (unitDisable_draining ((taken_unitSt ..).trans hs))
  case clearServing => exact ends_enClear hp hi hc ht hd (unitDisable_serving ((taken_unitSt ..).trans hs))
  case drainServing => exact ends_drain hp hi hc ht hd (unitDrain_serving ((taken_unitSt ..).trans hs))
  case srstServing => exact ends_srst hp hi hc ht hd (unitReset_serving ((taken_unitSt ..).trans hs))
  case srstOff => exact ends_srst hp hi hc ht hd (unitReset_off ((taken_unitSt ..).trans hs))
  case srstPlain =>
    refine ends_pageCtl (g := fun _ => id) hp hi ?_ ht hv hw (exec_srst r ty i) (ctlWrite_plain hd)
    rintro ⟨rfl, -⟩; cases hd
  case started =>
    have hx : unitExists .QE i = true := decide_eq_true hi
    exact ends_runFab (exec_startupComplete PT.QE.code i) ((withPage_some _ d rfl).trans ((if_pos hx).trans (unitStarted_engine hs)))
  case drained => exact ends_drainComplete hp hx (unitDrained_idle hi hs)
  case drainedPending => exact ends_drainComplete hp hx (unitDrained_idle hi hs)
end

section
/-! PROOFS. OWNER, injection, VF Enable and VF bindings (R51, R56, R58, R82 to R85). -/
namespace Sys2Proof.Machine
open Sys2Proof

/-! ### INJ_CTL (R53, R56) -/

/-- Setting a bit that is set changes nothing. -/
theorem or_twoPow_of_bit {w : W32} {b : Nat} (h : w.getLsbD b = true) : w ||| BitVec.twoPow 32 b = w := by
  refine BitVec.eq_of_getLsbD_eq fun k hk => ?_
  rw [BitVec.getLsbD_or, BitVec.getLsbD_twoPow]
  by_cases hb : b = k
  · subst hb; rw [h, Bool.true_or]
  · simp [hb]

theorem fld_bit_one {w : W32} {b : Nat} : fld w b 1 = 1 ↔ w.getLsbD b = true := by
  rw [fld_bit]; cases w.getLsbD b <;> decide

/-- A value with ARM and without DONE stores MASK and TARGET and arms. -/
theorem injTake_arms {p : PT} {v : W32} (i : Nat) (d : Dev) (hj : p.hasInj = true) (ha : fld v 24 1 = 1) (hd : fld v 25 1 = 0) :
    Dev.injTake p i v d = (d.setRegF p i Reg.INJ_CTL 0 24 (fld v 0 24)).setRegF p i Reg.INJ_CTL 24 1 1 := by
  unfold Dev.injTake
  rw [hj, ha, hd]
  rfl

theorem inject_mem (d : Dev) (a : Nat) :
    d.inject .MEM 0 a = d.setWordErr a (injPattern (d.sym1 (d.regF .MEM 0 Reg.INJ_CTL 16 8)) (d.regF .MEM 0 Reg.INJ_CTL 0 16)) := rfl

section
variable {d : Dev} {p : PT} {i a : Nat} (ht : p.injTarget (d.regF p i Reg.INJ_CTL 16 8) = true) (ha : d.regB p i Reg.INJ_CTL 24 = true)
include ht ha

/-- An armed injection lands on any write to the structure that TARGET names. -/
theorem injDone_word (hm : p ≠ .MEM) (hl : p ≠ .LDP) : Dev.injDone p i a d = (d.inject p i a).injEnd p i := by
  unfold Dev.injDone
  split
  · exact absurd rfl hm
  · exact absurd rfl hl
  · exact if_pos (by rw [ha, ht]; rfl)
end

/-- On MEM it lands on a write into the region that TARGET names (R263). -/
theorem injDone_mem {d : Dev} {a : Nat} (ha : d.regB .MEM 0 Reg.INJ_CTL 24 = true)
    (hu : regionUsed (d.regF .MEM 0 Reg.INJ_CTL 16 8) = true) (hr : regionAt a = d.regF .MEM 0 Reg.INJ_CTL 16 8) (hb : a < 0x18000000) :
    Dev.injDone .MEM 0 a d = (d.inject .MEM 0 a).injEnd .MEM 0 := by
  refine if_pos ?_
  have ht : PT.MEM.injTarget (d.regF .MEM 0 Reg.INJ_CTL 16 8) = true := hu
  simp only [ha, ht, hr, hb, beq_self_eq_true, decide_true, Bool.and_self]

/-- Elsewhere the word is listed with the mask that its check bits carry. -/
theorem inject_listed (d : Dev) {p : PT} (i a : Nat) (hm : p ≠ .MEM) :
    d.inject p i a = { d with injected := (⟨p.code, i, d.regF p i Reg.INJ_CTL 16 8, a, d.regF p i Reg.INJ_CTL 0 16⟩ ::
      d.injected.filter (fun x => !(x.page == p.code && x.inst == i && x.target == d.regF p i Reg.INJ_CTL 16 8 && x.addr == a))) } := by
  unfold Dev.inject; dsimp only; split
  · exact absurd rfl hm
  · rfl

/-! ### VF bindings (R82, R83) -/

theorem noteWake_bindBad (d : Dev) (r : Requester) (p : PT) (n : Nat) (v : W32) : (d.noteWake r p).bindBad n v = d.bindBad n v := by
  rw [noteWake_eq]; rfl

section
variable {d : Dev} {r : Requester} {n : Nat} {v : W32} (h1 : 1 ≤ n) (h2 : n ≤ 255) (ht : d.takes r .VF 0 (Reg.VF_BIND + 4 * (n - 1)) = true)
include h1 h2 ht

theorem bindWrite_good (hb : d.bindBad n v = none) : Dev.bindWrite r n v d = (d.taken r .VF 0).bindTake n v := by
  unfold Dev.bindWrite
  rw [if_neg (by omega), hb]
  exact regWriteElse_takes _ _ ht

theorem bindWrite_bad {b : Nat} (hb : d.bindBad n v = some b) : Dev.bindWrite r n v d = (d.noteWake r .VF).raiseErr .VF 0 b noDetail := by
  unfold Dev.bindWrite
  rw [if_neg (by omega), hb]
  refine (regWriteElse_else _ _ ht).trans ?_
  rw [noteWake_bindBad, hb]
end

end Sys2Proof.Machine
end

section
open Sys2Proof Sys2Proof.Machine

/-- Settles O14, clause by clause: each command names a page that exists and finds what its register takes. -/
theorem ownerInjectionAndVfs : Obligations.OwnerInjectionAndVfs := by
  refine ⟨fun d r ty i p v hp hi hr ht => ?owner, fun d r ty i p v hp hi hj h25 h24 ht => ?arm,
    fun d ty i a p hp hi hm hl ht ha => ?done, fun d a ha hu hr hb => ?doneMem, fun d hc hf => ?vfeClear,
    fun d n hc hf hn he => ?vfeSet, fun d r n v h1 h2 hb ht => ?bind, fun d r n b v h1 h2 hb ht => ?bindBad⟩
  case owner =>
    exact ends_run (exec_ownerWrite r ty i v) ((withPage_some _ d hp).trans ((if_pos hi).trans (regWrite_takes _ ht)))
  case arm =>
    have hv : v ||| 0x1000000#32 = v := or_twoPow_of_bit (fld_bit_one.1 h24)
    refine ends_run (exec_injArm r ty i v) ((withPage_some _ d hp).trans ((if_pos hi).trans ((regWrite_takes _ ht).trans ?_)))
    rw [hv, injTake_arms i _ hj h24 h25]
  case done =>
    refine ends_run (exec_injDone ty ⟨i, a⟩) ((withPage_some _ d hp).trans ((if_pos hi).trans ?_))
    rw [injDone_word ht ha hm hl, inject_listed d i a hm]; rfl
  case doneMem =>
    refine ends_run (exec_injDone PT.MEM.code ⟨0, a⟩) ((withPage_some _ d rfl).trans ((if_pos (by decide : 0 < PT.MEM.count)).trans ?_))
    rw [injDone_mem ha hu hr hb, inject_mem, ← hr]; rfl
  case vfeClear => exact ends_run exec_vfEnableClear (if_neg (by simp [hc, hf]))
  case vfeSet => exact ends_run (exec_vfEnableSet n) (if_neg (by simp [hc, hf, hn, he]))
  case bind => exact ends_run (exec_vfBindWrite r n v) (bindWrite_good h1 h2 ht hb)
  case bindBad => exact ends_run (exec_vfBindWrite r n v) (bindWrite_bad h1 h2 ht hb)
end

section
/-! PROOFS. Registers by address, MEMBER_SEL, BAR2 and proxied accesses (R43 to R50, R73, R110, R418). -/
namespace Sys2Proof.Machine
open Sys2Proof

/-! ### Writes of a size to an offset of a view (R43, R46, R110) -/

/-- Pages whose registers at or above 0x040 have no rule of their own. -/
theorem pageWord_stores {p : PT} (h : [PT.LOG, .GC, .PSL, .WEAR, .LDP, .STR, .JNL, .CH, .MAP, .RNG, .SBD].contains p = true)
    (r : Requester) (i off : Nat) (v : W32) (d : Dev) : Dev.pageWord r p i off v d = d.regWrite r p i off (Dev.storeWord p i off v) := by
  simp only [List.contains_iff_mem, List.mem_cons, List.not_mem_nil, or_false] at h
  rcases h with rfl | rfl | rfl | rfl | rfl | rfl | rfl | rfl | rfl | rfl | rfl <;> rfl

/-- None of them holds slot memory. -/
theorem stored_not_queue {p : PT} (h : [PT.LOG, .GC, .PSL, .WEAR, .LDP, .STR, .JNL, .CH, .MAP, .RNG, .SBD].contains p = true) :
    ¬(p = .HQ ∨ p = .TQ) := by
  rintro (rfl | rfl) <;> exact absurd h (by decide)

theorem wordWrite_page {r : Requester} {p : PT} {i off : Nat} {v : W32} {d : Dev} (h : 0x40 ≤ off) :
    Dev.wordWrite r p i off v d = Dev.pageWord r p i off v d := if_neg (Nat.not_lt.2 h)

section
variable {d : Dev} {r : Requester} {a i off : Nat} {p : PT}
  (hc : ¬(d.life.mode = .compat ∧ r.dom = .host ∧ r.i3c = false ∧ proxied r = false))
include hc

theorem writeBar_word (hs : d.spot r a = .page p i off) (v : Nat) (ha : a % 4 = 0) (hq : ¬((p = .HQ ∨ p = .TQ) ∧ 0x800 ≤ off)) :
    Dev.writeBar r a 4 v d = Dev.wordWrite r p i off (BitVec.ofNat 32 v) d := by
  unfold Dev.writeBar
  rw [if_neg (by simpa using hc), hs]
  exact (if_neg hq).trans (if_pos ⟨rfl, ha⟩)

theorem writeBar_misaligned (hs : d.spot r a = .page p i off) {n : Nat} (v : Nat) (hq : ¬((p = .HQ ∨ p = .TQ) ∧ 0x800 ≤ off))
    (h4 : ¬(n = 4 ∧ a % 4 = 0)) (h8 : ¬(n = 8 ∧ a % 8 = 0)) : Dev.writeBar r a n v d = d.noteWake r p := by
  unfold Dev.writeBar
  rw [if_neg (by simpa using hc), hs]
  exact (if_neg hq).trans ((if_neg h4).trans (if_neg h8))

theorem writeBar_slot (hs : d.spot r a = .page .HQ i off) (n v : Nat) (ho : 0x800 ≤ off) :
    Dev.writeBar r a n v d = Dev.slotWrite r i (off - 0x800) (leBytes n v) d := by
  unfold Dev.writeBar
  rw [if_neg (by simpa using hc), hs]
  exact if_pos ⟨.inl rfl, ho⟩
end

/-! ### REGISTER_WRITE, by space -/

section
variable {d e : Dev} {r : Requester} {a n : Nat} {v : W64}

theorem ends_viewWrite (he : Dev.writeBar r a n v.toNat d = e) : Ends afterFabric (.registerWrite r ⟨.view, a⟩ n v) d e :=
  ends_runFab (exec_registerWrite r ⟨.view, a⟩ n v) he

variable {f : Fn} (hf : fnOf r = some f)
include hf

theorem ends_tableWrite : Ends afterFabric (.registerWrite r ⟨.table, a⟩ n v) d (d.bar4Write f a n v.toNat) :=
  ends_runFab (exec_registerWrite r ⟨.table, a⟩ n v) (by simp only [Dev.writeSpace, hf])

theorem ends_configWrite : Ends afterFabric (.registerWrite r ⟨.config, a⟩ n v) d (d.cfgWrite f a n v.toNat) :=
  ends_runFab (exec_registerWrite r ⟨.config, a⟩ n v) (by simp only [Dev.writeSpace, hf])
end

/-! ### MEMBER_SEL (R73) -/

theorem memberSel_takes {d : Dev} {r : Requester} {p : PT} (v : W32) (ht : d.takes r p 0 0x40 = true) :
    Dev.memberSel r p v d =
      let t := d.taken r p 0
      if t.isHead = true ∧ logViewOf r = 0 then t.setReg p 0 0x40 (v &&& 0x3f#32) else t :=
  (regWrite_takes _ ht).trans (by simp only [Bool.and_eq_true, beq_iff_eq])

/-! ### BAR2 (R48 to R50, R418) -/

/-- An offset above the head's own window lies in one of the windows of members 1 to 63 (R48). -/
theorem window_of_member {a : Nat} (hl : 0x1000000 ≤ a) (hu : a < 0x40000000) : ¬a / 0x1000000 = 0 ∧ ¬64 ≤ a / 0x1000000 := by omega

theorem bar2Access_closed {d : Dev} (a n v : Nat) (ht : d.fnThere .pf = true) (hc : d.fnOpen .pf = false) :
    Dev.bar2Access false a n v d = d.emit (.unsupported .pf) := if_pos (by rw [ht, hc]; rfl)

section
variable {d : Dev} {a : Nat} (ho : d.bar2Open = true)
include ho

theorem bar2Open_fnOpen : d.fnOpen .pf = true := by
  simp only [Dev.bar2Open, Bool.and_eq_true] at ho
  exact ho.1.2

section
variable (ha : a < 0x1000000)
include ha

theorem bar2Access_ownWrite (n v : Nat) : Dev.bar2Access true a n v d = Dev.writeBar hostReq a n v d := by
  simp [Dev.bar2Access, Nat.div_eq_of_lt ha, Nat.mod_eq_of_lt ha, ho]

/-- A read of the head's own registers answers at once unless MEMBER_SEL names another member (R73). -/
theorem bar2Access_ownRead (n v : Nat) (hr : d.remoteOf hostReq a = none) :
    Dev.bar2Access false a n v d = d.emit (.readData hostReq (d.readSpace hostReq a n % 256 ^ n)) := by
  have hv : d.readVia hostReq a n (d.readSpace hostReq a n) .host = d.emit (.readData hostReq (d.readSpace hostReq a n % 256 ^ n)) := by
    unfold Dev.readVia; rw [hr]; rfl
  simp [Dev.bar2Access, Nat.div_eq_of_lt ha, Nat.mod_eq_of_lt ha, ho, bar2Open_fnOpen ho, hr, hv]
end

section
variable (hl : 0x1000000 ≤ a) (hu : a < 0x40000000)
include hl hu

section
variable {n : Nat} (v : Nat) (hm : d.memberState (a / 0x1000000) ≠ 0) (hn : (n = 4 ∧ a % 4 = 0) ∨ (n = 8 ∧ a % 8 = 0))
include hm hn

theorem bar2Access_memberWrite :
    Dev.bar2Access true a n v d = d.send 0x39 (a / 0x1000000) [a % 0x1000000, n, v] false := by
  obtain ⟨h0, h64⟩ := window_of_member hl hu
  simp [Dev.bar2Access, h0, h64, hm, hn, ho]

theorem bar2Access_memberRead : Dev.bar2Access false a n v d = d.proxyRead (a / 0x1000000) (a % 0x1000000) n .host := by
  obtain ⟨h0, h64⟩ := window_of_member hl hu
  simp [Dev.bar2Access, h0, h64, hm, hn, ho, bar2Open_fnOpen ho]
end

/-- The window of a member that the DDT does not list reads all ones (R49). -/
theorem bar2Access_absentRead (n v : Nat) (hm : d.memberState (a / 0x1000000) = 0) :
    Dev.bar2Access false a n v d = d.emit (.readData hostReq (256 ^ n - 1)) := by
  obtain ⟨h0, h64⟩ := window_of_member hl hu
  simp [Dev.bar2Access, h0, h64, hm, ho, bar2Open_fnOpen ho]
end
end

/-! ### Proxied accesses (R418) -/

section
variable {d : Dev} {h : MsgHdr} {off n : Nat}

theorem proxyRd_heard (xid : Nat) (hh : d.hears 0x38 h = true) (hb : d.rxBad 0x38 h = false) (hm : (d.heard 0x38 h).isMember = true)
    (hs : h.src = 0) (hn : n = 4 ∨ n = 8) :
    Dev.proxyRd h off n xid d = (d.heard 0x38 h).send 0x3a 0 [xid, (d.heard 0x38 h).readSpace headReq off n] false :=
  (rx_heard _ hh hb).trans (if_pos ⟨hm, hs, hn⟩)

theorem proxyWr_heard (v : Nat) (hh : d.hears 0x39 h = true) (hb : d.rxBad 0x39 h = false) (hm : (d.heard 0x39 h).isMember = true)
    (hs : h.src = 0) (hn : n = 4 ∨ n = 8) :
    Dev.proxyWr h off n v d = Dev.writeBar headReq off n v (d.heard 0x39 h) :=
  (rx_heard _ hh hb).trans (if_pos ⟨hm, hs, hn⟩)

theorem proxyRsp_heard {xid : Nat} (v : Nat) {x : Proxy} (hh : d.hears 0x3a h = true) (hb : d.rxBad 0x3a h = false)
    (hx : ((d.heard 0x3a h).fab.proxies.take 64).find? (fun e => e.xid == xid && e.dst == h.src) = some x) :
    Dev.proxyRsp h xid v d = (d.heard 0x3a h).proxyEnd x v :=
  (rx_heard _ hh hb).trans (by simp only [hx])
end

end Sys2Proof.Machine
end

section
open Sys2Proof Sys2Proof.Machine

/-- Settles O19, clause by clause: each access finds the place its address names and, through a window, the member that holds it. -/
theorem registersByAddress : Obligations.RegistersByAddress := by
  refine ⟨fun d r a i off p v hc hs ha ho hp ht => ?stored, fun d r a i off n p v hc hs hq h4 h8 => ?misaligned,
    fun d r a i off n v hc hs ho => ?slot, fun d r f a n v hf => ⟨ends_tableWrite hf, ends_configWrite hf⟩,
    fun d r ty p v hp hw ht => ?memberSel, fun d a n v ho ha => ⟨?ownWrite, fun hr => ?ownRead⟩, fun d a n v ht hc => ?closed,
    fun d a n v ho hl hu hm hn => ⟨?memberWrite, ?memberRead⟩, fun d a n v ho hl hu hm => ?absent, fun d x hx h40 => ?timeout,
    fun d h off n xid hh hb hm hs hn => ?proxyRd, fun d h off n v hh hb hm hs hn => ?proxyWr, fun d h xid v x hh hb hx => ?proxyRsp⟩
  case stored =>
    refine ends_viewWrite ?_
    rw [writeBar_word hc hs _ ha (fun h => stored_not_queue hp h.1), wordWrite_page ho, pageWord_stores hp, regWrite_takes _ ht]
  case misaligned => exact ends_viewWrite (writeBar_misaligned hc hs _ hq h4 h8)
  case slot => exact ends_viewWrite (writeBar_slot hc hs _ _ ho)
  case memberSel =>
    have hp' : p = .ERRW ∨ p = .RECW ∨ p = .TRCW ∨ p = .DDTX := by simpa using hw
    exact ends_run (exec_memberSelWrite r ty v) ((withPage_some _ d hp).trans ((if_pos hp').trans (memberSel_takes v ht)))
  case ownWrite => exact ends_runFab (exec_bar2Access true a n v) (bar2Access_ownWrite ho ha _ _)
  case ownRead => exact ends_runFab (exec_bar2Access false a n v) (bar2Access_ownRead ho ha _ _ hr)
  case closed => exact ends_runFab (exec_bar2Access false a n v) (bar2Access_closed _ _ _ ht hc)
  case memberWrite => exact ends_runFab (exec_bar2Access true a n v) (bar2Access_memberWrite ho hl hu _ hm hn)
  case memberRead => exact ends_runFab (exec_bar2Access false a n v) (bar2Access_memberRead ho hl hu _ hm hn)
  case absent => exact ends_runFab (exec_bar2Access false a n v) (bar2Access_absentRead ho hl hu _ _ hm)
  case timeout =>
    refine ends_run exec_proxyTimeout ?_
    rw [hx]; exact if_neg (Nat.not_lt.2 h40)
  case proxyRd => exact ends_runFab (exec_proxyRd h off n xid) (proxyRd_heard xid hh hb hm hs hn)
  case proxyWr => exact ends_runFab (exec_proxyWr h off n v) (proxyWr_heard _ hh hb hm hs hn)
  case proxyRsp => exact ends_runFab (exec_proxyRsp h xid v) (proxyRsp_heard _ hh hb hx)
end

section
/-! PROOFS. MSI-X masking; function resets, bus mastering and D-states (R86 to R94). -/
namespace Sys2Proof.Machine
open Sys2Proof

/-! ### The state of a function -/

theorem fn_setFn_same (d : Dev) (f : Fn) (s : FnSt) : (d.setFn f s).fn f = s := by
  unfold Dev.fn Dev.setFn
  split
  · next h => rw [mget_mdel_same, h]; rfl
  · rw [mget_mput_same]; rfl

theorem fn_setFn_ne (d : Dev) {f g : Fn} (s : FnSt) (h : fnIdx g ≠ fnIdx f) : (d.setFn f s).fn g = d.fn g := by
  unfold Dev.fn Dev.setFn
  split
  · rw [mget_mdel_ne _ h]
  · rw [mget_mput_ne _ _ h]

/-! ### Signals of a vector (R86 to R88) -/

section
variable {d : Dev} {f : Fn} {v : Nat}

theorem sendMsix_open (hm : (d.fn f).masked v = false) : d.sendMsix f v = if (d.fn f).bme = true then d.emit (.msix f v) else d :=
  if_neg (by simp [hm])

section
variable (hm : (d.fn f).masked v = true)
include hm

theorem sendMsix_pending (hp : (d.fn f).pba.contains v = true) : d.sendMsix f v = d := (if_pos hm).trans (if_pos hp)

theorem sendMsix_collects (hp : ¬(d.fn f).pba.contains v = true) :
    d.sendMsix f v = d.setFn f { d.fn f with pba := v :: (d.fn f).pba } := (if_pos hm).trans (if_neg hp)

/-- A masked vector stays masked under a signal, and its PBA bit is set from then on. -/
theorem sendMsix_masked : ((d.sendMsix f v).fn f).masked v = true ∧ ((d.sendMsix f v).fn f).pba.contains v = true := by
  by_cases hp : (d.fn f).pba.contains v = true
  · rw [sendMsix_pending hm hp]; exact ⟨hm, hp⟩
  · rw [sendMsix_collects hm hp, fn_setFn_same]
    exact ⟨hm, List.contains_iff_mem.2 List.mem_cons_self⟩

theorem sendMsix_masked_out : (d.sendMsix f v).out = d.out := by
  by_cases hp : (d.fn f).pba.contains v = true
  · rw [sendMsix_pending hm hp]
  · rw [sendMsix_collects hm hp, setFn_out]

theorem sendMsix_masked_fn {g : Fn} (hg : fnIdx g ≠ fnIdx f) : (d.sendMsix f v).fn g = d.fn g := by
  by_cases hp : (d.fn f).pba.contains v = true
  · rw [sendMsix_pending hm hp]
  · rw [sendMsix_collects hm hp, fn_setFn_ne _ _ hg]

/-- A second signal finds the PBA bit set, so it changes nothing. -/
theorem sendMsix_masked_again : (d.sendMsix f v).sendMsix f v = d.sendMsix f v :=
  have ⟨hm', hp'⟩ := sendMsix_masked hm
  sendMsix_pending hm' hp'
end
end

/-! ### Vectors and functions unmasked (R87) -/

section
variable {d : Dev} {f : Fn} (ho : d.fnOpen f = true) (ht : d.fnThere f = true)
include ho ht

theorem msixUnmask_function : Dev.msixUnmask f none d = (d.setFn f { d.fn f with fmask := false }).pbaSend f := if_neg (by simp [ho, ht])

theorem msixUnmask_vector {v : Nat} (hv : v < fnVectors (d.life.mode == .compat) f) (hu : v ∉ (d.fn f).unmasked) :
    Dev.msixUnmask f (some v) d = (d.setFn f { d.fn f with unmasked := v :: (d.fn f).unmasked }).pbaSend f := by
  have hc : ¬(d.fn f).unmasked.contains v = true := fun h => hu (List.contains_iff_mem.1 h)
  unfold Dev.msixUnmask
  rw [if_neg (by simp [ho, ht])]
  simp only [if_neg (Nat.not_le.2 hv), if_neg hc]
end

/-! ### Resets, bus mastering and D-states of a function (R88 to R94) -/

section
variable {d : Dev} {f : Fn} {n : Nat}

section
variable (ht : d.fnThere f = true)
include ht

theorem bmeClear_mastering (hb : (d.fn f).bme = true) :
    Dev.bmeClear f d =
      let e := d.setFn f { d.fn f with bme := false }
      (e.fnQueues f).foldl (fun e q => e.masterFreeze q) e := if_neg (by simp [ht, hb])

theorem bmeOn_there (hf : (d.fn f).flr = false) (hr : (d.fn f).resetting = false) :
    Dev.bmeOn f d = d.setFn f { d.fn f with bme := true } := if_pos (by simp [ht, hf, hr])

theorem d3Entry_awake (h3 : (d.fn f).d3 = false) (hf : (d.fn f).flr = false) (hr : (d.fn f).resetting = false) :
    Dev.d3Entry f d =
      let qs := (d.fnQueues f).filter (fun q => d.qSt q == .starting || d.qSt q == .serving)
      (qs.foldl (fun e q => e.unitDrain (qPage q).1 (qPage q).2) ((d.fnQueues f).foldl (fun e q => e.clearUnadmitted q) d)).setFn f
        { d.fn f with d3 := true, slept := qs } := if_neg (by simp [ht, h3, hf, hr])

theorem d0Return_asleep (h3 : (d.fn f).d3 = true) :
    Dev.d0Return f d =
      (d.fn f).slept.foldl (fun e q => e.unitEnable (qPage q).1 (qPage q).2) (d.setFn f { d.fn f with d3 := false, slept := [] }) :=
  if_neg (by simp [ht, h3])
end

/-- Memory Space Enable is a function's own bit, but for VFs (R82, R90). -/
theorem setMse_own (on : Bool) (h : ∀ n, f ≠ .vf n) : d.setMse f on = d.setFn f { d.fn f with mse := on } := by
  cases f with
  | pf => rfl
  | tp p => rfl
  | vf n => exact absurd rfl (h n)

theorem flr_vf (ht : d.fnThere (.vf n) = true) (hp : (d.fn .pf).flr = false) :
    Dev.flr (.vf n) d = ((d.fnQueues (.vf n)).foldl Dev.flrQueue d).setFn (.vf n) { fnReset with flr := true } :=
  (if_neg (by simp [ht])).trans (if_neg (by simp [hp]))

theorem flr_pf (ht : d.fnThere .pf = true) : Dev.flr .pf d = d.pfFlr := if_neg (by simp [ht])

theorem flrComplete_vf (hf : (d.fn (.vf n)).flr = true) (hp : (d.fn .pf).flr = false) :
    Dev.flrComplete (.vf n) d =
      let e := d.setFn (.vf n) fnReset
      (e.fnQueues (.vf n)).foldl (fun e q => e.finishDrain .HQ q) e := if_neg (by simp [hf, hp])

theorem hotReset_there (down : Bool) (ht : d.fnThere .pf = true) :
    Dev.hotReset down d = (if down = true then d.hostLinkDown else d).pfFlr := if_neg (by simp [ht])
end

end Sys2Proof.Machine
end

section
open Sys2Proof Sys2Proof.Machine

/-- Settles O49: a masked vector's signal goes to its PBA bit and no further, an open one's goes out where the function masters the bus. -/
theorem msixMasking : Obligations.MsixMasking := by
  refine ⟨fun d f v hm => ?masked, fun d f v hm => sendMsix_open hm⟩
  case masked =>
    obtain ⟨hm', hp'⟩ := sendMsix_masked hm
    exact ⟨sendMsix_masked_out hm, hp', hm', fun g hg => sendMsix_masked_fn hm hg, sendMsix_masked_again hm⟩

/-- Settles O15, clause by clause: each event of a function that is there does what its own rule says. -/
theorem endpointFunctions : Obligations.EndpointFunctions := by
  refine ⟨fun d n ht hp => ?flrVf, fun d ht => ?flrPf, fun d n hf hp => ?flrComplete, fun d down ht => ?hotReset,
    fun d f ht hb => ?bmeClear, fun d f ht hf hr => ?bmeSet, fun d f ht hn => ?mseClear, fun d n ht => ?vfMseClear,
    fun d f ht h3 hf hr => ?d3hot, fun d f ht h3 => ?d0, fun d f v ho ht hv hu => ?unmaskVector, fun d f ho ht => ?unmaskFunction⟩
  case flrVf => exact ends_runCmd (exec_flr (.vf n)) (flr_vf ht hp)
  case flrPf => exact ends_runCmd (exec_flr .pf) (flr_pf ht)
  case flrComplete => exact ends_run (exec_flrComplete (.vf n)) (flrComplete_vf hf hp)
  case hotReset => exact ends_runCmd (exec_hotReset down) (hotReset_there down ht)
  case bmeClear => exact ends_runCmd (exec_bmeClear f) (bmeClear_mastering ht hb)
  case bmeSet => exact ends_run (exec_bmeSet f) (bmeOn_there ht hf hr)
  case mseClear => exact ends_run (exec_mseClear f) ((if_pos ht).trans (setMse_own false hn))
  case vfMseClear => exact ends_run (exec_mseClear (.vf n)) (if_pos ht)
  case d3hot => exact ends_run (exec_d3hotEntry f) (d3Entry_awake ht h3 hf hr)
  case d0 => exact ends_run (exec_d0Return f) (d0Return_asleep ht h3)
  case unmaskVector => exact ends_run (exec_msixUnmask f (some v)) (msixUnmask_vector ho ht hv hu)
  case unmaskFunction => exact ends_run (exec_msixUnmask f none) (msixUnmask_function ho ht)
end

section
/-! PROOFS. The host link and the root PLL (R74, R95 to R97, R612, R613). -/
namespace Sys2Proof.Machine
open Sys2Proof

/-! ### The host link (R74, R95, R96) -/

section
variable {d : Dev} (ht : d.mayTrain none = true)
include ht

theorem linkTrained_host {speed width : Nat} (flit : Bool) (fec replays : Nat) (h1 : 1 ≤ speed)
    (hs : speed ≤ max 1 (min 6 (d.regF .EP 0 Reg.EP_LINK_CTL 0 3))) (hw : [1, 2, 4, 8, 16].contains width = true) :
    Dev.linkTrained none speed width flit fec replays d =
      ((d.setRegF .EP 0 Reg.EP_LINK_STS 0 10 ((if flit = true then speed else 1) + width * 8 + b2n flit * 256 + b2n (!flit) * 512)).setRegF .EP 0
        Reg.EP_LINK_STS 11 2 0).linkCounts none fec replays := by
  refine if_neg ?_
  rintro (h | h | h | h)
  · simp [ht] at h
  · exact Nat.not_lt.2 h1 h
  · exact Nat.not_lt.2 hs h
  · exact absurd hw (by simpa using h)

variable (hu : d.linkUp none = true)
include hu

theorem ends_aspm {sub : Nat} (hs : sub < 4) (ha : d.aspmAllowed none sub = true) :
    Ends afterAll (.aspmL1Entry none sub) d (d.setRegF .EP 0 Reg.EP_LINK_STS 11 2 sub) :=
  ends_run (exec_aspmL1Entry none sub) (if_pos (by simp [hs, ht, hu, ha]))

/-- A trained link in Flit mode takes the width that a request asks for. -/
theorem ends_l0p {ask : L0pAsk} {width : Nat} (hf : d.regB .EP 0 Reg.EP_LINK_STS 8 = true) (hw : d.l0pAsked none ask = some width) :
    Ends afterAll (.l0pChange none ask) d (d.setRegF .EP 0 Reg.EP_LINK_STS 3 5 width) := by
  refine ends_run (exec_l0pChange none ask) ?_
  rw [hw]
  exact if_pos (by rw [ht, hu]; exact hf)
end

theorem l0pAsked_own {d : Dev} (t : Nat) (ha : d.regB .EP 0 Reg.EP_LINK_CTL 3 = true) : d.l0pAsked none (.own t) = some (d.l0pOwn none t) :=
  if_pos ha

theorem l0pAsked_root {d : Dev} {width : Nat} (hw : (l0pWidths none).contains width = true) : d.l0pAsked none (.root width) = some width :=
  if_pos hw

/-! ### The root PLL (R613) -/

section
variable {d : Dev} (hm : d.life.mode ≠ .backup) (hl : d.life.pllLocked = false)
include hm hl

theorem ends_relocked (hp : d.life.flushPendingLock = false) :
    Ends afterAll .pllRelocked d { d with life := { d.life with pllLocked := true } } :=
  ends_run exec_pllRelocked ((if_neg (by simp [hm, hl])).trans (if_neg (by simp [hp])))

theorem ends_relockedFlush (hp : d.life.flushPendingLock = true) :
    Ends afterAll .pllRelocked d (({ d with life := { d.life with pllLocked := true, flushPendingLock := false } }).enterFlush d.plp.cause) :=
  ends_run exec_pllRelocked ((if_neg (by simp [hm, hl])).trans (if_pos hp))
end

/-! ### CCLK_SEL (R612) -/

section
variable {d : Dev} {r : Requester} (v : Nat) (ht : d.takes r .CLK 0 Reg.CLK_CLK_CTL = true)
include ht

theorem cclkWrite_maint (hr : r.dom = .secure) (hm : d.life.mode = .maint) :
    Dev.cclkWrite r v d = (d.taken r .CLK 0).setRegF .CLK 0 Reg.CLK_CLK_CTL 0 2 v := by
  unfold Dev.cclkWrite
  rw [hr, hm]; exact regWriteIf_takes _ ht

theorem cclkWrite_elsewhere (hm : d.life.mode ≠ .maint) : Dev.cclkWrite r v d = d.noteWake r .CLK := by
  unfold Dev.cclkWrite
  rw [beq_false_of_ne hm, Bool.and_false]; exact regWriteIf_drops _ ht
end

end Sys2Proof.Machine
end

section
open Sys2Proof Sys2Proof.Machine

/-- Settles O16, clause by clause: a link event is shown where the link allows it, a clock event where the clock's state calls for it. -/
theorem linksAndClocks : Obligations.LinksAndClocks := by
  refine ⟨fun d speed width x ht h1 hs hw => ?trained, fun d sub hs ht hu ha => ?aspm, fun d t ht hu hf ha => ?l0pOwn,
    fun d width ht hu hf hw => ?l0pRoot, fun d r ht => ?retrain, fun d hm hl hr => ?unlock, fun d hm hr => ?refLost,
    fun d hm hl hp => ?relocked, fun d hm hl hp => ?relockedFlush, fun d hm hr => ?restored, fun d r v hr ht hm => ?cclk,
    fun d r v ht hm => ?cclkElsewhere⟩
  case trained => exact ends_run (exec_linkTrained none speed width x) (linkTrained_host ht x.flit x.fec x.replays h1 hs hw)
  case aspm => exact ends_aspm ht hu hs ha
  case l0pOwn => exact ends_l0p ht hu hf (l0pAsked_own t ha)
  case l0pRoot => exact ends_l0p ht hu hf (l0pAsked_root hw)
  case retrain => exact ends_write (exec_linkRetrain r) ht rfl
  case unlock => exact ends_run exec_pllUnlock (if_neg (by simp [hm, hl, hr]))
  case refLost => exact ends_runFab exec_refLost (if_neg (by simp [hm, hr]))
  case relocked => exact ends_relocked hm hl hp
  case relockedFlush => exact ends_relockedFlush hm hl hp
  case restored => exact ends_run exec_refRestored (if_neg (by simp [hm, hr]))
  case cclk => exact ends_run (exec_cclkSelWrite r v) (cclkWrite_maint v ht hr hm)
  case cclkElsewhere => exact ends_run (exec_cclkSelWrite r v) (cclkWrite_elsewhere v ht hm)

/-- Settles O26, clause by clause: the forerunner's doorbell and shutdown act where its view serves, and each of its opcodes, just admitted and past
its checks, does its native form's work. -/
theorem forerunnerView : Obligations.ForerunnerView := by
  refine ⟨fun d bits hm ho hd => ?doorbell, fun d tag f k v hf hp => ?read, fun d tag f k v hf hp => ?write,
    fun d tag f k v hf hp => ?flush, fun d tag f k v hf hp => ?deallocate, fun d tag f hf hd => ?identify, fun d hm ho hf => ?shutdown⟩
  case doorbell => exact ends_run (exec_forerunnerDoorbell bits) (if_neg (by simp [hm, ho, hd]))
  case read => exact ends_checked (exec_forerunnerRead tag) hf hp rfl
  case write => exact ends_checked (exec_forerunnerWrite tag) hf hp rfl
  case flush => exact ends_checked (exec_forerunnerFlush tag) hf hp rfl
  case deallocate => exact ends_checked (exec_forerunnerDeallocate tag) hf hp rfl
  case identify => exact ends_taken (exec_forerunnerIdentify tag) hf (by rw [hd]; rfl)
  case shutdown => exact ends_run exec_forerunnerShutdown (if_pos (by simp [hm, ho, hf]))
end

section
/-! PROOFS. Object commands, compaction, and slot memory (R106, R121, R349 to R356). -/
namespace Sys2Proof.Machine
open Sys2Proof

/-! ### Commands that name an object (R121, R350) -/

section
variable {d : Dev} {q tag op : Nat} {nm : List Byte} {f : Flight}

/-- A command just admitted whose name was read goes on under that name. -/
theorem takeNamed_read (go : Dev → Flight → Dev) (hf : d.fresh q tag op false f) (hn : f.cmd.nameLen = nm.length) (h0 : nm ≠ []) :
    d.takeNamed q tag op nm go = go d { f with name := nm } := by
  have hl : f.cmd.nameLen ≠ 0 := fun h => h0 (List.length_eq_zero_iff.1 (hn.symm.trans h))
  unfold Dev.takeNamed
  rw [take_fresh _ hf, if_pos (.inl hn), if_neg hl]

/-- It ends where its work under the name ends. -/
theorem ends_named {i : Instr} {e : Dev} {go : Dev → Flight → Dev} (hx : ∀ s, exec i s = runCmd (fun d => d.takeNamed q tag op nm go) s)
    (hf : d.fresh q tag op false f) (hn : f.cmd.nameLen = nm.length) (h0 : nm ≠ []) (he : go d { f with name := nm } = e) :
    Ends afterFlights i d e :=
  ends_runCmd hx ((takeNamed_read go hf hn h0).trans he)
end

section
variable {d : Dev} {f : Flight} {k : Nat} {v : Store}

theorem openDir_opens {dir : Nat} (go : Dev → Dev) (hs : d.sealBad k v dir = false) : d.openDir f k v dir go = go d :=
  if_neg (by simp [hs])

/-- A PUT with a directory sector that opens and an extent reserves it and goes to its gate. -/
theorem putGo_placed {dir b start : Nat} {fill : Option (Nat × Nat)} (hd : d.dirFor k v f.name = some dir)
    (hp : d.placeExtent v (extentLen f.cmd.count) = some (b, start, fill)) (hs : d.sealBad k v dir = false) :
    d.putGo f k v = (d.mapStore k (fun v => { v with fill := fill, extents := v.extents + 1 })).toGate
      { f with obj := some ⟨f.name, v.genOf f.name + 1, f.cmd.addr, f.cmd.count, 0, b, start, v.extents + 1, dir⟩
               charge := extentLen f.cmd.count + 1, moved := f.cmd.count, bands := d.putBands v dir b } := by
  unfold Dev.putGo
  simp only [hd, hp]
  exact openDir_opens _ hs
end

/-! ### Compaction (R354) -/

/-- Compaction of an object for whose new place there is room is a job at G10. -/
theorem compaction_due {d : Dev} {ns band b start : Nat} {lost : List Nat} {v : Store} {o : Obj} {fill : Option (Nat × Nat)}
    (hv : d.liveStore (storeKey 2 ns) = some v) (ho : v.compactObj band = some o)
    (hp : d.placeExtent v (extentLen o.sects) = some (b, start, fill)) (hm : d.mayRelocate = true) (hh : d.cacheHeld = false)
    (hq : d.quotaTest v.owner (d.putBands v o.dir b) = 0)
    (hc : d.cacheUsed + d.newLines (v.dirKey o.dir :: (List.range (extentLen o.sects)).map (fun i => b * 4096 + (start + i))) ≤ d.cacheLines) :
    Dev.compaction ns band lost d =
      d.job 10 band false ((List.range ((extentLen o.sects + 255) / 256)).map (fun r => 2 * min 256 (extentLen o.sects - 256 * r)))
        (fun x => x.compactWork (storeKey 2 ns) v o (band, b, start) fill lost) := by
  unfold Dev.compaction
  simp only [hv, ho, hp]
  exact if_neg (by simp [hm, hh, hq, hc])

theorem compactWork_written {x w : Dev} {k : Nat} {v : Store} {o : Obj} (at_ : Nat × Nat × Nat) (fill : Option (Nat × Nat)) (lost : List Nat)
    (hw : x.dirWrite (x.compactFlight v.owner) k v o.dir = some w) :
    x.compactWork k v o at_ fill lost =
      ((List.range (extentLen o.sects)).foldl (fun (c : Dev) i =>
          c.putLine (at_.2.1 * 4096 + (at_.2.2 + i)) (x.sectorLine at_.1 (o.start + i) lost v.owner (k % 65536)))
        (w.jobReads at_.1 lost (x.readKeys at_.1 ((List.range (extentLen o.sects)).map (fun i => o.start + i))))).mapStore k (fun v => { v with
          fill := fill, objs := v.objs.map (fun y => if y = o then { y with band := at_.2.1, start := at_.2.2 } else y) }) := by
  unfold Dev.compactWork
  simp only [hw]

end Sys2Proof.Machine
end

section
open Sys2Proof Sys2Proof.Machine

/-- Settles O27, clause by clause: an object command whose checks pass and whose directory sector opens goes to its gate, and compaction whose
rows pass moves its object. -/
theorem namespaceCommands : Obligations.NamespaceCommands := by
  refine ⟨fun d q tag f nm k v dir b start fill hf hn h0 hw hp hd hx hs => ?put, fun d q tag f nm k v o hf hn h0 hp ho hs => ?get,
    fun d q tag f nm k v o hf hn h0 hw hp ho hs => ?delete, fun d q tag f nm k v o hf hn h0 hp ho hs => ?stat,
    fun d ns band lost v o b start fill x w hv ho hp hm hh hq hc hj hw => ?compaction⟩
  case put =>
    exact ends_named (exec_put q tag nm) hf hn h0 ((if_neg (by simp [hw])).trans ((onChecked_passes _ hp).trans (putGo_placed hd hx hs)))
  case get => exact ends_named (exec_get q tag nm) hf hn h0 ((onChecked_passes _ hp).trans (by simp only [ho]; exact openDir_opens _ hs))
  case delete =>
    exact ends_named (exec_delete q tag nm) hf hn h0
      ((if_neg (by simp [hw])).trans ((onChecked_passes _ hp).trans (by simp only [ho]; exact openDir_opens _ hs)))
  case stat => exact ends_named (exec_stat q tag nm) hf hn h0 ((onChecked_passes _ hp).trans (by simp only [ho]; exact openDir_opens _ hs))
  case compaction =>
    exact ends_runCmd (exec_compaction ns band lost)
      ((compaction_due hv ho hp hm hh hq hc).trans ((job_end _ hj).trans (compactWork_written (band, b, start) fill lost hw)))

/-- Settles O53: the reads after a run of stores, inside the run and outside it, and the canonical form. -/
theorem slotMemoryBytes : Obligations.SlotMemoryBytes :=
  ⟨fun m a bs => ⟨putBytes_in bs m a, putBytes_out bs m a⟩, fun _ a bs => putBytes_wf bs a⟩
end

section
/-! PROOFS. Provisioning and snapshots (R122, R330 to R338, R358, R419). -/
namespace Sys2Proof.Machine
open Sys2Proof

/-! ### Writes of CMD (R333, R335) -/

section
variable {r : Requester} {kind : Nat} {d : Dev} (hk : kind < 3) (ht : d.takes r (kindPage kind) 0 Reg.VOL_CMD = true)
include hk ht

theorem provCmd_free (op : Nat) (hb : d.regB (kindPage kind) 0 Reg.VOL_STS 0 = false) :
    Dev.provCmd r kind op d = (d.taken r (kindPage kind) 0).provWrite kind op := by
  unfold Dev.provCmd
  rw [if_neg (Nat.not_le.2 hk), hb]
  exact regWriteElse_takes _ _ ht

theorem provCmd_busy (op : Nat) (hb : d.regB (kindPage kind) 0 Reg.VOL_STS 0 = true) :
    Dev.provCmd r kind op d = (d.noteWake r (kindPage kind)).raiseErr (kindPage kind) 0 0 noDetail := by
  unfold Dev.provCmd
  rw [if_neg (Nat.not_le.2 hk), hb]
  exact regWriteElse_else _ _ ht

/-- A command that meets no BUSY ends where it ends on the device with BUSY set; `ho` says which command the row's OP is. -/
theorem ends_prov {i : Instr} {op : Nat} (work : Dev → Nat → Dev) {e : Dev} (hx : ∀ s, exec i s = runFab (Dev.provCmd r kind op) s)
    (hb : d.regB (kindPage kind) 0 Reg.VOL_STS 0 = false)
    (ho : ∀ x : Dev, x.provWrite kind op = work (x.setRegF (kindPage kind) 0 Reg.VOL_STS 0 1 1) kind)
    (he : work (d.provBegun r kind) kind = e) : Ends afterFabric i d e :=
  ends_runFab hx ((provCmd_free hk ht op hb).trans ((ho (d.taken r (kindPage kind) 0)).trans he))
end

/-- The command of each OP (R333). -/
theorem provWrite_create (d : Dev) (kind : Nat) :
    d.provWrite kind 1 = (d.setRegF (kindPage kind) 0 Reg.VOL_STS 0 1 1).provCreate kind := by simp [Dev.provWrite]
theorem provWrite_delete (d : Dev) (kind : Nat) :
    d.provWrite kind 2 = (d.setRegF (kindPage kind) 0 Reg.VOL_STS 0 1 1).provDelete kind := by simp [Dev.provWrite]
theorem provWrite_load (d : Dev) (kind : Nat) :
    d.provWrite kind 3 = (d.setRegF (kindPage kind) 0 Reg.VOL_STS 0 1 1).provLoad kind := by simp [Dev.provWrite]
theorem provWrite_modify (d : Dev) (kind : Nat) :
    d.provWrite kind 4 = (d.setRegF (kindPage kind) 0 Reg.VOL_STS 0 1 1).provModify kind := by simp [Dev.provWrite]

/-! ### The commands on a record (R330, R331, R334, R336, R338) -/

section
variable {e : Dev} {kind : Nat} {v : Store}

theorem provCreate_local (hc : e.provCheck kind false = 0) (hn : e.store (e.provKey kind) = none) (hi : imageOk kind (e.recImage kind) = true)
    (hf : imgFabric kind (e.recImage kind) = false) :
    e.provCreate kind =
      (e.createLocal (e.provKey kind) (e.recImage kind) 0).2.provEnd kind (e.createLocal (e.provKey kind) (e.recImage kind) 0).1 := by
  unfold Dev.provCreate
  simp only [hc, hn, hi, hf, ne_eq, not_true_eq_false, Option.isSome_none, Bool.not_true, Bool.false_eq_true, if_false]

section
variable (hv : e.liveStore (e.provKey kind) = some v)
include hv

theorem provDelete_local (hc : e.provCheck kind false = 0) (hb : e.deleteBlocked (e.provKey kind) v = false) (hf : v.fabric = false) :
    e.provDelete kind = (e.deleteLocal (e.provKey kind)).2 := by
  unfold Dev.provDelete
  simp only [hc, hv, hb, hf, ne_eq, not_true_eq_false, Bool.false_eq_true, if_false]

theorem provLoad_live (hc : e.provCheck kind true = 0) :
    e.provLoad kind = (if (v.fabric && (e.setImage kind (e.imageOf kind v)).isHead) = true
      then (e.setImage kind (e.imageOf kind v)).setReg64 .FAB 0 Reg.FAB_VOL_SET v.fabSet
      else e.setImage kind (e.imageOf kind v)).provEnd kind provOk := by
  unfold Dev.provLoad
  simp only [hc, hv, ne_eq, not_true_eq_false, if_false]

variable (hc : e.provCheck kind false = 0)
include hc

theorem provModify_bad (hm : e.modifyOk kind v (e.recImage kind) = false) : e.provModify kind = e.provEnd kind provInvalid := by
  unfold Dev.provModify
  simp only [hc, hv, hm, ne_eq, not_true_eq_false, Bool.not_false, if_false, if_true]

/-- A local MODIFY ends at once, unless bands that it gives up are still in use. -/
theorem provModify_local {w : Store} (hm : e.modifyOk kind v (e.recImage kind) = true) (hf : v.fabric = false)
    (ho : (e.modifyLocal (e.provKey kind) (e.recImage kind)).1 = provOk)
    (hw : (e.modifyLocal (e.provKey kind) (e.recImage kind)).2.store (e.provKey kind) = some w) :
    e.provModify kind = if w.oldBands ≠ 0 then (e.modifyLocal (e.provKey kind) (e.recImage kind)).2
      else (e.modifyLocal (e.provKey kind) (e.recImage kind)).2.provEnd kind provOk := by
  unfold Dev.provModify
  simp only [hc, hv, hm, hf, ho, hw, ne_eq, not_true_eq_false, Bool.not_true, Bool.false_eq_true, if_false, true_and, bne_iff_ne]
end
end

/-! ### Snapshots (R122, R358) -/

section
variable {i : Instr} {d e : Dev} {q tag op : Nat} {fore : Bool} {f : Flight}
  {g : Dev → Flight → Nat → Store → OpChecks} {work : Dev → Flight → Dev → Nat → Store → Dev}

/-- A command whose checks pass does its work on the record it names, where it may ask the fabric. -/
theorem ends_checkedFab {k : Nat} {v : Store}
    (hx : ∀ s, exec i s = runFab (fun d => d.take q tag op fore (fun d f => d.onChecked f (g d f) (work d f))) s)
    (hf : d.fresh q tag op fore f) (hp : d.passes f (g d f) k v) (he : work d f d k v = e) : Ends afterFabric i d e :=
  ends_runFab hx ((take_fresh _ hf).trans ((onChecked_passes _ hp).trans he))
end

section
variable {d : Dev} {f : Flight} {k : Nat} {v : Store}

section
variable {q tag : Nat} (hf : d.flight q tag = some f) (ho : f.cmd.opcode = 0x30) (hn : nbit f.cmd.flags 8 = false)
include hf ho hn

/-- A SNAP_CREATE just admitted whose checks pass asks for its snapshot. -/
theorem snapCreate_asks (hs : f.stage = .run) (hp : d.passes f (fun _ v => { OpChecks.none with late := d.snapDeny f v }) k v) :
    Dev.snapCreate q tag d = d.snapAsk f k v := by
  unfold Dev.snapCreate
  simp only [hf, ho, hn, hs, ne_eq, not_true_eq_false, Bool.false_eq_true, or_self, if_false, if_true]
  exact onChecked_passes _ hp

/-- One that waits goes on with its record. -/
theorem snapCreate_goesOn (hs : f.stage = .xfer) (hk : f.key = some k) (hv : d.store k = some v) : Dev.snapCreate q tag d = d.snapTake f k v := by
  unfold Dev.snapCreate
  simp only [hf, ho, hn, hs, hk, hv, Option.bind_some, ne_eq, not_true_eq_false, Bool.false_eq_true, or_self, reduceCtorEq, if_false, if_true]
end

theorem snapAsk_fabric (hv : v.fabric = true) :
    d.snapAsk f k v = if d.isHead = true
      then (d.setFlight { f with stage := .xfer, resv := d.life.usUp }).opAsk 4 [k, f.cmd.arg0, f.tint, d.fabId, f.q, f.tag, 0, 0, 0] false
      else (d.setFlight { f with stage := .xfer, resv := d.life.usUp }).sendF 0x14 0 4 [k, 0, f.cmd.arg0, f.tint, f.q, f.tag] true :=
  if_pos hv

theorem snapAsk_again {x : Nat} (hv : v.fabric = false) (hr : v.sameRequest f.cmd.arg0 = some x) : d.snapAsk f k v = d.postOk f x := by
  unfold Dev.snapAsk
  rw [if_neg (by simp [hv]), hr]

theorem snapAsk_holds (hv : v.fabric = false) (hr : v.sameRequest f.cmd.arg0 = none) (hh : v.hold = false) :
    d.snapAsk f k v = (d.setFlight { f with stage := .xfer, resv := d.life.usUp }).holdStart k := by
  unfold Dev.snapAsk
  rw [if_neg (by simp [hv]), hr]
  exact if_neg (by simp [hh])

theorem snapTake_ready (hv : v.fabric = false) (hr : d.snapReady v = true) :
    d.snapTake f k v =
      ((d.snapMark k (v.snapNewest + 1) (if d.bak.valid then d.bak.sec else 0) f.cmd.arg0 f.tint f.resv).postOk f (v.snapNewest + 1)).holdEnd k :=
  if_neg (by simp [hv, hr])

theorem snapDelete_local (hv : v.fabric = false) : d.snapDelete f k v = (d.snapDrop k (f.cmd.arg0 % 2 ^ 32)).postOk f 0 := if_pos (by simp [hv])
end

end Sys2Proof.Machine
end

section
open Sys2Proof Sys2Proof.Machine

/-- Settles O28, clause by clause: a write of CMD carries out its command on the device with BUSY set, and a snapshot command does its work on
the record it names. -/
theorem provisioningAndSnapshots : Obligations.ProvisioningAndSnapshots := by
  refine ⟨fun d r kind hk ht hb hc hn hi hf => ?create, fun d r kind v hk ht hb hc hv hx hf => ?delete,
    fun d r kind v hk ht hb hc hv => ?load, fun d r kind v hk ht hb hc hv hm => ?modifyBad,
    fun d r kind v w hk ht hb hc hv hm hf ho hw h0 => ?modifyWaits, fun d r kind v w hk ht hb hc hv hm hf ho hw h0 => ?modifyEnds,
    fun d r kind hk ht hb => ?busy, fun d q tag f k v hf ho hn hs hp hv hr hh => ?snapHolds,
    fun d q tag f k v x hf ho hn hs hp hv hr => ?snapAgain, fun d q tag f k v hf ho hn hs hp hv => ?snapFabric,
    fun d q tag f k v hf ho hn hs hk hr hv hy => ?snapTaken, fun d q tag f k v hf hp hv => ?snapDelete⟩
  case create => exact ends_prov hk ht Dev.provCreate (exec_provCreate r kind) hb (provWrite_create · kind) (provCreate_local hc hn hi hf)
  case delete => exact ends_prov hk ht Dev.provDelete (exec_provDelete r kind) hb (provWrite_delete · kind) (provDelete_local hv hc hx hf)
  case load => exact ends_prov hk ht Dev.provLoad (exec_provLoad r kind) hb (provWrite_load · kind) (provLoad_live hv hc)
  case modifyBad => exact ends_prov hk ht Dev.provModify (exec_provModify r kind) hb (provWrite_modify · kind) (provModify_bad hv hc hm)
  case modifyWaits =>
    exact ends_prov hk ht Dev.provModify (exec_provModify r kind) hb (provWrite_modify · kind)
      ((provModify_local hv hc hm hf ho hw).trans (if_pos h0))
  case modifyEnds =>
    exact ends_prov hk ht Dev.provModify (exec_provModify r kind) hb (provWrite_modify · kind)
      ((provModify_local hv hc hm hf ho hw).trans (if_neg (not_not_intro h0)))
  case busy => exact ends_runFab (exec_provCreate r kind) (provCmd_busy hk ht 1 hb)
  case snapHolds => exact ends_runFab (exec_snapCreate q tag) ((snapCreate_asks hf ho hn hs hp).trans (snapAsk_holds hv hr hh))
  case snapAgain => exact ends_runFab (exec_snapCreate q tag) ((snapCreate_asks hf ho hn hs hp).trans (snapAsk_again hv hr))
  case snapFabric => exact ends_runFab (exec_snapCreate q tag) ((snapCreate_asks hf ho hn hs hp).trans (snapAsk_fabric hv))
  case snapTaken => exact ends_runFab (exec_snapCreate q tag) ((snapCreate_goesOn hf ho hn hs hk hr).trans (snapTake_ready hv hy))
  case snapDelete => exact ends_checkedFab (exec_snapDelete q tag) hf hp (snapDelete_local hv)
end

section
/-! PROOFS. RELOCATE, ABORT and the RAW opcodes (R133, R134, R221 to R223, R368). -/
namespace Sys2Proof.Machine
open Sys2Proof

/-! ### RELOCATE (R368) -/

section
variable {d : Dev} {q tag : Nat} {f : Flight} (hf : d.flight q tag = some f) (ho : f.cmd.opcode = 0x50)
include hf ho

/-- A RELOCATE whose checks pass begins to move its bands. -/
theorem relocStep_begins {k : Nat} {v : Store} (dst : Nat) (lost : List Nat) (hs : f.stage = .run)
    (hp : d.passes f (fun _ v => { OpChecks.none with bad := f.bandsBad v }) k v) :
    Dev.relocStep q tag dst lost d = d.setFlight { f with stage := .media } := by
  unfold Dev.relocStep
  simp only [hf, ho, hs, ne_eq, not_true_eq_false, if_false, if_true]
  exact onChecked_passes _ hp

variable {v : Store} (hs : f.stage = .media) (hv : f.key.bind d.store = some v)
include hs hv

/-- One that an ABORT caught ends once no band is on its way. -/
theorem relocStep_aborted (dst : Nat) (lost : List Nat) (hc : f.order = 1) (hb : d.relocBusy f = false) :
    Dev.relocStep q tag dst lost d = d.post f St.aborted 0 0 0 0 f.cmd.addr f.result := by
  unfold Dev.relocStep
  simp only [hf, ho, hs, hv, hc, hb, ne_eq, not_true_eq_false, reduceCtorEq, and_self, if_false, if_true]

theorem relocStep_done (dst : Nat) (lost : List Nat) (hc : f.order = 0) (hn : d.nextReloc f v = none) :
    Dev.relocStep q tag dst lost d = d.postOk f f.result := by
  unfold Dev.relocStep
  simp only [hf, ho, hs, hv, hc, hn, ne_eq, not_true_eq_false, reduceCtorEq, Nat.zero_ne_one, false_and, if_false]

theorem relocStep_next {i b dst : Nat} (lost : List Nat) (hc : f.order = 0) (hn : d.nextReloc f v = some (i, b)) (hj : d.jnlFull = false)
    (hd : d.destOk dst false = true) : Dev.relocStep q tag dst lost d = d.relocateBand b dst 14 false lost (Dev.relocNext q tag i) := by
  unfold Dev.relocStep
  simp only [hf, ho, hs, hv, hc, hn, hj, hd, ne_eq, not_true_eq_false, reduceCtorEq, Nat.zero_ne_one, false_and, Bool.not_true, Bool.or_self,
    Bool.false_eq_true, if_false]
end

/-- A band whose rows all pass moves on the device that they leave. -/
theorem relocateBand_moves {d x : Dev} {b dst gate : Nat} {forced : Bool} {e : BandEnt} (lost : List Nat) (after : Dev → Dev)
    (hb : d.band b = some e) (hd : d.destOk dst false = true) (hj : d.jobElse gate b = false)
    (hx : (d.holdLog e).jobEnd gate b forced wholeCosts = some x) :
    d.relocateBand b dst gate forced lost after = after (x.relocateWork b dst gate lost) := by
  unfold Dev.relocateBand
  simp only [hb, hd, hj, Bool.not_true, Bool.or_self, Bool.false_eq_true, if_false]
  exact job_end _ hx

/-! ### ABORT (R133, R134) -/

/-- An ABORT names a tag that it may not: one past 31, its own, or another ABORT's (R133). -/
def Dev.abortBad (d : Dev) (q tag : Nat) (f : Flight) : Bool :=
  decide (32 ≤ f.cmd.arg0) || f.cmd.arg0 % 32 == tag || (match d.flight q (f.cmd.arg0 % 32) with
    | some x => x.cmd.opcode == 0x60
    | none => false)

/-- What an ABORT does with the command that it finds in the tag it names (R133). -/
def Dev.abortFound (d : Dev) (f : Flight) : Option Flight → Dev
  | none => d.postOk f 2
  | some x =>
    if d.committed x then d.setFlight { f with stage := .xfer, result := 1 }
    else if x.cmd.opcode = 0x50 ∧ d.relocBusy x then (d.setFlight { x with order := 1 }).setFlight { f with stage := .xfer, result := 0 }
    else (d.caught x).postOk f 0

section
variable {d : Dev} {f x : Flight}

theorem abortFound_committed (hc : d.committed x = true) : d.abortFound f (some x) = d.setFlight { f with stage := .xfer, result := 1 } :=
  if_pos hc

theorem abortFound_caught (hc : d.committed x = false) (ho : x.cmd.opcode ≠ 0x50) : d.abortFound f (some x) = (d.caught x).postOk f 0 :=
  (if_neg (by simp [hc])).trans (if_neg fun h => ho h.1)

theorem abortFound_relocate (hc : d.committed x = false) (ho : x.cmd.opcode = 0x50) :
    d.abortFound f (some x) = if d.relocBusy x = true
      then (d.setFlight { x with order := 1 }).setFlight { f with stage := .xfer, result := 0 } else (d.caught x).postOk f 0 :=
  (if_neg (by simp [hc])).trans (by simp only [ho, true_and])
end

section
variable {d : Dev} {q tag : Nat} {f : Flight}

/-- An ABORT just admitted whose checks pass does what its target calls for. -/
theorem abortCmd_finds {t : Option Flight} (hf : d.fresh q tag 0x60 false f) (hd : d.denyPlain f (d.abortBad q tag f) = none)
    (ht : d.flight q (f.cmd.arg0 % 32) = t) : Dev.abortCmd q tag d = d.abortFound f t := by
  have hs : f.stage ≠ .xfer := by rw [hf.2.1]; decide
  unfold Dev.abortCmd
  simp only [fresh_flight hf, hs, and_false, if_false]
  unfold Dev.abortTake
  rw [take_fresh _ hf]
  unfold Dev.abortBad at hd
  cases t with
  | none => simp only [ht] at hd ⊢; simp only [hd]; rfl
  | some x => simp only [ht] at hd ⊢; simp only [hd]; rfl

/-- One that waits for its target ends once the target has. -/
theorem abortCmd_ends (hf : d.flight q tag = some f) (ho : f.cmd.opcode = 0x60) (hs : f.stage = .xfer)
    (ht : d.targetRuns f (f.cmd.arg0 % 32) = false) : Dev.abortCmd q tag d = d.postOk f f.result := by
  unfold Dev.abortCmd
  simp only [hf, ho, hs, ht, and_self, Bool.false_eq_true, if_true, if_false]

/-- After either, the holds that the end of a command lets finish do. -/
theorem ends_abort {e : Dev} (he : Dev.abortCmd q tag d = e) : Ends afterFlights (.abort q tag) d e.holdsFinish :=
  ends_runCmd (exec_abort q tag) (congrArg Dev.holdsFinish he)
end

/-! ### RAW (R221 to R223) -/

/-- The list of a raw command ran: it ended with none of DIE_FAILED, ERASE_BUSY, INVALID and DISCARDED (R214), each of which completes the command
by itself. -/
def ListDone.ran (l : ListDone) : Prop := ¬(l.status = 4 ∨ l.status = 5 ∨ l.status = 8 ∨ l.status = 9)

/-- The device that has taken the record of a completed list. -/
def Dev.tookList (d : Dev) (l : ListDone) : Dev := { d with listsDone := d.listsDone.filter (fun x => !(x == l)) }

section
variable {d : Dev} {q tag op : Nat} {f : Flight}

theorem rawTake_admitted (hf : d.fresh q tag op false f) (hd : d.rawDeny f = none) :
    Dev.rawTake q tag op d = d.toGate { f with
      charge := if op = 0x70 then (if f.cmd.rawMode = 0 then f.cmd.count else 4 * f.cmd.count) else if op = 0x71 then 16 else 0 } := by
  unfold Dev.rawTake
  rw [take_fresh _ hf]
  simp only [hd]

theorem rawEnd_ran {l : ListDone} (go : Dev → ListDone → Dev) (hl : d.rawDone f = some l) (hr : l.ran) : d.rawEnd f go = go (d.tookList l) l := by
  obtain ⟨h4, h5, h8, h9⟩ : l.status ≠ 4 ∧ l.status ≠ 5 ∧ l.status ≠ 8 ∧ l.status ≠ 9 := by simpa [ListDone.ran] using hr
  unfold Dev.rawEnd
  simp only [hl, h4, h5, h8, h9, if_false]
  rfl

variable (hf : d.flight q tag = some f)
include hf

section
variable (ho : f.cmd.opcode = 0x70) (outs : List Decoded) (soft : Bool) (given : List Byte) (st : Nat)
include ho

theorem rawRead_takes (hs : f.stage = .run) : Dev.rawRead q tag outs soft given st d = Dev.rawTake q tag 0x70 d := by
  unfold Dev.rawRead
  simp only [hf, ho, hs, ne_eq, not_true_eq_false, if_false, if_true]

theorem rawRead_issues (hs : f.stage = .xfer) : Dev.rawRead q tag outs soft given st d = d.rawIssue f := by
  unfold Dev.rawRead
  simp only [hf, ho, hs, ne_eq, not_true_eq_false, reduceCtorEq, if_false, if_true]

/-- A read of whole planes (MODE 1) gives the bytes read and the die's status byte. -/
theorem rawRead_planes {l : ListDone} (hs : f.stage = .media) (hl : d.rawDone f = some l) (hr : l.ran) (hg : given.length = f.buffer)
    (hm : f.cmd.rawMode = 1) : Dev.rawRead q tag outs soft given st d =
      ((d.tookList l).dmaOut f ((d.tookList l).rawData f.cmd outs given)).postOk f (st % 256) := by
  unfold Dev.rawRead
  simp only [hf, ho, hs, hg, hm, rawEnd_ran _ hl hr, ne_eq, not_true_eq_false, reduceCtorEq, Nat.one_ne_zero, and_false, false_and, or_self,
    if_false, if_true]
end

section
variable (ho : f.cmd.opcode = 0x71) (given : List Byte) (st : Nat)
include ho

theorem rawProgram_takes (hs : f.stage = .run) : Dev.rawProgram q tag given st d = Dev.rawTake q tag 0x71 d := by
  unfold Dev.rawProgram
  simp only [hf, ho, hs, ne_eq, not_true_eq_false, if_false, if_true]

theorem rawProgram_issues (hs : f.stage = .data) (hg : given.length = f.buffer) :
    Dev.rawProgram q tag given st d = d.rawIssue { f with staged := [{ data := given }] } := by
  unfold Dev.rawProgram
  simp only [hf, ho, hs, hg, ne_eq, not_true_eq_false, reduceCtorEq, if_false, if_true]

theorem rawProgram_programs {l : ListDone} (hs : f.stage = .media) (hl : d.rawDone f = some l) (hr : l.ran) :
    Dev.rawProgram q tag given st d = ((d.tookList l).rawPut (f.cmd.rawChan * 16 + f.cmd.rawDie) f.cmd.rawBlock f.cmd.rawPage
      ((f.staged.head?.map (fun x => x.data)).getD [])).postOk f (st % 256) := by
  unfold Dev.rawProgram
  simp only [hf, ho, hs, rawEnd_ran _ hl hr, ne_eq, not_true_eq_false, reduceCtorEq, if_false]
end

section
variable (ho : f.cmd.opcode = 0x72) (st : Nat)
include ho

theorem rawErase_takes (hs : f.stage = .run) : Dev.rawErase q tag st d = Dev.rawTake q tag 0x72 d := by
  unfold Dev.rawErase
  simp only [hf, ho, hs, ne_eq, not_true_eq_false, if_false, if_true]

theorem rawErase_issues (hs : f.stage = .xfer) : Dev.rawErase q tag st d = d.rawIssue f := by
  unfold Dev.rawErase
  simp only [hf, ho, hs, ne_eq, not_true_eq_false, reduceCtorEq, if_false, if_true]

theorem rawErase_erases {l : ListDone} (hs : f.stage = .media) (hl : d.rawDone f = some l) (hr : l.ran) :
    Dev.rawErase q tag st d = ((d.tookList l).rawWipe (f.cmd.rawChan * 16 + f.cmd.rawDie) f.cmd.rawBlock).postOk f (st % 256) := by
  unfold Dev.rawErase
  simp only [hf, ho, hs, rawEnd_ran _ hl hr, ne_eq, not_true_eq_false, reduceCtorEq, if_false]
end
end

end Sys2Proof.Machine
end

section
open Sys2Proof Sys2Proof.Machine

/-- Settles O29, clause by clause: each stage of SNAP_READ, ATTEST, RELOCATE, ABORT and the RAW opcodes has its effect. -/
theorem administrativeCommands : Obligations.AdministrativeCommands := by
  refine ⟨fun d q tag f k v hf hp => ?snapRead, fun d q tag f k v x hf hp hx => ?attest,
    fun d q tag dst lost f v k hf ho hs hp => ?relocBegins, fun d q tag dst lost f v i b e x hf ho hs hv hc hn hj hd hb he hx => ?relocMoves,
    fun d q tag dst lost f v hf ho hs hv hc hn => ?relocDone, fun d q tag dst lost f v hf ho hs hv hc hb => ?relocAborted,
    fun d q tag f hf hd ht => ?abortMissing, fun d q tag f x hf hd ht hc => ?abortLate, fun d q tag f x hf hd ht hc ho => ?abortCatches,
    fun d q tag f x hf hd ht hc ho => ?abortRelocate, fun d q tag f hf ho hs ht => ?abortEnds,
    fun d q tag f outs soft given st hf ho hs hn hg hd => ?readTaken, fun d q tag f outs soft given st hf ho hs => ?readIssued,
    fun d q tag f outs soft given st l hf ho hs hl hr hg hm => ?readEnds,
    fun d q tag f given st hf ho hs hn hg hd => ?programTaken, fun d q tag f given st hf ho hs hg => ?programIssued,
    fun d q tag f given st l hf ho hs hl hr => ?programEnds,
    fun d q tag f st hf ho hs hn hg hd => ?eraseTaken, fun d q tag f st hf ho hs => ?eraseIssued,
    fun d q tag f st l hf ho hs hl hr => ?eraseEnds⟩
  case snapRead => exact ends_checked (exec_snapRead q tag) hf hp rfl
  case attest => exact ends_checked (exec_attest q tag x) hf hp (if_pos hx)
  case relocBegins => exact ends_runCmd (exec_relocate q tag dst lost) (relocStep_begins hf ho dst lost hs hp)
  case relocMoves =>
    exact ends_runCmd (exec_relocate q tag dst lost)
      ((relocStep_next hf ho hs hv lost hc hn hj hd).trans (relocateBand_moves lost _ hb hd he hx))
  case relocDone => exact ends_runCmd (exec_relocate q tag dst lost) (relocStep_done hf ho hs hv dst lost hc hn)
  case relocAborted => exact ends_runCmd (exec_relocate q tag dst lost) (relocStep_aborted hf ho hs hv dst lost hc hb)
  case abortMissing => exact ends_abort (abortCmd_finds hf hd ht)
  case abortLate => exact ends_abort ((abortCmd_finds hf hd ht).trans (abortFound_committed hc))
  case abortCatches => exact ends_abort ((abortCmd_finds hf hd ht).trans (abortFound_caught hc ho))
  case abortRelocate => exact ends_abort ((abortCmd_finds hf hd ht).trans (abortFound_relocate hc ho))
  case abortEnds => exact ends_abort (abortCmd_ends hf ho hs ht)
  case readTaken =>
    exact ends_runCmd (exec_rawRead q tag outs soft given st)
      ((rawRead_takes hf ho outs soft given st hs).trans (rawTake_admitted ⟨hf, hs, ho, hn, hg⟩ hd))
  case readIssued => exact ends_runCmd (exec_rawRead q tag outs soft given st) (rawRead_issues hf ho outs soft given st hs)
  case readEnds => exact ends_runCmd (exec_rawRead q tag outs soft given st) (rawRead_planes hf ho outs soft given st hs hl hr hg hm)
  case programTaken =>
    exact ends_runCmd (exec_rawProgram q tag given st) ((rawProgram_takes hf ho given st hs).trans (rawTake_admitted ⟨hf, hs, ho, hn, hg⟩ hd))
  case programIssued => exact ends_runCmd (exec_rawProgram q tag given st) (rawProgram_issues hf ho given st hs hg)
  case programEnds => exact ends_runCmd (exec_rawProgram q tag given st) (rawProgram_programs hf ho given st hs hl hr)
  case eraseTaken =>
    exact ends_runCmd (exec_rawErase q tag st) ((rawErase_takes hf ho st hs).trans (rawTake_admitted ⟨hf, hs, ho, hn, hg⟩ hd))
  case eraseIssued => exact ends_runCmd (exec_rawErase q tag st) (rawErase_issues hf ho st hs)
  case eraseEnds => exact ends_runCmd (exec_rawErase q tag st) (rawErase_erases hf ho st hs hl hr)
end

section
/-! PROOFS. Band translation: the commands past their guards (R153 to R184). -/
namespace Sys2Proof.Machine
open Sys2Proof

/-! ### DESTAGE and the hold of a unit (R153, R157) -/

section
variable {d : Dev} {b start n : Nat} {ls : List (Nat × Line)}

/-- A run that does not cover its band goes to the log band the band has, unless it does not continue a direct fill. -/
theorem destage_logged {e : BandEnt} {x : LogBand} (dst : Nat) (bad : Option Nat) (hm : d.mayPlace = true) (ht : d.streamTurn b start = true)
    (hj : d.jobOn b = false) (ha : d.atReserve = false) (hr : d.writeRun b start n = some ls) (hn : n ≠ 4096) (hb : d.band b = some e)
    (hl : e.logged = true) (hx : d.logBand e.logIdx = some x) :
    Dev.destage b start n dst bad d =
      if (x.direct && !(x.fill == start)) = true then d.endDirect b e.logIdx dst else d.placeLog e.logIdx bad ls := by
  unfold Dev.destage
  rw [if_neg (by simp [hm, ht, hj, ha]), hr]
  simp only [hn, hb, hl, hx, if_true, if_false]

/-- A run of a band without an entry is placed by its extent: a whole band at once, anything less in a new log band. -/
theorem destage_unmapped (dst : Nat) (bad : Option Nat) (hm : d.mayPlace = true) (ht : d.streamTurn b start = true)
    (hj : d.jobOn b = false) (ha : d.atReserve = false) (hr : d.writeRun b start n = some ls) (hb : d.band b = none) :
    Dev.destage b start n dst bad d =
      if n = 4096 then (if ls.all (·.2.zero) = true then d.unmapBand b else d.placeWhole b dst bad ls) else d.placeNew b start dst bad ls := by
  unfold Dev.destage
  rw [if_neg (by simp [hm, ht, hj, ha]), hr]
  simp only [hb]

/-- A unit whose hold is over, or whose lines the cache needs, programs, or fails where a member's program does. -/
theorem holdExpiry_due {l : Nat} {x : LogBand} (bad : Option Nat) (hx : d.logBand l = some x) (hm : d.mayPlace = true)
    (hu : x.unit.isEmpty = false) (hr : x.more = true) (hw : x.holdUs ≤ d.life.usUp - x.unitUs ∨ d.linesWanted = true) :
    Dev.holdExpiry l bad d = bad.elim (d.programUnit l) (d.unitFail l) := by
  unfold Dev.holdExpiry
  rw [hx]
  dsimp only
  rw [if_neg (by rcases hw with h | h <;> simp [hm, hu, hr, h])]
  cases bad <;> rfl
end

/-! ### Merges, folds and collection (R159 to R162, R170) -/

section
variable {d : Dev}

/-- A merge whose rows all pass G12 does its work on the device that they leave. -/
theorem endLog_merges {x : Dev} {l dst : Nat} {fast forced : Bool} {y : LogBand} (lost : List Nat) (hw : d.mergeWaits l dst fast = false)
    (hy : (d.settleUnit l).logBand l = some y)
    (hx : ((d.settleUnit l).setLog l { y with state := 3 }).jobEnd 12 y.band forced ((d.settleUnit l).mergeCosts y) = some x) :
    d.endLog l dst fast forced lost = x.mergeWork l dst fast lost := by
  unfold Dev.endLog
  rw [if_neg (by simp [hw])]
  simp only [hy]
  exact job_end _ hx

/-- The fast band switched longest ago moves out of pSLC. -/
theorem fold_oldest {b : Nat} {bs : List Nat} (dst : Nat) (lost : List Nat) (hm : d.mayRelocate = true) (hf : d.ftl.fastOrder = b :: bs) :
    Dev.fold dst lost d = d.relocateBand b dst 11 d.ahead lost id := by
  unfold Dev.fold
  rw [if_neg (by simp [hm]), hf]

/-- Collection shows its victim, and settles or empties it. -/
theorem gcCollect_victim {v : Nat} (dsts lost : List Nat) (hm : d.mayRelocate = true) (hp : 0 < d.gcPressure ∨ d.jobAt 10 = true)
    (hv : d.gcNext = some v) :
    Dev.gcCollect dsts lost d =
      let e := (d.setRegN .GC 0 Reg.GC_VICTIM (v % 2 ^ 20 + (d.sb v).valid % 64 * 2 ^ 20 + 2 ^ 26)).toReclaim v 2
      if (e.sb v).valid = 0 then e.sbSettle v else e.emptySb v 10 dsts lost (fun d => d.inc64 .GC 0 Reg.GC_RELOCATED 1) := by
  unfold Dev.gcCollect
  rw [if_neg (by rcases hp with h | h <;> simp [hm, h]), hv]
end

/-! ### Superblocks (R166 to R169, R318, R319) -/

section
variable {d : Dev} {n : Nat}

/-- The allocator's superblock goes to ERASING behind its erase intent. -/
theorem sbAllocate_takes {pslc fh : Bool} {p g : Nat} (hm : d.mayPlace = true) (hf : fh = true → d.atReserve = false)
    (ht : pslc = true → d.curSb + d.pslcComing < d.pslTarget) (h1 : 1 ≤ p) (h4 : p ≤ 4) (hg : d.allocGroup = some g)
    (hn : d.oldestFree g = some n) (ho : d.lookupOpen n = false) :
    Dev.sbAllocate pslc p fh d =
      let e := (d.arbWin 0x320 128 g).setRegF .REB 0 Reg.REB_REB_STS 3 1 0
      ((e.setSb n { e.sb n with
        state := 1, pslc := pslc, purpose := p, valid := 0, next := 0, failed := [], kind := 0 }).ledgerIntent n).pslRecompute := by
  unfold Dev.sbAllocate
  rw [if_neg (by simpa [hm, h1, h4] using ⟨hf, ht⟩), hg]
  simp only [hn]
  exact if_neg (by simp [ho])

/-- The device on which the ends of the erases of a superblock are booked: nothing of it is on media, and no decode error is injected in it. -/
def Dev.erased (d : Dev) (n : Nat) : Dev :=
  { d with
    media := d.media.filter (fun x => keySb x.1 != n)
    injected := d.injected.filter (fun x => !(x.page == PT.LDP.code && keySb x.addr == n)) }

/-- A superblock all of whose blocks erased opens behind its two header pages. -/
theorem eraseDone_opens {a b : Nat} (hs : (d.sb n).state = 1) (hh : d.openHeld n = false) (hc : d.copyOk a b = true)
    (hf : d.life.fatal = false) :
    Dev.eraseDone n [] a b d =
      let e := ((d.erased n).countErases n []).ledgerClose n []
      (e.copyPage a b 7 (headerPage (e.headerRec n))).setSb n { e.sb n with state := 2 } :=
  if_neg (by simp [hs, hh, hc, hf])

/-- One with blocks that failed to erase is settled once those are handled. -/
theorem eraseDone_settles {bad : List Nat} (a b : Nat) (hs : (d.sb n).state = 1) (hb : bad.isEmpty = false) :
    Dev.eraseDone n bad a b d =
      (bad.foldl (fun e m => e.blockFail n m) (((d.erased n).countErases n bad).ledgerClose n bad)).sbSettle n := by
  unfold Dev.eraseDone
  rw [if_neg (by simp [hs, hb])]
  exact if_neg (by simp [hb])
end

/-! ### Patrol and checkpoints (R179, R184, R189) -/

section
variable {d : Dev}

/-- A refresh in progress goes on before any visit. -/
theorem patrolVisit_refreshes {n : Nat} {s : Sb} (outs : List (Nat × Nat × Decoded)) (dsts lost : List Nat) (hm : d.mayRelocate = true)
    (hs : d.ftl.sbs.find? (fun e => e.2.state == 4 && e.2.kind == 1) = some (n, s)) :
    Dev.patrolVisit outs dsts lost d = (d.emptySb n 13 dsts lost (fun d => d.incWrap .WEAR 0 Reg.WEAR_REFRESHED 1)).sbSettle n := by
  unfold Dev.patrolVisit
  rw [if_neg (by simp [hm])]
  simp only [hs]

/-- A visit reads its rows, counts them and itself, and refreshes on a finding. -/
theorem patrolVisit_visits {n : Nat} (outs : List (Nat × Nat × Decoded)) (dsts lost : List Nat) (hm : d.mayRelocate = true)
    (hg : d.gateOpen 13 = true) (hs : d.ftl.sbs.find? (fun e => e.2.state == 4 && e.2.kind == 1) = none) (hn : d.patrolNext = some n) :
    Dev.patrolVisit outs dsts lost d =
      let rows := d.visitRows n
      let mine := outs.filter (fun e => rows.contains (keyRow e.1) && mhas d.media e.1)
      let e := (d.charge 13 (256 * rows.length)).visitCounts (d.media.filter (fun e => rows.contains (keyRow e.1))).length mine
      let f := e.setSb n { e.sb n with visitS := e.nowS, visits := (e.sb n).visits + 1 }
      if mine.any (fun e => d.visitFinds e.2.1 e.2.2) = true then
        ((f.finding n).emptySb n 13 dsts lost (fun d => d.incWrap .WEAR 0 Reg.WEAR_REFRESHED 1)).sbSettle n else f := by
  unfold Dev.patrolVisit
  rw [if_neg (by simp [hm])]
  simp only [hs, hn]
  exact if_neg (by simp [hg])

/-- A pass due starts with a root page and the records of groups, unprotected rows and open rows. -/
theorem checkpointPass_starts (hm : d.mayPlace = true) (hb : d.regB .MAP 0 Reg.MAP_CKPT_STS 8 = false)
    (hl : d.deltaMax ≤ d.jnl.deltas.length) (hr : d.plp.rootPages ≠ 0) :
    d.checkpointPass =
      let recs := d.ftl.groups.flatMap (fun e => d.groupRecs e.1) ++
        d.ftl.unprot.map (fun k => d.rowRec rowUnprot k true (d.bandOfSlot (k / 1024) (k / 16 % 64)) 16) ++
        d.ftl.rows.map (fun e => d.rowRec rowProgress e.1 true (d.bandOfSlot (e.1 / 1024) (e.1 / 16 % 64)) e.2.units)
      let e : Dev := { d with
        plp := { d.plp with rootPages := d.plp.rootPages - 1 }
        jnl := { d.jnl with rootSeq := d.jnl.rootSeq + 1, passSeq := d.reg64 .JNL 0 Reg.JNL_JSEQ } }
      (e.setRegN .MAP 0 Reg.MAP_CKPT_STS 0x100).jrec recs := by
  unfold Dev.checkpointPass
  rw [if_neg (by simp [hb])]
  exact if_neg (by simp [hm, hl, hr])

theorem checkpointPass_counts (hf : d.life.fatal = false) (hb : d.regB .MAP 0 Reg.MAP_CKPT_STS 8 = true) :
    d.checkpointPass = d.setRegF .MAP 0 Reg.MAP_CKPT_STS 0 8 (min 192 (d.regF .MAP 0 Reg.MAP_CKPT_STS 0 8 + 1)) :=
  (if_pos hb).trans (if_neg (by simp [hf]))

/-- The pass whose 192 chunks are written stands on media, and a format that wrote it goes on. -/
theorem ckptDone_closes (hb : d.regB .MAP 0 Reg.MAP_CKPT_STS 8 = true) (hc : d.regF .MAP 0 Reg.MAP_CKPT_STS 0 8 = 192) :
    d.ckptDone =
      let e : Dev := { d with jnl := { d.jnl with
        deltas := [], copies := [], media := d.ftl, waiting := d.jnl.waiting.map (fun p => { p with state := d.ftl }) } }
      ((e.setRegN .MAP 0 Reg.MAP_CKPT_STS 192).setIrq .MAP 0 0).formatFinish :=
  if_neg (by simp [hb, hc])
end

end Sys2Proof.Machine
end

section
open Sys2Proof Sys2Proof.Machine

/-- Settles O30, clause by clause: each command finds what its rule asks for and does its own work. -/
theorem bandTranslation : Obligations.BandTranslation := by
  refine ⟨fun d b start dst bad ls n e x hm ht hj ha hr hn hb hl hx => ?destageLogged,
    fun d b start dst bad ls n hm ht hj ha hr hb => ?destageUnmapped, fun d l x hx hm hu hr hw => ?holdEnds,
    fun d l m x hx hm hu hr hw => ?holdFails, fun d l dst lost hm hd => ?merge,
    fun d x l dst fast forced lost y hw hy hx => endLog_merges lost hw hy hx, fun d dst b lost bs hm hf => ?fold,
    fun d x b dst gate forced lost after e hb hd hj hx => relocateBand_moves lost after hb hd hj hx, fun d hb => ?target,
    fun d dsts lost v hm hp hv => ?collect, fun d pslc fh p g n hm hf ht h1 h4 hg hn ho => ?allocate,
    fun d n a b bad hs hh hc hf hb => ?eraseOpens, fun d n a b bad hs hb => ?eraseSettles,
    fun d outs dsts lost n hm hg hs hn => ?visit, fun d outs dsts lost n s hm hs => ?refresh,
    fun d hm hb hl hr => ?passStarts, fun d hf hb => ?passCounts, fun d hb hc => ?passEnds⟩
  case destageLogged => exact ends_run (exec_destage b start n dst bad) (destage_logged dst bad hm ht hj ha hr hn hb hl hx)
  case destageUnmapped => exact ends_run (exec_destage b start n dst bad) (destage_unmapped dst bad hm ht hj ha hr hb)
  case holdEnds => exact ends_run (exec_logUnitHoldExpiry l none) (holdExpiry_due none hx hm hu hr hw)
  case holdFails => exact ends_run (exec_logUnitHoldExpiry l (some m)) (holdExpiry_due (some m) hx hm hu hr hw)
  case merge => exact ends_run (exec_merge l dst lost) (if_pos (by simp [hm, hd]))
  case fold => exact ends_run (exec_fold dst lost) (fold_oldest dst lost hm hf)
  case target => exact ends_run exec_pslcTargetRecompute (if_pos hb)
  case collect => exact ends_run (exec_gcCollect dsts lost) (gcCollect_victim dsts lost hm hp hv)
  case allocate => exact ends_run (exec_sbAllocate pslc p fh) (sbAllocate_takes hm hf ht h1 h4 hg hn ho)
  case eraseOpens => subst hb; exact ends_run (exec_eraseDone n ⟨[], a, b⟩) (eraseDone_opens hs hh hc hf)
  case eraseSettles => exact ends_run (exec_eraseDone n ⟨bad, a, b⟩) (eraseDone_settles a b hs hb)
  case visit => exact ends_run (exec_patrolVisit outs dsts lost) (patrolVisit_visits outs dsts lost hm hg hs hn)
  case refresh => exact ends_run (exec_patrolVisit outs dsts lost) (patrolVisit_refreshes outs dsts lost hm hs)
  case passStarts => exact ends_run exec_checkpointPass (checkpointPass_starts hm hb hl hr)
  case passCounts => exact ends_run exec_checkpointPass (checkpointPass_counts hf hb)
  case passEnds => exact ends_run exec_ckptDone (ckptDone_closes hb hc)
end

section
/-! PROOFS. Stripe parity, journal pages, rebuild and reshape past their guards (R271 to R300). -/
namespace Sys2Proof.Machine
open Sys2Proof

/-! ### Rows of log bands (R271, R272) -/

section
variable {d : Dev} {l row : Nat} {x : LogBand} {r : RowSt} (hx : d.logBand l = some x)
include hx

/-- The parity of a row is charged to G12; the row is then closed, or left unprotected and its merge urged. -/
theorem rowParity_ok :
    d.rowParity l row .ok = ((d.charge 12 240).closeRow ((x.sb * 64 + x.slot) * 16 + row)).jrec
      [(d.charge 12 240).rowRec rowClosed ((x.sb * 64 + x.slot) * 16 + row) true x.band 17] := by
  unfold Dev.rowParity
  rw [hx]

theorem rowParity_undecodable :
    d.rowParity l row .undecodable =
      (((d.charge 12 240).unprotect ((x.sb * 64 + x.slot) * 16 + row)).raiseErr .STR 0 2 noDetail).urge l false := by
  unfold Dev.rowParity
  rw [hx]

theorem rowParity_programFail (m : Nat) :
    d.rowParity l row (.programFail m) =
      ((((d.charge 12 240).blockFail x.sb m).unprotect ((x.sb * 64 + x.slot) * 16 + row)).raiseErr .STR 0 2 noDetail).urge l true := by
  unfold Dev.rowParity
  rw [hx]

/-- A row with 16 units gets its parity. -/
theorem logRowParity_full (res : Parity) (hr : mget d.ftl.rows ((x.sb * 64 + x.slot) * 16 + row) = some r) (hm : d.mayPlace = true)
    (hu : 16 ≤ r.units) (hw : row < 16) : Dev.logRowParity l row res d = d.rowParity l row res := by
  unfold Dev.logRowParity
  simp only [hx, hr]
  exact if_pos (by simp [hm, hu, hw])

theorem ends_logRowParity {res : Parity} {e : Dev} (hr : mget d.ftl.rows ((x.sb * 64 + x.slot) * 16 + row) = some r)
    (hm : d.mayPlace = true) (hu : 16 ≤ r.units) (hw : row < 16) (he : d.rowParity l row res = e) :
    Ends afterAll (.logRowParity l row res) d e :=
  ends_run (exec_logRowParity l row res) ((logRowParity_full hx res hr hm hu hw).trans he)

/-- The open row of a log band without a pending unit is completed with pads once it is late. -/
theorem rowClose_late (res : Parity) (hn : x.unit = []) (hp : x.more = true) (hs : x.state ≠ 3)
    (hr : mget d.ftl.rows ((x.sb * 64 + x.slot) * 16 + x.fill / 256) = some r) (hm : d.mayPlace = true)
    (ht : d.rowCloseUs < d.life.usUp - r.firstUs ∨ d.life.entry = .patrolEntering) (hu : r.units < 16) :
    Dev.rowClose l res d =
      let row := x.fill / 256
      let pads := (row + 1) * 256 - x.fill
      let k := (x.sb * 64 + x.slot) * 16 + row
      let e := ((d.programAt x.sb x.slot (d.padCws x x.fill ((row + 1) * 256))).inc64 .LOG 0 Reg.LOG_PAD_SECT pads).charge 12 pads
      let f := e.setLog l { x with
        fill := (row + 1) * 256, inOrder := x.inOrder && decide (pads = 0), state := if (row + 1) * 256 = 4096 then 2 else x.state }
      (f.jrec ((List.range (pads / 16)).map (fun i => f.rowRec rowProgress k true x.band (r.units + i + 1)))).rowParity l row res := by
  have he : x.unit.isEmpty = true := by rw [hn]; rfl
  have h0 : x.fill - x.unit.length = x.fill := by rw [hn]; rfl
  unfold Dev.rowClose Dev.rowPad
  simp only [hx, he, Bool.true_or, if_true, h0, hr]
  exact if_pos (by rcases ht with h | h <;> simp [hp, hs, hm, hu, h])
end

/-! ### Journal pages (R276, R277) -/

section
variable {d : Dev}

/-- The oldest filled page goes to two dies, and what it records stands on media. -/
theorem journalPage_writes {a b : Nat} {p : JPage} {ps : List JPage} (hw : d.jnl.waiting = p :: ps) (hc : d.copyOk a b = true)
    (hf : d.life.fatal = false) :
    Dev.journalPage a b d =
      let e : Dev := { d with jnl := { d.jnl with
        waiting := ps, media := p.state, copies := (a, b) :: d.jnl.copies, seqMedia := d.jnl.seqMedia + 2048 } }
      (e.copyPage a b 2 p.bytes).inc64 .JNL 0 Reg.JNL_PAGES 1 := by
  unfold Dev.journalPage
  simp only [hw]
  exact if_neg (by simp [hc, hf])

/-- A page with one copy left is copied from the die that still has it. -/
theorem journalRestore_copies {n : Nat} {c : Nat × Nat} (hc : d.jnl.copies.find? d.oneCopy = some c)
    (ho : d.copyOk (if d.dieGone c.1 = true then c.2 else c.1) n = true) :
    Dev.journalRestore n d = { d with jnl := { d.jnl with
      copies := updFirst (fun x => x == c) (fun _ => (if d.dieGone c.1 = true then c.2 else c.1, n)) d.jnl.copies } } := by
  unfold Dev.journalRestore
  simp only [hc]
  exact if_pos ho

/-! ### Rebuild and repair (R167, R284 to R288) -/

/-- A band under way, or else the next band of a group that leaves, moves; emptied groups end and new ones form. -/
theorem rebuildRelocate_band {dst b g : Nat} {out : List Nat} (lost : List Nat) (hm : d.mayRelocate = true)
    (ho : (d.ftl.groups.filter (fun e => e.2.state == 2)).map (·.1) = g :: out) (hd : d.destOk dst false = true)
    (hb : ((g :: out).findSome? d.rebuildHere).or (d.leaving.findSome? (fun g => d.rebuildNext g)) = some b) :
    Dev.rebuildRelocate dst lost d =
      (d.leaving.foldl (fun e g => e.groupDone g)
        (d.relocateBand b dst 14 false lost (fun d => d.inc64 .REB 0 Reg.REB_MOVED 1))).formFromPool := by
  unfold Dev.rebuildRelocate
  rw [if_neg (by simp [hm])]
  simp only [ho, hd, Bool.not_true, Bool.false_eq_true, false_and, if_false]
  cases hh : (g :: out).findSome? d.rebuildHere with
  | some c => rw [hh] at hb; cases hb; rfl
  | none => rw [hh, Option.none_or] at hb; simp only [hb]

/-- Where no band is left to move, the next held slot does. -/
theorem rebuildRelocate_held {dst g : Nat} {out : List Nat} {h : SnapEnt} (lost : List Nat) (hm : d.mayRelocate = true)
    (ho : (d.ftl.groups.filter (fun e => e.2.state == 2)).map (·.1) = g :: out) (hd : d.destOk dst false = true)
    (hb : (g :: out).findSome? d.rebuildHere = none) (hn : d.leaving.findSome? (fun g => d.rebuildNext g) = none)
    (hh : d.leaving.findSome? (fun g => (d.heldOfGroup g).head?) = some h) :
    Dev.rebuildRelocate dst lost d =
      (d.leaving.foldl (fun e g => e.groupDone g) (d.relocateHeld h dst 14 false lost)).formFromPool := by
  unfold Dev.rebuildRelocate
  rw [if_neg (by simp [hm])]
  simp only [ho, hd, hb, hn, hh, Bool.not_true, Bool.false_eq_true, false_and, if_false]

theorem repairRelocation_empties {n : Nat} (dsts lost : List Nat) (hm : d.mayRelocate = true) (hs : (d.sb n).state = 5) :
    Dev.repairRelocation n dsts lost d = (d.emptySb n 14 dsts lost id).sbSettle n :=
  (if_neg (by simp [hm])).trans (if_pos (.inl hs))

/-! ### Reshape (R294 to R297) -/

/-- A START while no reshape runs begins one where R294 lets it. -/
theorem reshapeWrite_start {v : W32} (hr : d.regB .REB 0 Reg.REB_REB_CTL 0 = false) (hv : fld v 0 1 = 1) :
    d.reshapeWrite v =
      let e := (d.setRegF .REB 0 Reg.REB_REB_CTL 1 1 (fld v 1 1)).setRegF .REB 0 Reg.REB_REB_CTL 2 1 (fld v 2 1)
      let w := e.regF .REB 0 Reg.REB_REB_CTL 1 1
      if w = e.regF .STR 0 Reg.STR_STR_STS 0 1 then e
      else if e.ftl.groups.any (fun g => g.2.state == 2) = true then e.raiseErr .REB 0 1 noDetail
      else if e.reshapeCap w < e.reshapeNeed then e.raiseErr .REB 0 0 noDetail
      else (e.setRegF .REB 0 Reg.REB_REB_CTL 0 1 1).setRegF .REB 0 Reg.REB_REB_STS 2 2 0 := by
  unfold Dev.reshapeWrite
  simp only [hr, hv, Nat.one_ne_zero, Bool.false_eq_true, if_false]

/-- A reshape all of whose groups have the target width ends. -/
theorem reshapeStep_ends (hr : d.regB .REB 0 Reg.REB_REB_CTL 0 = true) (hp : d.reshapePaused = false) (hm : d.mayRelocate = true)
    (hw : d.formFromPool.ftl.groups.all (fun e => e.2.width == d.formFromPool.formWidth) = true) :
    d.reshapeStep =
      let e := d.formFromPool
      let f := (e.setRegF .STR 0 Reg.STR_STR_STS 0 1 (e.formWidth - 17)).jrec [.prot (e.formWidth - 17)]
      ((f.setRegF .REB 0 Reg.REB_REB_CTL 0 1 0).setRegF .REB 0 Reg.REB_REB_STS 2 2 0).setIrq .REB 0 1 :=
  (if_neg (by simp [hr, hp, hm])).trans (if_pos hw)
end

end Sys2Proof.Machine
end

section
open Sys2Proof Sys2Proof.Machine

/-- Settles O31, clause by clause: each command finds its trigger holding and does its own work. -/
theorem stripesAndRebuild : Obligations.StripesAndRebuild := by
  refine ⟨fun d l row x r hx hr hm hu hw => ?parityOk, fun d l row x r hx hr hm hu hw => ?parityUndecodable,
    fun d l row x r m hx hr hm hu hw => ?parityFails, fun d l x res r hx hn hp hs hr hm ht hu => ?rowLate,
    fun d a b p ps hw hc hf => ?page, fun d n c hc ho => ?copy, fun d dst b lost out g hm ho hd hb => ?rebuildBand,
    fun d dst lost out g h hm ho hd hb hn hh => ?rebuildHeld, fun d n dsts lost hm hs => ?repair, fun d hb => ?cap,
    fun d r v ht => ?start, fun d v hr hv => reshapeWrite_start hr hv, fun d hr hp hm hw => ?step, fun d hr => ?pause⟩
  case parityOk => exact ends_logRowParity hx hr hm hu hw (rowParity_ok hx)
  case parityUndecodable => exact ends_logRowParity hx hr hm hu hw (rowParity_undecodable hx)
  case parityFails => exact ends_logRowParity hx hr hm hu hw (rowParity_programFail hx m)
  case rowLate => exact ends_run (exec_rowCloseTimeout l res) (rowClose_late hx res hn hp hs hr hm ht hu)
  case page => exact ends_run (exec_journalPageWrite a b) (journalPage_writes hw hc hf)
  case copy => exact ends_run (exec_journalCopyRestore n) (journalRestore_copies hc ho)
  case rebuildBand => exact ends_run (exec_rebuildRelocate dst lost) (rebuildRelocate_band lost hm ho hd hb)
  case rebuildHeld => exact ends_run (exec_rebuildRelocate dst lost) (rebuildRelocate_held lost hm ho hd hb hn hh)
  case repair => exact ends_run (exec_repairRelocation n dsts lost) (repairRelocation_empties dsts lost hm hs)
  case cap => exact ends_run exec_reshapeCapUpdate (if_pos hb)
  case start => exact ends_write (exec_reshapeStart r v) ht rfl
  case step => exact ends_run exec_reshapeStep (reshapeStep_ends hr hp hm hw)
  case pause => exact ends_run exec_reshapePause (if_neg (by simp [hr]))
end

section
/-! PROOFS. The requests of UPD.REQ (R186, R335, R523 to R526, R541 to R550). -/
namespace Sys2Proof.Machine
open Sys2Proof

/-! ### A request that is taken (R335, R550) -/

section
variable {d e : Dev} {i : Instr} {r : Requester} {op arg : Nat} {ok : Bool} {marks : List (Nat × List Nat)}
  (ht : d.takes r .UPD 0 Reg.UPD_REQ = true) (hb : d.reqBusy = false)
include ht hb

/-- A request taken while none runs ends where its operation ends on the device with OP and ARG stored. -/
theorem ends_request (hx : ∀ s, exec i s = runFab (Dev.reqWrite r op arg ok marks) s) (hg : r.dom ≠ .glaze)
    (he : Dev.reqOp r arg ok marks ((d.taken r .UPD 0).reqSaid op arg) op = e) : Ends afterFabric i d e :=
  ends_runFab hx ((reqWrite_takes ht hb).trans ((reqRun_op hg).trans he))

/-- Glaze's request ends DENIED, unless it saves the settings. -/
theorem ends_request_glaze (hx : ∀ s, exec i s = runFab (Dev.reqWrite r op arg ok marks) s) (hg : r.dom = .glaze) (ho : op ≠ 0xa) :
    Ends afterFabric i d (((d.taken r .UPD 0).reqSaid op arg).reqEnd 4 0) :=
  ends_runFab hx ((reqWrite_takes ht hb).trans (reqRun_glaze hg ho))

/-- The settings are saved for every requester. -/
theorem ends_settingsSave (ok : Bool) :
    Ends afterFabric (.settingsSave r ok) d
      (((d.taken r .UPD 0).reqSaid 0xa 0).reqSettings ((d.taken r .UPD 0).reqSaid 0xa 0).settingEntries ok) :=
  ends_runFab (exec_settingsSave r ok) ((reqWrite_takes ht hb).trans (reqRun_save.trans reqOp_a))
end

/-! ### The operations (R186, R523, R526, R541, R545, R546) -/

section
variable {d : Dev}

/-- A package request ends NOT_HEAD at a member, STATE in a state that does not take it, and else goes on with REQ_STS BUSY. -/
theorem atHead_eq (states : List Nat) (f : Dev → Dev) :
    d.atHead states f = if d.isMember = true then d.reqEnd 3 0 else if (!states.contains d.updState) = true then d.reqEnd 1 0
      else f (d.setRegN .UPD 0 Reg.UPD_REQ_STS 1) := rfl

/-- A request of the OTP row ends MODE outside MAINT and DENIED for all but the host PF. -/
theorem inMaint_eq (r : Requester) (f : Dev → Dev) :
    d.inMaint r f = if d.life.mode ≠ .maint then d.reqEnd 2 0 else if r.dom ≠ .host ∨ r.i3c = true then d.reqEnd 4 0 else f d := rfl

theorem reqOption_bad (ok : Bool) (h : optionOk (d.mbox 0 0x230) = false) : d.reqOption ok = d.reqEnd 5 0 := by
  unfold Dev.reqOption
  simp only [h, Bool.not_false, if_true]

/-- OPERATOR_HASH and then OPERATOR_LOCK are programmed where the hash is empty. -/
theorem reqOperator_programs (r : Requester) :
    Dev.reqOperator r true d = d.inMaint r (fun u =>
      if (!(u.flashBytes (otpWin + 0xc0) 48).all (fun b => b == 0xff#8)) = true then u.reqEnd 1 0
      else ((u.otpProgram 0xc0 (u.mbox 0 48) true).otpProgram 0x160 (leBytes 4 0xfffffffd) true).reqEnd 0 0) := rfl

/-- The checkpoint pass of a format writes both copies of the record, ends READONLY and ends the request. -/
theorem formatFinish_ends {w : FormatRec} (hw : d.formatting = some w) :
    d.formatFinish =
      let a : Dev := { d with format := some w, formatting := none, firstStart := true, life := { d.life with replayed := true } }
      let bs := fmtBytes w ++ leBytes 4 (crc32c (fmtBytes w))
      let b := [0, 1].foldl (fun (x : Dev) i => (x.flashProgram (fmtCopy i) bs).incWrap .BFL 0 Reg.BFL_PROG_CNT ((bs.length + 31) / 32)) a
      let e := ((b.setRegN .WEAR 0 Reg.WEAR_RO_CAUSE 0).setRegF .STR 0 Reg.STR_STR_STS 0 1 w.prot).setRegF .REB 0 Reg.REB_REB_CTL 0 1 0
      ((e.setRegF .SNP 0 Reg.SNP_HOLD_VOL 31 1 0).pslRecompute).reqEnd 0 0 := by
  unfold Dev.formatFinish
  simp only [hw]
end

end Sys2Proof.Machine
end

section
open Sys2Proof Sys2Proof.Machine

/-- Settles O43, clause by clause: a request taken while none runs carries out its operation on the device with OP and ARG stored, and Glaze's
only where it saves the settings. -/
theorem updateRequests : Obligations.UpdateRequests := by
  refine ⟨fun d r ht hb hg => ?abort, fun d r ht hb hg => ?commit, fun d r ht hb hg => ?confirm, fun d r ht hb hg => ?rollback,
    fun d r slot ht hb hg => ?keyImport, fun d r ht hb hg => ?importPub, fun d r ok ht hb hg ho => ?optionBad,
    fun d r ht hb hg _ => ?option, fun d r ht hb hg => ?operator, fun d r ok ht hb hg => ?debugOff,
    fun d r ok ht hb => ends_settingsSave ht hb ok, fun d r ok ht hb hg => ?clear, fun d r arg marks ht hb hg => ?format,
    fun d w hw => formatFinish_ends hw, fun d r ht hb hg => ?abortGlaze, fun d r ht hb hg => ?commitGlaze, fun d r ht hb hg => ?clearGlaze⟩
  case abort => exact ends_request ht hb (exec_updateAbort r) hg (reqOp_1.trans (atHead_eq [1, 2, 3, 4, 7] _))
  case commit => exact ends_request ht hb (exec_commit r) hg (reqOp_2.trans (atHead_eq [3] _))
  case confirm => exact ends_request ht hb (exec_confirm r) hg (reqOp_3.trans (atHead_eq [6] _))
  case rollback => exact ends_request ht hb (exec_rollback r) hg (reqOp_4.trans (atHead_eq [5, 6] _))
  case keyImport => exact ends_request ht hb (exec_keyImport r slot) hg reqOp_5
  case importPub => exact ends_request ht hb (exec_importPub r) hg reqOp_6
  case optionBad => exact ends_request ht hb (exec_optionWrite r ok) hg (reqOp_7.trans (reqOption_bad ok ho))
  case option => exact ends_request ht hb (exec_optionWrite r true) hg reqOp_7
  case operator =>
    exact ends_request ht hb (exec_otpOperator r true) hg (reqOp_8.trans ((reqOperator_programs r).trans (inMaint_eq r _)))
  case debugOff => exact ends_request ht hb (exec_debugFullOff r ok) hg (reqOp_9.trans (inMaint_eq r _))
  case clear => exact ends_request ht hb (exec_settingsClear r ok) hg reqOp_b
  case format => exact ends_request ht hb (exec_format r arg marks) hg reqOp_c
  case abortGlaze => exact ends_request_glaze ht hb (exec_updateAbort r) hg (by decide)
  case commitGlaze => exact ends_request_glaze ht hb (exec_commit r) hg (by decide)
  case clearGlaze => exact ends_request_glaze ht hb (exec_settingsClear r true) hg (by decide)
end

section
/-! PROOFS. The power-loss flush (R302 to R305, R312 to R316, R328). -/
namespace Sys2Proof.Machine
open Sys2Proof

/-! ### A taken fall (R27, R302, R305) -/

section
variable {d : Dev}

/-- A fall in a live mode ends boundary scan and enters FLUSH with cause 1. -/
theorem powerFall_live (h : liveMode d.life.mode = true) :
    d.powerFall = ({ d with dbg := { d.dbg with balls := 0 } } : Dev).enterFlush 1 := if_pos h

theorem powerFall_down (h : liveMode d.life.mode = false) : d.powerFall = d := if_neg (by simp [h])

/-- All five PGOOD inputs act alike: the fall is noted and taken. -/
theorem ends_pgoodFall {e : Dev} (p : Pgood) (he : ({ d with life := { d.life with pgood := false } } : Dev).powerFall = e) :
    Ends afterAll (.pgoodFall p) d e :=
  ends_run (exec_pgoodFall p) (by cases p <;> exact he)

/-- A secure write of FORCE that is taken does its act on the written device. -/
theorem ends_force {i : Instr} {r : Requester} {p : PT} {n : Nat} {f : Dev → Dev} {e : Dev}
    (hx : ∀ s, exec i s = run (fun d => d.forceWrite r p n f) s) (hr : r.dom = .secure) (ht : d.takes r p n Reg.FORCE = true)
    (he : f (d.taken r p n) = e) : Ends afterAll i d e :=
  ends_run hx ((forceWrite_secure f ht hr).trans he)

/-! ### The flush from its start to its end (R303, R312, R328) -/

theorem flushStart_starts (hm : d.life.mode = .flush) (hf : d.plp.flushing = false) :
    d.flushStart =
      let a : Dev := { d.stopWork with mbuf := [], sbd := { d.sbd with dyn := none, resp := none } }
      let b : Dev := { a with dbg := { a.dbg with units := a.dbg.units.filter (fun e => decide (128 ≤ e.1)) } }
      let p := b.quiesce.newGen false
      { p with plp := { p.plp with flushing := true, quiet := [] } } := by
  unfold Dev.flushStart
  rw [if_neg (by simp [hm, hf])]

theorem flushQuiet_marks {n : Nat} (hf : d.plp.flushing = true) (hn : n < d.plp.dies.length)
    (hq : d.dieQuiet (d.plp.dies.getD n 0) = true) (hm : n ∉ d.plp.quiet) :
    Dev.flushQuiet n d = { d with plp := { d.plp with quiet := n :: d.plp.quiet } } :=
  if_pos ⟨hf, hn, hq, by simpa using hm⟩

variable {g : Gen} (hf : d.plp.flushing = true) (hg : d.plp.gens.getLast? = some g)
include hf hg

/-- A quiet rank with planned pages left counts one more. -/
theorem flushPage_counts {n : Nat} (hq : n ∈ d.plp.quiet) (hl : g.done.getD n 0 < d.flushLimit g n) :
    Dev.flushPage n d = d.mapGen (fun g => { g with done := g.done.modify n (· + 1), durUs := d.life.usUp - d.plp.startUs }) := by
  unfold Dev.flushPage
  rw [hg]
  exact if_pos ⟨hf, by simpa using hq, hl⟩

/-- The device with the newest generation ended, CE_N high and WP_N low. -/
def Dev.flushEnded (d : Dev) : Dev :=
  ((d.mapGen (fun g => { g with ended := true })).emit (.pin "NAND_CE_N" 1)).emit (.pin "NAND_WP_N" 0)

/-- A flush whose pages are all programmed ends; the rails then choose between the reset and BACKUP. -/
theorem flushEnd_ends (hd : d.flushDone g = true) :
    d.flushEnd = if d.life.rails = true then d.flushEnded.deviceReset false d.plp.cause true else d.flushEnded.toBackup := by
  unfold Dev.flushEnd
  rw [hg]
  exact if_neg (by simp [hf, hd])
end

end Sys2Proof.Machine
end

section
open Sys2Proof Sys2Proof.Machine

/-- Settles O10, clause by clause: a fall and a forced fall go by the mode, and each step of the flush finds its trigger holding. -/
theorem powerLossFlush : Obligations.PowerLossFlush := by
  refine ⟨fun d hl => ?pfail, fun d hl => ?pfailDown, fun d p hl => ?pgood, fun d p hl => ?pgoodDown, fun d hm hf => ?flush,
    fun d n hf hn hq hm => ?dieQuiet, fun d n g hf hq hg hl => ?page, fun d g hf hg hd hr => ?endsRails, fun d g hf hg hd hr => ?endsDark,
    fun d r hr ht hl => ?forcePfail, fun d r hr ht => ?forceCut⟩
  case pfail => exact ends_run exec_pfailFall (powerFall_live hl)
  case pfailDown => exact ends_run exec_pfailFall (powerFall_down hl)
  case pgood => exact ends_pgoodFall p (powerFall_live hl)
  case pgoodDown => exact ends_pgoodFall p (powerFall_down hl)
  case flush => exact ends_run exec_flush (flushStart_starts hm hf)
  case dieQuiet => exact ends_run (exec_flushDieQuiet n) (flushQuiet_marks hf hn hq hm)
  case page => exact ends_run (exec_flushProgramDone n) (flushPage_counts hf hg hq hl)
  case endsRails => exact ends_run exec_flushComplete ((flushEnd_ends hf hg hd).trans (if_pos hr))
  case endsDark => exact ends_run exec_flushComplete ((flushEnd_ends hf hg hd).trans (if_neg (by simp [hr])))
  case forcePfail => exact ends_force (exec_forcePfail r) hr ht (powerFall_live (by rwa [taken_mode]))
  case forceCut => exact ends_force (exec_forceCut r) hr ht rfl
end

section
/-! PROOFS. The flash channels (R201 to R224). -/
namespace Sys2Proof.Machine
open Sys2Proof

/-! ### Training and retraining (R207 to R209) -/

section
variable {d : Dev} {ch : Nat} {c : ChSt}

theorem trainStart_starts (hc : d.chan ch = some c) (hp : d.page .CH ch = .starting) :
    Dev.trainStart ch d = d.setRegF .CH ch Reg.CH_CH_STS 13 1 1 := by
  unfold Dev.trainStart
  rw [hc]
  exact if_neg (by simp [hp])

/-- A retrain that RETRAIN_S makes due goes by the eye at the rate in use: it shows the new delays, or holds the channel and trains below. -/
theorem retrain_due (eye : Option Nat) (t : Trained) (hc : d.chan ch = some c) (hp : d.page .CH ch = .serving)
    (hr : d.regB .CH ch Reg.CH_CH_STS 13 = false) (h0 : d.regF .CH ch Reg.CH_PHY_CFG 0 16 ≠ 0)
    (hs : d.regF .CH ch Reg.CH_PHY_CFG 0 16 ≤ d.nowS - c.trainS) :
    Dev.retrain ch eye t d =
      let rate := d.regF .CH ch Reg.CH_CH_STS 0 4
      let a := d.mapChan ch (fun c => { c with trainS := d.nowS, trainTemp := t.temp, trainRd := t.rd })
      if d.eyePasses ch rate eye = true then
        ((a.phySts ch (eyeAt rate (eye.getD 0)) t true).setReg64 .CH ch Reg.CH_TRAIN_WR (t.wr % 2 ^ 60)).setIrq .CH ch 0
      else (d.mapChan ch (fun c => { c with below := some rate })).setRegF .CH ch Reg.CH_CH_STS 13 1 1 := by
  unfold Dev.retrain
  rw [hc]
  exact if_neg (by simp [hp, hr, h0, hs])
end

/-! ### Lists and the issue of entries (R210 to R213, R219, R220) -/

section
variable {d : Dev}

/-- A good list goes to the end of a lane of an open channel that has room for it. -/
theorem listSubmit_pushes {ch lane lid : Nat} {es : List Entry} {c : ChSt} (hc : d.chan ch = some c)
    (hp : d.page .CH ch = .serving ∨ d.page .CH ch = .starting)
    (hr : lane < 4 ∧ 1 ≤ es.length ∧ es.length ≤ 64 ∧ c.queued lane + es.length ≤ 128)
    (hq : (lane != 0 || es.all (fun e => e.op == 1)) = true) (hf : (d.life.mode != .flush || lane == 3) = true)
    (he : es.all (d.eraseMode ch) = true) : Dev.listSubmit ch lane lid es d = d.pushList ch lane lid es := by
  have ho : (d.page .CH ch == .serving || d.page .CH ch == .starting) = true := by rcases hp with h | h <;> simp [h]
  unfold Dev.listSubmit
  rw [hc]
  exact if_pos (by simp only [ho, hr, hq, hf, he, and_self, decide_true, Bool.and_self])

/-- The device on which the next entry of die `n` has won its lane and the bus of its channel. -/
def Dev.entryWon (d : Dev) (n lane : Nat) : Dev :=
  ((d.arbWin (0x1000 + n) 4 lane).arbWin (0x1800 + n / 16) 16 (n % 16)).seqIssued (n / 16)

/-- The end of an entry that R212 calls malformed. -/
def Dev.entryMalformed (d : Dev) (ch id i : Nat) : Dev := (d.endEntry ch id i 8).raiseErr .CH ch 6 noDetail

section
variable {n lane id i : Nat} {e : Entry} (hn : d.nextEntry n = some (lane, id, i, e)) (hm : d.mayIssue (n / 16) = true)
  (hb : d.busDie (n / 16) = some (n % 16))
include hn hm hb

/-- An entry granted the bus that names an absent die is malformed. -/
theorem entryIssue_absent (hx : d.die n = none) : Dev.entryIssue n d = (d.entryWon n lane).entryMalformed (n / 16) id i := by
  unfold Dev.entryIssue
  simp only [hn, hx]
  exact if_neg (by simp [hm, hb])

/-- One for a die that is there is checked in the order of R212 and R219, and else sent. -/
theorem entryIssue_present {x : DieSt} (hx : d.die n = some x) :
    Dev.entryIssue n d =
      let w := d.entryWon n lane
      if x.state = 0 then w.entryMalformed (n / 16) id i
      else if x.state = 8 then w.endEntry (n / 16) id i 4
      else if entryInvalid e x.blocks = true then w.entryMalformed (n / 16) id i
      else if e.op = 1 ∧ d.erasing n = some e.block then
        (if nbit e.flags 5 = true then w.endEntry (n / 16) id i 5 else (w.endEntry (n / 16) id i 6).raiseErr .CH (n / 16) 5 noDetail)
      else w.issue n id i e := by
  unfold Dev.entryIssue
  simp only [hn, hx]
  exact if_neg (by simp [hm, hb])

variable {x : DieSt} (hx : d.die n = some x)
include hx

theorem entryIssue_failed (h8 : x.state = 8) : Dev.entryIssue n d = (d.entryWon n lane).endEntry (n / 16) id i 4 :=
  (entryIssue_present hn hm hb hx).trans ((if_neg (by simp [h8])).trans (if_pos h8))

theorem entryIssue_malformed (h : x.state = 0 ∨ (x.state ≠ 8 ∧ entryInvalid e x.blocks = true)) :
    Dev.entryIssue n d = (d.entryWon n lane).entryMalformed (n / 16) id i := by
  rw [entryIssue_present hn hm hb hx]
  rcases h with h0 | ⟨h8, hv⟩
  · exact if_pos h0
  · exact ite_eq_left_iff.2 (fun _ => (if_neg h8).trans (if_pos hv))

variable (h0 : x.state ≠ 0) (h8 : x.state ≠ 8) (hv : entryInvalid e x.blocks = false)
include h0 h8 hv

/-- A well-formed entry for a die in service is sent, unless it reads the block under erase. -/
theorem entryIssue_valid :
    Dev.entryIssue n d =
      let w := d.entryWon n lane
      if e.op = 1 ∧ d.erasing n = some e.block then
        (if nbit e.flags 5 = true then w.endEntry (n / 16) id i 5 else (w.endEntry (n / 16) id i 6).raiseErr .CH (n / 16) 5 noDetail)
      else w.issue n id i e :=
  (entryIssue_present hn hm hb hx).trans ((if_neg h0).trans ((if_neg h8).trans (if_neg (by simp [hv]))))
end
end

/-! ### The end of an entry (R214, R224) -/

section
variable {d : Dev} {n id i : Nat} {x : DieSt} {e : Entry}

/-- The device on which die `n` has finished what it ran. -/
def Dev.dieReady (d : Dev) (n : Nat) : Dev := d.mapDie n (fun x => { x with cur := none, state := if x.state ≤ 4 then 1 else x.state })

/-- The device on which VALUE of the list of an entry stands. -/
def Dev.entryValue (d : Dev) (ch id v : Nat) : Dev :=
  d.mapChan ch (fun c => { c with lists := updFirst (fun l => l.id == id) (fun l => { l with value := v % 2 ^ 32 }) c.lists })

section
variable (hx : d.die n = some x) (hc : d.curEntry n = some (id, i, e)) (h7 : x.state ≠ 7) (h8 : x.state ≠ 8)
include hx hc h7 h8

/-- An entry completed without error ends with status 0, VALUE standing where it is a STATUS or a GET_FEATURE; a WAIT only after its time. -/
theorem entryComplete_ok (v : Nat) (hw : e.op = 0x0c → e.arg ≤ d.life.usUp - d.curSince n) :
    Dev.entryComplete n 0 v d =
      (if e.op = 4 ∨ e.op = 6 then (d.dieReady n).entryValue (n / 16) id v else d.dieReady n).endEntry (n / 16) id i 0 := by
  unfold Dev.entryComplete
  simp only [hx, hc]
  exact if_neg (by simpa [h7, h8] using hw)

/-- A PROGRAM that fails is counted and reported, and its block handled as failed. -/
theorem entryComplete_programFails (v : Nat) (ho : e.op = 2) :
    Dev.entryComplete n 1 v d =
      let w := ((d.dieReady n).incWrap .CH (n / 16) Reg.CH_PGM_FAIL_CNT 1).raiseErr .CH (n / 16) 0 noDetail
      (w.entryBlockFail n e).endEntry (n / 16) id i 1 := by
  unfold Dev.entryComplete
  simp only [hx, hc]
  rw [if_neg (by simp [h7, h8, ho]), if_pos trivial, if_neg (by simp [ho])]
  rfl
end

/-! ### Time-outs and resets of a die (R218, R224, R226) -/

/-- A die busy past its time is noted; a second time-out within 60 s fails it, any other resets it. -/
theorem entryTimeout_late {q : Nat × Nat × Entry} {c : ChSt} (hx : d.die n = some x) (hq : d.curEntry n = some q)
    (hc : d.chan (n / 16) = some c) (hb : x.busy q.2.2 = true) (hl : 4 * c.declared q.2.2 < d.busyUs n x) :
    Dev.entryTimeout n d =
      let a := d.mapDie n (fun x => { x with lastTimeout := some d.life.usUp })
      if x.lastTimeout.any (fun t => decide (d.life.usUp - t ≤ 60000000)) = true then a.dieFail n 1
      else a.mapDie n (fun x => { x with state := 7, resetFor := 1, runUs := a.life.usUp }) := by
  unfold Dev.entryTimeout
  simp only [hx, hq, hc]
  rw [if_pos (by simp [hb, hl])]
  cases x.lastTimeout <;> rfl

/-- The device on which die `n` stands after its reset. -/
def Dev.dieReset (d : Dev) (n : Nat) : Dev :=
  d.mapDie n (fun x => { x with state := 1, cur := none, resetFor := 0, retry := 0, shift := 0, pslc := false })

section
variable (hx : d.die n = some x) (h7 : x.state = 7)
include hx h7

/-- A die that answers another identification fails. -/
theorem dieResetDone_mismatch {ident : List Byte} (hi : ident ≠ x.ident) : Dev.dieResetDone n ident d = d.dieFail n 3 := by
  unfold Dev.dieResetDone
  rw [hx]
  exact (if_neg (by simp [h7])).trans (if_pos hi)

/-- The reset of a time-out ends the entry with status 3, the block of a PROGRAM or an ERASE handled as failed. -/
theorem dieResetDone_timeout (hc : d.curEntry n = some (id, i, e)) (hr : x.resetFor = 1) :
    Dev.dieResetDone n x.ident d =
      let b := ((d.dieReset n).incWrap .CH (n / 16) Reg.CH_TIMEOUT_CNT 1).raiseErr .CH (n / 16) 2 noDetail
      ((if e.op = 2 ∨ e.op = 3 then b.entryBlockFail n e else b).endEntry (n / 16) id i 3).settleHeld n := by
  unfold Dev.dieResetDone
  simp only [hx, hc]
  rw [if_neg (by simp [h7]), if_neg (by simp), if_pos hr]
  rfl

theorem dieResetDone_free (hc : d.curEntry n = none) : Dev.dieResetDone n x.ident d = (d.dieReset n).settleHeld n := by
  unfold Dev.dieResetDone
  simp only [hx, hc]
  rw [if_neg (by simp [h7]), if_neg (by simp)]
  rfl
end

/-! ### Suspend and resume (R216) -/

/-- A READ of another block suspends the running ERASE that allows it, once it has run its least time. -/
theorem suspend_erase {lane rid ri : Nat} {r : Entry} {c : ChSt} (hx : d.die n = some x) (he : d.curEntry n = some (id, i, e))
    (hc : d.chan (n / 16) = some c) (hn : d.nextEntry n = some (lane, rid, ri, r)) (h4 : x.state = 4) (hr : r.op = 1)
    (hb : r.block ≠ x.block) (hf : nbit e.flags 4 = true) (hv : c.puevo.valid = true) (hp : nbit c.puevo.flags 4 = true)
    (ho : d.regB .CH (n / 16) Reg.CH_SUSP_CFG 29 = true) (hu : d.regF .CH (n / 16) Reg.CH_SUSP_CFG 0 12 ≤ d.life.usUp - x.runUs)
    (hs : x.susp < d.maxSusp (n / 16) c) (hm : d.mayIssue (n / 16) = true) :
    Dev.suspend n d =
      let a := d.mapDie n (fun x => { x with
        state := x.state + 2, held := x.cur, cur := none, susp := x.susp + 1, reads := 0, sinceUs := d.life.usUp - x.sinceUs })
      (a.mapChan (n / 16) (fun c => { c with
        lists := updFirst (fun l => l.id == id) (fun l => { l with suspends := l.suspends + 1 }) c.lists })).incWrap
          .CH (n / 16) Reg.CH_SUSP_CNT 1 := by
  unfold Dev.suspend
  simp only [hx, he, hc, hn]
  exact if_pos (by simp [h4, hr, hb, hf, hv, hp, ho, hu, hs, hm])

/-- A suspended die goes on where its reads are served or none waits. -/
theorem resume_goesOn (hx : d.die n = some x) (hh : d.xHalted (n / 16) = false) (hs : x.state = 5 ∨ x.state = 6) (hc : x.cur = none)
    (hr : d.suspReads (n / 16) ≤ x.reads ∨ d.readWaits n = false) :
    Dev.resume n d = d.mapDie n (fun x => { x with
      state := x.state - 2, cur := x.held, held := none, sinceUs := d.life.usUp - x.sinceUs, runUs := d.life.usUp }) := by
  unfold Dev.resume
  rw [hx]
  exact if_pos ⟨by simp [hh], hs, by simp [hc], hr⟩
end

end Sys2Proof.Machine
end

section
open Sys2Proof Sys2Proof.Machine

/-- Settles O32, clause by clause: each command of a channel or a die finds its trigger holding and does its own work. -/
theorem flashChannels : Obligations.FlashChannels := by
  refine ⟨fun d ch p hl hp => ?discovery, fun d ch c hc hp => ?training, fun d ch c t tried won hc hr hw => ?trainingDone,
    fun d ch c eye t hc hp hr h0 hs he => ?retrainPasses, fun d ch c eye t hc hp hr h0 hs he => ?retrainFails,
    fun d ch lane lid es c hc hp hr hq hf he => ?list, fun d n lane id i e x hn hm hb hx h8 => ?issueFailed,
    fun d n lane id i e x hn hm hb hx h => ?issueMalformed, fun d n lane id i e hn hm hb hx => ?issueAbsent,
    fun d n lane id i e x hn hm hb hx h0 h8 hv ho hr => ?issueErasing, fun d n lane id i e x hn hm hb hx h0 h8 hv hr => ?issueSent,
    fun d n id i v e x hx hc h7 h8 h4 h6 hw => ?completes, fun d n id i v e x hx hc h7 h8 ho => ?programFails,
    fun d n id i v e x hx hc h7 h8 ho => ?answers, fun d n x q c hx hq hc hb hl ht => ?timeoutFirst,
    fun d n x q c t hx hq hc hb hl ht hu => ?timeoutAgain, fun d n x ident hx h7 hi => ?resetMismatch,
    fun d n id i x e hx h7 hc hr => ?resetTimeout, fun d n x hx h7 hc => ?resetFree, fun d n x hx h7 hl => ?resetLate,
    fun d n id i lane rid ri x e r c hx he hc hn h4 hr hb hf hv hp ho hu hs hm => ?suspend, fun d n x hx hh hs hc hr => ?resume⟩
  case discovery => exact ends_run (exec_channelDiscovery ch p) (if_neg (by simp [hp, hl]))
  case training => exact ends_run (exec_channelTraining ch) (trainStart_starts hc hp)
  case trainingDone =>
    refine ends_run (exec_trainingDone ch t) ?_
    unfold Dev.trainDone
    simp only [hc, hw]
    exact if_neg (by simp [hr])
  case retrainPasses => exact ends_run (exec_retrain ch eye t) ((retrain_due eye t hc hp hr h0 hs).trans (if_pos he))
  case retrainFails => exact ends_run (exec_retrain ch eye t) ((retrain_due eye t hc hp hr h0 hs).trans (if_neg (by simp [he])))
  case list => exact ends_run (exec_listSubmit ch lane lid es) (listSubmit_pushes hc hp hr hq hf he)
  case issueFailed => exact ends_run (exec_entryIssue n) (entryIssue_failed hn hm hb hx h8)
  case issueMalformed => exact ends_run (exec_entryIssue n) (entryIssue_malformed hn hm hb hx h)
  case issueAbsent => exact ends_run (exec_entryIssue n) (entryIssue_absent hn hm hb hx)
  case issueErasing => exact ends_run (exec_entryIssue n) ((entryIssue_valid hn hm hb hx h0 h8 hv).trans (if_pos ⟨ho, hr⟩))
  case issueSent => exact ends_run (exec_entryIssue n) ((entryIssue_valid hn hm hb hx h0 h8 hv).trans (if_neg (fun h => hr.elim (· h.1) (· h.2))))
  case completes =>
    exact ends_run (exec_entryComplete n 0 v) ((entryComplete_ok hx hc h7 h8 v hw).trans (by rw [if_neg (by simp [h4, h6])]; rfl))
  case programFails => exact ends_run (exec_entryComplete n 1 v) (entryComplete_programFails hx hc h7 h8 v ho)
  case answers =>
    have hw : e.op ≠ 0x0c := by omega
    exact ends_run (exec_entryComplete n 0 v) ((entryComplete_ok hx hc h7 h8 v (absurd · hw)).trans (by rw [if_pos ho]; rfl))
  case timeoutFirst => exact ends_run (exec_entryTimeout n) ((entryTimeout_late hx hq hc hb hl).trans (if_neg (by simp [ht])))
  case timeoutAgain => exact ends_run (exec_entryTimeout n) ((entryTimeout_late hx hq hc hb hl).trans (if_pos (by rw [ht]; exact decide_eq_true hu)))
  case resetMismatch => exact ends_run (exec_dieResetDone n ident) (dieResetDone_mismatch hx h7 hi)
  case resetTimeout => exact ends_run (exec_dieResetDone n x.ident) (dieResetDone_timeout hx h7 hc hr)
  case resetFree => exact ends_run (exec_dieResetDone n x.ident) (dieResetDone_free hx h7 hc)
  case resetLate => exact ends_run (exec_dieResetTimeout n) (by rw [hx]; exact if_pos ⟨h7, hl⟩)
  case suspend => exact ends_run (exec_suspend n) (suspend_erase hx he hc hn h4 hr hb hf hv hp ho hu hs hm)
  case resume => exact ends_run (exec_resume n) (resume_goesOn hx hh hs hc hr)
end

section
/-! PROOFS. Decodes at the steps of a read, and the on-chip memories (R243 to R261, R280, R289). -/
namespace Sys2Proof.Machine
open Sys2Proof

/-! ### One decode of a codeword (R239 to R244) -/

section
variable {d : Dev} {f : Flight} {i k : Nat} {x : Esc} {o : Decoded}

/-- A decode that the device accepts takes the sector's content. -/
theorem decoded_accepts {n : Nat} (h : d.struck k o = .ok n) : d.decoded f i k x o = d.accept f i k x := by
  unfold Dev.decoded
  rw [h]

/-- A miscorrection is counted, and the codeword stands at its next step while that is no degraded read. -/
theorem decoded_miscorrects (h : d.struck k o = .miscorrect) (h5 : ((x.note .miscorrect).next).step ≠ 5) :
    d.decoded f i k x o = (d.inc64 .LDP 0 Reg.LDP_MISCORRECT 1).setJob f i (.media k (x.note .miscorrect).next) := by
  unfold Dev.decoded
  simp only [h]
  rw [if_neg h5]
end

/-! ### The row of a codeword (R267, R280) -/

/-- Member of a group of width `w` that holds the codeword of key `k`. -/
def keyMember (w k : Nat) : Nat := memberOf w (keyPage k) (keySb k % 8192) (k % 256 / 16)

/-- Unavailable members at position `c` of the row of key `k`, whose own member does not decode at its position (R280). -/
def Dev.rowMasks (d : Dev) (g : Group) (k : Nat) (unav : List Nat) (c : Nat) : Nat :=
  (unav.getD c 0 % 2 ^ g.members.length) ||| d.goneMask g ||| (if c = k % 16 then 2 ^ keyMember g.members.length k else 0)

theorem rowMasks_own (d : Dev) (g : Group) (k : Nat) (unav : List Nat) :
    d.rowMasks g k unav (k % 16) =
      (unav.getD (k % 16) 0 % 2 ^ g.members.length) ||| d.goneMask g ||| 2 ^ keyMember g.members.length k :=
  congrArg (_ ||| ·) (if_pos rfl)

/-! ### A codeword at a step (R243, R244, R280, R289) -/

section
variable {d : Dev} {q tag i k : Nat} {f : Flight} {j : SecJob} {x : Esc} (hl : d.life.fatal = false) (hf : d.flight q tag = some f)
  (hm : f.stage = .media) (hj : f.job i = some (j, k, x))
include hl hf hm hj

/-- A command acts on a codeword that stands at a step it is for. -/
theorem atStep_acts {p : Esc → Bool} (act : Dev → Flight → Nat → Esc → Dev) (hp : p x = true) :
    d.atStep q tag i p act = act d f k x := by
  unfold Dev.atStep
  simp only [hf, hj]
  rw [if_neg (by simp [hl]), if_pos hm, if_pos hp]

/-- A decode that is granted a decoder reads for it and ends. -/
theorem decodeAt_decodes {w : Dev} {p : Esc → Bool} (read : Dev → Nat → Esc → Dev) (o : Decoded) (hp : p x = true)
    (hd : d.decoder q tag i k x = some w) : Dev.decodeAt q tag i p read o d = (read w k x).decoded f i k x o := by
  unfold Dev.decodeAt
  rw [atStep_acts hl hf hm hj _ hp, hd]

theorem hardDecode_decodes {w : Dev} (o : Decoded) (h : x.step = 1) (hd : d.decoder q tag i k x = some w) :
    Dev.hardDecode q tag i o d = (w.cwRead k 0).decoded f i k x o :=
  decodeAt_decodes hl hf hm hj _ o (by simp [h]) hd

theorem readRetry_decodes {w : Dev} (o : Decoded) (h : x.step = 3) (hd : d.decoder q tag i k x = some w) :
    Dev.readRetry q tag i o d = (w.cwRead k x.idx).decoded f i k x o :=
  decodeAt_decodes hl hf hm hj _ o (by simp [h]) hd

/-- A soft decode reads around index 0 at step 2, around the best index of step 3 at step 4. -/
theorem softDecode_decodes {w : Dev} (o : Decoded) (h : x.step = 2 ∨ x.step = 4) (hd : d.decoder q tag i k x = some w) :
    Dev.softDecode q tag i o d = (w.cwSoftReads k (if x.step = 4 then x.best else 0) x.retry).decoded f i k x o :=
  decodeAt_decodes hl hf hm hj _ o (by simp [h]) hd

variable (h5 : x.step = 5) {g : Group} (hg : d.group (sbGroup (keySb k)) = some g)
include h5 hg

/-- A degraded read takes the content where parity covers what is unavailable; elsewhere the sector is lost with a member of its row, or fails. -/
theorem degradedRead_onRow (unav : List Nat) (m : Bool) :
    Dev.degradedRead q tag i unav m d =
      let w := g.members.length
      let p := d.rowCause k == 1
      let masks := d.rowMasks g k unav
      let e := if (m && p) = true then d.raiseErr .STR 0 1 noDetail else d
      if (p && !m && decide (maskCount (masks (k % 16)) w ≤ w - 16)) = true then e.accept f i k x
      else if d.goneMask g ≠ 0 then
        let keys := lostKeys w k (keyPage k) (keySb k % 8192) p masks
        (e.lostRow (d.rowCause k) (masks (k % 16)) (if keys.contains k = true then keys else k :: keys)).setJob f i (.failed St.stripeLost 0 0 0)
      else e.setJob f i (.failed St.mediaUncorr (if x.erased = true then 5 else if x.misdirect = true then 2 else 1) 0 0) := by
  unfold Dev.degradedRead Dev.rowMasks keyMember keyPage
  rw [atStep_acts hl hf hm hj _ (by simp [h5])]
  dsimp only
  rw [hg]

/-- A row with parity whose unavailable members it covers gives the content. -/
theorem degradedRead_rebuilds {unav : List Nat} (hp : d.rowCause k = 1)
    (hc : maskCount (d.rowMasks g k unav (k % 16)) g.members.length ≤ g.members.length - 16) :
    Dev.degradedRead q tag i unav false d = d.accept f i k x :=
  (degradedRead_onRow hl hf hm hj h5 hg unav false).trans (if_pos (by simp [hp, hc]))

/-- A row without parity rebuilds nothing: where a member is gone its sectors are lost, else the sector fails with the reason of its decodes. -/
theorem degradedRead_unprotected (unav : List Nat) (m : Bool) (hp : (d.rowCause k == 1) = false) :
    Dev.degradedRead q tag i unav m d =
      if d.goneMask g ≠ 0 then
        let masks := d.rowMasks g k unav
        let keys := lostKeys g.members.length k (keyPage k) (keySb k % 8192) false masks
        (d.lostRow (d.rowCause k) (masks (k % 16)) (if keys.contains k = true then keys else k :: keys)).setJob f i (.failed St.stripeLost 0 0 0)
      else d.setJob f i (.failed St.mediaUncorr (if x.erased = true then 5 else if x.misdirect = true then 2 else 1) 0 0) := by
  rw [degradedRead_onRow hl hf hm hj h5 hg unav m]
  simp only [hp, Bool.and_false, Bool.false_and, Bool.false_eq_true, if_false]
end

/-! ### Words of the on-chip memories (R251 to R261) -/

section
variable {d : Dev} {a r : Nat}

/-- A row that names a word of its own region runs its command. -/
theorem wordIn_of_regionAt {w : Nat} (h : regionAt (regionWord r w) = r) : wordIn r w = true := beq_iff_eq.2 h

/-- A read that finds one symbol of a SYM2 word in error corrects it, counted by the word's region. -/
theorem sramCorrected_counts {u j : Nat} (p : Nat) (hb : d.busUp = true) (hr : regionUsed r = true) (ha : regionAt a = r)
    (hc : d.wordClass a u = .corrected j) :
    d.sramCorrected a u p =
      let off := regionOff r + 4
      let e := (d.setWordErr a 0).setRegF .MEM 0 off 0 16 (min 0xffff (d.regF .MEM 0 off 0 16 + 1))
      (e.memLast a j p false false).raiseErr .MEM 0 0 noDetail := by
  subst ha
  unfold Dev.sramCorrected Dev.memServe
  rw [if_pos (by simp [hb, hr]), hc]
  rfl

/-- A read that finds an uncorrectable word is counted by its region and reported, and the region's action follows. -/
theorem memUncorrectable_acts {u : Nat} (p n i : Nat) (scrub again : Bool) (hb : d.busUp = true) (hr : regionUsed r = true)
    (ha : regionAt a = r) (hc : d.wordClass a u = .uncorr) :
    Dev.memUncorrectable a u p scrub n i again d =
      let off := regionOff r + 4
      let l := d.setWordErr a (if r = 4 then d.wordErr a ^^^ u else 0)
      let e := l.setRegF .MEM 0 off 16 16 (min 0xffff (l.regF .MEM 0 off 16 16 + 1))
      ((e.memLast a 0xf p true scrub).raiseErr .MEM 0 1 noDetail).memAction r ((slotAddr a).elim n (· / 2048)) i again := by
  subst ha
  exact if_neg (by simp [hb, hr, hc])

/-- A scrub that is due reads its words in ascending address order. -/
theorem scrub_reads {hits : List ScrubHit} (hb : d.busUp = true) (hi : d.regB .MEM 0 Reg.MEM_MEM_STS 0 = true)
    (hc : d.regF .MEM 0 Reg.MEM_MEM_CFG 0 16 ≠ 0)
    (hh : d.scrubWords.all (fun a => hits.any (fun h => h.addr / 8 * 8 == a)) = true) :
    Dev.scrub hits d =
      ((sortBy (fun i => (hits[i]?.map (fun h => h.addr)).getD 0) (List.range hits.length)).filterMap (fun i => hits[i]?)).foldl
        Dev.scrubWord d :=
  if_pos (by rw [hb, hi, hh, bne_iff_ne.2 hc]; rfl)

/-- An entry that does not cover its word is evicted by read-modify-write: what its read finds uncorrectable stays so. -/
theorem evictWord_merges {w p m : Nat} (u : Nat) (hf : d.mbuf.find? (fun e => e.2.1 == w) = some (p, w, m)) (hm : m ≠ 255) :
    d.evictWord w u =
      let e : Dev := { d with mbuf := d.mbuf.filter (fun x => x.2.1 != w) }
      if e.wordClass (slotWord w) u = .uncorr then (e.setWordErr (slotWord w) badPattern).raiseErr .MEM 0 3 noDetail
      else (e.memServe (slotWord w) u p false).freshWord (slotWord w) := by
  unfold Dev.evictWord
  rw [hf]
  exact if_neg hm
end

section
variable {d : Dev} {r : Requester} {rg : Nat} (c : Nat) (hr : rg < 16) (ht : d.takes r .MEM 0 (regionOff rg) = true)
include hr ht

/-- A taken code write before INIT_DONE sets the code, unless the region refuses SYM1. -/
theorem codeWriteBy_early (hi : d.regB .MEM 0 Reg.MEM_MEM_STS 0 = false) :
    Dev.codeWriteBy r rg c d = Dev.codeWrite rg c (d.taken r .MEM 0) := by
  unfold Dev.codeWriteBy
  rw [if_pos hr, hi]
  exact regWriteElse_takes _ _ ht

theorem codeWriteBy_late (hi : d.regB .MEM 0 Reg.MEM_MEM_STS 0 = true) :
    Dev.codeWriteBy r rg c d = (d.noteWake r .MEM).raiseErr .MEM 0 2 noDetail := by
  unfold Dev.codeWriteBy
  rw [if_pos hr, hi]
  exact regWriteElse_else _ _ ht
end

end Sys2Proof.Machine
end

section
open Sys2Proof Sys2Proof.Machine

/-- Settles O33, clause by clause: each decode finds its codeword at its step, and each event of the on-chip memories the word or entry it names. -/
theorem decodingAndMemory : Obligations.DecodingAndMemory := by
  refine ⟨fun d w q tag i f j k x o hl hf hm hj h1 hd => ?hard, fun d w q tag i f j k x o hl hf hm hj h2 hd => ?soft,
    fun d w q tag i f j k x o hl hf hm hj h4 hd => ?softBest, fun d w q tag i f j k x o hl hf hm hj h3 hd => ?retry,
    fun d f i k n x o ho => decoded_accepts ho, fun d f i k x o ho h5 => decoded_miscorrects ho h5,
    fun d q tag i f j k x unav g hl hf hm hj h5 hg hp hc => ?rebuilds,
    fun d q tag i f j k x unav m g hl hf hm hj h5 hg hp hn => ?rowLost,
    fun d q tag i f j k x unav m g hl hf hm hj h5 hg hp hn => ?uncorrectable,
    fun d r w k b p j hb hr ha hc => ?sramCorrected, fun d r w u p n i ag hb hr ha hc => ?sramUncorrectable,
    fun d hits hb hi hc hh => ?scrub, fun d w u hw => ?merge, fun d w u p m hf hm => evictWord_merges u hf hm,
    fun d r rg c hr ht hi => ?codeEarly, fun d r rg c hr ht hi => ?codeLate⟩
  case hard => exact ends_runCmd (exec_hardDecode q tag i o) (hardDecode_decodes hl hf hm hj o h1 hd)
  case soft =>
    exact ends_runCmd (exec_softDecode q tag i o) ((softDecode_decodes hl hf hm hj o (.inl h2) hd).trans (by rw [if_neg (by simp [h2])]))
  case softBest =>
    exact ends_runCmd (exec_softDecode q tag i o) ((softDecode_decodes hl hf hm hj o (.inr h4) hd).trans (by rw [if_pos h4]))
  case retry => exact ends_runCmd (exec_readRetry q tag i o) (readRetry_decodes hl hf hm hj o h3 hd)
  case rebuilds =>
    exact ends_runCmd (exec_degradedRead q tag i unav false)
      (degradedRead_rebuilds hl hf hm hj h5 hg hp (by rw [rowMasks_own]; exact hc))
  case rowLost =>
    exact ends_runCmd (exec_degradedRead q tag i unav m) ((degradedRead_unprotected hl hf hm hj h5 hg unav m hp).trans (if_pos hn))
  case uncorrectable =>
    exact ends_runCmd (exec_degradedRead q tag i unav m) ((degradedRead_unprotected hl hf hm hj h5 hg unav m hp).trans (if_neg (by simp [hn])))
  case sramCorrected =>
    exact ends_run (exec_sramCorrected r w k b p) ((if_pos (wordIn_of_regionAt ha)).trans (sramCorrected_counts p hb hr ha hc))
  case sramUncorrectable =>
    exact ends_runCmd (exec_sramUncorrectable r w u p n i ag)
      ((if_pos (wordIn_of_regionAt ha)).trans (memUncorrectable_acts p n i false ag hb hr ha hc))
  case scrub => exact ends_runCmd (exec_scrubPass hits) (scrub_reads hb hi hc hh)
  case merge => exact ends_run (exec_mergeBufferTimeout w u) (if_pos hw)
  case codeEarly => exact ends_run (exec_regionCodeWrite r rg c) (codeWriteBy_early c hr ht hi)
  case codeLate => exact ends_run (exec_regionCodeWrite r rg c) (codeWriteBy_late c hr ht hi)
end

section
/-! PROOFS. Upkeep of the flush area and the cache size (R306, R309, R311, R325, R583). -/
namespace Sys2Proof.Machine
open Sys2Proof

section
variable {d : Dev}

/-! ### The flush dies and the reserved area (R306, R309, R583) -/

/-- On formatted media the choice of R306 is taken as it stands, and the superblocks of the chosen dies are reserved. -/
theorem chooseFlushDies_formatted (hf : d.formatted = true) :
    d.chooseFlushDies = ({ d with plp := { d.plp with dies := d.flushChoice } } : Dev).reserveSbs := by
  unfold Dev.chooseFlushDies
  rw [if_neg (by simp [hf])]

theorem flushDieChoice_chooses (hm : d.mediaMode = true) (hf : d.formatted = true) (hc : d.plp.dies ≠ d.flushChoice) :
    d.flushDieChoice = d.chooseFlushDies := by
  unfold Dev.flushDieChoice
  rw [if_pos (by simp [hm, hf, hc])]

/-- A rotation that is due goes on once the other index is released and no frozen view holds what it would discard. -/
theorem reservedRotation_rotates (bad : List Nat) (hm : d.mediaMode = true) (hf : d.formatted = true)
    (hd : 10 - d.plp.usedSlots < 3 ∨ d.plp.rootPages < 2 ∨ d.recd.rotating = true)
    (ho : d.otherIndexHeld = false) (hr : d.ringFrozen = false) :
    Dev.reservedRotation bad d = d.rotateReserved (!d.recd.clearing) bad := by
  have due : (decide (10 - d.plp.usedSlots < 3) || decide (d.plp.rootPages < 2) || d.recd.rotating) = true := by
    simpa [or_assoc] using hd
  unfold Dev.reservedRotation
  simp only [due]
  rw [if_pos (by simp [hm, hf, ho, hr])]

/-! ### The cache size (R311) -/

/-- The size of PLP_CFG comes into force on a booted device where it does not fall, or the content fits it. -/
theorem cacheFollow_eq (c : Dev) :
    c.cacheFollow =
      if (c.life.booted && (decide (c.effMib ≤ c.cacheMib) || decide (c.cache.length ≤ linesOfMib c.cacheMib))) = true
      then c.applyCache else c := by
  unfold Dev.cacheFollow
  cases c.life.booted with
  | false => rfl
  | true => simp only [Bool.not_true, Bool.false_eq_true, if_false, Bool.true_and, Bool.or_eq_true, decide_eq_true_eq]

/-! ### Retirement (R325) -/

theorem flushRetired_retires {n : Nat} {g : Gen} (hg : d.plp.gens.find? (fun g => g.seq == n) = some g)
    (hb : d.life.booted = true) (hu : g.retired = false) (hm : d.mayRetire g = true) :
    Dev.flushRetired n d =
      ({ d with plp := { d.plp with
          gens := updFirst (fun g => g.seq == n) (fun g => { g with retired := true }) d.plp.gens } } : Dev).jrec
        [.ledger genRetired 0 0 0 0 0 0 0 n] := by
  unfold Dev.flushRetired
  rw [hg]
  exact if_neg (by simp [hb, hu, hm])
end

end Sys2Proof.Machine
end

section
open Sys2Proof Sys2Proof.Machine

/-- Settles O11, clause by clause: each upkeep command finds its trigger holding, and a taken CACHE_SIZE_WRITE puts its size in force by
the rule of R311. -/
theorem flushAreaAndCache : Obligations.FlushAreaAndCache := by
  refine ⟨fun d hm hf hc => ?choice, fun d bad hm hf hd ho hr => ?rotation, fun d r v ht => ?write, fun d hb hs hc => ?shrunk,
    fun d n g hg hb hu hm => ?retired⟩
  case choice => exact ends_run exec_flushDieChoice ((flushDieChoice_chooses hm hf hc).trans (chooseFlushDies_formatted hf))
  case rotation => exact ends_run (exec_reservedRotation bad) (reservedRotation_rotates bad hm hf hd ho hr)
  case write => exact ends_write (exec_cacheSizeWrite r v) ht (cacheFollow_eq _)
  case shrunk => exact ends_run exec_cacheShrinkDone (if_pos (by simp [hb, Dev.shrinking, hs, hc]))
  case retired => exact ends_run (exec_flushRetired n) (flushRetired_retires hg hb hu hm)
end

section
/-! PROOFS. Grants, key references and ceilings of a tint (R335, R386, R387, R391, R394). -/
namespace Sys2Proof.Machine
open Sys2Proof

/-! ### Grant commands (R386, R391) -/

section
variable {d : Dev} {r : Requester} {t op : Nat} (hi : t < 1024) (ht : d.takes r .TNT t Reg.TNT_GRANT_CMD = true)
include hi ht

/-- A taken write of SET, REMOVE or LOOKUP that meets no BUSY runs its command. -/
theorem grantCmd_free (h1 : 1 ≤ op) (h3 : op ≤ 3) (hb : d.regB .TNT t Reg.TNT_GRANT_STS 0 = false) :
    Dev.grantCmd r t op d = (d.taken r .TNT t).grantRun t op := by
  unfold Dev.grantCmd
  rw [if_neg (Nat.not_le.2 hi), hb]
  exact (regWriteElse_takes _ _ ht).trans (if_neg (by omega))

/-- Any that meets BUSY reports GRANT_BUSY and runs nothing. -/
theorem grantCmd_busy (hb : d.regB .TNT t Reg.TNT_GRANT_STS 0 = true) :
    Dev.grantCmd r t op d = (d.noteWake r .TNT).raiseErr .TNT t 0 noDetail := by
  unfold Dev.grantCmd
  rw [if_neg (Nat.not_le.2 hi), hb]
  exact regWriteElse_else _ _ ht
end

/-- Every grant command on a kind that exists ends with result 1 where no live record stands at GRANT_ARG. -/
theorem grantRun_noRecord {e : Dev} {t : Nat} (op : Nat) (hk : e.regF .TNT t Reg.TNT_GRANT_ARG 16 2 ≠ 3)
    (hn : (e.setRegN .TNT t Reg.TNT_GRANT_STS 1).liveStore
      (storeKey (e.regF .TNT t Reg.TNT_GRANT_ARG 16 2) (e.regF .TNT t Reg.TNT_GRANT_ARG 0 16)) = none) :
    e.grantRun t op = (e.setRegN .TNT t Reg.TNT_GRANT_STS 1).grantEnd t 1 0 := by
  unfold Dev.grantRun
  rw [if_neg hk, hn]

/-! ### Key references (R387) -/

section
variable {d : Dev} {r : Requester} {t n : Nat} (v : W32) (hi : t < 1024) (hn : n < 4) (hr : r.dom = .secure)
  (ht : d.takes r .TNT t (Reg.TNT_KEY_0 + 4 * n) = true)
include hi hn hr ht

/-- The secure domain's write of KEY_n is stored on an OFF tint page. -/
theorem keyRefWrite_off (hp : d.page .TNT t = .off) :
    Dev.keyRefWrite r t n v d = (d.taken r .TNT t).setReg .TNT t (Reg.TNT_KEY_0 + 4 * n) (v &&& 0x80003fff#32) := by
  unfold Dev.keyRefWrite
  rw [if_neg (by omega), if_neg (not_not_intro hr), hp]
  exact regWriteElse_takes _ _ ht

/-- On any other it reports error 1 of TNT and stores nothing. -/
theorem keyRefWrite_notOff (hp : d.page .TNT t ≠ .off) :
    Dev.keyRefWrite r t n v d = (d.noteWake r .TNT).raiseErr .TNT t 1 noDetail := by
  unfold Dev.keyRefWrite
  rw [if_neg (by omega), if_neg (not_not_intro hr), beq_false_of_ne hp]
  exact regWriteElse_else _ _ ht
end

end Sys2Proof.Machine
end

section
open Sys2Proof Sys2Proof.Machine

/-- Settles O18, clause by clause: a taken grant command runs or meets BUSY, the secure domain's key reference goes by the state of the tint page,
and the ceilings are recomputed on a booted device. -/
theorem tintsAndGrants : Obligations.TintsAndGrants := by
  refine ⟨fun d r t hi hb ht => ?set, fun d r t hi hb ht => ?remove, fun d r t hi hb ht => ?lookup, fun d r t hi hb ht => ?busy,
    fun e t hk hn => ?noRecord, fun d r t n v hi hn hr hp ht => ?keyOff, fun d r t n v hi hn hr hp ht => ?keyNotOff, fun d hb => ?ceilings⟩
  case set => exact ends_runCmd (exec_grantSet r t) (grantCmd_free hi ht (by decide) (by decide) hb)
  case remove => exact ends_runCmd (exec_grantRemove r t) (grantCmd_free hi ht (by decide) (by decide) hb)
  case lookup => exact ends_runCmd (exec_grantLookup r t) (grantCmd_free hi ht (by decide) (by decide) hb)
  case busy => exact ends_runCmd (exec_grantSet r t) (grantCmd_busy hi ht hb)
  case noRecord => exact ⟨grantRun_noRecord 1 hk hn, grantRun_noRecord 2 hk hn, grantRun_noRecord 3 hk hn⟩
  case keyOff => exact ends_run (exec_keyRefWrite r t n v) (keyRefWrite_off v hi hn hr ht hp)
  case keyNotOff => exact ends_run (exec_keyRefWrite r t n v) (keyRefWrite_notOff v hi hn hr ht hp)
  case ceilings => exact ends_run exec_ceilingRecompute (if_pos hb)
end

section
/-! PROOFS. Tenant ports: resets, binding, malformed traffic and pushed frames (R376, R379, R381, R384, R385, R396). -/
namespace Sys2Proof.Machine
open Sys2Proof

/-! ### Port reset (R376) -/

/-- A reset that the link outlives, of causes other than 1 and 3, leaves LINK_STS and TPn_PERST_N as they stand. -/
theorem portReset_linkKept {d : Dev} {p cause : Nat} (hi : p < 8) (h1 : cause ≠ 1) (h3 : cause ≠ 3) (hp : d.page .TP p = .serving) :
    d.portReset p cause =
      let a := (portQ p).foldl (fun e i => e.tqOff i) ((d.portQueues p).foldl (fun e q => (e.masterStop q).clearUnadmitted q) d)
      let b := (a.dropPushes p).setFn (.tp p) { fnReset with resetting := true, flr := decide (cause = 0) }
      ((b.incSat .TP p Reg.TP_PORT_RESETS 1).setIrq .TP p 2).finishDrain .TP p := by
  unfold Dev.portReset
  simp only [if_neg (Nat.not_le.2 hi), if_neg h1, hp]
  rw [if_neg (fun h => h.1.elim h1 h3)]

/-! ### Binding (R379, R381) -/

/-- An accepted value that differs from TP_BIND resets what belonged to the old binding. -/
theorem tpBindTake_changes {d : Dev} {p : Nat} {v : W32} (hv : v &&& 0x800003ff#32 ≠ d.reg .TP p Reg.TP_TP_BIND) :
    Dev.tpBindTake p v d =
      let a := (portQ p).foldl (fun e i => e.unitReset .TQ i) d
      let b := (a.dropPushes p).setRegN .TP p Reg.TP_MALFORMED 0
      ({ b with elogs := mdel b.elogs (256 + p), malTimes := b.malTimes.filter (fun x => x.1 != p) }).setReg .TP p Reg.TP_TP_BIND
        (v &&& 0x800003ff#32) := if_neg hv.symm

theorem noteWake_tpBindBad (d : Dev) (r : Requester) (q : PT) (p : Nat) (v : W32) : (d.noteWake r q).tpBindBad p v = d.tpBindBad p v := by
  rw [noteWake_eq]; rfl

section
variable {d : Dev} {r : Requester} {p : Nat} {v : W32} (hi : p < 8) (ht : d.takes r .TP p Reg.TP_TP_BIND = true)
include hi ht

theorem tpBindWrite_good (hb : d.tpBindBad p v = none) : Dev.tpBindWrite r p v d = Dev.tpBindTake p v (d.taken r .TP p) := by
  unfold Dev.tpBindWrite
  rw [if_neg (Nat.not_le.2 hi), hb]
  exact regWriteElse_takes _ _ ht

theorem tpBindWrite_bad {b : Nat} (hb : d.tpBindBad p v = some b) :
    Dev.tpBindWrite r p v d = (d.noteWake r .TP).raiseErr .TP p b noDetail := by
  unfold Dev.tpBindWrite
  rw [if_neg (Nat.not_le.2 hi), hb]
  refine (regWriteElse_else _ _ ht).trans ?_
  rw [noteWake_tpBindBad, hb]
end

/-! ### Malformed traffic (R396) -/

section
variable {d : Dev} {p : Nat} (hi : p < 8) (hp : d.page .TP p = .serving) (hl : d.portTrained p = true)
include hi hp hl

theorem malformedTlp_heard {k : Nat} (hk : k < 4) : ¬(8 ≤ p ∨ 4 ≤ k ∨ d.page .TP p ≠ .serving ∨ !d.portTrained p) := by
  simp only [hp, hl, ne_eq, not_true_eq_false, Bool.not_true, Bool.false_eq_true, or_false]
  omega

/-- An errant TLP outside the push windows is counted and reported by AER. -/
theorem malformedTlp_noFrame {k : Nat} (hk : k < 3) :
    Dev.malformedTlp p k none d = (d.countMal p).aerLog (.tp p) ([18, 20, 16].getD k 18) false k := by
  have heard := malformedTlp_heard hi hp hl (Nat.lt_succ_of_lt hk)
  obtain rfl | rfl | rfl : k = 0 ∨ k = 1 ∨ k = 2 := by omega
  all_goals exact if_neg heard

/-- A poisoned write into a push window goes on as a malformed frame. -/
theorem malformedTlp_pushWindow {i t : Nat} (hq : i < 64) (ht : t < 32) :
    Dev.malformedTlp p 3 (some (i, t)) d = ((d.countMal p).aerLog (.tp p) 12 false 3).badFrame (2048 + 64 * p + i) t :=
  (if_neg (malformedTlp_heard hi hp hl (by decide))).trans (if_pos ⟨hq, ht⟩)
end

/-! ### Pushed frames (R384, R385) -/

section
variable {d : Dev} {p i tag flags off : Nat} {payload : List Byte}

/-- A queue whose push stream is discarded takes no frame. -/
theorem pushFrame_dead (rsv len : Nat) (bad : Bool) (hd : 2048 + 64 * p + i ∈ d.pushDead) :
    Dev.pushFrame p i tag flags rsv len off bad payload d = d := by
  unfold Dev.pushFrame
  dsimp only
  rw [if_pos (List.contains_iff_mem.2 hd), ite_self]

/-- A well-formed frame that comes whole and in its place, for a command that takes frames, is taken. -/
theorem pushFrame_placed {f : Flight} (hi : p < 8) (hq : i < 64) (ht : tag < 32) (hf : flags < 2)
    (hlen : 4 ≤ payload.length ∧ payload.length ≤ 65536 ∧ payload.length % 4 = 0)
    (hp : d.page .TP p = .serving) (ho : d.fnOpen (.tp p) = true) (hd : 2048 + 64 * p + i ∉ d.pushDead)
    (hs : (2048 + 64 * p + i) * 32 + tag ∉ d.pushSkip) (hc : d.tagCmd (2048 + 64 * p + i) tag = some f) (hw : d.pushes_ f = true)
    (hoff : off = ((mget d.pushes ((2048 + 64 * p + i) * 32 + tag)).getD []).length) :
    Dev.pushFrame p i tag flags 0 payload.length off false payload d = d.frameTake f (flags == 1) payload := by
  have hok : (!false && decide (flags < 2) && 0 == 0 &&
      decide (tag < 32 ∧ 4 ≤ payload.length ∧ payload.length ≤ 65536 ∧ payload.length % 4 = 0)) = true := by
    simp [hf, ht, hlen]
  unfold Dev.pushFrame
  dsimp only
  rw [if_neg (by simp [hp, ho]; omega), if_neg (by simpa using hd), if_neg (by simp [hs]), hc]
  exact if_pos ⟨hok, hw, hoff⟩
end

end Sys2Proof.Machine
end

section
open Sys2Proof Sys2Proof.Machine

/-- Settles O17, clause by clause: a serving port's reset, a taken TP_BIND_WRITE by what R379 says of its value, errant traffic of a trained link,
and a frame by the state of its stream, which noting the tenant's wake leaves as it was. -/
theorem tenantPorts : Obligations.TenantPorts := by
  refine ⟨fun d p c hi hc hp => ?reset, fun d p hi => ?perstRise, fun d r p v hi hb ht hv => ?bind, fun d r p v b hi hb ht => ?bindBad,
    fun d p k hi hk hp hl => ?malformed, fun d p i t hi hq ht hp hl => ?poisoned,
    fun d p i tag flags off payload f hi hq ht hf h4 hm hr hp ho hd hs hc hw hoff => ?taken,
    fun d p i tag flags off payload hi hq ht hf h4 hm hr hp ho hd => ?lost⟩
  case reset =>
    exact ends_runCmd (exec_portReset p c) ((if_pos (by omega)).trans (portReset_linkKept hi (by omega) (by omega) hp))
  case perstRise => exact ends_run (exec_tpPerstRise p) (if_pos hi)
  case bind =>
    have hv' : v &&& 0x800003ff#32 ≠ (d.taken r .TP p).reg .TP p Reg.TP_TP_BIND := by
      rwa [taken_reg_page d r .TP p _ (by decide)]
    exact ends_run (exec_tpBindWrite r p v) ((tpBindWrite_good hi ht hb).trans (tpBindTake_changes hv'))
  case bindBad => exact ends_run (exec_tpBindWrite r p v) (tpBindWrite_bad hi ht hb)
  case malformed => exact ends_runCmd (exec_malformedTlp p k none) (malformedTlp_noFrame hi hp hl hk)
  case poisoned => exact ends_runCmd (exec_malformedTlp p 3 (some (i, t))) (malformedTlp_pushWindow hi hp hl hq ht)
  case taken =>
    refine ends_runCmd (exec_pushFrame p i tag flags 0 payload.length off false payload) ?_
    rw [noteWake_eq]
    exact pushFrame_placed hi hq ht hf ⟨h4, hm, hr⟩ hp ho hd hs hc hw hoff
  case lost =>
    refine ends_runCmd (exec_pushFrame p i tag flags 0 payload.length off false payload) ?_
    rw [noteWake_eq]
    exact pushFrame_dead 0 payload.length false hd
end

section
/-! PROOFS. Filush messages: what is not heard, what is dropped, what is handled (R400, R415, R416). -/
namespace Sys2Proof.Machine
open Sys2Proof

section
variable {d : Dev} {ty : Nat} {h : MsgHdr}

/-- A message that is heard is only counted where it breaks a rule of reception, else handled. -/
theorem rx_hears (f : Dev → Dev) (hh : d.hears ty h = true) :
    d.rx ty h f = if d.rxBad ty h = true then d.incSat .FL h.link Reg.FL_CRC_ERR 1 else f (d.heard ty h) := by
  split
  · next hb => exact rx_bad f hh hb
  · next hb => exact rx_heard f hh (eq_false_of_ne_true hb)

/-- The message just noted stands first among those kept of its source. -/
theorem noteSeen_mem (d : Dev) (h : MsgHdr) : (h.src, h.seq) ∈ (d.noteSeen h).fab.seen :=
  List.mem_append_left _ (List.mem_cons_self ..)

/-- A source and sequence number met before break a rule of reception for every type but HELLO. -/
theorem rxBad_of_seen (ht : ty ≠ 1) (hm : (h.src, h.seq) ∈ d.fab.seen) : d.rxBad ty h = true := by
  unfold Dev.rxBad
  rw [List.contains_iff_mem.2 hm, bne_iff_ne.2 ht, Bool.and_true, Bool.or_true]

/-- A command that is a message, heard and within the rules of reception, ends where its handling on the device that has noted it ends. -/
theorem ends_rx {i : Instr} {f : Dev → Dev} {e : Dev} (hx : ∀ s, exec i s = runFab (fun d => d.rx ty h f) s) (hh : d.hears ty h = true)
    (hb : d.rxBad ty h = false) (he : f (d.heard ty h) = e) : Ends afterFabric i d e :=
  ends_runFab hx ((rx_heard f hh hb).trans he)
end

/-- A command that is a register write and is taken ends where its effect on the written device ends. -/
theorem ends_fabWrite {i : Instr} {r : Requester} {p : PT} {n off : Nat} {f : Dev → Dev} {d e : Dev}
    (hx : ∀ s, exec i s = runFab (fun d => d.regWrite r p n off f) s) (ht : d.takes r p n off = true) (he : f (d.taken r p n) = e) :
    Ends afterFabric i d e := ends_runFab hx ((regWrite_takes f ht).trans he)

end Sys2Proof.Machine
end

section
open Sys2Proof Sys2Proof.Machine

/-- Settles O50: the two ways a message is received, and the memory of those received. -/
theorem messageDrops : Obligations.MessageDrops :=
  ⟨fun _ _ _ f => rx_deaf f, fun _ _ _ f => rx_hears f,
    fun d _ h _ ht hs hq => rxBad_of_seen ht (by rw [hs, hq]; exact noteSeen_mem d h)⟩
end

section
/-! PROOFS. Filush links (R398 to R407). -/
namespace Sys2Proof.Machine
open Sys2Proof

section
variable {d : Dev} {n : Nat}

theorem linkLive_of (hn : n < 6) (hl : liveMode d.life.mode = true) : d.linkLive n = true := by
  unfold Dev.linkLive; rw [decide_eq_true hn, hl]; rfl

/-- A link in TRAINING that trains at a width it allows enters HELLO. -/
theorem flTrained_training {w : Nat} (hl : d.linkLive n = true) (hs : d.linkState n = 3)
    (hw : w = 8 ∨ (w = 4 ∧ d.regB .FL n Reg.FL_FL_CFG 1 = true)) :
    Dev.flTrained n w d = ((d.setLink n 4).setRegF .FL n Reg.FL_FL_STS 3 4 w).sayHello n :=
  (if_neg (by obtain rfl | ⟨rfl, hc⟩ := hw <;> simp [*])).trans (if_pos hs)

/-- Fewer replays than ERR_MAX are no burst. -/
theorem burst_below {c : Dev} {k : Nat} (hk : k < c.errMax n) :
    (let e := if k = c.errMax n then c.raiseErr .FL n 0 noDetail else c
      if e.errMax n < k then e.linkDrop n else e) = c := by
  rw [if_neg (Nat.ne_of_lt hk)]
  exact if_neg (Nat.not_lt.2 (Nat.le_of_lt hk))

/-- A frame error on an UP link whose replays stay below ERR_MAX is counted and remembered. -/
theorem flitCrc_below (hl : d.linkLive n = true) (hs : d.linkState n = 5)
    (hm : ((d.flLink n).replays.filter (fun t => decide (d.life.usUp - t < 1000))).length + 1 <
      ((d.incSat .FL n Reg.FL_CRC_ERR 1).incSat .FL n Reg.FL_REPLAY 1).errMax n) :
    Dev.flitCrc n d = ((d.incSat .FL n Reg.FL_CRC_ERR 1).incSat .FL n Reg.FL_REPLAY 1).mapLink n (fun l =>
      { l with replays := d.life.usUp :: (d.flLink n).replays.filter (fun t => decide (d.life.usUp - t < 1000)) }) :=
  (if_neg (by simp [hl, hs])).trans (burst_below hm)
end

/-- HELLO on a link in HELLO brings it UP where the identity fits the wiring, else the link fails. -/
theorem hello_first {d : Dev} {h : MsgHdr} {x : HelloId} (hh : d.hears 0x01 h = true) (hb : d.rxBad 0x01 h = false)
    (hs : (d.heard 0x01 h).linkState h.link = 4) : Dev.hello h x d =
    let s := (d.heard 0x01 h).showPeer h.link x
    if s.helloFits h.link x = true then ((s.mapLink h.link (fun l => { l with partner := some (x.serial, x.fabId) })).notePartner x).linkRise h.link
    else ((s.setLink h.link 7).setRegF .FL h.link Reg.FL_FL_STS 3 4 0).raiseErr .FL h.link 1 noDetail := by
  unfold Dev.hello
  rw [rx_heard _ hh hb, hs, if_neg (fun hx => absurd hx.1 (by decide))]
  exact if_neg (by decide)

end Sys2Proof.Machine
end

section
open Sys2Proof Sys2Proof.Machine

/-- Settles O20, clause by clause: each timer and event finds its link in the state that its row of R400 names. -/
theorem filushLinks : Obligations.FilushLinks := by
  refine ⟨fun d n hn hl hs hw => ?detectTimeout, fun d n b hn hl hs hw => ?probe, fun d n hn hl hs => ?termination,
    fun d n w hn hl hs hw => ?trained, fun d n hn hl hs hw => ?trainTimeout, fun d n hn hl => ?linkDown, fun d r n hn ht => ?retrain,
    fun d r n on hn hr ht => ?force, fun d n hn hl hs hm => ?crc, fun d n hn hl hs => ?terminationLost,
    fun d h x hh hb hs hf => ?helloFits, fun d h x hh hb hs hf => ?helloFails⟩
  case detectTimeout => exact ends_runFab (exec_flDetectTimeout n) (if_pos ⟨linkLive_of hn hl, hs, hw⟩)
  case probe => exact ends_runFab (exec_flProbe n b) (if_pos ⟨linkLive_of hn hl, hs, hw⟩)
  case termination => exact ends_runFab (exec_partnerTerminationFound n) (if_pos ⟨linkLive_of hn hl, hs⟩)
  case trained => exact ends_runFab (exec_flTrained n w) (flTrained_training (linkLive_of hn hl) hs hw)
  case trainTimeout => exact ends_runFab (exec_flTrainTimeout n) (if_pos ⟨linkLive_of hn hl, hs, hw⟩)
  case linkDown => exact ends_runFab (exec_flLinkDown n) (if_pos (linkLive_of hn hl))
  case retrain => exact ends_runFab (exec_flRetrain r n) ((if_neg (Nat.not_le.2 hn)).trans (regWrite_takes _ ht))
  case force => exact ends_runFab (exec_forceLinkLoss r n on) ((if_neg (Nat.not_le.2 hn)).trans (forceWrite_secure _ ht hr))
  case crc => exact ends_runFab (exec_flitCrcFail n) (flitCrc_below (linkLive_of hn hl) hs hm)
  case terminationLost =>
    refine ends_runFab (exec_flTerminationLost n) ((if_neg (by simp [linkLive_of hn hl, hs])).trans ?_)
    obtain hs | hs := hs <;> rw [hs] <;> rfl
  case helloFits => exact ends_runFab (exec_hello h x) ((hello_first hh hb hs).trans (if_pos hf))
  case helloFails => exact ends_runFab (exec_hello h x) ((hello_first hh hb hs).trans (if_neg (ne_true_of_eq_false hf)))
end

section
/-! PROOFS. Membership of the fabric (R409 to R417, R436, R441, R442). -/
namespace Sys2Proof.Machine
open Sys2Proof

theorem isHead_inFabric {d : Dev} (hm : d.isHead = true) : d.fabState ≠ 0 := by
  unfold Dev.isHead at hm
  exact bne_iff_ne.1 (Bool.and_eq_true_iff.1 hm).1

theorem taken_fabState (d : Dev) (r : Requester) : (d.taken r .FAB 0).fabState = d.fabState :=
  taken_regF_page d r .FAB 0 Reg.FAB_FAB_STS 0 3 (by decide)

/-! ### Authentication (R409, R410) -/

/-- Mordant acts on an authentication message at once unless the secure pair is halted. -/
theorem authMsg_acts {d : Dev} {ty : Nat} {h : MsgHdr} (serial proto : Nat) (ok : Bool) (hh : d.hears ty h = true) (hb : d.rxBad ty h = false)
    (hx : (d.heard ty h).sxHalted = false) :
    Dev.authMsg ty h serial proto ok d = (d.heard ty h).authAct ty h.src serial proto ok :=
  (rx_heard _ hh hb).trans (if_neg (ne_true_of_eq_false hx))

/-- The head challenges a member that is not listed JOINING or ACTIVE, with a nonce of its own. -/
theorem authHello_challenges {d : Dev} {n : Nat} (ver : Nat) (hm : d.isHead = true) (h0 : n ≠ 0) (hp : n < d.places)
    (hc : d.carries n = false) :
    d.authHello n ver =
      let m := (mget d.fab.members n).getD ⟨0, 0, 0, false, 0, none⟩
      (({ d with free := d.free + 1, fab := { d.fab with members := mput d.fab.members n { m with nonce := some d.free } } }).noteVersion n ver).send
        0x03 n [Config.freeNat d.free % 2 ^ 256] false :=
  if_neg (by simp [hm, h0, hc, hp])

/-- A member that the head has challenged passes with an answer that checks. -/
theorem authResponse_passes {d : Dev} {n : Nat} {x : Member} (serial : Nat) (hm : d.isHead = true) (hx : mget d.fab.members n = some x)
    (hn : x.nonce.isSome = true) (hc : d.carries n = false) :
    d.authResponse n serial 1 true =
      let m := { x with nonce := none }
      ({ d with fab := { d.fab with members := mput d.fab.members n m } }).authPassed n serial m := by
  unfold Dev.authResponse
  rw [if_pos hm, hx]
  exact (if_neg (by simp [hc, Option.ne_none_iff_isSome.2 hn])).trans (if_pos ⟨rfl, rfl⟩)

/-- A head's answer that does not check leaves the member without a place. -/
theorem authResponse_failsAtMember {d : Dev} (n serial proto : Nat) (hm : d.isHead = false) (hn : d.fab.nonce.isSome = true) :
    d.authResponse n serial proto false = ({ d with fab := { d.fab with nonce := none } }).raiseErr .FAB 0 2 noDetail :=
  (if_neg (ne_true_of_eq_false hm)).trans ((if_neg (by simp [Option.ne_none_iff_isSome.2 hn])).trans (if_neg Bool.false_ne_true))

/-! ### The member table and heartbeats (R410 to R413) -/

theorem tableEntries_inRange {es : List (Nat × Nat)} (hl : es.length = 64) (he : es.all (fun x => decide (x.1 ≤ 4 ∧ x.2 < 64)) = true) :
    ¬(es.length ≠ 64 ∨ es.any (fun e => decide (4 < e.1 ∨ 64 ≤ e.2)) = true) := by
  rintro (hn | hn)
  · exact hn hl
  · obtain ⟨x, hx, hx'⟩ := List.any_eq_true.1 hn
    have hr := List.all_eq_true.1 he x hx
    simp only [decide_eq_true_eq] at hr hx'
    omega

section
variable {d : Dev} {n : Nat} (hl : liveMode d.life.mode = true)
include hl

theorem heartbeatTimer_atHead (hm : d.isHead = true) (ht : d.hbUs ≤ d.life.usUp - d.fab.hbTx) :
    d.heartbeatTimer =
      let e : Dev := { d with fab := { d.fab with hbTx := d.life.usUp } }
      let body := [d.fabNow, modeCode d.life.mode]
      (e.fab.members.filter (fun x => x.2.state == 3)).foldl (fun f x => f.send 0x06 x.1 body false) (e.down 0x06 body false) :=
  (if_neg (by simp [hl, isHead_inFabric hm, ht])).trans (if_pos hm)

theorem heartbeatLoss_atHead {m : Member} (hm : d.isHead = true) (hx : mget d.fab.members n = some m) (h0 : n ≠ 0)
    (hs : m.state = 1 ∨ m.state = 2) (ht : d.lossUs ≤ d.life.usUp - m.hbUs) : Dev.heartbeatLoss n d = d.listMember n 3 := by
  unfold Dev.heartbeatLoss
  rw [hx]
  exact (if_neg (by simp [hl])).trans ((if_pos hm).trans (if_pos ⟨h0, hs, decide_eq_true ht⟩))

theorem heartbeatLoss_atMember (hm : d.isHead = false) (hs : d.fabState = 2 ∨ d.fabState = 3)
    (ht : d.lossUs ≤ d.life.usUp - d.fab.headHb.getD 0) : Dev.heartbeatLoss n d = d.fence true :=
  (if_neg (by simp [hl])).trans ((if_neg (ne_true_of_eq_false hm)).trans (if_pos ⟨hs, decide_eq_true ht⟩))
end

/-- The head stores links that a member's entry does not show yet. -/
theorem linkState_stores {d : Dev} {h : MsgHdr} {mask : Nat} {m : Member} (hh : d.hears 0x07 h = true) (hb : d.rxBad 0x07 h = false)
    (hm : (d.heard 0x07 h).isHead = true) (hx : mget (d.heard 0x07 h).fab.members h.src = some m) (hl : m.links ≠ mask % 64) (h0 : h.src ≠ 0) :
    Dev.linkState_ h mask d = (d.heard 0x07 h).setMember h.src { m with links := mask % 64 } := by
  unfold Dev.linkState_
  rw [rx_heard _ hh hb, hx]
  exact (if_neg (by simp [hm])).trans (if_neg (by simp [hl, h0]))

/-- EVICT at the head lists the member that EVICT_ID names FAILED. -/
theorem evict_lists {d : Dev} {n : Nat} (hn : d.regF .FAB 0 Reg.FAB_FAB_CTL 8 6 = n) (hm : d.isHead = true) (h0 : n ≠ 0)
    (ha : d.memberState n ≠ 0) (hf : d.memberState n ≠ 4) : d.evict = d.listMember n 4 := by
  subst hn
  exact if_neg (by simp [hm, h0, ha, hf])

end Sys2Proof.Machine
end

section
open Sys2Proof Sys2Proof.Machine

/-- Settles O21, clause by clause: each message finds its reader in the place that its step of R409 or R411 names, each timer at its bound, and
each taken write of FAB_CTL the state or the member that it names. -/
theorem fabricMembership : Obligations.FabricMembership := by
  refine ⟨fun d h ver hh hb hx hm h0 hp hc => ?authHello, fun d h hh hb hx hs h0 => ?authChallenge,
    fun d h serial proto x hh hb hx hm hg hn hc hp => ?authPasses, fun d h serial proto hh hb hx hm hn => ?authFails,
    fun d h es hh hb hl he hm => ?memberUpdate, fun d h t m hh hb hm => ?heartbeatHead, fun d h t m hh hb hm h0 => ?heartbeatMember,
    fun d hm hl ht => ?heartbeatTimer, fun d n m hl hm hg h0 hs ht => ?lossHead, fun d n hl hm hs ht => ?lossMember,
    fun d h mask m hh hb hm hg hl h0 => ?linkState, fun d r ht hs => ?rejoin, fun d r n ht => ?evict, fun d n => evict_lists⟩
  case authHello => exact ends_runFab (exec_authHello ⟨h, ver⟩) ((authMsg_acts ver 0 true hh hb hx).trans (authHello_challenges ver hm h0 hp hc))
  case authChallenge => exact ends_runFab (exec_authChallenge h) ((authMsg_acts 0 0 true hh hb hx).trans (if_pos ⟨hs, h0⟩))
  case authPasses =>
    subst hp
    exact ends_runFab (exec_authResponse h serial 1 true) ((authMsg_acts serial 1 true hh hb hx).trans (authResponse_passes serial hm hg hn hc))
  case authFails =>
    exact ends_runFab (exec_authResponse h serial proto false)
      ((authMsg_acts serial proto false hh hb hx).trans (authResponse_failsAtMember h.src serial proto hm hn))
  case memberUpdate =>
    exact ends_runFab (exec_memberUpdate h es)
      ((if_neg (tableEntries_inRange hl he)).trans ((rx_heard _ hh hb).trans (if_neg (by simp [hm]))))
  case heartbeatHead => exact ends_rx (exec_heartbeat h t m) hh hb (if_pos hm)
  case heartbeatMember =>
    exact ends_rx (exec_heartbeat h t m) hh hb ((if_neg (ne_true_of_eq_false hm)).trans (if_pos (.inl h0)))
  case heartbeatTimer => exact ends_runFab exec_heartbeatTimer (heartbeatTimer_atHead hl hm ht)
  case lossHead => exact ends_runFab (exec_heartbeatLoss n) (heartbeatLoss_atHead hl hm hg h0 hs ht)
  case lossMember => exact ends_runFab (exec_heartbeatLoss n) (heartbeatLoss_atMember hl hm hs ht)
  case linkState => exact ends_runFab (exec_linkState h mask) (linkState_stores hh hb hm hg hl h0)
  case rejoin => exact ends_fabWrite (exec_rejoin r) ht (if_pos ((taken_fabState d r).trans hs))
  case evict => exact ends_fabWrite (exec_evict r n) ht rfl
end

section
/-! PROOFS. Global operations: barriers, broadcasts, time and fabric resets (R429 to R434, R447). -/
namespace Sys2Proof.Machine
open Sys2Proof

theorem taken_opBusy (d : Dev) (r : Requester) : (d.taken r .FAB 0).regB .FAB 0 Reg.FAB_OP_STS 0 = d.regB .FAB 0 Reg.FAB_OP_STS 0 :=
  taken_regB_page d r .FAB 0 Reg.FAB_OP_STS 0 (by decide)

section
variable {d : Dev} (hm : d.isHead = true) (hb : d.regB .FAB 0 Reg.FAB_OP_STS 0 = false)
include hm hb

/-- A barrier or broadcast of the host shows BUSY and is asked for. -/
theorem opCmd_asks {op : Nat} (ho : op = 1 ∨ op = 2) : d.opCmd op = (d.setRegN .FAB 0 Reg.FAB_OP_STS 1).opAsk op [0] true := by
  obtain rfl | rfl := ho <;> exact if_neg (by simp [hm, hb])

/-- A synchronisation of the host runs at once. -/
theorem opCmd_syncs : d.opCmd 3 =
    ({ d with free := d.free + 1 }).timeSyncOut.hostOpEnd 0 (Config.freeNat d.free % ((d.dLive + 1) * 200 + 1)) :=
  if_neg (by simp [hm, hb])
end

/-- A message that comes down the tree is for members. -/
theorem goesDown_member {d : Dev} {h : MsgHdr} (hd : goesDown h = true) (hm : d.isMember = true) : ¬(!(goesDown h && d.isMember)) = true := by
  rw [hd, hm]; decide

/-- A broadcast that comes down the tree to a member is passed on and taken. -/
theorem ends_bcastDown {i : Instr} {d : Dev} {h : MsgHdr} {id kind : Nat} {ws : List Nat} (hx : ∀ s, exec i s = runFab (Dev.bcast h id kind ws) s)
    (hh : d.hears 0x12 h = true) (hb : d.rxBad 0x12 h = false) (hu : goesUp h = false) (hd : goesDown h = true)
    (hm : (d.heard 0x12 h).isMember = true) :
    Ends afterFabric i d ((((d.heard 0x12 h).gatherBegin 2 id).down 0x12 ([id, kind] ++ ws) (decide (kind < 2))).bcastTake id kind ws) :=
  ends_rx hx hh hb ((if_neg (ne_true_of_eq_false hu)).trans (if_pos ⟨hd, hm⟩))

theorem fabricResetTime_due {d : Dev} {t : Nat} (ht : d.fab.resetAt = some t) (hm : restartMode d.life.mode = true) (hn : t ≤ d.fabNow) :
    d.fabricResetTime = d.deviceReset false 5 true := by
  unfold Dev.fabricResetTime
  rw [ht]
  exact if_pos ⟨hm, hn⟩

end Sys2Proof.Machine
end

section
open Sys2Proof Sys2Proof.Machine

/-- Settles O22, clause by clause: a taken write finds an idle head, each message the direction in the tree that its step of R429, R433 or R434
names, each timer its bound. -/
theorem fabricOperations : Obligations.FabricOperations := by
  refine ⟨fun d r ht hm hb => ?barrier, fun d r ht hm hb => ?broadcast, fun d r ht hm hb => ?sync,
    fun d h id n hh hb hu => ?arriveUp, fun d h id n hh hb hu hd hm => ?arriveDown, fun d h id hh hb hd hm => ?release,
    fun d h id kind ws hh hb hu hd hm => ?bcast, fun d h id n res hh hb => ?bcastAck, fun d hm hl ht => ?syncTimer,
    fun d h tHead corr n hh hb hs hm => ?timeSync, fun d h t1 hh hb => ?echoAsked, fun d h t1 t2 t3 hh hb h2 => ?echoAnswered,
    fun d r ht hm => ?fabricReset, fun d h id hh hb hd hm => ?resetPrepare, fun d h id n hh hb => ?resetReady,
    fun d h id t hh hb hd hm => ?resetAt, fun d t ht hm hn => ?resetTime, fun d ht => ?resetLate⟩
  case barrier => exact ends_fabWrite (exec_barrier r) ht (opCmd_asks hm ((taken_opBusy d r).trans hb) (.inl rfl))
  case broadcast => exact ends_fabWrite (exec_broadcast r) ht (opCmd_asks hm ((taken_opBusy d r).trans hb) (.inr rfl))
  case sync => exact ends_fabWrite (exec_immediateTimeSync r) ht (opCmd_syncs hm ((taken_opBusy d r).trans hb))
  case arriveUp => exact ends_rx (exec_barrierArrive h id n) hh hb (if_pos hu)
  case arriveDown => exact ends_rx (exec_barrierArrive h id n) hh hb ((if_neg (ne_true_of_eq_false hu)).trans (if_pos ⟨hd, hm⟩))
  case release => exact ends_rx (exec_barrierRelease h id) hh hb (if_pos ⟨hd, hm⟩)
  case bcast => exact ends_bcastDown (exec_bcast h id kind ws) hh hb hu hd hm
  case bcastAck => exact ends_rx (exec_bcastAck h id n res) hh hb rfl
  case syncTimer => exact ends_runFab exec_timeSyncTimer (if_pos ⟨hm, hl, ht⟩)
  case timeSync => exact ends_rx (exec_timeSync h tHead corr n) hh hb (if_neg (by simp [hs, hm]))
  case echoAsked => exact ends_rx (exec_timeEcho h t1 0 0) hh hb (if_pos ⟨rfl, rfl⟩)
  case echoAnswered => exact ends_rx (exec_timeEcho h t1 t2 t3) hh hb (if_neg (fun hz => h2 hz.1))
  case fabricReset => exact ends_fabWrite (exec_fabricReset r) ht (if_pos hm)
  case resetPrepare => exact ends_rx (exec_resetPrepare h id) hh hb (if_neg (goesDown_member hd hm))
  case resetReady => exact ends_rx (exec_resetReady h id n) hh hb rfl
  case resetAt => exact ends_rx (exec_resetAt h id t) hh hb (if_neg (goesDown_member hd hm))
  case resetTime => exact ends_runFab exec_fabricResetTime (fabricResetTime_due ht hm hn)
  case resetLate => exact ends_runFab exec_resetReadyTimeout (if_neg (Nat.not_lt.2 ht))
end

section
/-! PROOFS. Snapshots and reshaping of fabric volumes (R431, R432, R443 to R445). -/
namespace Sys2Proof.Machine
open Sys2Proof

/-- START on the head while no reshape runs stores the fields and asks for the reshape or refuses it. -/
theorem rshpWrite_starts {d : Dev} {v : W32} (hm : d.isHead = true) (hr : d.regB .FAB 0 Reg.FAB_RSHP_CTL 20 = false) (hv : fld v 20 1 = 1) :
    Dev.rshpWrite v d =
      let f := ((d.setRegF .FAB 0 Reg.FAB_RSHP_CTL 0 20 (fld v 0 20)).setRegF .FAB 0 Reg.FAB_RSHP_CTL 21 1 (fld v 21 1)).rshpCheck
      if f.rshpRefused (fld v 0 12) (fld v 12 5) (fld v 17 3) = true then f.raiseErr .FAB 0 4 noDetail
      else (f.setRegF .FAB 0 Reg.FAB_RSHP_CTL 20 1 1).opAsk 6 [1, 7, fld v 0 12, fld v 12 5 + 32 * fld v 17 3, f.volSet, 0] false := by
  unfold Dev.rshpWrite
  rw [hr]
  exact (if_neg (by simp [hm])).trans (if_neg (by simp [hv]))

/-! ### The copy of a band (R444) -/

/-- Bands already passed that were written again while the reshape was paused. -/
def Dev.rshpAgain (d : Dev) (x : Reshape) : List Nat := x.again.filter (fun b => decide (b < d.regN .FAB 0 Reg.FAB_RSHP_CURSOR))

/-- The sectors of a copied band that this device takes become requests for its new shard range. -/
def Dev.rshpInstall (x : Reshape) (w : Store) (secs : List (Nat × SectorIn)) (c : Dev) : Dev :=
  if w.base = 0xffffff then c else secs.foldl (fun (f : Dev) (s : Nat × SectorIn) =>
    if s.1 < w.shardBands * 4096 then f.shardFlight 0x101 (shadowKey x.volume) s.1 1 f.fabId 0 0 0 [fabIn s.2] else f) c

/-- After the last band, none being left to copy again, the head asks for the switch. -/
def Dev.rshpSwitch (x : Reshape) (v : Store) (g : Dev) : Dev :=
  let left : List Nat := match g.fab.reshape with
    | some r => r.again
    | none => []
  if g.isHead = true ∧ left.isEmpty = true ∧ g.regN .FAB 0 Reg.FAB_RSHP_CURSOR = v.bands then
    (g.newEpoch g.fab.members).opAsk 6 [1, 8, x.volume, 0, x.newSet, 0] false
  else g

section
variable {d : Dev} (secs : List (Nat × SectorIn)) {x : Reshape} {v w : Store} (hx : d.fab.reshape = some x) (hv : d.store x.volume = some v)
  (hw : d.store (shadowKey x.volume) = some w) (hh : d.rshpHeld x = false) (hm : d.mayRelocate = true) (hg : d.gateOpen 14 = true)
include hh hm hg

/-- A reshape that no cause holds goes on where the gate lets it, as long as a band is left. -/
theorem rshp_goesOn {c : Prop} (hn : ¬c) : ¬(d.rshpHeld x = true ∨ (!d.mayRelocate) = true ∨ (!d.gateOpen 14) = true ∨ c) := by
  simp [hh, hm, hg, hn]

include hx hv hw

theorem rshpCopy_quota (hc : d.regN .FAB 0 Reg.FAB_RSHP_CURSOR < v.bands) :
    Dev.rshpCopy true secs d = ({ d with fab := { d.fab with reshape := some { x with space := true } } }).rshpCheck := by
  unfold Dev.rshpCopy
  rw [hx, Option.bind_some, Option.bind_some, hv, hw]
  exact (if_neg (rshp_goesOn hh hm hg fun hn => Nat.not_le.2 hc hn.2)).trans (if_pos rfl)

/-- The band copied is the first of those written again, else that of CURSOR, which then moves on. -/
theorem rshpCopy_copies (hn : ¬((d.rshpAgain x).isEmpty = true ∧ v.bands ≤ d.regN .FAB 0 Reg.FAB_RSHP_CURSOR)) :
    Dev.rshpCopy false secs d =
      let cur := d.regN .FAB 0 Reg.FAB_RSHP_CURSOR
      let b := (d.rshpAgain x).headD cur
      let e := (d.charge 14 (d.sourceSecs v b)).rshpInstall x w secs
      (if (d.rshpAgain x).isEmpty = true then e.setRegN .FAB 0 Reg.FAB_RSHP_CURSOR (cur + 1)
        else { e with fab := { e.fab with reshape := some { x with again := x.again.filter (· != b) } } } : Dev).rshpSwitch x v := by
  unfold Dev.rshpCopy
  rw [hx, Option.bind_some, Option.bind_some, hv, hw]
  exact (if_neg (rshp_goesOn hh hm hg hn)).trans (if_neg Bool.false_ne_true)

theorem rshpCopy_next (hc : d.regN .FAB 0 Reg.FAB_RSHP_CURSOR < v.bands) (ha : d.rshpAgain x = []) :
    Dev.rshpCopy false secs d =
      (((d.charge 14 (d.sourceSecs v (d.regN .FAB 0 Reg.FAB_RSHP_CURSOR))).rshpInstall x w secs).setRegN .FAB 0 Reg.FAB_RSHP_CURSOR
        (d.regN .FAB 0 Reg.FAB_RSHP_CURSOR + 1)).rshpSwitch x v := by
  rw [rshpCopy_copies secs hx hv hw hh hm hg fun hn => Nat.not_le.2 hc hn.2, ha]
  rfl

theorem rshpCopy_again {b : Nat} {bs : List Nat} (ha : d.rshpAgain x = b :: bs) :
    Dev.rshpCopy false secs d =
      let e := (d.charge 14 (d.sourceSecs v b)).rshpInstall x w secs
      ({ e with fab := { e.fab with reshape := some { x with again := x.again.filter (· != b) } } } : Dev).rshpSwitch x v := by
  rw [rshpCopy_copies secs hx hv hw hh hm hg (by simp [ha]), ha]
  rfl
end

theorem rshpPause_some {d : Dev} {x : Reshape} (b : Bool) (hx : d.fab.reshape = some x) :
    Dev.rshpPause b d = ({ d with fab := { d.fab with reshape := some { x with space := b } } }).rshpCheck := by
  unfold Dev.rshpPause
  rw [hx]

end Sys2Proof.Machine
end

section
open Sys2Proof Sys2Proof.Machine

/-- Settles O23, clause by clause: each message finds the direction in the tree that its step of R432 names, and the reshape the state of R443 to
R445 in which it starts, copies or pauses. -/
theorem fabricSnapshotsAndReshape : Obligations.FabricSnapshotsAndReshape := by
  refine ⟨fun d h vol id reqId tint qn tag hh hb hu hm => ?prepareUp, fun d h vol id reqId tint qn tag hh hb hu hd hm => ?prepareDown,
    fun d h id n res hh hb => ?held, fun d h vol id cal hh hb hd hm => ?commit, fun d h id n res qn tag hh hb hu => ?doneUp,
    fun d h id n res qn tag hh hb hu hd hm => ?doneDown, fun d h id n res qn tag hh hb hu hd => ?doneIngress,
    fun d h vol id hh hb hd hm => ?abort, fun d r v ht hm hr hv => ?start, fun d secs x v w hx hv hw hh hm hg hc => ?quota,
    fun d secs x v w hx hv hw hh hm hg hc ha => ?next, fun d secs x v w b bs hx hv hw hh hm hg ha => ?again, fun d x b hx => ?pause⟩
  case prepareUp => exact ends_rx (exec_snapPrepare h vol id reqId tint qn tag) hh hb ((if_pos hu).trans (if_pos hm))
  case prepareDown =>
    exact ends_rx (exec_snapPrepare h vol id reqId tint qn tag) hh hb ((if_neg (ne_true_of_eq_false hu)).trans (if_pos ⟨hd, hm⟩))
  case held => exact ends_rx (exec_snapHeld h id n res) hh hb rfl
  case commit => exact ends_rx (exec_snapCommit h vol id cal) hh hb (if_neg (goesDown_member hd hm))
  case doneUp => exact ends_rx (exec_snapDone h id n res qn tag) hh hb (if_pos hu)
  case doneDown =>
    exact ends_rx (exec_snapDone h id n res qn tag) hh hb ((if_neg (ne_true_of_eq_false hu)).trans ((if_pos hd).trans (if_pos hm)))
  case doneIngress =>
    exact ends_rx (exec_snapDone h id n res qn tag) hh hb ((if_neg (ne_true_of_eq_false hu)).trans (if_neg (ne_true_of_eq_false hd)))
  case abort => exact ends_rx (exec_snapAbort h vol id) hh hb (if_neg (goesDown_member hd hm))
  case start =>
    exact ends_fabWrite (exec_fabricReshapeStart r v) ht
      (rshpWrite_starts hm ((taken_regB_page d r .FAB 0 Reg.FAB_RSHP_CTL 20 (by decide)).trans hr) hv)
  case quota => exact ends_runFab (exec_fabricReshapeCopy true secs) (rshpCopy_quota secs hx hv hw hh hm hg hc)
  case next => exact ends_runFab (exec_fabricReshapeCopy false secs) (rshpCopy_next secs hx hv hw hh hm hg hc (by unfold Dev.rshpAgain; rw [ha]; rfl))
  case again => exact ends_runFab (exec_fabricReshapeCopy false secs) (rshpCopy_again secs hx hv hw hh hm hg ha)
  case pause => exact ends_runFab (exec_fabricReshapePause b) (rshpPause_some b hx)
end

section
/-! PROOFS. Stripe, shard and mirror messages, retries and resynchronisation (R416, R421 to R428, R437, R439). -/
namespace Sys2Proof.Machine
open Sys2Proof

/-! ### Shards written and read (R421, R423, R425) -/

section
variable {d : Dev} {h : MsgHdr} {vol j st fi : Nat} {v : Store}

section
variable (ws : Nat) (secs : List SectorIn) (hh : d.hears 0x32 h = true) (hb : d.rxBad 0x32 h = false)
include hh hb

/-- The holder of a shard takes SHARD_WRITE as a request for it. -/
theorem shardWrite_atHolder (hv : (d.heard 0x32 h).store vol = some v) (hs : v.base ≠ 0xffffff) (hj : v.holder st j = (d.heard 0x32 h).fabId) :
    Dev.shardWriteIn h vol j st fi ws secs d =
      (d.heard 0x32 h).shardFlight 0x101 vol (v.shardIdx st j fi) secs.length h.src (st * 32 + j) 0 ws (secs.map fabIn) := by
  unfold Dev.shardWriteIn
  rw [rx_heard _ hh hb, hv]
  exact if_neg (not_or.2 ⟨hs, not_not_intro hj⟩)

theorem shardWrite_noRecord (hv : (d.heard 0x32 h).store vol = none) :
    Dev.shardWriteIn h vol j st fi ws secs d = (d.heard 0x32 h).send 0x33 h.src [vol, j, St.notFound, st, ws] false := by
  unfold Dev.shardWriteIn
  rw [rx_heard _ hh hb, hv]
end

section
variable {n : Nat} (rt xid sn : Nat) (hh : d.hears 0x34 h = true) (hb : d.rxBad 0x34 h = false)
include hh hb

/-- A run that open records cover not at all or whole is served as one, unless the device is fenced. -/
theorem shardRead_whole (hv : (d.heard 0x34 h).store vol = some v)
    (hr : (List.range n).filter (fun i => sn == 0 && ((d.heard 0x34 h).openSector vol st j (fi + i)).isSome) = [] ∨
      ((List.range n).filter (fun i => sn == 0 && ((d.heard 0x34 h).openSector vol st j (fi + i)).isSome)).length = n) :
    Dev.shardReadIn h vol j st fi n rt xid sn d =
      if (d.heard 0x34 h).fabFenced = true then (d.heard 0x34 h).shardReply rt xid St.fenced []
      else (d.heard 0x34 h).shardServe v vol j st fi n rt xid sn := by
  unfold Dev.shardReadIn
  rw [rx_heard _ hh hb, hv]
  dsimp only
  rw [if_pos (hr.imp_left List.isEmpty_iff.2)]

theorem shardRead_noRecord (hv : (d.heard 0x34 h).store vol = none) :
    Dev.shardReadIn h vol j st fi n rt xid sn d = (d.heard 0x34 h).shardReply rt xid St.notFound [] := by
  unfold Dev.shardReadIn
  rw [rx_heard _ hh hb, hv]
end
end

/-! ### Mirrors (R424, R427) -/

/-- A record that its owner closes leaves its mirror. -/
theorem jnlMirror_closed {d : Dev} {h : MsgHdr} {x : StripeRec} (secs : List SectorIn) (hh : d.hears 0x36 h = true) (hb : d.rxBad 0x36 h = false)
    (hx : x.ty = 0x32) (hf : nbit x.flags 1 = false) :
    Dev.jnlMirror h x secs d = ((d.heard 0x36 h).dropMirror x).jrec [(mirrorOf x [] 0).jrec 0x32] := by
  unfold Dev.jnlMirror
  rw [rx_heard _ hh hb, hx, hf, if_neg (by decide), if_neg (by decide), if_pos rfl, if_neg (fun ha => Bool.false_ne_true ha.1)]

/-- JNL_ACK lets the owner of the record that it names go on. -/
theorem jnlAck_mirrored {d : Dev} {h : MsgHdr} {s : Nat} {x : FStripe} (hh : d.hears 0x37 h = true) (hb : d.rxBad 0x37 h = false)
    (hx : ((d.heard 0x37 h).answered (fun u => u.ty == 0x36 && u.dst == h.src && u.body.getD 10 0 == s)).fab.stripes.find?
      (fun r => !r.mirror && r.jseq == s && r.buddy == h.src && s != 0) = some x) :
    Dev.jnlAck h s d =
      ((d.heard 0x37 h).answered (fun u => u.ty == 0x36 && u.dst == h.src && u.body.getD 10 0 == s)).mirrored x.volume x.stripe := by
  unfold Dev.jnlAck
  rw [rx_heard _ hh hb]
  dsimp only
  rw [hx]

/-! ### Messages without an answer (R416) -/

section
variable {d : Dev} {s : Nat} {u : Unacked} (hu : d.fab.unacked.find? (fun u => u.seq == s) = some u) (ht : 20 ≤ d.life.usUp - u.sentUs)
  (hl : liveMode d.life.mode = true)
include hu ht hl

/-- The last repetition unanswered, the destination is unreachable. -/
theorem retryTimeout_last (hn : 4 ≤ u.tries) : Dev.retryTimeout s d =
    ({ d with fab := { d.fab with unacked := d.fab.unacked.filter (fun x => x.seq != s) } }).unreachable u := by
  unfold Dev.retryTimeout
  rw [hu]
  exact (if_neg (by simp [ht, hl])).trans (if_neg (Nat.not_lt.2 hn))

theorem retryTimeout_repeats (hn : u.tries < 4) : Dev.retryTimeout s d =
    let tree := if (u.ty = 0x12 ∧ u.dst ≠ 0) then 2 else if u.ty = 0x12 ∨ u.ty = 0x14 then 4 else 0
    let us := updFirst (fun x => x.seq == s) (fun _ => { u with tries := u.tries + 1, sentUs := d.life.usUp }) d.fab.unacked
    ({ d with fab := { d.fab with unacked := us } }).emit
      (.filush u.ty u.dst ([9 + tree, d.epoch, s] ++ u.body) (wireBytes u.ty (9 + tree) d.fabId u.dst d.epoch s u.body)) := by
  unfold Dev.retryTimeout
  rw [hu]
  exact (if_neg (by simp [ht, hl])).trans (if_pos hn)
end

/-! ### Resynchronisation (R439) -/

/-- A rebuilt sector goes to the JOINING member that holds it. -/
def Dev.resyncSend (v : Store) (m k : Nat) (parts : List (Nat × Nat × List (Nat × SectorIn))) (f : Dev) (w : Nat × Nat × Nat) : Dev :=
  f.send 0x32 m ([k / 2 ^ 24, w.2.1, w.1, w.2.2, 1, 0] ++ (rebuildShard v.fabK w.2.1 (resyncGiven v parts w.1 w.2.2)).words) true

/-- The band leaves those that the member waits for. -/
def Dev.resyncDone (m k : Nat) (left : List Nat) (e : Dev) : Dev :=
  ({ e with fab := { e.fab with resync := mput e.fab.resync m (left.filter (· != k)) } }).joinDone m

section
variable {d : Dev} {m k : Nat} {parts : List (Nat × Nat × List (Nat × SectorIn))} {left : List Nat} {v : Store}
  (hr : mget d.fab.resync m = some left) (hv : d.store (k / 2 ^ 24) = some v) (hk : left.contains k = true) (hm : d.memberState m = 1)
  (hf : d.fabState = 3) (hg : d.gateOpen 14 = true)
include hr hv hk hm hf hg

/-- A band whose missing sectors the parts give is rebuilt and struck off. -/
theorem resync_rebuilds {work : List (Nat × Nat × Nat)} (hw : d.resyncWork v m (k % 2 ^ 24) = work)
    (hp : work.all (resyncGood v parts) = true) :
    Dev.resync m k parts d = (work.foldl (Dev.resyncSend v m k parts) (d.charge 14 (work.length * v.fabK))).resyncDone m k left := by
  unfold Dev.resync
  rw [hr, hv]
  dsimp only
  rw [hk, hm, hf, hg, hw, hp, if_neg (by decide), if_neg (by decide)]
  rfl

/-- One with none missing here is struck off at once. -/
theorem resync_nothing (hw : d.resyncWork v m (k % 2 ^ 24) = []) : Dev.resync m k parts d = (d.charge 14 0).resyncDone m k left := by
  rw [resync_rebuilds hr hv hk hm hf hg hw rfl, List.length_nil, Nat.zero_mul]
  rfl
end

end Sys2Proof.Machine
end

section
open Sys2Proof Sys2Proof.Machine

/-- Settles O34, clause by clause: each message finds the record, the holder or the request that it names, a retry its bound, and a band of a
JOINING member what rebuilds it. -/
theorem fabricStripesAndShards : Obligations.FabricStripesAndShards := by
  refine ⟨fun d h vol st fi xid secs hh hb => ?stripeWrite, fun d h xid st dt hh hb => ?stripeAck,
    fun d h vol j st fi ws secs v hh hb hv hs hj => ?writeHolder, fun d h vol j st fi ws secs hh hb hv => ?writeNoRecord,
    fun d h vol j st i ws hh hb => ?shardAck, fun d h x secs hh hb hx hc => ?mirrorOpen, fun d h x secs hh hb hx hf => ?mirrorClosed,
    fun d h s x hh hb hx => ?jnlAck, fun d h vol j st fi n rt xid sn v hh hb hv hr => ?readWhole,
    fun d h vol j st fi n rt xid sn hh hb hv => ?readNoRecord, fun d h xid st secs hh hb => ?shardData,
    fun d s u hu ht hl hn => ?lastTry, fun d s u hu ht hl hn => ?again,
    fun d m k parts left v hr hv hk hm hf hg hw => ?resyncNothing, fun d m k parts left v hr hv hk hm hf hg hw => ?resyncRebuilds⟩
  case stripeWrite => exact ends_rx (exec_stripeWrite h vol st fi xid secs) hh hb rfl
  case stripeAck => exact ends_rx (exec_stripeAck h xid st dt) hh hb rfl
  case writeHolder => exact ends_runFab (exec_shardWrite h vol j st fi ws secs) (shardWrite_atHolder ws secs hh hb hv hs hj)
  case writeNoRecord => exact ends_runFab (exec_shardWrite h vol j st fi ws secs) (shardWrite_noRecord ws secs hh hb hv)
  case shardAck => exact ends_rx (exec_shardAck h vol j st i ws) hh hb rfl
  case mirrorOpen => exact ends_rx (exec_jnlMirror h x secs) hh hb ((if_pos hx).trans (if_neg (ne_true_of_eq_false hc)))
  case mirrorClosed =>
    exact ends_runFab (exec_jnlMirror h x secs) (jnlMirror_closed secs hh hb hx hf)
  case jnlAck => exact ends_runFab (exec_jnlAck h s) (jnlAck_mirrored hh hb hx)
  case readWhole => exact ends_runFab (exec_shardRead h vol j st fi n rt xid sn) (shardRead_whole rt xid sn hh hb hv hr)
  case readNoRecord => exact ends_runFab (exec_shardRead h vol j st fi n rt xid sn) (shardRead_noRecord rt xid sn hh hb hv)
  case shardData => exact ends_rx (exec_shardData h xid st secs) hh hb rfl
  case lastTry => exact ends_runFab (exec_messageRetryTimeout s) (retryTimeout_last hu ht hl hn)
  case again => exact ends_runFab (exec_messageRetryTimeout s) (retryTimeout_repeats hu ht hl hn)
  case resyncNothing => exact ends_runFab (exec_resync m k parts) (resync_nothing hr hv hk hm hf hg hw)
  case resyncRebuilds =>
    generalize hk' : d.resyncWork v m (k % 2 ^ 24) = work at hw ⊢
    exact ends_runFab (exec_resync m k parts) (resync_rebuilds hr hv hk hm hf hg hk' hw)
end

section
/-! PROOFS. Package blocks, reports, the update broadcasts and their timers (R535 to R546, R590). -/
namespace Sys2Proof.Machine
open Sys2Proof

/-! ### UPDATE_BLOCK (R535, R537, R538) -/

section
variable {d : Dev} {q tag : Nat} {data : List Byte} {f : Flight} (sigOk flashOk : Bool) (hf : d.flight q tag = some f)
  (ho : f.cmd.opcode = 0x62)
include hf ho

/-- A command just admitted whose checks pass goes on to its data. -/
theorem updateBlock_admitted (hs : f.stage = .run) (hd : d.denyPlain f false = none) :
    Dev.updateBlock q tag data sigOk flashOk d = d.setFlight { f with stage := if nbit f.cmd.flags 1 = true then .list else .data } := by
  unfold Dev.updateBlock
  rw [hf]
  dsimp only
  rw [if_neg (not_not_intro ho), if_pos hs, hd]

section
variable (hs : f.stage = .data) (hl : data.length = 65536)
include hs hl

/-- A block that has come is taken up. -/
theorem updateBlock_takes : Dev.updateBlock q tag data sigOk flashOk d = d.takeBlock f data sigOk flashOk := by
  unfold Dev.updateBlock
  rw [hf]
  dsimp only
  rw [if_neg (not_not_intro ho), hs, if_neg (by decide), if_neg (not_or.2 ⟨not_not_intro rfl, not_not_intro hl⟩)]

theorem updateBlock_refuses {x : Nat} (hr : d.blockRefused data f.cmd.addr = some x) :
    Dev.updateBlock q tag data sigOk flashOk d = d.postFail f (if x = 0x22 then St.accessDenied else St.invalidField) x := by
  rw [updateBlock_takes sigOk flashOk hf ho hs hl]
  unfold Dev.takeBlock
  rw [hr]

section
variable (hr : d.blockRefused data f.cmd.addr = none)
include hr

theorem updateBlock_wrongSize (hn : bytesAt data 0x18 4 ≠ f.cmd.count * 4096) :
    Dev.updateBlock q tag data sigOk flashOk d = d.failFreeze f St.lengthMismatch Fz.length 5 65536 (bytesAt data 0x18 4) := by
  rw [updateBlock_takes sigOk flashOk hf ho hs hl]
  unfold Dev.takeBlock
  rw [hr]
  exact if_pos hn

theorem updateBlock_stages (hn : bytesAt data 0x18 4 = f.cmd.count * 4096) (hb : mget d.upd.blocks (bytesAt data 0x10 4) = none)
    (hw : d.blocksOut < 32) :
    Dev.updateBlock q tag data sigOk flashOk d = ((d.stageChecked data sigOk flashOk).forwardBlock data).postOk f 0 := by
  rw [updateBlock_takes sigOk flashOk hf ho hs hl]
  unfold Dev.takeBlock
  rw [hr]
  dsimp only
  rw [if_neg (not_not_intro hn), hb]
  exact if_neg (Nat.not_le.2 hw)
end
end
end

/-! ### Messages of UPDATE (R536 to R538, R544) -/

section
variable {d : Dev} {h : MsgHdr} (hh : d.hears 0x40 h = true) (hb : d.rxBad 0x40 h = false)
include hh hb

section
variable {data : List Byte} (sigOk : Bool) (hm : (d.heard 0x40 h).isMember = true) (hl : data.length = 65536)
include hm hl

/-- A member forwards a block that is not well formed and answers status 1. -/
theorem blockIn_bad (flashOk : Bool) (hk : blockOk data = false) :
    Dev.blockIn h data sigOk flashOk d =
      ((d.heard 0x40 h).forwardBlock data).send 0x40 0 [1, 1, bytesAt data 0x10 4, bytesAt data 8 8] false := by
  unfold Dev.blockIn
  rw [rx_heard _ hh hb, if_neg (by simp [hm, hl])]
  exact if_pos (by rw [hk]; rfl)

/-- A new block that reads back is staged, and acknowledged unless the package fails by it. -/
theorem blockIn_stages (hk : blockOk data = true)
    (hr : ((d.heard 0x40 h).forwardBlock data).blockRefused data (bytesAt data 0x10 4) = none)
    (hg : mget ((d.heard 0x40 h).forwardBlock data).upd.blocks (bytesAt data 0x10 4) = none) :
    Dev.blockIn h data sigOk true d =
      let e := ((d.heard 0x40 h).forwardBlock data).stageBlock data sigOk
      if e.updState = 7 then e else e.send 0x40 0 [1, 0, bytesAt data 0x10 4, bytesAt data 8 8] false := by
  unfold Dev.blockIn
  rw [rx_heard _ hh hb, if_neg (by simp [hm, hl])]
  dsimp only
  rw [hk, hr, hg, if_neg (by decide)]
  exact if_neg (by decide)
end

variable (hm : (d.heard 0x40 h).isHead = true)
include hm

theorem blockAck_counts (ix : Nat) {pkg : Nat} (hp : pkg = (d.heard 0x40 h).reg64 .UPD 0 Reg.UPD_PKG_ID) :
    Dev.blockAck h 0 ix pkg d =
      let e := d.heard 0x40 h
      { e with upd := { e.upd with
          acks := ((h.src * 65536 + ix % 65536) :: e.upd.acks).eraseDups, sent := e.upd.sent.filter (fun x => x != h.src * 65536 + ix % 65536) } } :=
  (rx_heard _ hh hb).trans (if_neg (by simp [hm, hp]))

/-- A report of a set member in a trial counts where it is OK for the package that runs, else the set is rolled back. -/
theorem report_inTrial {st pkg : Nat} (hs : (d.heard 0x40 h).updState = 5 ∨ (d.heard 0x40 h).updState = 6)
    (hc : (d.heard 0x40 h).pkgMembers.contains h.src = true) : Dev.report h st pkg d =
    let e := d.heard 0x40 h
    if st = 0 ∧ pkg = e.runPkg then { e with upd := { e.upd with reports := (h.src :: e.upd.reports).eraseDups } } else e.startRollback :=
  (rx_heard _ hh hb).trans (if_neg (by rw [hm, hc]; simp [hs]))
end

/-! ### APPLY_COMPLETE (R540) -/

section
variable {d : Dev} (hs : d.updState = 2) (hw : (d.writeParts d.manifest [1, 2, 3, 4, 5, 6, 7]).1 = 0)
include hs hw

theorem applyDone_good (hb : ((d.writeParts d.manifest [1, 2, 3, 4, 5, 6, 7]).2.2).badDigest d.manifest = none) :
    d.applyDone none 1 =
      let e := (d.writeParts d.manifest [1, 2, 3, 4, 5, 6, 7]).2.2
      ((e.flashRewrite (glazeBank (1 - e.runG)) 0x2000 d.manifest).updSet 3).setIrq .UPD 0 0 := by
  unfold Dev.applyDone
  rw [if_neg (by rw [hs]; decide)]
  dsimp only
  rw [if_neg (not_not_intro hw), hb]
  exact if_neg (by decide)

/-- A part that does not read back fails the package. -/
theorem applyDone_flashBad {m : Nat} (k : Nat) (hm : checkCode m = true) :
    d.applyDone (some k) m = ((d.writeParts d.manifest [1, 2, 3, 4, 5, 6, 7]).2.2).updFail 7 (k % 8) := by
  unfold Dev.applyDone
  rw [if_neg (by rw [hs, hm]; decide)]
  exact if_neg (not_not_intro hw)
end

/-! ### Timers of a trial and of an update (R542, R544, R545) -/

section
variable {d : Dev} (hm : d.life.mordant = true) (hg : d.life.glaze ≠ .stopped)
include hm hg

theorem settleTimeout_runs : ¬((!d.life.mordant) = true ∨ d.life.glaze = .stopped) := by simp [hm, hg]

/-- A member that is not ACTIVE in time reports SETTLE. -/
theorem settleTimeout_atMember (hb : d.isMember = true) (hs : d.updState = 5) (hf : d.fabState ≠ 3) (ho : d.settleOver = true)
    (hr : d.upd.reports.contains d.fabId = false) :
    d.settleTimeout = ({ d with upd := { d.upd with reports := d.fabId :: d.upd.reports } }).sayReport 3 := by
  unfold Dev.settleTimeout
  rw [if_neg (settleTimeout_runs hm hg), if_pos hb, if_pos ⟨hs, hf, ho, by rw [hr]; rfl⟩]

theorem settleTimeout_atHead (hb : d.isMember = false) (hs : d.updState = 5) (ho : d.settleOver = true) : d.settleTimeout = d.startRollback := by
  unfold Dev.settleTimeout
  rw [if_neg (settleTimeout_runs hm hg), if_neg (ne_true_of_eq_false hb), if_pos (c := d.updState = 5 ∧ d.settleOver = true) ⟨hs, ho⟩, ite_self]
end

theorem prepareLate_aborts {d : Dev} {o : GlobalOp} (ho : d.fab.op = some o) (hk : o.kind = 7) (hb : wordAt o.body 0 = 0x100)
    (ha : o.awaiting ≠ 0) (ht : 1000000000 ≤ d.fabNow - o.startNs) :
    d.prepareLate =
      ({ d with fab := { d.fab with gathers := d.fab.gathers.filter (fun g => !(g.kind == 2 && g.id == o.id)) } }).updDone { o with result := 1 } := by
  unfold Dev.prepareLate
  rw [ho]
  exact if_pos ⟨hk, hb, ha, ht⟩

theorem activate_due {d : Dev} {t : Nat} (hg : d.upd.go = some t) (hm : restartMode d.life.mode = true) (ht : t ≤ d.fabNow) :
    d.activate =
      let e := d.deviceReset false 6 true
      if d.upd.target = 1 then ((e.setRegF .UPD 0 Reg.UPD_UPD_STS 4 8 9).raiseErr .UPD 0 1 noDetail).setIrq .UPD 0 2 else e.setIrq .UPD 0 1 := by
  unfold Dev.activate
  rw [hg]
  exact if_neg (by simp [hm, ht])

end Sys2Proof.Machine
end

section
open Sys2Proof Sys2Proof.Machine

/-- Settles O42, clause by clause: a block meets its checks in the order of R538, each message of the update finds the device that acts on it, and
each timer its bound. -/
theorem fieldUpdate : Obligations.FieldUpdate := by
  refine ⟨fun d q tag data sigOk flashOk f hf ho hs hd => ?admitted, fun d q tag data sigOk flashOk f hf ho hs hl hr hn => ?wrongSize,
    fun d q tag data sigOk flashOk f x hf ho hs hl hr => ?refused, fun d q tag data sigOk flashOk f hf ho hs hl hn hr hg hw => ?staged,
    fun d h data sigOk flashOk hh hb hm hl hk => ?blockBad, fun d h data sigOk hh hb hm hl hk hr hg => ?blockNew,
    fun d h ix pkg hh hb hm hp => ?blockAck, fun d h pkg hh hb hm hs hc hp => ?reportOk, fun d h st pkg hh hb hm hs hc hp => ?reportOther,
    fun d hs hw hb => ?applied, fun d k m hs hm hw => ?applyFails, fun d hm hg hb hs hf ho hr => ?settleMember,
    fun d hm hg hb hs ho => ?settleHead, fun d h id pkg x hh hb hu hd hm => ?prepare, fun d h id pkg x hh hb hu hd hm => ?go,
    fun d h id pkg hh hb hu hd hm => ?abort, fun d h id pkg hh hb hu hd hm => ?confirm,
    fun d h id sec sub fl w hh hb hu hd hm => ?calSync, fun d o ho hk hw ha ht => ?prepareLate, fun d t hg hm ht => ?activation,
    fun d hm hl ht => ?calTimer⟩
  case admitted => exact ends_runFab (exec_updateBlock q tag data sigOk flashOk) (updateBlock_admitted sigOk flashOk hf ho hs hd)
  case wrongSize => exact ends_runFab (exec_updateBlock q tag data sigOk flashOk) (updateBlock_wrongSize sigOk flashOk hf ho hs hl hr hn)
  case refused => exact ends_runFab (exec_updateBlock q tag data sigOk flashOk) (updateBlock_refuses sigOk flashOk hf ho hs hl hr)
  case staged => exact ends_runFab (exec_updateBlock q tag data sigOk flashOk) (updateBlock_stages sigOk flashOk hf ho hs hl hr hn hg hw)
  case blockBad => exact ends_runFab (exec_block h data sigOk flashOk) (blockIn_bad hh hb sigOk hm hl flashOk hk)
  case blockNew => exact ends_runFab (exec_block h data sigOk true) (blockIn_stages hh hb sigOk hm hl hk hr hg)
  case blockAck => exact ends_runFab (exec_blockAck h 0 ix pkg) (blockAck_counts hh hb hm ix hp)
  case reportOk => exact ends_runFab (exec_report h 0 pkg) ((report_inTrial hh hb hm hs hc).trans (if_pos ⟨rfl, hp⟩))
  case reportOther => exact ends_runFab (exec_report h st pkg) ((report_inTrial hh hb hm hs hc).trans (if_neg fun hx => hp.elim (· hx.1) (· hx.2)))
  case applied => exact ends_runFab (exec_applyComplete none 1) (applyDone_good hs hw hb)
  case applyFails => exact ends_runFab (exec_applyComplete (some k) m) (applyDone_flashBad hs hw k hm)
  case settleMember => exact ends_runFab exec_settleTimeout (settleTimeout_atMember hm hg hb hs hf ho hr)
  case settleHead => exact ends_runFab exec_settleTimeout (settleTimeout_atHead hm hg hb hs ho)
  case prepare => exact ends_bcastDown (exec_updPrepare h id pkg x) hh hb hu hd hm
  case go => exact ends_bcastDown (exec_updGo h id pkg x) hh hb hu hd hm
  case abort => exact ends_bcastDown (exec_updAbort h id pkg) hh hb hu hd hm
  case confirm => exact ends_bcastDown (exec_updConfirm h id pkg) hh hb hu hd hm
  case calSync => exact ends_bcastDown (exec_calSync h id sec sub fl w) hh hb hu hd hm
  case prepareLate => exact ends_runFab exec_prepareAckTimeout (prepareLate_aborts ho hk hw ha ht)
  case activation => exact ends_runFab exec_activationTime (activate_due hg hm ht)
  case calTimer => exact ends_runFab exec_calSyncTimer (if_neg (by simp [hm, hl, ht]))
end

section
/-! PROOFS. A step of the block: the front of the queue, the idle microsecond, the next state of every command, and the frame of what
follows it. -/
namespace Sys2Proof.Machine
open Sys2Proof

/-- In BACKUP the main rails are down, and a microsecond reaches only the time counter and the calendar. -/
theorem tick_backup {d : Dev} (h : d.life.mode = .backup) :
    d.tick = { d with life := { d.life with usUp := d.life.usUp + 1 }, bak := d.bak.tick } := if_pos h

/-! ### The frame of what follows a command -/

theorem afterAll_rest (d : Dev) : (afterAll d).rest = d.rest := (settle_rest (collect d)).trans (collect_rest d)

/-- Slot memory and boot flash are among what `Dev.rest` keeps. -/
theorem mem_of_rest {d e : Dev} (h : e.rest = d.rest) : e.mem = d.mem := show e.rest.mem = d.rest.mem from congrArg Dev.mem h
theorem flash_of_rest {d e : Dev} (h : e.rest = d.rest) : e.flash = d.flash := show e.rest.flash = d.rest.flash from congrArg Dev.flash h

end Sys2Proof.Machine
end

section
open Sys2Proof Sys2Proof.Machine

/-- Settles O56: each part of the tail keeps `Dev.rest`, and both byte memories are read off it. -/
theorem tailFrame : Obligations.TailFrame := by
  refine ⟨afterAll_rest, fun d a => ⟨?slot, ?flash⟩⟩
  case slot => rw [Dev.slotByte, mem_of_rest (afterAll_rest d), Dev.slotByte]
  case flash => rw [Dev.flashByte, flash_of_rest (afterAll_rest d), Dev.flashByte]

/-- Settles O1: the front of a queue that is not empty is what `step` matches on. -/
theorem stepRunsFront : Obligations.StepRunsFront := fun _ _ _ => rfl

/-- Settles O2: an empty queue idles, and a microsecond of BACKUP stops at the clocks. -/
theorem idleStep : Obligations.IdleStep := ⟨fun d => runFab_eq Dev.tick [] d, fun _ h => tick_backup h⟩

/-- Settles O3: every command runs by `run`, which answers a next state whose queue is the one it found. -/
theorem everyCommandAnswersNext : Obligations.EveryCommandAnswersNext := fun i s =>
  have ⟨_, h⟩ := exec_settles i s
  ⟨_, h⟩
end

section
/-! PROOFS. The bytes of the boot flash under programming and erasure (R516, R518). -/
namespace Sys2Proof.Machine
open Sys2Proof

theorem flashBytes_length (d : Dev) (a n : Nat) : (d.flashBytes a n).length = n := by
  rw [Dev.flashBytes, List.length_map, List.length_range]

/-- What programming stores is as long as what it is given. -/
theorem flashAnd_length (d : Dev) (a : Nat) (bs : List Byte) : ((d.flashBytes a bs.length).zipWith (· &&& ·) bs).length = bs.length := by
  rw [List.length_zipWith, flashBytes_length, Nat.min_self]

theorem flashProgram_in (d : Dev) (a : Nat) (bs : List Byte) (k : Nat) (h : k < bs.length) :
    (d.flashProgram a bs).flashByte (a + k) = d.flashByte (a + k) &&& bs[k] := by
  have hk : k < ((d.flashBytes a bs.length).zipWith (· &&& ·) bs).length := (flashAnd_length d a bs).symm ▸ h
  calc (d.flashProgram a bs).flashByte (a + k)
      = ((d.flashBytes a bs.length).zipWith (· &&& ·) bs)[k] := putFlashRun_in _ d.flash a k hk
    _ = d.flashByte (a + k) &&& bs[k] := by simp only [List.getElem_zipWith, Dev.flashBytes, List.getElem_map, List.getElem_range]

theorem flashProgram_out (d : Dev) {a x : Nat} (bs : List Byte) (h : x < a ∨ a + bs.length ≤ x) :
    (d.flashProgram a bs).flashByte x = d.flashByte x :=
  putFlashRun_out _ d.flash a x (by rwa [flashAnd_length])

theorem flashErase_byte (d : Dev) (a n x : Nat) :
    (d.flashErase a n).flashByte x = if a ≤ x ∧ x < a + n then 0xff#8 else d.flashByte x := by
  have hread := mget_filter d.flash (fun k => !decide (a ≤ k ∧ k < a + n)) x
  unfold Dev.flashByte Dev.flashErase
  rw [hread]
  by_cases h : a ≤ x ∧ x < a + n <;> simp [h]

end Sys2Proof.Machine
end

section
open Sys2Proof Sys2Proof.Machine

/-- Settles O54: a program stores the AND of what it reads and what it is given, an erasure drops the entries of its range. -/
theorem bootFlashBytes : Obligations.BootFlashBytes :=
  ⟨fun d a bs => ⟨flashProgram_in d a bs, fun _ h => flashProgram_out d bs h⟩, flashErase_byte,
    fun _ a n bs h => ⟨flashProgram_wf a bs h, flashErase_wf a n h⟩⟩
end

section
/-! PROOFS. Cipher jobs, key commands, entropy and alarms (R449, R461 to R472). -/
namespace Sys2Proof.Machine
open Sys2Proof

/-! ### Lanes (R449, R470) -/

section
variable {d : Dev}

theorem cipherJobGrant_deals (g : Nat) {j : CipherJob} (hr : j.req < 5) (ha : d.cip.alarm = false) :
    Dev.cipherJobGrant g (some j) d = (d.dealJob j).groupGrant (g % 8) := by
  unfold Dev.cipherJobGrant
  exact congrArg (Dev.groupGrant · (g % 8)) (if_pos (by simp [hr, ha]))

/-- A group with a free lane grants it to the waiting job whose turn it is, or tells its requester why it is refused. -/
theorem groupGrant_grants {g l r : Nat} {j : CipherJob} (ha : d.cip.alarm = false) (hs : d.seeded = true) (hl : d.freeLane g = some l)
    (hr : rrPick 5 (d.arbPtr (0x310 + g)) (fun r => d.cip.waiting.any (fun e => e.1 == g && e.2.req == r)) = some r)
    (hj : d.cip.waiting.find? (fun e => e.1 == g && e.2.req == r) = some (g, j)) :
    d.groupGrant g =
      let e := ({ d with cip := { d.cip with waiting := d.cip.waiting.eraseP (fun e => e.1 == g && e.2.req == r) } } : Dev).arbWin (0x310 + g) 5 r
      if e.jobRefusal j = 0 then e.grantLane l j else { e with cip := { e.cip with results := e.cip.results ++ [e.jobRefusal j] } } := by
  unfold Dev.groupGrant
  rw [if_neg (by simp [ha, hs]), hl, hr]
  dsimp only
  rw [hj]

theorem fence_running {c : CipherSt} {l : Nat} {j : CipherJob} (hf : c.fenced.contains l = false) (hb : mget c.busy l = some j) :
    c.fence l = { c with fenced := l :: c.fenced, busy := mdel c.busy l, waiting := [(l / 80, j)] ++ c.waiting } := by
  unfold CipherSt.fence
  rw [if_neg (ne_true_of_eq_false hf), hb]

theorem laneFault_fences {l : Nat} (hl : l < 640) (hf : d.cip.fenced.contains l = false) :
    Dev.laneFault l d = ({ d with cip := d.cip.fence l }).raiseErrAs .CIP 0 0 2 noDetail l := if_pos ⟨hl, by rw [hf]; rfl⟩
end

/-! ### Key commands (R461 to R463, R472) -/

section
variable {i : Instr} {d : Dev} {r : Requester} {op : Nat} {blob : List Byte} (hx : ∀ s, exec i s = run (Dev.keyCmd r op blob) s)
  (ht : d.takes r .KEY 0 Reg.KEY_KEY_CMD = true)
include hx ht

/-- A taken key command acts while the secure pair runs. -/
theorem ends_keyCmd (hh : (d.taken r .KEY 0).sxHalted = false) : Ends afterAll i d ((d.taken r .KEY 0).keyAct op blob) :=
  ends_write hx ht (if_neg (ne_true_of_eq_false hh))

/-- A halted pair leaves it waiting, BUSY. -/
theorem ends_keyCmd_waits (hh : (d.taken r .KEY 0).sxHalted = true) :
    Ends afterAll i d
      (let t := d.taken r .KEY 0
      ({ t with dbg := { t.dbg with sxWait := t.dbg.sxWait ++ [SxWait.key op blob] } }).setRegF .KEY 0 Reg.KEY_KEY_STS 0 1 1) :=
  ends_write hx ht (if_pos hh)
end

section
variable {d : Dev}

/-- During an alarm every operation answers DEAD. -/
theorem keyAct_alarm (ha : d.cip.alarm = true) (op : Nat) (blob : List Byte) : d.keyAct op blob = (d.keyResult 7).clearKeyData :=
  congrArg Dev.clearKeyData (if_pos ha)

section
variable {n : Nat} (hn : d.regF .KEY 0 Reg.KEY_KEY_SEL 0 12 = n) (ha : d.cip.alarm = false)
include hn ha

theorem keyAct_load : d.keyAct 1 [] = (d.loadSlot n (d.keyData 16)).clearKeyData := by
  subst hn; exact congrArg Dev.clearKeyData (if_neg (ne_true_of_eq_false ha))

theorem keyAct_roll : d.keyAct 4 [] = (d.rollKey n).clearKeyData := by
  subst hn; exact congrArg Dev.clearKeyData (if_neg (ne_true_of_eq_false ha))

theorem keyAct_erase : d.keyAct 5 [] = ((d.eraseKey n).keyResult 0).clearKeyData := by
  subst hn; exact congrArg Dev.clearKeyData (if_neg (ne_true_of_eq_false ha))
end

/-- The USE that KEY_ATTR asks for; code 3 stands for 0. -/
def Dev.attrUse (d : Dev) : Nat := if d.regF .KEY 0 Reg.KEY_KEY_ATTR 0 2 = 3 then 0 else d.regF .KEY 0 Reg.KEY_KEY_ATTR 0 2

/-- An EMPTY slot that the asked use fits takes the key. -/
theorem loadSlot_installs {n : Nat} (ab : List Byte) (he : d.key n = none) (hf : useFits d.attrUse n = true) :
    d.loadSlot n ab = ((d.setKey n (freshSlot d.attrUse (if d.regB .KEY 0 Reg.KEY_KEY_ATTR 2 = true then 256 else 128) 0 0 ab)).sealRecord
      n).keyResult 0 :=
  have hu : ¬(!useFits d.attrUse n) = true := by simp [hf]
  (if_neg hu).trans (if_neg (by simp [he]))

/-- A slot below GEN 0xFF with no sector left under the generation before rolls. -/
theorem rollKey_rolls {n : Nat} {k : KeySlot} (hk : d.key n = some k) (hg : k.gen ≠ 0xff) (hs : k.gen = 0 ∨ d.sealedBy n (k.gen - 1) = []) :
    d.rollKey n = ((d.setKey n (rollSlot k)).sealRecord n).keyResult 0 := by
  unfold Dev.rollKey
  rw [hk]
  refine if_neg ?_
  rcases hs with hs | hs <;> simp [hg, hs]

/-- A slot at GEN 0 has nothing sealed under a generation before, so its re-seal ends with a roll. -/
theorem resealDone_rolls {n : Nat} {k : KeySlot} (hk : d.key n = some k) (hr : d.reseal.contains n = true) (hg : k.gen = 0) :
    Dev.resealDone n d = (({ d with reseal := d.reseal.filter (· != n) } : Dev).setKey n (rollSlot k)).sealRecord n := by
  have hk' : ({ d with reseal := d.reseal.filter (· != n) } : Dev).key n = some k := hk
  unfold Dev.resealDone
  simp only [hk, hk', hr, hg, Bool.not_true, Bool.false_eq_true, if_false, if_true, List.foldl_nil, List.isEmpty_nil, true_and]
  rw [if_pos (by decide)]

/-! ### Entropy (R467 to R469) -/

theorem drbgReseed_seeds (ha : d.cip.alarm = false) :
    d.drbgReseed = { ((d.setRegF .RNG 0 Reg.RNG_RNG_STS 0 3 3).incWrap .RNG 0 Reg.RNG_RESEEDS 1) with rng := { requests := 0 } } :=
  if_neg (ne_true_of_eq_false ha)
end

end Sys2Proof.Machine
end

section
open Sys2Proof Sys2Proof.Machine

/-- Settles O35, clause by clause: a job and a lane find what R449 asks for, a taken key command its pair and its slot in the state of R461, and
a test or a re-seal its trigger. -/
theorem cipherAndKeys : Obligations.CipherAndKeys := by
  refine ⟨fun d g j hr ha => ?dealt, fun d g l r j ha hs hl hr hj => groupGrant_grants ha hs hl hr hj, fun d l hb => ?done,
    fun d l j hl hf hb => ?laneFault, fun d r ht hh => ?load, fun d r ht hh => ?derive, fun d r b ht hh => ?unwrap, fun d r ht hh => ?roll,
    fun d r ht hh => ?erase, fun d r ht hh => ?eraseAll, fun d r ht hh => ?waits, fun d ha => keyAct_alarm ha, fun d n hn ha he hf => ?loads,
    fun d n k hn ha hk hg hs => ?rolls, fun d n hn ha => keyAct_erase hn ha, fun d n k hk hr hg => ?reseal, fun d ha => ?reseed,
    fun d a n => ?health, fun d r hr ht => ?force⟩
  case dealt => exact ends_run (exec_cipherJobGrant g (some j)) (cipherJobGrant_deals g hr ha)
  case done => exact ends_run (exec_cipherJobDone l) (if_pos hb)
  case laneFault => exact ends_run (exec_laneFault l) ((laneFault_fences hl hf).trans (by rw [fence_running hf hb]))
  case load => exact ends_keyCmd (exec_keyLoad r) ht hh
  case derive => exact ends_keyCmd (exec_derive r) ht hh
  case unwrap => exact ends_keyCmd (exec_unwrap r b) ht hh
  case roll => exact ends_keyCmd (exec_roll r) ht hh
  case erase => exact ends_keyCmd (exec_keyErase r) ht hh
  case eraseAll => exact ends_keyCmd (exec_eraseAll r) ht hh
  case waits => exact ends_keyCmd_waits (exec_keyLoad r) ht hh
  case loads => exact (keyAct_load hn ha).trans (congrArg Dev.clearKeyData (loadSlot_installs _ he hf))
  case rolls => exact (keyAct_roll hn ha).trans (congrArg Dev.clearKeyData (rollKey_rolls hk hg hs))
  case reseal => exact ends_run (exec_resealDone n) (resealDone_rolls hk hr hg)
  case reseed => exact ends_run exec_drbgReseed (drbgReseed_seeds ha)
  case health => exact ends_run (exec_healthFail a n) rfl
  case force => exact ends_force (exec_forceAlarm r) hr ht rfl
end

section
/-! PROOFS. The digest engine (R475 to R487). -/
namespace Sys2Proof.Machine
open Sys2Proof

/-! ### The SEC interface (R475, R477, R486, R487) -/

/-- A command of the SEC interface that is taken and meets no BUSY acts. -/
theorem ends_secCmd {i : Instr} {d e : Dev} {r : Requester} {f : Dev → Dev} (hx : ∀ s, exec i s = run (fun d => d.secCmd r f) s)
    (ht : d.takes r .DIG 0 Reg.DIG_SEC_CMD = true) (hb : d.secBusy = false) (he : f (d.taken r .DIG 0) = e) : Ends afterAll i d e := by
  refine ends_run hx (Eq.trans ?_ he)
  unfold Dev.secCmd
  rw [hb]
  exact regWriteIf_takes f ht

section
variable {d : Dev}

/-- The device with OUT_0 to OUT_15 clear, on which an OPEN is checked. -/
def Dev.outClear (d : Dev) : Dev := (List.range 16).foldl (fun e i => e.setRegN .DIG 0 (Reg.DIG_OUT_0 + 4 * i) 0) d

/-- A good OPEN with no message open opens one; where it has to wait for its context, it stays BUSY. -/
theorem secOpen_opens {a k o : Nat} (c : Bool) (hk : d.outClear.secKeyOk a k o = true) (hs : d.outClear.secCtx = none) :
    d.secOpen a k o c =
      let e := d.outClear.digOpen
        { req := 4, alg := a, key := k, mode := o, composed := c && algKeyed a, msg := [], done := 0, final := false, expected := [], q := 0
          tag := 0, fresh := true }
      if e.secCtx.isSome = true then e else e.setRegF .DIG 0 Reg.DIG_SEC_STS 0 1 1 := by
  unfold Dev.outClear at hk hs ⊢
  unfold Dev.secOpen
  exact if_neg (by simp [hk, hs])

section
variable {n : Nat} {c : DigCtx} (hc : d.secCtx = some (n, c))
include hc

theorem secUpdate_appends (b : List Byte) (hl : d.regF .DIG 0 Reg.DIG_SEC_LEN 0 25 ≠ 0)
    (hm : c.msg.length + d.regF .DIG 0 Reg.DIG_SEC_LEN 0 25 ≤ 2 ^ 48 - 1) :
    d.secUpdate b = ({ d with dig := { d.dig with ctxs := mput d.dig.ctxs n { c with
      msg := c.msg ++ b.take (d.regF .DIG 0 Reg.DIG_SEC_LEN 0 25) } } }).setRegF .DIG 0 Reg.DIG_SEC_STS 1 3 0 := by
  unfold Dev.secUpdate
  rw [hc]
  exact if_neg (not_or.2 ⟨hl, Nat.not_lt.2 hm⟩)

theorem secFinal_marks (b : List Byte) :
    d.secFinal b = ({ d with dig := { d.dig with
      ctxs := mput d.dig.ctxs n { c with final := true, expected := b.take (algLen c.alg) } } }).setRegF .DIG 0 Reg.DIG_SEC_STS 0 1 1 := by
  unfold Dev.secFinal
  rw [hc]

theorem secAbort_closes : d.secAbort = (d.digClose n).secEnd 0 := by
  unfold Dev.secAbort
  rw [hc]
end

section
variable (hc : d.secCtx = none)
include hc

theorem secUpdate_closed (b : List Byte) : d.secUpdate b = d.setRegF .DIG 0 Reg.DIG_SEC_STS 1 3 4 := by
  unfold Dev.secUpdate
  rw [hc]

theorem secFinal_closed (b : List Byte) : d.secFinal b = d.setRegF .DIG 0 Reg.DIG_SEC_STS 1 3 4 := by
  unfold Dev.secFinal
  rw [hc]

theorem secAbort_closed : d.secAbort = d.setRegF .DIG 0 Reg.DIG_SEC_STS 1 3 4 := by
  unfold Dev.secAbort
  rw [hc]
end

/-! ### Blocks and cleared memories (R479, R484, R485) -/

/-- The core takes a block of the context picked, and a last block finishes its message. -/
theorem digestBlock_serves {n : Nat} {fr : Bool} {c : DigCtx} (hp : d.digPick = some (n, fr)) (hc : mget d.dig.ctxs n = some c) :
    d.digestBlock =
      let k := { c with done := c.done + 1, fresh := false }
      let e := (if fr = true then d.arbWin 0x301 16 n else d).inc64 .DIG 0 Reg.DIG_BLOCKS 1
      let f : Dev := { e with dig := { e.dig with ctxs := mput e.dig.ctxs n k, last := n } }
      if k.final = true ∧ k.total ≤ k.done then f.digFinish n k else f := by
  unfold Dev.digestBlock
  simp only [hp, hc]

theorem digestCleared_ctx {n : Nat} {c : DigCtx} (hc : mget d.dig.ctxs n = some c) :
    Dev.digestCleared (.ctx n) d = (d.digAbort n c St.internalMemory 0x30 3).raiseErr .DIG 0 1 noDetail := by
  unfold Dev.digestCleared
  dsimp only
  rw [hc]
end

end Sys2Proof.Machine
end

section
open Sys2Proof Sys2Proof.Machine

/-- Settles O36, clause by clause: a command of the SEC interface meets no BUSY and finds its message open or not, a block its context picked, a
cleared memory what it held. -/
theorem digestEngine : Obligations.DigestEngine := by
  refine ⟨fun d r a k o c ht hb => ?openCmd, fun d a k o c hk hs => secOpen_opens c hk hs, fun d r b ht hb => ?updateCmd,
    fun d b n c hc hl hm => secUpdate_appends hc b hl hm, fun d r b ht hb => ?finalCmd, fun d b n c hc => secFinal_marks hc b,
    fun d r ht hb => ?abortCmd, fun d n c hc => secAbort_closes hc,
    fun d hc => ⟨secAbort_closed hc, secUpdate_closed hc, secFinal_closed hc⟩, fun d => ?grant, fun d n fr c hp hc => ?block, fun d => ?bus,
    fun d n c hc => ?context⟩
  case openCmd => exact ends_secCmd (exec_secOpen r a k o c) ht hb rfl
  case updateCmd => exact ends_secCmd (exec_secUpdate r b) ht hb rfl
  case finalCmd => exact ends_secCmd (exec_secFinal r b) ht hb rfl
  case abortCmd => exact ends_secCmd (exec_secAbort r) ht hb rfl
  case grant => exact ends_run exec_digestContextGrant rfl
  case block => exact ends_run exec_digestBlock (digestBlock_serves hp hc)
  case bus => exact ends_run (exec_digestCleared .bus) rfl
  case context => exact ends_run (exec_digestCleared (.ctx n)) (digestCleared_ctx hc)
end

section
/-! PROOFS. Madder: samples, commits and traces (R488 to R503). -/
namespace Sys2Proof.Machine
open Sys2Proof

/-- A taken write to one of `count` units that is there ends where its effect on the written device ends. -/
theorem ends_writeOf {i : Instr} {r : Requester} {p : PT} {n m off count : Nat} {f : Dev → Dev} {d e : Dev}
    (hx : ∀ s, exec i s = run (fun d => if count ≤ m then d else d.regWrite r p n off f) s) (hm : m < count)
    (ht : d.takes r p n off = true) (he : f (d.taken r p n) = e) : Ends afterAll i d e :=
  ends_run hx ((if_neg (Nat.not_le.2 hm)).trans ((regWrite_takes f ht).trans he))

/-- While Madder computes, a sample takes the waiting writes of the due loops, latches their inputs and computes them in R39's order. -/
theorem loopSampleAll_runs {d : Dev} (p g : Nat) (ls : List Nat) (hr : d.madderRuns = true) :
    Dev.loopSampleAll p ls g d =
      let order := ((List.range 16).map (fun i => (d.arbPtr 0x330 + i) % 16)).filter d.loopsDue.contains
      let e := order.foldl (fun e n => e.loopTick n) d
      ((e.loopsRun (min 1 g) (order.map (fun n => (n, e.loopInput n p ls))) 0).setRates).madComputed order := if_neg (by simp [hr])

end Sys2Proof.Machine
end

section
open Sys2Proof Sys2Proof.Machine

/-- Settles O37, clause by clause: a sample finds Madder computing, each write its loop or buffer, and a trace write the buffer in the state that
R502 names. -/
theorem madderControl : Obligations.MadderControl := by
  refine ⟨fun d p g ls hr => ?sample, fun d r n hn ht => ?commit, fun d r n hn ht => ?delayClr, fun d n hn => ?uncorr,
    fun d r b hb ht hs => ?arm, fun d r b hb ht hs => ?fire, fun d r b hb ht hs => ?stop⟩
  case sample => exact ends_run (exec_loopSample p ls g) (loopSampleAll_runs p g ls hr)
  case commit => exact ends_writeOf (exec_loopCommit r n) hn ht rfl
  case delayClr => exact ends_writeOf (exec_delayClr r n) hn ht rfl
  case uncorr => exact ends_run (exec_loopMemUncorr n) (if_neg (Nat.not_le.2 hn))
  case arm => exact ends_writeOf (exec_traceArm r b) hb ht (if_pos hs)
  case fire => exact ends_writeOf (exec_traceFire r b) hb ht (if_pos hs)
  case stop => exact ends_writeOf (exec_traceStop r b) hb ht (if_pos hs)
end

section
/-! PROOFS. The boot flash's command sequences and the secure mailbox (R505, R507, R516 to R518, R526, R528). -/
namespace Sys2Proof.Machine
open Sys2Proof

section
variable {d : Dev}

section
variable {r : Requester} (cycles : List (Nat × W32)) (hb : d.busUp = true)
include hb

/-- The secure domain's cycles reach the flash one by one. -/
theorem seqCmd_secure (hr : r.dom = .secure) : d.seqCmd r cycles = cycles.foldl (fun e x => e.seqWrite x.1 x.2) d := by
  unfold Dev.seqCmd
  rw [if_neg (by simp [hb]), hr]

/-- Glaze's do not, and set DENIED. -/
theorem seqCmd_glaze (hr : r.dom = .glaze) : d.seqCmd r cycles = d.raiseErr .BFL 0 2 noDetail := by
  unfold Dev.seqCmd
  rw [if_neg (by simp [hb]), hr]
end

theorem flashOpDone_ends {c b : Nat} {ws : List W32} (ho : d.bfl.op = some (c, b, ws)) :
    d.flashOpDone =
      let a : Dev := { d with bfl := { d.bfl with op := none } }
      let e := if c = 0x20 then (a.flashErase b (opSize c b)).incWrap .BFL 0 Reg.BFL_ERASE_CNT 1
        else (a.flashProgram b (ws.flatMap (fun w => leBytes 4 w.toNat))).incWrap .BFL 0 Reg.BFL_PROG_CNT 1
      ((e.setRegN .BFL 0 Reg.BFL_BFL_STS (if e.bfl.idMode then 10 else 0)).setIrq .BFL 0 0).dapSettle := by
  unfold Dev.flashOpDone
  rw [ho]

section
variable {s : Nat} (a : Nat) (rd : Bool) (hs : s < 64) (hg : d.life.glaze = .running)
include hs hg

theorem mailboxPost_served (hx : d.sxHalted = false) : Dev.mailboxPost s a rd d = d.mailboxAct s a rd :=
  (if_neg (by simp [hs, hg])).trans (if_neg (ne_true_of_eq_false hx))

/-- A halted secure pair leaves the request waiting. -/
theorem mailboxPost_waits (hx : d.sxHalted = true) :
    Dev.mailboxPost s a rd d = { d with dbg := { d.dbg with sxWait := d.dbg.sxWait ++ [SxWait.mailbox s a rd] } } :=
  (if_neg (by simp [hs, hg])).trans (if_pos hx)
end
end

end Sys2Proof.Machine
end

section
open Sys2Proof Sys2Proof.Machine

/-- Settles O38, clause by clause: a sequence comes from the domain that R505 or R528 names, an operation's end finds it running, and a request of
Glaze the secure pair running or halted. -/
theorem bootFlashAndMailbox : Obligations.BootFlashAndMailbox := by
  refine ⟨fun d r o ws hb hr => ?program, fun d r a hb hr => ?erase, fun d r o ws hb hr => ?option, fun d r o ws hb hr => ?otp,
    fun d r hb hr => ?id, fun d r hb hr => ?readMode, fun d r o ws hb hr => ?denied, fun d c b ws ho => ?done, fun d ho => ?late,
    fun d s a rd hs hg hx => ?mailbox, fun d s a rd hs hg hx => ?mailboxWaits⟩
  case program => exact ends_run (exec_flashProgram r o ws) (seqCmd_secure _ hb hr)
  case erase => exact ends_run (exec_flashErase r a) (seqCmd_secure _ hb hr)
  case option => exact ends_run (exec_programOption r o ws) (seqCmd_secure _ hb hr)
  case otp => exact ends_run (exec_programOtp r o ws) (seqCmd_secure _ hb hr)
  case id => exact ends_run (exec_flashId r) (seqCmd_secure _ hb hr)
  case readMode => exact ends_run (exec_flashReadMode r) (seqCmd_secure _ hb hr)
  case denied => exact ends_run (exec_flashProgram r o ws) (seqCmd_glaze _ hb hr)
  case done => exact ends_run exec_flashOpDone (flashOpDone_ends ho)
  case late => exact ends_run exec_flashOpTimeout (if_neg (by simpa using Option.isSome_iff_ne_none.1 ho))
  case mailbox => exact ends_run (exec_mailboxRequest s a rd) (mailboxPost_served a rd hs hg hx)
  case mailboxWaits => exact ends_run (exec_mailboxRequest s a rd) (mailboxPost_waits a rd hs hg hx)
end

section
/-! PROOFS. The I3C sideband (R514, R600, R634 to R639). -/
namespace Sys2Proof.Machine
open Sys2Proof

section
variable {d : Dev}

/-! ### Registers (R418, R635, R636) -/

/-- A read of the management window answers from the register itself where MEMBER_SEL sends it nowhere. -/
theorem readVia_here {a : Nat} (n v : Nat) (h : d.remoteOf i3cReq a = none) : d.readVia i3cReq a n v .i3c = d.i3cReply (i3cOk :: leBytes n v) := by
  unfold Dev.readVia
  rw [h]
  rfl

/-- Else it goes to the member named, or reads all ones where that member is absent. -/
theorem readVia_member {a m : Nat} (n v : Nat) (h : d.remoteOf i3cReq a = some m) :
    d.readVia i3cReq a n v .i3c =
      if d.memberState m = 0 then d.i3cReply (i3cOk :: leBytes n (256 ^ n - 1)) else d.proxyRead m a n .i3c := by
  unfold Dev.readVia
  rw [h]
  rfl

section
variable (hu : d.i3cUp = true)
include hu

section
variable {a n : Nat} (ha : a % n = 0) (hl : a < 2 ^ 32)
include ha hl

theorem i3cRead_taken : Dev.i3cRead a n d = (d.i3cTake.i3cWake a).readVia i3cReq a n (d.i3cTake.readSpace i3cReq a n) .i3c :=
  (if_neg (by simp [hu])).trans (if_neg (not_or.2 ⟨not_not_intro ha, Nat.not_le.2 hl⟩))

theorem i3cWrite_taken (v : Nat) : Dev.i3cWrite a n v d = d.i3cTake.writeBar i3cReq a n v :=
  (if_neg (by simp [hu])).trans (if_neg (not_or.2 ⟨not_not_intro ha, Nat.not_le.2 hl⟩))
end

theorem i3cRead_misaligned {a n : Nat} (ha : a % n ≠ 0) : Dev.i3cRead a n d = d.i3cRefuse :=
  (if_neg (by simp [hu])).trans (if_pos (.inl ha))

theorem i3cWrite_misaligned {a n : Nat} (v : Nat) (ha : a % n ≠ 0) : Dev.i3cWrite a n v d = d.i3cRefuse :=
  (if_neg (by simp [hu])).trans (if_pos (.inl ha))

/-! ### The recovery mailbox (R514, R637) -/

section
variable (ho : d.recOpen = true)
include ho

theorem recData_open {o : Nat} {bs : List Byte} (ha : o % 64 = 0) (hm : o ≤ 0x81fc0) (hl : bs.length = 64) :
    Dev.recData o bs d =
      let e := d.i3cTake
      if e.sbd.checking.isSome = true then e.i3cReply [i3cBusy]
        else ({ e with sbd := { e.sbd with staged := mput e.sbd.staged (o / 64) bs } }).i3cReply [i3cOk] :=
  (if_neg (by simp [hu])).trans (if_neg (by simp [ho, ha, hm, hl]))

theorem recRun_open (n : Nat) :
    Dev.recRun n d =
      let e := d.i3cTake
      if e.sbd.checking.isSome = true ∨ e.life.fatal = true ∨ e.life.mordant = true ∨ checkCode n = false then e.i3cReply [i3cBusy]
        else ({ e with sbd := { e.sbd with checking := some n } }).i3cReply [i3cOk] := by
  unfold Dev.recRun
  rw [if_neg (by simp [hu]), if_neg (by simp [ho])]
  simp only [Bool.not_eq_true']

theorem recStatus_open :
    d.recStatus = d.i3cTake.i3cReply (i3cOk :: leBytes 4 (packF [(0, d.sbd.recResult % 8), (8, 1), (9, b2n d.sbd.checking.isSome)])) :=
  (if_neg (by simp [hu])).trans (if_neg (by simp [ho]))
end

section
variable (ho : d.recOpen = false)
include ho

theorem recStatus_shut : d.recStatus = d.i3cRefuse := (if_neg (by simp [hu])).trans (if_pos (by simp [ho]))
theorem recRun_shut (n : Nat) : Dev.recRun n d = d.i3cRefuse := (if_neg (by simp [hu])).trans (if_pos (by simp [ho]))
theorem recData_shut (o : Nat) (bs : List Byte) : Dev.recData o bs d = d.i3cRefuse := (if_neg (by simp [hu])).trans (if_pos (by simp [ho]))
end

/-! ### In-band interrupts (R638) -/

/-- The lowest waiting cause is sent where interrupts are enabled and none is in progress. -/
theorem ibiSend_sends {c : Nat} {cs : List Nat} (hn : d.sbd.ibiNow = 0) (he : d.regB .SBD 0 Reg.SBD_SBD_CFG 0 = true)
    (hc : bitList d.sbd.ibi 8 = c :: cs) :
    d.ibiSend = ({ d with sbd := { d.sbd with ibi := bitClr d.sbd.ibi c, ibiNow := c } }).emit (.ibi c) := by
  unfold Dev.ibiSend
  rw [if_neg (by simp [hu, hn, he]), hc]
end
end

end Sys2Proof.Machine
end

section
open Sys2Proof Sys2Proof.Machine

/-- Settles O39, clause by clause: an acknowledged command finds its address aligned and its register here or at a member, the recovery mailbox
open or shut, and an interrupt its cause waiting. -/
theorem sidebandPort : Obligations.SidebandPort := by
  refine ⟨fun d a hu ha hl hr => ?read, fun d a m hu ha hl hr => ?readMember, fun d a hu ha hl hr => ?read64,
    fun d a m hu ha hl hr => ?read64Member, fun d a v hu ha hl => ?write, fun d a v hu ha hl => ?write64, fun d a hu ha => ?readBad,
    fun d a v hu ha => ?writeBad, fun d o bs hu ho ha hm hl => ?recData, fun d n hu ho => ?recRun, fun d hu ho => ?recStatus,
    fun d hu ho => ⟨?shutStatus, fun n => ?shutRun, fun o bs => ?shutData⟩, fun d a hu => ?address, fun d c cs hu hn he hc => ?interrupt,
    fun d hn => ?accepted, fun d hu => ?protocolError⟩
  case read => exact ends_run (exec_read32 a) ((i3cRead_taken hu ha hl).trans (readVia_here 4 _ hr))
  case readMember => exact ends_run (exec_read32 a) ((i3cRead_taken hu ha hl).trans (readVia_member 4 _ hr))
  case read64 => exact ends_run (exec_read64 a) ((i3cRead_taken hu ha hl).trans (readVia_here 8 _ hr))
  case read64Member => exact ends_run (exec_read64 a) ((i3cRead_taken hu ha hl).trans (readVia_member 8 _ hr))
  case write => exact ends_runFab (exec_write32 a v) (i3cWrite_taken hu ha hl v.toNat)
  case write64 => exact ends_runFab (exec_write64 a v) (i3cWrite_taken hu ha hl v.toNat)
  case readBad => exact ends_run (exec_read32 a) (i3cRead_misaligned hu ha)
  case writeBad => exact ends_runFab (exec_write32 a v) (i3cWrite_misaligned hu v.toNat ha)
  case recData => exact ends_run (exec_recData o bs) (recData_open hu ho ha hm hl)
  case recRun => exact ends_run (exec_recRun n) (recRun_open hu ho n)
  case recStatus => exact ends_run exec_recStatus (recStatus_open hu ho)
  case shutStatus => exact ends_run exec_recStatus (recStatus_shut hu ho)
  case shutRun => exact ends_run (exec_recRun n) (recRun_shut hu ho n)
  case shutData => exact ends_run (exec_recData o bs) (recData_shut hu ho o bs)
  case address => exact ends_run (exec_dynamicAddressAssign a) (if_pos hu)
  case interrupt => exact ends_run exec_inBandInterrupt (ibiSend_sends hu hn he hc)
  case accepted => exact ends_run exec_ibiAccepted (if_neg hn)
  case protocolError => exact ends_run exec_i3cProtocolError (if_pos hu)
end

section
/-! PROOFS. Fault inputs, watchdogs and the thermal monitor (R552, R553, R559, R565 to R568). -/
namespace Sys2Proof.Machine
open Sys2Proof

section
variable {d : Dev}

/-! ### Inputs of the collector (R552, R553, R555) -/

section
variable {ty i : Nat} {p : PT} (b : Nat) (hp : PT.ofCode ty = some p) (hi : i < p.units)
include hp hi

section
variable {b} (hb : b < p.errClasses.length)
include hb

/-- The event of a unit with a page of its own sets the bit of that page. -/
theorem faultEvent_page (hc : i < p.count) (hl : p ≠ .LDP) : Dev.faultEvent ty i b d = d.raiseErr p i b noDetail := by
  unfold Dev.faultEvent
  rw [hp]
  exact (if_neg (by simp [hi, hb])).trans (if_neg (by simp [hc, hl]))

/-- That of a unit among several behind one page names the unit. -/
theorem faultEvent_unit (hc : p.count ≤ i ∨ p = .LDP) :
    Dev.faultEvent ty i b d = d.raiseErrAs p 0 b (p.errClasses.getD b 0) noDetail i := by
  unfold Dev.faultEvent
  rw [hp]
  exact (if_neg (by simp [hi, hb])).trans (if_pos hc)
end

/-- A rail fault enters the collector, and its input is mute from then on. -/
theorem railFault_enters :
    Dev.railFault ty i b d =
      let e := d.event { ty := ty, inst := if p.count = 1 then 0 else i, bit := b, fixed := false, rail := true, cls := railClass p
                         detail := noDetail, unit := i }
      { e with railMute := if e.railMute.contains (ty, i, b) = true then e.railMute else (ty, i, b) :: e.railMute } := by
  unfold Dev.railFault
  rw [hp]
  exact if_neg (Nat.not_le.2 hi)
end

/-- The restart that a C3 ordered ends; after an alarm the keys are reloaded. -/
theorem glazeRestarted_runs (hg : d.life.glaze = .restarting) (hf : d.life.fatal = false) :
    d.glazeRestarted =
      let e := if d.cip.alarm = true then d.reloadKeys else d
      ({ e with life := { e.life with glaze := .running } }).kickAll := if_neg (by simp [hg, hf])

/-! ### Watchdogs (R565) -/

theorem svExpiry_expires {n : Nat} (hn : n < 32) (hg : d.life.glaze = .running) (hc : d.wdogCounts (nbit d.haltMask n) = true)
    (ha : max 10 (d.regF .FLT 0 Reg.FLT_WDOG_CFG 0 16) * 1000 ≤ d.wdogAge n) :
    Dev.svExpiry n d =
      let e := d.setRegF .FLT 0 Reg.FLT_WDOG_STS 0 6 (n + 32)
      ({ e with wdog := mput e.wdog n e.life.usUp }).fixedEvent .SVC 0 3 n := by
  unfold Dev.svExpiry
  refine if_neg ?_
  rintro (h | h | h | h)
  · exact Nat.not_le.2 hn h
  · exact h hg
  · simp [hc] at h
  · exact Nat.not_lt.2 ha h

theorem sxExpiry_expires (hc : d.wdogCounts d.sxHalted = true) (ha : max 10 (d.regF .FLT 0 Reg.FLT_WDOG_CFG 16 16) * 1000 ≤ d.wdogAge 32) :
    d.sxExpiry = (d.setRegF .FLT 0 Reg.FLT_WDOG_STS 6 1 1).fixedEvent .SX 0 4 noDetail := by
  have hage : decide (d.wdogAge 32 < max 10 (d.regF .FLT 0 Reg.FLT_WDOG_CFG 16 16) * 1000) = false := decide_eq_false (Nat.not_lt.2 ha)
  unfold Dev.sxExpiry
  exact if_neg (by rw [hc, hage]; decide)

/-! ### Overrides (R559) -/

/-- A taken write of OVR that lowers a class from outside the secure domain is reported, and any other is stored. -/
theorem ovrWrite_taken {r : Requester} (v : W32) (ht : d.takes r .FLT 0 Reg.FLT_OVR = true) :
    Dev.ovrWrite r v d =
      let t := d.taken r .FLT 0
      if r.dom ≠ .secure ∧ fld v 29 3 ≤ 4 ∧ fld v 29 3 < defaultClass (fld v 0 12) (fld v 24 5) then t.raiseErr .FLT 0 0 noDetail
      else { t with
        ovr := if v = 0xe0000000#32 then mdel t.ovr (t.regF .FLT 0 Reg.FLT_OVR_SEL 0 5) else mput t.ovr (t.regF .FLT 0 Reg.FLT_OVR_SEL 0 5) v } := by
  unfold Dev.ovrWrite
  rw [regWriteIf_takes _ ht]
  exact if_congr (by rw [Bool.and_eq_true, decide_eq_true_eq, decide_eq_true_eq]) rfl rfl
end

end Sys2Proof.Machine
end

section
open Sys2Proof Sys2Proof.Machine

/-- Settles O41, clause by clause: an input names a unit and a bit that exist, a watchdog counts to its bound, and a taken write acts by its
requester's domain. -/
theorem faultsAndWatchdogs : Obligations.FaultsAndWatchdogs := by
  refine ⟨fun d ty i b p hp hi hb hc hl => ?page, fun d ty i b p hp hi hb hc => ?unit, fun d ty i b p hp hi => ?rail, fun d hg hf => ?restarted,
    fun d n hn hg hc ha => ?sv, fun d hc ha => ?sx, fun d r v hr ht => ?kick, fun d r hr ht => ?sxKick, fun d r hr => ?sxKickOther,
    fun d hm => ?lockstep, fun d r hr ht => ?forceLockstep, fun d r b hr ht => ?forceTrip, fun d r hr ht => ?forceCrit,
    fun d t0 t1 t2 t3 hm => ?thermal, fun d r ht => ?firstClr, fun d r ht => ?histClr, fun d r ht => ?cntClr, fun d r v ht => ?ovr⟩
  case page => exact ends_run (exec_faultEvent ty i b) (faultEvent_page hp hi hb hc hl)
  case unit => exact ends_run (exec_faultEvent ty i b) (faultEvent_unit hp hi hb hc)
  case rail => exact ends_run (exec_railFault ty i b) (railFault_enters b hp hi)
  case restarted => exact ends_run exec_glazeRestarted (glazeRestarted_runs hg hf)
  case sv => exact ends_run (exec_svWatchdogExpiry n) (svExpiry_expires hn hg hc ha)
  case sx => exact ends_run exec_sxWatchdogExpiry (sxExpiry_expires hc ha)
  case kick => exact ends_run (exec_wdogKick r v) ((if_pos hr).trans (regWrite_takes _ ht))
  case sxKick => exact ends_run (exec_sxKick r) ((if_pos hr).trans (regWrite_takes _ ht))
  case sxKickOther => exact ends_run (exec_sxKick r) (if_neg hr)
  case lockstep => exact ends_run exec_lockstepMismatch (if_neg hm)
  case forceLockstep => exact ends_force (exec_forceLockstep r) hr ht rfl
  case forceTrip => exact ends_force (exec_forceTrip r b) hr ht rfl
  case forceCrit => exact ends_force (exec_forceCrit r) hr ht rfl
  case thermal => exact ends_run (exec_thermalSample t0 t1 t2 t3) (if_neg hm)
  case firstClr => exact ends_write (exec_firstClr r) ht rfl
  case histClr => exact ends_write (exec_histClr r) ht rfl
  case cntClr => exact ends_write (exec_cntClr r) ht rfl
  case ovr => exact ends_run (exec_ovrWrite r v) (ovrWrite_taken v ht)
end

section
/-! PROOFS. The event recorder and the calendar (R573 to R589). -/
namespace Sys2Proof.Machine
open Sys2Proof

section
variable {d : Dev}

/-! ### Ring pages (R576 to R578) -/

section
variable (hr : d.ringReady = true) (hp : d.pageDue = true)
include hr hp

/-- A page that is due is stored when either copy ends OK. -/
theorem ringProgram_stores {a b : Bool} (hok : a = true ∨ b = true) :
    Dev.ringProgram a b d =
      let e := d.ringStep d.recd.pending
      ({ e with recd := { e.recd with pending := [], due := false } }).setIrq .REC 0 1 :=
  (if_neg (by simp [hr, hp])).trans (if_pos (by simpa using hok))

theorem ringProgram_fails : Dev.ringProgram false false d = (d.ringStep []).raiseErr .REC 0 0 noDetail :=
  (if_neg (by simp [hr, hp])).trans (if_neg (by decide))
end

/-! ### Views (R583) -/

/-- A freeze that has lasted MAX_S seconds, 60 where MAX_S is 0, ends and notes LOST. -/
theorem freezeTimeout_ends {v : Nat} (hf : (d.view v).freeze = true)
    (ht : (if (d.view v).maxS = 0 then 60 else (d.view v).maxS) * 1000000 ≤ d.life.usUp - (d.view v).freezeUs) :
    Dev.freezeTimeout v d = d.setView v { d.view v with freeze := false, lost := true } := by
  unfold Dev.freezeTimeout
  exact if_pos (by rw [hf, decide_eq_true ht]; rfl)

/-! ### The calendar (R587, R588) -/

/-- SET of a calendar of its own loads CAL_SET. -/
theorem calSet_loads (hc : d.calFollows = false) :
    d.calSet = { d with
      bak := { d.bak with
        sub := d.reg64 .CAL 0 Reg.CAL_CAL_SET % 32768, sec := d.reg64 .CAL 0 Reg.CAL_CAL_SET / 65536 % 2 ^ 32, valid := true, vbatLost := false
        frac := 0 }
      fab := { d.fab with calUs := 0 } } := if_neg (ne_true_of_eq_false hc)

/-- One that follows the head's is left, and the write reported. -/
theorem calSet_follows (hc : d.calFollows = true) : d.calSet = d.raiseErr .CAL 0 0 noDetail := if_pos hc
end

end Sys2Proof.Machine
end

section
open Sys2Proof Sys2Proof.Machine

/-- Settles O40, clause by clause: each timer finds its bound reached, each taken write its view or clear, and the calendar its own time or the
head's. -/
theorem recorderAndCalendar : Obligations.RecorderAndCalendar := by
  refine ⟨fun d sv so co p0 p1 hs hm => ?record, fun d a b hr hp hok => ?stored, fun d hr hp => ?lost, fun d hu => ?urgent,
    fun d x xs hp ht => ?hold, fun d bad hr hm => ?rotation, fun d hm => ?second, fun d r v ht => ?cursor, fun d v hl => ?loaded,
    fun d r v ht => ?freeze, fun d v hf ht => ?freezeOver, fun d r v ht => ?host, fun d r ht => ?counts, fun d r hr ht => ?ring,
    fun d r ht hc => ?set, fun d r ht hc => ?setFollows, fun d hm ha hs => ?alarm, fun d => ?trim, fun d => ?vbat, fun d hm => ?osc⟩
  case record => exact ends_run (exec_record sv so co p0 p1) (if_neg (not_or.2 ⟨Nat.not_lt.2 hs, hm⟩))
  case stored => exact ends_run (exec_ringPageProgram a b) (ringProgram_stores hr hp hok)
  case lost => exact ends_run (exec_ringPageProgram false false) (ringProgram_fails hr hp)
  case urgent => exact ends_run exec_urgentRecordTimeout (if_pos hu)
  case hold => exact ends_run exec_recordHoldTimeout (by rw [hp]; exact if_pos ht)
  case rotation => exact ends_run (exec_ringRotation bad) (if_pos (by rw [hr, hm]; rfl))
  case second => exact ends_run exec_posSecond (if_neg hm)
  case cursor => exact ends_write (exec_cursorWrite r v) ht rfl
  case loaded => exact ends_run (exec_viewLoaded v) (if_pos hl)
  case freeze => exact ends_write (exec_freeze r v) ht rfl
  case freezeOver => exact ends_run (exec_freezeTimeout v) (freezeTimeout_ends hf ht)
  case host => exact ends_write (exec_hrecCmd r v) ht rfl
  case counts => exact ends_write (exec_recCntClr r) ht rfl
  case ring => exact ends_run (exec_ringClr r) ((if_pos hr).trans (regWrite_takes _ ht))
  case set => exact ends_run (exec_calSet r) ((regWriteIf_takes _ ht).trans (calSet_loads hc))
  case setFollows => exact ends_run (exec_calSet r) ((regWriteIf_takes _ ht).trans (calSet_follows hc))
  case alarm => exact ends_run exec_calAlarm (if_pos ⟨hm, ha, hs⟩)
  case trim => exact ends_run exec_trimInterval rfl
  case vbat => exact ends_run exec_vbatRise rfl
  case osc => exact ends_run exec_oscStop (if_neg hm)
end

section
/-! PROOFS. The debug port: TAP instructions, authentication, scans, halts and steps (R640 to R654). -/
namespace Sys2Proof.Machine
open Sys2Proof

section
variable {d : Dev}

/-! ### TAP instructions and boundary scan (R640, R641, R653, R654) -/

theorem tapSelect_scanAllowed (d : Dev) (c : Nat) : (d.tapSelect c).scanAllowed = d.scanAllowed := by
  unfold Dev.tapSelect; split <;> rfl

theorem scanAllowed_of_mode (h : d.life.mode = .reset ∨ (d.life.mode = .maint ∧ d.dbg.level = 2)) : d.scanAllowed = true := by
  unfold Dev.scanAllowed
  rcases h with h | ⟨h, hl⟩
  · rw [h]
  · rw [h]; exact beq_iff_eq.2 hl

/-- A code that R640 does not name selects BYPASS. -/
theorem not_tapCode {c : Nat} (hc : c < 256) (hn : c ∉ [0x01, 0x02, 0x03, 0x04, 0x20, 0x21]) : ¬tapCodes.contains (c % 256) = true := by
  rw [Nat.mod_eq_of_lt hc, List.contains_iff_mem]
  exact hn

section
variable (hu : d.tapUp = true)
include hu

theorem ends_idcode : Ends afterAll .idcode d ((d.tapSelect 1).emit (.tap 0xb640049f)) := ends_run exec_idcode (if_pos hu)

section
variable (hs : d.scanAllowed = false)
include hs

/-- Where the balls cannot be taken, EXTEST and HIGHZ are selected and do no more. -/
theorem extest_bypasses (c : Option Nat) : Dev.extest c d = d.tapSelect 3 :=
  (if_neg (by simp [hu])).trans (if_pos (by simp [tapSelect_scanAllowed, hs]))

theorem highz_bypasses : d.highz = d.tapSelect 4 :=
  (if_neg (by simp [hu])).trans (if_neg (by simp [tapSelect_scanAllowed, hs]))
end

section
variable (hs : d.scanAllowed = true)
include hs

theorem extest_takes (c : Nat) :
    Dev.extest (some c) d =
      let e := (d.tapSelect 3).boundaryScan c
      ({ e with dbg := { e.dbg with balls := 1 } }).emit (.pin "BOUNDARY" e.dbg.cells) :=
  (if_neg (by simp [hu])).trans (if_neg (by simp [tapSelect_scanAllowed, hs]))

theorem highz_takes :
    d.highz =
      let e := d.tapSelect 4
      { e with dbg := { e.dbg with balls := 2 } } :=
  (if_neg (by simp [hu])).trans (if_pos (by simp [tapSelect_scanAllowed, hs]))
end
end

/-! ### Authentication (R643, R644) -/

/-- An AUTH scan outside BACKUP and FLUSH ends where the shifted command's effect ends, on the device with AUTH selected. -/
theorem ends_auth {i : Instr} {f : Dev → Dev} {e : Dev} (hx : ∀ s, exec i s = run (Dev.authScan f) s) (hu : d.tapUp = true)
    (hm : d.life.mode ≠ .flush) (he : f { d with dbg := { d.dbg with ir := 0x20, balls := 0 } } = e) : Ends afterAll i d e :=
  ends_run hx ((authScan_open f hu hm).trans he)

theorem drawNonce_refused (hr : d.dbg.refused = true) : d.drawNonce = d.authReply authRefused 0 := if_pos hr

theorem drawNonce_draws (hr : d.dbg.refused = false) (ha : d.mordantActs = true) (hb : d.dbg.busy = false) :
    d.drawNonce = ({ d with free := d.free + 32, dbg := { d.dbg with nonce := some d.free, word := 0, token := [], last := 0 } }).authReply
      authOk 0 := (if_neg (ne_true_of_eq_false hr)).trans (if_neg (by simp [ha, hb]))

theorem nextWord_ofNonce {n : Nat} (hb : d.dbg.busy = false) (hn : d.dbg.nonce = some n) (hw : d.dbg.word < 10) :
    d.nextWord = ({ d with dbg := { d.dbg with word := d.dbg.word + 1 } }).authReply authOk
      (leNat (((leBytes 8 d.serial ++ nonceBytes n).drop (4 * d.dbg.word)).take 4)) := by
  unfold Dev.nextWord
  rw [if_neg (ne_true_of_eq_false hb), hn]
  exact if_pos hw

section
variable (hb : d.dbg.busy = true) (ha : d.mordantActs = true)
include hb ha

/-- A token that passes sets its level, and the nonce is used up. -/
theorem tokenChecked_passes (hf : d.tokenFits = true) :
    Dev.tokenChecked true d =
      let e := d.grantLevel
      { e with dbg := { e.dbg with busy := false, nonce := none, token := [] } } :=
  (if_neg (by simp [hb, ha])).trans (if_pos (by simp [hf]))

/-- One that fails is counted and reported, and the eighth failure refuses further challenges. -/
theorem tokenChecked_fails {ok : Bool} (hf : ok = false ∨ d.tokenFits = false) :
    Dev.tokenChecked ok d =
      let e := (d.incSat .DBG 0 Reg.DBG_AUTH_FAILS 1).raiseErr .DBG 0 0 noDetail
      { e with dbg := { e.dbg with
        busy := false, nonce := none, token := [], last := 2, refused := e.dbg.refused || decide (8 ≤ e.regN .DBG 0 Reg.DBG_AUTH_FAILS) } } := by
  have hpass : ¬(ok && d.tokenFits) = true := by rcases hf with hf | hf <;> simp [hf]
  unfold Dev.tokenChecked
  rw [if_neg (by simp [hb, ha])]
  generalize (d.incSat .DBG 0 Reg.DBG_AUTH_FAILS 1).raiseErr .DBG 0 0 noDetail = e
  exact if_neg hpass
end

/-! ### The debug level (R645, R652) -/

theorem takes_fatal {r : Requester} {p : PT} {i off : Nat} (ht : d.takes r p i off = true) : d.life.fatal = false := by
  simp only [Dev.takes, Bool.and_eq_true, Bool.not_eq_true'] at ht
  obtain ⟨⟨⟨⟨-, hf⟩, -⟩, -⟩, -⟩ := ht
  exact hf

/-- A LOCK that is taken comes outside a C4 halt and lets the level fall. -/
theorem dbgLock_taken {r : Requester} (ht : d.takes r .DBG 0 Reg.DBG_DBG_CTL = true) : Dev.dbgLock r d = (d.taken r .DBG 0).levelFall :=
  (if_neg (by simp [takes_fatal ht])).trans (regWrite_takes _ ht)

/-! ### Debug access (R646, R647) -/

/-- The device once a scan has shifted out the reply of the access before. -/
def Dev.dapCollected (d : Dev) : Dev :=
  ({ d with dbg := { d.dbg with ir := 0x21, balls := 0 } }).emit (.tap (dapWord d.dbg.dapSts d.dbg.dapEcho d.dbg.dapAddr d.dbg.dapData))

/-- In FLUSH, or while the access before waits, a scan answers BUSY and starts nothing. -/
theorem dapScan_busy (f : Dev → Dev) (hu : d.tapUp = true) (hw : d.life.mode = .flush ∨ d.dbg.dapWait = true) :
    d.dapScan f =
      ({ d with dbg := { d.dbg with ir := 0x21, balls := 0 } }).emit (.tap (dapWord 1 d.dbg.dapEcho d.dbg.dapAddr 0)) := by
  have hbusy : (d.life.mode == .flush || d.dbg.dapWait) = true := by simpa using hw
  simp only [Dev.dapScan, hu, hbusy, Bool.not_true, Bool.false_eq_true, if_false, if_true]

section
variable (b i : Bool) (sp : Nat) {a : Nat} (ha : a < 2 ^ 32)
include ha

section
variable (hu : d.tapUp = true) (hm : d.life.mode ≠ .flush) (hw : d.dbg.dapWait = false)
include hu hm hw

/-- A read that the scan starts is denied, misaligned or out of the level's reach, or done. -/
theorem dapRead_starts (x : Option (Nat × Nat × Bool)) :
    Dev.dapRead b i sp a x d =
      let f := d.dapCollected.dapNote b i sp a
      if a % (if b = true then 8 else 4) ≠ 0 ∨ (!f.dapReach false sp a) = true then f.dapDenied
        else f.dapDoRead sp a (if b = true then 8 else 4) x := by
  unfold Dev.dapRead
  rw [dapScan_open _ hu hm hw, Nat.mod_eq_of_lt ha]
  rfl
end

/-- A write that is aligned and within the level's reach is done. -/
theorem dapPut_writes (v : Nat) (hf : d.life.fatal = false) (hn : a % (if b = true then 8 else 4) = 0)
    (hr : (d.dapNote b i sp a).dapReach true sp a = true) :
    Dev.dapPut b i sp a v d = (d.dapNote b i sp a).dapDoWrite sp a (if b = true then 8 else 4) v := by
  have hf' : ¬(d.dapNote b i sp a).life.fatal = true := ne_true_of_eq_false hf
  unfold Dev.dapPut
  rw [Nat.mod_eq_of_lt ha]
  exact (if_neg hf').trans ((if_neg (not_not_intro hn)).trans (if_neg (by simp [hr])))
end

/-! ### Halts, steps and breakpoints (R648 to R651) -/

section
variable {n : Nat}

theorem coreBy_strobes (v : Nat) (hw : d.dapWrites = true) (hr : d.coreReach n = true) : Dev.coreBy n v d = d.coreStrobe n v :=
  if_pos (by rw [hw, hr]; rfl)

theorem coreBy_beyond (v : Nat) (h : d.dapWrites = false ∨ d.coreReach n = false) : Dev.coreBy n v d = d :=
  if_neg (by rcases h with h | h <;> simp [h])

theorem stepCore_running (h : (d.coreDbg n).reason = 0) : d.stepCore n = d.haltGroup n 2 0 := if_pos h

/-- A halted core halts again after one instruction, with new contents to show. -/
theorem stepCore_halted (h : (d.coreDbg n).reason ≠ 0) :
    d.stepCore n =
      let e : Dev := { d with free := d.free + 65 }
      (e.setCore n { d.coreDbg n with reason := 2, index := 0, ran := true, shown := d.free, gprs := [] }).setIrq .DBG 0 2 := by
  unfold Dev.stepCore
  rw [if_neg h]
  dsimp only
  rw [Nat.add_sub_cancel]
end

theorem xbBy_strobes {u : Nat} (v : Nat) (hw : d.dapWrites = true) (hl : 1 ≤ d.dbg.level) (hu : u ≤ 128) : Dev.xbBy u v d = d.xStrobe u v :=
  if_pos (by simp [hw, hl, hu])

/-- Madder halts after a loop that a breakpoint names. -/
theorem xBreak_madder {k : Nat} (n : Nat) (hk : (d.xDbg 128).hit = some k) : Dev.xBreak 128 n d = d.haltX 128 3 k := by
  unfold Dev.xBreak
  rw [if_pos rfl, hk]
end

end Sys2Proof.Machine
end

section
open Sys2Proof Sys2Proof.Machine

/-- Settles O44, clause by clause: an instruction finds the TAP up and the balls free or not, a scan its reply ready or not, a token Mordant
acting, a strobe its core or unit within reach, and a breakpoint its core running. -/
theorem debugPort : Obligations.DebugPort := by
  refine ⟨fun d hu => ?reset, fun d hu => ends_idcode hu, fun d c hu => if_pos hu, fun d c hu => ?sample, fun d c hu hm => ?extest,
    fun d c hu hs => ⟨?extestElse, ?highzElse⟩, fun d hu hs => ?highz, fun d c hc hn => ?bypass, fun d hu hm hr ha hb => ?challenge,
    fun d hu hm hr => ?refused, fun d n hu hm hb hn hw => ?authRead, fun d w hu hm hb => ?put, fun d hu hm hb => ?submit,
    fun d hu hm => ?status, fun d hb ha hf => ?passes, fun d ok hb ha hf => ?fails, fun d he ht => ?expiry, fun d r ht => ?lock,
    fun d r hf hr hl => ?lockHalted, fun d hl => if_neg hl, fun d hu hm hw => ?nop, fun d hu hw => ?nopBusy,
    fun d b i sp a x hu hm hw ha => ?dapRead, fun d b i sp a v hu hm hw ha hf hn hr => ?dapWrite, fun d n hw hr => ?halt,
    fun d n hw hr => ?resume, fun d n hw hr => ?step, fun d n h => stepCore_halted h,
    fun d n h => ⟨?haltBeyond, ?resumeBeyond, ?stepBeyond⟩, fun d n k hn hh hb => ?breakpoint, fun d n k hn hh hb => ?watchpoint,
    fun d u hw hl hu => ?xHalt, fun d u hw hl hu => ?xResume, fun d u hw hl hu => ?xStep, fun d k n hk => ?xBreak⟩
  case reset => exact ends_run exec_tapReset (if_pos hu)
  case sample => exact ends_run (exec_samplePreload c) (if_pos hu)
  case extest => exact ends_run (exec_extest (some c)) (extest_takes hu (scanAllowed_of_mode hm) c)
  case extestElse => exact ends_run (exec_extest c) (extest_bypasses hu hs c)
  case highzElse => exact ends_run exec_highz (highz_bypasses hu hs)
  case highz => exact ends_run exec_highz (highz_takes hu hs)
  case bypass => exact ends_run (exec_bypass c) ((if_neg (not_tapCode hc hn)).trans (by rw [Nat.mod_eq_of_lt hc]))
  case challenge => exact ends_auth exec_challenge hu hm (drawNonce_draws hr ha hb)
  case refused => exact ends_auth exec_challenge hu hm (drawNonce_refused hr)
  case authRead => exact ends_auth exec_authRead hu hm (nextWord_ofNonce hb hn hw)
  case put => exact ends_auth (exec_authPut w) hu hm (if_neg (ne_true_of_eq_false hb))
  case submit => exact ends_auth exec_submit hu hm (if_neg (ne_true_of_eq_false hb))
  case status => exact ends_auth exec_authStatus hu hm rfl
  case passes => exact ends_run (exec_tokenChecked true) (tokenChecked_passes hb ha hf)
  case fails => exact ends_run (exec_tokenChecked ok) (tokenChecked_fails hb ha hf)
  case expiry => exact ends_run exec_levelExpiry (if_pos ⟨he, ht⟩)
  case lock => exact ends_run (exec_dbgLock r) (dbgLock_taken ht)
  case lockHalted => exact ends_run (exec_dbgLock r) (if_pos ⟨hf, hr, hl⟩)
  case nop => exact ends_run exec_dapNop (dapScan_open id hu hm hw)
  case nopBusy => exact ends_run exec_dapNop (dapScan_busy id hu hw)
  case dapRead => exact ends_runFab (exec_dapRead b i sp a x) (dapRead_starts b i sp ha hu hm hw x)
  case dapWrite =>
    exact ends_runFab (exec_dapWrite b i sp a v)
      ((dapScan_open _ hu hm hw).trans (dapPut_writes (d := d.dapCollected) b i sp ha v.toNat hf hn hr))
  case halt => exact ends_run (exec_coreHalt n) ((coreBy_strobes 1 hw hr).trans (if_pos (by decide)))
  case resume => exact ends_run (exec_coreResume n) ((coreBy_strobes 2 hw hr).trans ((if_neg (by decide)).trans (if_pos (by decide))))
  case step =>
    refine ends_run (exec_coreStep n) ((coreBy_strobes 4 hw hr).trans ?_)
    have hstep : d.coreStrobe n 4 = d.stepCore n := (if_neg (by decide)).trans ((if_neg (by decide)).trans (if_pos (by decide)))
    rw [hstep]
    split
    · next h => exact stepCore_running h
    · rfl
  case haltBeyond => exact ends_run (exec_coreHalt n) (coreBy_beyond 1 h)
  case resumeBeyond => exact ends_run (exec_coreResume n) (coreBy_beyond 2 h)
  case stepBeyond => exact ends_run (exec_coreStep n) (coreBy_beyond 4 h)
  case breakpoint => exact ends_run (exec_breakpointHit n k) (if_pos ⟨hn, by rw [hh]; rfl, hb⟩)
  case watchpoint => exact ends_run (exec_watchpointHit n k) (if_pos ⟨hn, by rw [hh]; rfl, hb⟩)
  case xHalt => exact ends_run (exec_xHalt u) ((xbBy_strobes 1 hw hl hu).trans (if_pos (by decide)))
  case xResume => exact ends_run (exec_xResume u) ((xbBy_strobes 2 hw hl hu).trans ((if_neg (by decide)).trans (if_pos (by decide))))
  case xStep =>
    exact ends_run (exec_xStep u)
      ((xbBy_strobes 4 hw hl hu).trans ((if_neg (by decide)).trans ((if_neg (by decide)).trans (if_pos (by decide)))))
  case xBreak => exact ends_run (exec_xBreak 128 n) (xBreak_madder n hk)

/-- Settles O48: IDCODE's word, and its four fields read off it. -/
theorem debugIdentification : Obligations.DebugIdentification := ⟨fun _ hu => ends_idcode hu, by decide⟩
end
